-- ==== Sys2Proof/Word.lean ====
section
/-! DEFINITION. The words of the block: bytes, register words and the index types of its contexts, queues, ring
entries, slices and channels (spec/01 Parts, R57, R62, R92, R98). -/

namespace Sys2Proof

/-- A byte (R3). -/
abbrev Byte := BitVec 8
/-- A register or command word of 64 bits. -/
abbrev W64 := BitVec 64
/-- A word of 32 bits. -/
abbrev W32 := BitVec 32
/-- A word of 16 bits. -/
abbrev W16 := BitVec 16
/-- A context, 0 to 3 (R92). -/
abbrev Ctx := Fin 4
/-- A queue of a context, 0 to 15 (R98). -/
abbrev Que := Fin 16
/-- An entry of a ring, 0 to 63 (R98). -/
abbrev Ent := Fin 64
/-- A stack slice SL00 to SL19 with its memory port. -/
abbrev Slice := Fin 20
/-- A channel of a stack (R73). -/
abbrev Chan := Fin 32

end Sys2Proof
end

