-- ==== Sys2Proof/Config.lean ====
section
/-! DEFINITION. What one device's fuses hold and what the spec leaves open: constants without a body, so that nothing
can be proved of their values (notes/assumptions/2.md, 3.md, 4.md). -/

namespace Sys2Proof.Config

/-- The fused repair map of the yoke's rows, word w = 0 to 2 (R12: the manual gives no number for it). -/
opaque fusedRowOut : Nat → BitVec 64
/-- The fused repair map of the yoke's columns, word w = 0 to 2 (R12). -/
opaque fusedColOut : Nat → BitVec 64
/-- The fused repair map of slice n's sliver cores (R12, SL_CORE_OUT). -/
opaque fusedCoreOut : Nat → BitVec 64
/-- The fused silicon revision (GL_ID.rev). -/
opaque fusedRev : BitVec 16
/-- The fused serial number, low 32 bits (GL_ID.serial). -/
opaque fusedSerial : BitVec 32
/-- The K8 capability fuse (R489). -/
opaque fusedK8 : Bool
/-- A bit of the block's own fuses, which hold the serial, revision, capability and repair maps (16_integration.md, Supply
and power): bit i of each, row or column i of the yoke, core i of slice n, or a bit that no rule names. -/
inductive FuseBit where
  | serial (i : Nat) | rev (i : Nat) | k8 | row (i : Nat) | col (i : Nat) | core (n i : Nat) | other (i : Nat)
  deriving DecidableEq, Repr, Inhabited

/-- Which fuse bit FUSE_READ shifts out as bit i (R526): the spec gives no order. -/
opaque fusePlace : Nat → FuseBit
/-- The fuse bits that no rule names. -/
opaque fuseOther : Nat → Bool
/-- Whether a macro of the MBIST report is meter SRAM (R528): the spec numbers no macros. -/
opaque meterMacro : BitVec 16 → Bool
/-- The management node's fused vendor id and revision words, 0x1018 (R482). -/
opaque fusedVendor : BitVec 32
/-- A free value: the n-th value the spec leaves open; the state's counter gives n. -/
opaque freeValue : Nat → BitVec 64
/-- Mapping entry i of TPDO k, 0x1A00 + k (R481, R482: static, and the spec prints no values). -/
opaque tpdoMap : Nat → Nat → BitVec 32
/-- The meter's fused serial number (R450). -/
opaque meterSerial : BitVec 64
/-- The meter's fused node-id at delivery, 1 to 127 (R450). -/
opaque meterNode : BitVec 8
/-- The meter's fused ROM reference checksum (R450, R464). -/
opaque meterRomRef : BitVec 32
/-- The meter firmware version (0x5010 sub 1). -/
opaque meterRomVersion : BitVec 32
/-- A calibrated meter reading: the energy of one sample in units of 2^-32 millijoule, signed, from the seven values
of the calibration in force (0x5021) and the two converter codes (R446). The spec states no scale for the codes. -/
opaque meterEnergy : List Int → Int → Int → Int
/-- The calibrated voltage of a sample in units of 100 microvolt (R458 v_avg), from calibration and code. -/
opaque meterVolt : List Int → Int → Nat
/-- The calibrated current of a sample in units of 0.1 ampere (R458 i_avg), from calibration and code. -/
opaque meterCurr : List Int → Int → Nat
/-- A mean from a sum and a count (v_avg and i_avg of R458, and the power of 0x5003): the spec states no rounding. -/
opaque meterMean : Nat → Nat → Nat
/-- Whether a pair of converter codes lies outside the converters' range (EMCY 0xFF02 of R468). -/
opaque meterOutside : Int → Int → Bool
/-- Whether a pair of converter codes exceeds full scale, the overload of R449. -/
opaque meterOverload : List Int → Int → Int → Bool

end Sys2Proof.Config
end

