-- ==== Sys2Proof/Machine/Bits.lean ====
section
/-! DEFINITION. Bit fields (R2), little-endian bytes (R3), two's complement (R4) and sorted tables: the helpers every
layer of the block uses. -/

namespace Sys2Proof.Machine

/-- Bits [lo + n - 1 : lo] of a register word as a number (R2). -/
def fget (w : BitVec 64) (lo n : Nat) : Nat := (w >>> lo).toNat % 2 ^ n

/-- A register word with bits [lo + n - 1 : lo] holding v modulo 2^n (R2). -/
def fput (w : BitVec 64) (lo n v : Nat) : BitVec 64 :=
  (w &&& ~~~(BitVec.ofNat 64 ((2 ^ n - 1) <<< lo))) ||| BitVec.ofNat 64 ((v % 2 ^ n) <<< lo)

/-- Bits [lo + n - 1 : lo] of a number. -/
def nbits (v lo n : Nat) : Nat := (v >>> lo) % 2 ^ n

/-- 1 for true, 0 for false. -/
def b2n (b : Bool) : Nat := if b then 1 else 0

/-- How many of the low n bits are 1. -/
def popcount : Nat → Nat → Nat
  | 0, _ => 0
  | n + 1, v => v % 2 + popcount n (v / 2)

/-- The usable rows or columns of `total` physical ones under a map of three words, counted up to 128 (R208). -/
def usableCount (total : Nat) (w0 w1 w2 : BitVec 64) : Nat :=
  Nat.min 128 (total - (popcount 64 w0.toNat + popcount 64 w1.toNat + popcount (total - 128) w2.toNat))

/-- The value of a little-endian list of bytes (R3). -/
def leNat : List Byte → Nat
  | [] => 0
  | b :: bs => b.toNat + 256 * leNat bs

/-- n little-endian bytes of a value (R3). -/
def leBytes : Nat → Nat → List Byte
  | 0, _ => []
  | n + 1, v => BitVec.ofNat 8 v :: leBytes n (v / 256)

/-- Bytes lo to lo + n - 1 of a message or record as a number; bytes past its end count as zero. -/
def leAt (bs : List Byte) (lo n : Nat) : Nat := leNat ((bs.drop lo).take n)

/-- A two's-complement reading of the low w bits of v (R4). -/
def sext (w v : Nat) : Int := if v % 2 ^ w < 2 ^ (w - 1) then (v % 2 ^ w : Nat) else (v % 2 ^ w : Nat) - (2 ^ w : Nat)

/-- The low w bits of an integer in two's complement (R4). -/
def twos (w : Nat) (i : Int) : Nat := (i % (2 ^ w : Nat)).toNat

/-- Ceiling division. -/
def cdiv (a b : Nat) : Nat := (a + b - 1) / b

/-- The smallest multiple of m at or above a. -/
def roundUp (a m : Nat) : Nat := cdiv a m * m

/-- A sum that stops at `top` (the saturating counters of the register tables). -/
def satAdd (top a b : Nat) : Nat := Nat.min top (a + b)

/-- (a - b) modulo 2^w for a, b below 2^w. -/
def subMod (w a b : Nat) : Nat := (a + (2 ^ w - b % 2 ^ w)) % 2 ^ w

/-- Whether a is newer than b: (a - b) modulo 2^w lies in 1 to 2^(w-1) - 1 (R246, R267, R331). -/
def newer (w a b : Nat) : Bool := 0 < subMod w a b && subMod w a b < 2 ^ (w - 1)

/-- A sparse table: pairs of key and value in rising order of key; a key without a pair holds the table's default. -/
abbrev Tbl (α : Type) := List (Nat × α)

/-- The value listed under a key. -/
def Tbl.find {α : Type} : Tbl α → Nat → Option α
  | [], _ => none
  | (k', v) :: t, k => if k' = k then some v else Tbl.find t k

/-- The value of a key, the default where none is listed. -/
def Tbl.at {α : Type} (t : Tbl α) (d : α) (k : Nat) : α := (Tbl.find t k).getD d

/-- The table with a value listed under a key, in its place. -/
def Tbl.ins {α : Type} : Tbl α → Nat → α → Tbl α
  | [], k, v => [(k, v)]
  | (k', v') :: t, k, v =>
    if k < k' then (k, v) :: (k', v') :: t
    else if k = k' then (k, v) :: t
    else (k', v') :: Tbl.ins t k v

/-- The table with nothing listed under a key. -/
def Tbl.del {α : Type} : Tbl α → Nat → Tbl α
  | [], _ => []
  | (k', v') :: t, k => if k' = k then Tbl.del t k else (k', v') :: Tbl.del t k

/-- The table with a key's value set: the default is not listed, so equal tables are equal lists. -/
def Tbl.put {α : Type} [DecidableEq α] (t : Tbl α) (d : α) (k : Nat) (v : α) : Tbl α :=
  if v = d then Tbl.del t k else Tbl.ins t k v

/-- Keys strictly rising. -/
def Tbl.rising {α : Type} : Tbl α → Bool
  | [] => true
  | [_] => true
  | (k, _) :: (k', v') :: t => decide (k < k') && Tbl.rising ((k', v') :: t)

/-- The elements of a list with one more in sorted place, no repeats. -/
def setAdd : List Nat → Nat → List Nat
  | [], x => [x]
  | y :: t, x => if x < y then x :: y :: t else if x = y then y :: t else y :: setAdd t x

/-- Exclusive-or of two byte lists, position by position; the shorter counts as padded with zeros. -/
def xorBytes : List Byte → List Byte → List Byte
  | [], bs => bs
  | as, [] => as
  | a :: as, b :: bs => (a ^^^ b) :: xorBytes as bs

/-- A list of bytes cut or padded with zeros to length n. -/
def padTo (n : Nat) (bs : List Byte) : List Byte := bs.take n ++ List.replicate (n - bs.length) 0#8

/-- The list split into pieces of n, structurally on a fuel of its length. -/
def chunksAux : Nat → Nat → List Byte → List (List Byte)
  | 0, _, _ => []
  | _ + 1, _, [] => []
  | f + 1, n, bs => bs.take n :: chunksAux f n (bs.drop n)

/-- The list split into pieces of n. -/
def chunks (n : Nat) (bs : List Byte) : List (List Byte) := chunksAux bs.length n bs

/-- List replacement at an index. -/
def setAt {α : Type} : List α → Nat → α → List α
  | [], _, _ => []
  | _ :: t, 0, x => x :: t
  | a :: t, n + 1, x => a :: setAt t n x

end Sys2Proof.Machine
end

