-- ==== Sys2Proof/Machine/Regs.lean ====
section
/-! DEFINITION. Every field of every register of the CTL window (the register tables of spec/03 to spec/16): where it
stands and its value at reset. One line per field, in the tables' order; the reserved fields have no line
(R9: they read as zero). -/

namespace Sys2Proof.Machine

/-- A register field: the register's offset in the CTL window, the field's low bit and width (R2), its reset value. -/
structure Loc where
  off : Nat
  lo : Nat
  w : Nat
  rst : Nat
  deriving DecidableEq, Repr

/-- The key of a field in the register file. -/
def Loc.key (l : Loc) : Nat := 64 * l.off + l.lo

/-- The reset word of FB_LANE[p]: lanes 0 to 15 ACTIVE with logical lane p, lanes 16 and 17 SPARE (spec/11, FB_LANE). -/
def FB_LANE.rst (p : Nat) : BitVec 64 := if p < 16 then BitVec.ofNat 64 (p <<< 3) else 1#64

/-- Word w of a fused repair map of the yoke: its third word has two bits, the rest is reserved (R9). -/
def mapWord (map : Nat → BitVec 64) (w : Nat) : BitVec 64 := if w = 2 then map 2 &&& 3#64 else map w

/-- YK_STAT after a reset reflects the fused repair map (R12, R208 and the note under YK_STAT in spec/07). -/
def YK_STAT.rst : BitVec 64 :=
  let rows := usableCount 130 (Config.fusedRowOut 0) (Config.fusedRowOut 1) (Config.fusedRowOut 2)
  let cols := usableCount 130 (Config.fusedColOut 0) (Config.fusedColOut 1) (Config.fusedColOut 2)
  BitVec.ofNat 64 ((rows <<< 3) ||| (cols <<< 11) ||| (if rows < 128 ∨ cols < 128 then 1 <<< 19 else 0)
    ||| (if rows < 16 ∨ cols < 16 then 1 <<< 20 else 0))

/-- SL_CORE_OUT of slice n after a reset: the fused map in force (R12) and the active cores it leaves (R437). -/
def SL_CORE_OUT.rst (n : Nat) : BitVec 64 :=
  let out := (Config.fusedCoreOut n).toNat % 2 ^ 42
  BitVec.ofNat 64 (out ||| (Nat.min 40 (42 - popcount 42 out) <<< 42))

/-- GL_ID: designation 0x0002 and the fused revision and serial (R12, R491). -/
def GL_ID.rst : BitVec 64 := Config.fusedSerial ++ (Config.fusedRev ++ 2#16)

/-! GL_MEMCFG, 03_state_regions.md -/
def GL_MEMCFG.nch : Loc := ⟨0x1F00, 0, 6, 0x10⟩
def GL_MEMCFG.cfg_err : Loc := ⟨0x1F00, 6, 1, 0x0⟩
/-! GL_RGN_CFG, 03_state_regions.md -/
def GL_RGN_CFG.kind (n : Nat) : Loc := ⟨0x2000 + 0x20 * n, 0, 4, 0x0⟩
def GL_RGN_CFG.fmt (n : Nat) : Loc := ⟨0x2000 + 0x20 * n, 4, 3, 0x0⟩
def GL_RGN_CFG.layout (n : Nat) : Loc := ⟨0x2000 + 0x20 * n, 7, 1, 0x0⟩
def GL_RGN_CFG.inner (n : Nat) : Loc := ⟨0x2000 + 0x20 * n, 8, 1, 0x0⟩
def GL_RGN_CFG.team (n : Nat) : Loc := ⟨0x2000 + 0x20 * n, 9, 1, 0x0⟩
def GL_RGN_CFG.ctx (n : Nat) : Loc := ⟨0x2000 + 0x20 * n, 10, 2, 0x0⟩
def GL_RGN_CFG.group (n : Nat) : Loc := ⟨0x2000 + 0x20 * n, 12, 6, 0x0⟩
def GL_RGN_CFG.slot (n : Nat) : Loc := ⟨0x2000 + 0x20 * n, 18, 4, 0x0⟩
def GL_RGN_CFG.valid (n : Nat) : Loc := ⟨0x2000 + 0x20 * n, 63, 1, 0x0⟩
/-! GL_RGN_LOC, 03_state_regions.md -/
def GL_RGN_LOC.base (n : Nat) : Loc := ⟨0x2008 + 0x20 * n, 12, 28, 0x0⟩
/-! GL_RGN_SIZE, 03_state_regions.md -/
def GL_RGN_SIZE.count (n : Nat) : Loc := ⟨0x2010 + 0x20 * n, 0, 40, 0x0⟩
/-! GL_RGN_STAT, 03_state_regions.md -/
def GL_RGN_STAT.refs (n : Nat) : Loc := ⟨0x2018 + 0x20 * n, 0, 16, 0x0⟩
def GL_RGN_STAT.free_pending (n : Nat) : Loc := ⟨0x2018 + 0x20 * n, 16, 1, 0x0⟩
def GL_RGN_STAT.cfg_err (n : Nat) : Loc := ⟨0x2018 + 0x20 * n, 17, 1, 0x0⟩
def GL_RGN_STAT.degraded (n : Nat) : Loc := ⟨0x2018 + 0x20 * n, 18, 1, 0x0⟩
def GL_RGN_STAT.lost (n : Nat) : Loc := ⟨0x2018 + 0x20 * n, 19, 1, 0x0⟩
def GL_RGN_STAT.rows (n : Nat) : Loc := ⟨0x2018 + 0x20 * n, 24, 28, 0x0⟩
/-! GL_WIN_DST, 03_state_regions.md -/
def GL_WIN_DST.dev_first (c : Nat) (w : Nat) : Loc := ⟨0x3000 + 0x800 * c + 0x20 * w, 0, 16, 0x0⟩
def GL_WIN_DST.dev_last (c : Nat) (w : Nat) : Loc := ⟨0x3000 + 0x800 * c + 0x20 * w, 16, 16, 0x0⟩
def GL_WIN_DST.region (c : Nat) (w : Nat) : Loc := ⟨0x3000 + 0x800 * c + 0x20 * w, 32, 6, 0x0⟩
def GL_WIN_DST.put (c : Nat) (w : Nat) : Loc := ⟨0x3000 + 0x800 * c + 0x20 * w, 38, 1, 0x0⟩
def GL_WIN_DST.get (c : Nat) (w : Nat) : Loc := ⟨0x3000 + 0x800 * c + 0x20 * w, 39, 1, 0x0⟩
def GL_WIN_DST.team_only (c : Nat) (w : Nat) : Loc := ⟨0x3000 + 0x800 * c + 0x20 * w, 40, 1, 0x0⟩
def GL_WIN_DST.valid (c : Nat) (w : Nat) : Loc := ⟨0x3000 + 0x800 * c + 0x20 * w, 63, 1, 0x0⟩
/-! GL_WIN_OFF, 03_state_regions.md -/
def GL_WIN_OFF.off (c : Nat) (w : Nat) : Loc := ⟨0x3008 + 0x800 * c + 0x20 * w, 0, 48, 0x0⟩
/-! GL_WIN_LIM, 03_state_regions.md -/
def GL_WIN_LIM.lim (c : Nat) (w : Nat) : Loc := ⟨0x3010 + 0x800 * c + 0x20 * w, 0, 48, 0x0⟩
/-! GL_STB_SLOT, 03_state_regions.md -/
def GL_STB_SLOT.state (n : Nat) : Loc := ⟨0x5000 + 0x10 * n, 0, 3, 0x0⟩
def GL_STB_SLOT.err (n : Nat) : Loc := ⟨0x5000 + 0x10 * n, 3, 1, 0x0⟩
def GL_STB_SLOT.refs (n : Nat) : Loc := ⟨0x5000 + 0x10 * n, 16, 16, 0x0⟩
def GL_STB_SLOT.tag (n : Nat) : Loc := ⟨0x5000 + 0x10 * n, 32, 32, 0x0⟩
/-! GL_STB_BYTES, 03_state_regions.md -/
def GL_STB_BYTES.bytes (n : Nat) : Loc := ⟨0x5008 + 0x10 * n, 0, 40, 0x0⟩
/-! SL_CHAN_STATE, 03_state_regions.md -/
def SL_CHAN_STATE.chan (n : Nat) : Loc := ⟨0x40100 + 0x1000 * n, 0, 64, 0x0⟩
/-! SL_MEND, 03_state_regions.md -/
def SL_MEND.mend_used (n : Nat) : Loc := ⟨0x40118 + 0x1000 * n, 0, 12, 0x0⟩
def SL_MEND.mend_full (n : Nat) : Loc := ⟨0x40118 + 0x1000 * n, 12, 1, 0x0⟩
def SL_MEND.port_down (n : Nat) : Loc := ⟨0x40118 + 0x1000 * n, 13, 1, 0x0⟩
/-! GL_CTX_CFG, 04_queues_and_contexts.md -/
def GL_CTX_CFG.prio (c : Nat) : Loc := ⟨0x6000 + 0x40 * c, 0, 2, 0x0⟩
def GL_CTX_CFG.preempt (c : Nat) : Loc := ⟨0x6000 + 0x40 * c, 2, 1, 0x0⟩
def GL_CTX_CFG.ways (c : Nat) : Loc := ⟨0x6000 + 0x40 * c, 3, 8, 0x0⟩
def GL_CTX_CFG.engines (c : Nat) : Loc := ⟨0x6000 + 0x40 * c, 11, 4, 0x0⟩
def GL_CTX_CFG.mem_share (c : Nat) : Loc := ⟨0x6000 + 0x40 * c, 15, 7, 0x0⟩
/-! GL_CTX_TMO, 04_queues_and_contexts.md -/
def GL_CTX_TMO.dflt (c : Nat) : Loc := ⟨0x6008 + 0x40 * c, 0, 32, 0x773594⟩
def GL_CTX_TMO.td_timeout (c : Nat) : Loc := ⟨0x6008 + 0x40 * c, 32, 32, 0x773594⟩
/-! GL_CTX_LIM, 04_queues_and_contexts.md -/
def GL_CTX_LIM.max_bytes (c : Nat) : Loc := ⟨0x6010 + 0x40 * c, 0, 40, 0x0⟩
/-! GL_CTX_CTL, 04_queues_and_contexts.md -/
def GL_CTX_CTL.start (c : Nat) : Loc := ⟨0x6018 + 0x40 * c, 0, 1, 0x0⟩
def GL_CTX_CTL.hold (c : Nat) : Loc := ⟨0x6018 + 0x40 * c, 1, 1, 0x0⟩
def GL_CTX_CTL.resume (c : Nat) : Loc := ⟨0x6018 + 0x40 * c, 2, 1, 0x0⟩
def GL_CTX_CTL.teardown (c : Nat) : Loc := ⟨0x6018 + 0x40 * c, 3, 1, 0x0⟩
/-! GL_CTX_STAT, 04_queues_and_contexts.md -/
def GL_CTX_STAT.state (c : Nat) : Loc := ⟨0x6020 + 0x40 * c, 0, 3, 0x0⟩
def GL_CTX_STAT.gen (c : Nat) : Loc := ⟨0x6020 + 0x40 * c, 3, 8, 0x0⟩
def GL_CTX_STAT.cfg_err (c : Nat) : Loc := ⟨0x6020 + 0x40 * c, 11, 1, 0x0⟩
def GL_CTX_STAT.ovf (c : Nat) : Loc := ⟨0x6020 + 0x40 * c, 12, 1, 0x0⟩
def GL_CTX_STAT.timeouts (c : Nat) : Loc := ⟨0x6020 + 0x40 * c, 16, 16, 0x0⟩
def GL_CTX_STAT.running (c : Nat) : Loc := ⟨0x6020 + 0x40 * c, 32, 16, 0x0⟩
/-! GL_EVT, 04_queues_and_contexts.md -/
def GL_EVT.value (c : Nat) (e : Nat) : Loc := ⟨0x7000 + 0x100 * c + 0x8 * e, 0, 32, 0x0⟩
def GL_EVT.poison (c : Nat) (e : Nat) : Loc := ⟨0x7000 + 0x100 * c + 0x8 * e, 32, 1, 0x0⟩
/-! GL_Q_DB, 04_queues_and_contexts.md -/
def GL_Q_DB.tail (c : Nat) (q : Nat) : Loc := ⟨0x8000 + 0x100 * c + 0x10 * q, 0, 6, 0x0⟩
/-! GL_Q_STAT, 04_queues_and_contexts.md -/
def GL_Q_STAT.head (c : Nat) (q : Nat) : Loc := ⟨0x8008 + 0x100 * c + 0x10 * q, 0, 6, 0x0⟩
def GL_Q_STAT.tail (c : Nat) (q : Nat) : Loc := ⟨0x8008 + 0x100 * c + 0x10 * q, 6, 6, 0x0⟩
def GL_Q_STAT.free (c : Nat) (q : Nat) : Loc := ⟨0x8008 + 0x100 * c + 0x10 * q, 12, 7, 0x40⟩
def GL_Q_STAT.ovf (c : Nat) (q : Nat) : Loc := ⟨0x8008 + 0x100 * c + 0x10 * q, 19, 1, 0x0⟩
def GL_Q_STAT.blocked (c : Nat) (q : Nat) : Loc := ⟨0x8008 + 0x100 * c + 0x10 * q, 20, 1, 0x0⟩
/-! GL_FAST, 04_queues_and_contexts.md -/
def GL_FAST.evt (c : Nat) : Loc := ⟨0x9000 + 0x8 * c, 0, 5, 0x0⟩
def GL_FAST.add (c : Nat) : Loc := ⟨0x9000 + 0x8 * c, 32, 32, 0x0⟩
/-! TK_HT_NOW, 05_tick_discipline.md -/
def TK_HT_NOW.now : Loc := ⟨0xA000, 0, 64, 0x0⟩
/-! TK_HT_STAT, 05_tick_discipline.md -/
def TK_HT_STAT.fallback : Loc := ⟨0xA008, 0, 1, 0x0⟩
def TK_HT_STAT.lost : Loc := ⟨0xA008, 1, 1, 0x0⟩
def TK_HT_STAT.lost_seen : Loc := ⟨0xA008, 2, 1, 0x0⟩
def TK_HT_STAT.jump : Loc := ⟨0xA008, 3, 1, 0x0⟩
def TK_HT_STAT.fb_seen : Loc := ⟨0xA008, 4, 1, 0x0⟩
def TK_HT_STAT.skew_bound : Loc := ⟨0xA008, 16, 16, 0x3⟩
def TK_HT_STAT.late_flips : Loc := ⟨0xA008, 32, 16, 0x0⟩
/-! TK_HT_CFG, 05_tick_discipline.md -/
def TK_HT_CFG.lead : Loc := ⟨0xA010, 0, 16, 0x1000⟩
def TK_HT_CFG.fb_lead : Loc := ⟨0xA010, 16, 16, 0x186A⟩
def TK_HT_CFG.fb_skew : Loc := ⟨0xA010, 32, 16, 0x61B⟩
def TK_HT_CFG.arm_min : Loc := ⟨0xA010, 48, 8, 0x20⟩
/-! TK_GCFG, 05_tick_discipline.md -/
def TK_GCFG.sat_pct : Loc := ⟨0xA018, 0, 8, 0x5A⟩
def TK_GCFG.retrain_min : Loc := ⟨0xA018, 16, 32, 0x3D09⟩
/-! TK_GSTAT, 05_tick_discipline.md -/
def TK_GSTAT.sat : Loc := ⟨0xA020, 0, 5, 0x0⟩
def TK_GSTAT.slack : Loc := ⟨0xA020, 8, 34, 0x0⟩
def TK_GSTAT.slack_valid : Loc := ⟨0xA020, 42, 1, 0x0⟩
/-! TK_CFG, 05_tick_discipline.md -/
def TK_CFG.period (c : Nat) : Loc := ⟨0xA100 + 0x40 * c, 0, 34, 0x0⟩
def TK_CFG.enable (c : Nat) : Loc := ⟨0xA100 + 0x40 * c, 63, 1, 0x0⟩
/-! TK_ORIGIN, 05_tick_discipline.md -/
def TK_ORIGIN.origin (c : Nat) : Loc := ⟨0xA108 + 0x40 * c, 0, 64, 0x0⟩
/-! TK_CP, 05_tick_discipline.md -/
def TK_CP.cp (c : Nat) : Loc := ⟨0xA110 + 0x40 * c, 0, 34, 0x0⟩
def TK_CP.bg_floor (c : Nat) : Loc := ⟨0xA110 + 0x40 * c, 34, 7, 0x0⟩
/-! TK_STAT, 05_tick_discipline.md -/
def TK_STAT.tick (c : Nat) : Loc := ⟨0xA118 + 0x40 * c, 0, 48, 0x0⟩
def TK_STAT.cp_open (c : Nat) : Loc := ⟨0xA118 + 0x40 * c, 48, 1, 0x0⟩
def TK_STAT.alarm (c : Nat) : Loc := ⟨0xA118 + 0x40 * c, 63, 1, 0x0⟩
/-! TK_DEBT, 05_tick_discipline.md -/
def TK_DEBT.debt (c : Nat) : Loc := ⟨0xA120 + 0x40 * c, 0, 40, 0x0⟩
def TK_DEBT.oldest_age (c : Nat) : Loc := ⟨0xA120 + 0x40 * c, 40, 4, 0x0⟩
/-! TK_ALLOW, 05_tick_discipline.md -/
def TK_ALLOW.allow (c : Nat) : Loc := ⟨0xA128 + 0x40 * c, 0, 34, 0x0⟩
/-! TK_OVR, 05_tick_discipline.md -/
def TK_OVR.last_ovr (c : Nat) : Loc := ⟨0xA130 + 0x40 * c, 0, 40, 0x0⟩
/-! GL_RULE_CTL, 06_update_unit.md -/
def GL_RULE_CTL.kind (c : Nat) (n : Nat) : Loc := ⟨0xB000 + 0x400 * c + 0x40 * n, 0, 3, 0x0⟩
def GL_RULE_CTL.decay (c : Nat) (n : Nat) : Loc := ⟨0xB000 + 0x400 * c + 0x40 * n, 3, 1, 0x0⟩
def GL_RULE_CTL.sched (c : Nat) (n : Nat) : Loc := ⟨0xB000 + 0x400 * c + 0x40 * n, 4, 2, 0x0⟩
def GL_RULE_CTL.norm_act (c : Nat) (n : Nat) : Loc := ⟨0xB000 + 0x400 * c + 0x40 * n, 6, 2, 0x0⟩
def GL_RULE_CTL.elem_act (c : Nat) (n : Nat) : Loc := ⟨0xB000 + 0x400 * c + 0x40 * n, 8, 2, 0x0⟩
def GL_RULE_CTL.accum_stride (c : Nat) (n : Nat) : Loc := ⟨0xB000 + 0x400 * c + 0x40 * n, 10, 8, 0x1⟩
def GL_RULE_CTL.cfg_err (c : Nat) (n : Nat) : Loc := ⟨0xB000 + 0x400 * c + 0x40 * n, 62, 1, 0x0⟩
def GL_RULE_CTL.valid (c : Nat) (n : Nat) : Loc := ⟨0xB000 + 0x400 * c + 0x40 * n, 63, 1, 0x0⟩
/-! GL_RULE_T0, 06_update_unit.md -/
def GL_RULE_T0.t0 (c : Nat) (n : Nat) : Loc := ⟨0xB008 + 0x400 * c + 0x40 * n, 0, 64, 0x0⟩
/-! GL_RULE_BETA, 06_update_unit.md -/
def GL_RULE_BETA.beta1 (c : Nat) (n : Nat) : Loc := ⟨0xB010 + 0x400 * c + 0x40 * n, 0, 32, 0x0⟩
def GL_RULE_BETA.beta2 (c : Nat) (n : Nat) : Loc := ⟨0xB010 + 0x400 * c + 0x40 * n, 32, 32, 0x0⟩
/-! GL_RULE_EPS, 06_update_unit.md -/
def GL_RULE_EPS.eps (c : Nat) (n : Nat) : Loc := ⟨0xB018 + 0x400 * c + 0x40 * n, 0, 32, 0x0⟩
def GL_RULE_EPS.lambda (c : Nat) (n : Nat) : Loc := ⟨0xB018 + 0x400 * c + 0x40 * n, 32, 32, 0x0⟩
/-! GL_RULE_CLIP, 06_update_unit.md -/
def GL_RULE_CLIP.clip_norm (c : Nat) (n : Nat) : Loc := ⟨0xB020 + 0x400 * c + 0x40 * n, 0, 32, 0x0⟩
def GL_RULE_CLIP.clip_elem (c : Nat) (n : Nat) : Loc := ⟨0xB020 + 0x400 * c + 0x40 * n, 32, 32, 0x0⟩
/-! GL_RULE_SCALE, 06_update_unit.md -/
def GL_RULE_SCALE.inv_scale (c : Nat) (n : Nat) : Loc := ⟨0xB028 + 0x400 * c + 0x40 * n, 0, 32, 0x3F800000⟩
def GL_RULE_SCALE.elem_max (c : Nat) (n : Nat) : Loc := ⟨0xB028 + 0x400 * c + 0x40 * n, 32, 32, 0x0⟩
/-! GL_RULE_LIM, 06_update_unit.md -/
def GL_RULE_LIM.norm_max (c : Nat) (n : Nat) : Loc := ⟨0xB030 + 0x400 * c + 0x40 * n, 0, 32, 0x0⟩
def GL_RULE_LIM.beta_f (c : Nat) (n : Nat) : Loc := ⟨0xB030 + 0x400 * c + 0x40 * n, 32, 32, 0x0⟩
/-! GL_RULE_LR, 06_update_unit.md -/
def GL_RULE_LR.lr_mult (c : Nat) (n : Nat) : Loc := ⟨0xB038 + 0x400 * c + 0x40 * n, 0, 32, 0x3F800000⟩
/-! GL_SCHED_SEG, 06_update_unit.md -/
def GL_SCHED_SEG.start (c : Nat) (s : Nat) (i : Nat) : Loc := ⟨0xC000 + 0x800 * c + 0x200 * s + 0x20 * i, 0, 48, 0x0⟩
def GL_SCHED_SEG.kind (c : Nat) (s : Nat) (i : Nat) : Loc := ⟨0xC000 + 0x800 * c + 0x200 * s + 0x20 * i, 48, 3, 0x0⟩
def GL_SCHED_SEG.cfg_err (c : Nat) (s : Nat) (i : Nat) : Loc := ⟨0xC000 + 0x800 * c + 0x200 * s + 0x20 * i, 62, 1, 0x0⟩
def GL_SCHED_SEG.valid (c : Nat) (s : Nat) (i : Nat) : Loc := ⟨0xC000 + 0x800 * c + 0x200 * s + 0x20 * i, 63, 1, 0x0⟩
/-! GL_SCHED_LEN, 06_update_unit.md -/
def GL_SCHED_LEN.len (c : Nat) (s : Nat) (i : Nat) : Loc := ⟨0xC008 + 0x800 * c + 0x200 * s + 0x20 * i, 0, 32, 0x0⟩
/-! GL_SCHED_LR, 06_update_unit.md -/
def GL_SCHED_LR.lr_a (c : Nat) (s : Nat) (i : Nat) : Loc := ⟨0xC010 + 0x800 * c + 0x200 * s + 0x20 * i, 0, 32, 0x0⟩
def GL_SCHED_LR.lr_b (c : Nat) (s : Nat) (i : Nat) : Loc := ⟨0xC010 + 0x800 * c + 0x200 * s + 0x20 * i, 32, 32, 0x0⟩
/-! GL_NORM_VAL, 06_update_unit.md -/
def GL_NORM_VAL.n2 (c : Nat) (n : Nat) : Loc := ⟨0xE000 + 0x100 * c + 0x20 * n, 0, 64, 0x0⟩
/-! GL_NORM_TAG, 06_update_unit.md -/
def GL_NORM_TAG.step (c : Nat) (n : Nat) : Loc := ⟨0xE008 + 0x100 * c + 0x20 * n, 0, 48, 0x0⟩
def GL_NORM_TAG.valid (c : Nat) (n : Nat) : Loc := ⟨0xE008 + 0x100 * c + 0x20 * n, 63, 1, 0x0⟩
/-! GL_UPD_STAT, 06_update_unit.md -/
def GL_UPD_STAT.guard_events (c : Nat) : Loc := ⟨0xE400 + 0x8 * c, 0, 32, 0x0⟩
def GL_UPD_STAT.skipped (c : Nat) : Loc := ⟨0xE400 + 0x8 * c, 32, 16, 0x0⟩
def GL_UPD_STAT.refused (c : Nat) : Loc := ⟨0xE400 + 0x8 * c, 48, 16, 0x0⟩
/-! YK_STAT, 07_yoke_array.md -/
def YK_STAT.state : Loc := ⟨0x10000, 0, 3, (fget YK_STAT.rst 0 3)⟩
def YK_STAT.rows : Loc := ⟨0x10000, 3, 8, (fget YK_STAT.rst 3 8)⟩
def YK_STAT.cols : Loc := ⟨0x10000, 11, 8, (fget YK_STAT.rst 11 8)⟩
def YK_STAT.degraded : Loc := ⟨0x10000, 19, 1, (fget YK_STAT.rst 19 1)⟩
def YK_STAT.failed : Loc := ⟨0x10000, 20, 1, (fget YK_STAT.rst 20 1)⟩
def YK_STAT.remaps : Loc := ⟨0x10000, 32, 16, (fget YK_STAT.rst 32 16)⟩
/-! YK_ROWOUT, 07_yoke_array.md -/
def YK_ROWOUT.out (w : Nat) : Loc := ⟨0x10008 + 0x8 * w, 0, 64, (fget (mapWord Config.fusedRowOut w) 0 64)⟩
/-! YK_COLOUT, 07_yoke_array.md -/
def YK_COLOUT.out (w : Nat) : Loc := ⟨0x10020 + 0x8 * w, 0, 64, (fget (mapWord Config.fusedColOut w) 0 64)⟩
/-! YK_MAP_CTL, 07_yoke_array.md -/
def YK_MAP_CTL.apply : Loc := ⟨0x10038, 0, 1, 0x0⟩
/-! YK_TEST, 07_yoke_array.md -/
def YK_TEST.start : Loc := ⟨0x10040, 0, 1, 0x0⟩
def YK_TEST.pass : Loc := ⟨0x10040, 1, 1, 0x0⟩
def YK_TEST.fail : Loc := ⟨0x10040, 2, 1, 0x0⟩
def YK_TEST.fail_row : Loc := ⟨0x10040, 3, 8, 0xFF⟩
def YK_TEST.fail_col : Loc := ⟨0x10040, 11, 8, 0xFF⟩
/-! YK_DTAB, 07_yoke_array.md -/
def YK_DTAB.epoch (t : Nat) : Loc := ⟨0x10048 + 0x8 * t, 0, 16, 0x0⟩
def YK_DTAB.k (t : Nat) : Loc := ⟨0x10048 + 0x8 * t, 16, 4, 0x0⟩
def YK_DTAB.r (t : Nat) : Loc := ⟨0x10048 + 0x8 * t, 20, 3, 0x0⟩
def YK_DTAB.entries (t : Nat) : Loc := ⟨0x10048 + 0x8 * t, 23, 12, 0x0⟩
def YK_DTAB.ready (t : Nat) : Loc := ⟨0x10048 + 0x8 * t, 35, 1, 0x0⟩
def YK_DTAB.in_use (t : Nat) : Loc := ⟨0x10048 + 0x8 * t, 36, 1, 0x0⟩
/-! YK_BUSY, 07_yoke_array.md -/
def YK_BUSY.num_kcyc : Loc := ⟨0x10058, 0, 32, 0x0⟩
def YK_BUSY.fld_kcyc : Loc := ⟨0x10058, 32, 32, 0x0⟩
/-! YK_REFR, 07_yoke_array.md -/
def YK_REFR.blocks (c : Nat) : Loc := ⟨0x10100 + 0x8 * c, 0, 32, 0x0⟩
def YK_REFR.kept (c : Nat) : Loc := ⟨0x10100 + 0x8 * c, 32, 32, 0x0⟩
/-! GS_GCFG, 08_reductions_and_collectives.md -/
def GS_GCFG.determinism : Loc := ⟨0x11000, 0, 1, 0x0⟩
def GS_GCFG.ns_init : Loc := ⟨0x11000, 1, 9, 0x80⟩
/-! GS_GSTAT, 08_reductions_and_collectives.md -/
def GS_GSTAT.cfg_err : Loc := ⟨0x11008, 0, 1, 0x0⟩
def GS_GSTAT.overclaim : Loc := ⟨0x11008, 16, 16, 0x0⟩
def GS_GSTAT.desc_mismatch : Loc := ⟨0x11008, 32, 16, 0x0⟩
def GS_GSTAT.late_split : Loc := ⟨0x11008, 48, 16, 0x0⟩
/-! GS_SELF, 08_reductions_and_collectives.md -/
def GS_SELF.c0 : Loc := ⟨0x11010, 0, 8, 0x0⟩
def GS_SELF.c1 : Loc := ⟨0x11010, 8, 8, 0x0⟩
def GS_SELF.c2 : Loc := ⟨0x11010, 16, 8, 0x0⟩
def GS_SELF.c3 : Loc := ⟨0x11010, 24, 8, 0x0⟩
def GS_SELF.devid : Loc := ⟨0x11010, 32, 16, 0x0⟩
/-! GS_SHAPE, 08_reductions_and_collectives.md -/
def GS_SHAPE.n0 : Loc := ⟨0x11018, 0, 8, 0x1⟩
def GS_SHAPE.n1 : Loc := ⟨0x11018, 8, 8, 0x1⟩
def GS_SHAPE.n2 : Loc := ⟨0x11018, 16, 8, 0x1⟩
def GS_SHAPE.n3 : Loc := ⟨0x11018, 24, 8, 0x1⟩
/-! GS_GRP_CFG, 08_reductions_and_collectives.md -/
def GS_GRP_CFG.axes (c : Nat) (g : Nat) : Loc := ⟨0x11100 + 0x100 * c + 0x10 * g, 0, 4, 0x0⟩
def GS_GRP_CFG.fan (c : Nat) (g : Nat) : Loc := ⟨0x11100 + 0x100 * c + 0x10 * g, 4, 5, 0x8⟩
def GS_GRP_CFG.queue (c : Nat) (g : Nat) : Loc := ⟨0x11100 + 0x100 * c + 0x10 * g, 9, 4, 0x0⟩
def GS_GRP_CFG.split_fixed (c : Nat) (g : Nat) : Loc := ⟨0x11100 + 0x100 * c + 0x10 * g, 13, 1, 0x0⟩
def GS_GRP_CFG.valid (c : Nat) (g : Nat) : Loc := ⟨0x11100 + 0x100 * c + 0x10 * g, 63, 1, 0x0⟩
/-! GS_GRP_BOX, 08_reductions_and_collectives.md -/
def GS_GRP_BOX.lo0 (c : Nat) (g : Nat) : Loc := ⟨0x11108 + 0x100 * c + 0x10 * g, 0, 8, 0x0⟩
def GS_GRP_BOX.hi0 (c : Nat) (g : Nat) : Loc := ⟨0x11108 + 0x100 * c + 0x10 * g, 8, 8, 0x0⟩
def GS_GRP_BOX.lo1 (c : Nat) (g : Nat) : Loc := ⟨0x11108 + 0x100 * c + 0x10 * g, 16, 8, 0x0⟩
def GS_GRP_BOX.hi1 (c : Nat) (g : Nat) : Loc := ⟨0x11108 + 0x100 * c + 0x10 * g, 24, 8, 0x0⟩
def GS_GRP_BOX.lo2 (c : Nat) (g : Nat) : Loc := ⟨0x11108 + 0x100 * c + 0x10 * g, 32, 8, 0x0⟩
def GS_GRP_BOX.hi2 (c : Nat) (g : Nat) : Loc := ⟨0x11108 + 0x100 * c + 0x10 * g, 40, 8, 0x0⟩
def GS_GRP_BOX.lo3 (c : Nat) (g : Nat) : Loc := ⟨0x11108 + 0x100 * c + 0x10 * g, 48, 8, 0x0⟩
def GS_GRP_BOX.hi3 (c : Nat) (g : Nat) : Loc := ⟨0x11108 + 0x100 * c + 0x10 * g, 56, 8, 0x0⟩
/-! GS_GRP_STAT, 08_reductions_and_collectives.md -/
def GS_GRP_STAT.n (c : Nat) (g : Nat) : Loc := ⟨0x11500 + 0x100 * c + 0x10 * g, 0, 16, 0x0⟩
def GS_GRP_STAT.rank (c : Nat) (g : Nat) : Loc := ⟨0x11500 + 0x100 * c + 0x10 * g, 16, 16, 0x0⟩
def GS_GRP_STAT.depth_near (c : Nat) (g : Nat) : Loc := ⟨0x11500 + 0x100 * c + 0x10 * g, 32, 4, 0x0⟩
def GS_GRP_STAT.depth_off (c : Nat) (g : Nat) : Loc := ⟨0x11500 + 0x100 * c + 0x10 * g, 36, 4, 0x0⟩
def GS_GRP_STAT.ns (c : Nat) (g : Nat) : Loc := ⟨0x11500 + 0x100 * c + 0x10 * g, 40, 9, 0x0⟩
def GS_GRP_STAT.cfg_err (c : Nat) (g : Nat) : Loc := ⟨0x11500 + 0x100 * c + 0x10 * g, 49, 1, 0x0⟩
/-! GS_GRP_GCN, 08_reductions_and_collectives.md -/
def GS_GRP_GCN.last_gcn (c : Nat) (g : Nat) : Loc := ⟨0x11508 + 0x100 * c + 0x10 * g, 0, 32, 0x0⟩
def GS_GRP_GCN.running (c : Nat) (g : Nat) : Loc := ⟨0x11508 + 0x100 * c + 0x10 * g, 32, 16, 0x0⟩
/-! GS_SUBST, 08_reductions_and_collectives.md -/
def GS_SUBST.coord (c : Nat) (i : Nat) : Loc := ⟨0x11900 + 0x200 * c + 0x8 * i, 0, 32, 0x0⟩
def GS_SUBST.devid (c : Nat) (i : Nat) : Loc := ⟨0x11900 + 0x200 * c + 0x8 * i, 32, 16, 0x0⟩
def GS_SUBST.absent (c : Nat) (i : Nat) : Loc := ⟨0x11900 + 0x200 * c + 0x8 * i, 48, 1, 0x0⟩
def GS_SUBST.valid (c : Nat) (i : Nat) : Loc := ⟨0x11900 + 0x200 * c + 0x8 * i, 63, 1, 0x0⟩
/-! GS_SLOT_CFG, 08_reductions_and_collectives.md -/
def GS_SLOT_CFG.per_slice (c : Nat) : Loc := ⟨0x12900 + 0x10 * c, 0, 10, 0x40⟩
def GS_SLOT_CFG.reserve (c : Nat) : Loc := ⟨0x12900 + 0x10 * c, 10, 10, 0x8⟩
/-! GS_SLOT_STAT, 08_reductions_and_collectives.md -/
def GS_SLOT_STAT.in_use (c : Nat) : Loc := ⟨0x12908 + 0x10 * c, 0, 11, 0x0⟩
def GS_SLOT_STAT.peak (c : Nat) : Loc := ⟨0x12908 + 0x10 * c, 11, 11, 0x0⟩
def GS_SLOT_STAT.waiting (c : Nat) : Loc := ⟨0x12908 + 0x10 * c, 32, 16, 0x0⟩
/-! GS_TRD, 08_reductions_and_collectives.md -/
def GS_TRD.wmark (c : Nat) (s : Nat) : Loc := ⟨0x12100 + 0x200 * c + 0x8 * s, 0, 32, 0x0⟩
def GS_TRD.pending (c : Nat) (s : Nat) : Loc := ⟨0x12100 + 0x200 * c + 0x8 * s, 32, 9, 0x0⟩
def GS_TRD.held (c : Nat) (s : Nat) : Loc := ⟨0x12100 + 0x200 * c + 0x8 * s, 41, 1, 0x0⟩
def GS_TRD.dup (c : Nat) (s : Nat) : Loc := ⟨0x12100 + 0x200 * c + 0x8 * s, 48, 16, 0x0⟩
/-! TM_CFG, 09_team_coding.md -/
def TM_CFG.mode (c : Nat) : Loc := ⟨0x13000 + 0x100 * c, 0, 2, 0x0⟩
def TM_CFG.k (c : Nat) : Loc := ⟨0x13000 + 0x100 * c, 2, 4, 0x8⟩
def TM_CFG.r (c : Nat) : Loc := ⟨0x13000 + 0x100 * c, 6, 3, 0x2⟩
def TM_CFG.index (c : Nat) : Loc := ⟨0x13000 + 0x100 * c, 9, 4, 0x0⟩
def TM_CFG.share (c : Nat) : Loc := ⟨0x13000 + 0x100 * c, 13, 6, 0x0⟩
def TM_CFG.spar (c : Nat) : Loc := ⟨0x13000 + 0x100 * c, 19, 6, 0x0⟩
def TM_CFG.spar_en (c : Nat) : Loc := ⟨0x13000 + 0x100 * c, 25, 1, 0x0⟩
def TM_CFG.dbuf (c : Nat) : Loc := ⟨0x13000 + 0x100 * c, 26, 7, 0x10⟩
/-! TM_ID, 09_team_coding.md -/
def TM_ID.team_id (c : Nat) : Loc := ⟨0x13008 + 0x100 * c, 0, 16, 0x0⟩
def TM_ID.epoch (c : Nat) : Loc := ⟨0x13008 + 0x100 * c, 16, 16, 0x0⟩
def TM_ID.job_id (c : Nat) : Loc := ⟨0x13008 + 0x100 * c, 32, 32, 0x0⟩
/-! TM_CTL, 09_team_coding.md -/
def TM_CTL.form (c : Nat) : Loc := ⟨0x13010 + 0x100 * c, 0, 1, 0x0⟩
def TM_CTL.apply (c : Nat) : Loc := ⟨0x13010 + 0x100 * c, 1, 1, 0x0⟩
def TM_CTL.dissolve (c : Nat) : Loc := ⟨0x13010 + 0x100 * c, 2, 1, 0x0⟩
/-! TM_STAT, 09_team_coding.md -/
def TM_STAT.state (c : Nat) : Loc := ⟨0x13018 + 0x100 * c, 0, 3, 0x0⟩
def TM_STAT.cfg_err (c : Nat) : Loc := ⟨0x13018 + 0x100 * c, 3, 1, 0x0⟩
def TM_STAT.form_err (c : Nat) : Loc := ⟨0x13018 + 0x100 * c, 4, 1, 0x0⟩
def TM_STAT.epoch (c : Nat) : Loc := ⟨0x13018 + 0x100 * c, 8, 16, 0x0⟩
def TM_STAT.k (c : Nat) : Loc := ⟨0x13018 + 0x100 * c, 24, 4, 0x0⟩
def TM_STAT.r (c : Nat) : Loc := ⟨0x13018 + 0x100 * c, 28, 3, 0x0⟩
def TM_STAT.erased (c : Nat) : Loc := ⟨0x13018 + 0x100 * c, 32, 4, 0x0⟩
def TM_STAT.index (c : Nat) : Loc := ⟨0x13018 + 0x100 * c, 36, 4, 0x0⟩
/-! TM_SHAPE, 09_team_coding.md -/
def TM_SHAPE.digest (c : Nat) : Loc := ⟨0x13020 + 0x100 * c, 0, 64, 0x0⟩
/-! TM_SHAPEF, 09_team_coding.md -/
def TM_SHAPEF.digest (c : Nat) : Loc := ⟨0x13048 + 0x100 * c, 0, 64, 0x0⟩
/-! TM_PSIZE, 09_team_coding.md -/
def TM_PSIZE.pbytes (c : Nat) : Loc := ⟨0x13028 + 0x100 * c, 0, 40, 0x0⟩
/-! TM_DSTAT, 09_team_coding.md -/
def TM_DSTAT.sent (c : Nat) : Loc := ⟨0x13030 + 0x100 * c, 0, 32, 0x0⟩
def TM_DSTAT.skipped (c : Nat) : Loc := ⟨0x13030 + 0x100 * c, 32, 32, 0x0⟩
/-! TM_HSTAT, 09_team_coding.md -/
def TM_HSTAT.applied (c : Nat) : Loc := ⟨0x13038 + 0x100 * c, 0, 32, 0x0⟩
def TM_HSTAT.dropped (c : Nat) : Loc := ⟨0x13038 + 0x100 * c, 32, 16, 0x0⟩
def TM_HSTAT.held (c : Nat) : Loc := ⟨0x13038 + 0x100 * c, 48, 16, 0x0⟩
/-! TM_AUD, 09_team_coding.md -/
def TM_AUD.audited (c : Nat) : Loc := ⟨0x13040 + 0x100 * c, 0, 32, 0x0⟩
def TM_AUD.mismatches (c : Nat) : Loc := ⟨0x13040 + 0x100 * c, 32, 16, 0x0⟩
def TM_AUD.last_member (c : Nat) : Loc := ⟨0x13040 + 0x100 * c, 48, 8, 0xFF⟩
/-! TM_MEMBER, 09_team_coding.md -/
def TM_MEMBER.devid (c : Nat) (i : Nat) : Loc := ⟨0x13400 + 0x100 * c + 0x8 * i, 0, 16, 0x0⟩
def TM_MEMBER.mstate (c : Nat) (i : Nat) : Loc := ⟨0x13400 + 0x100 * c + 0x8 * i, 16, 2, 0x0⟩
/-! TM_STB, 09_team_coding.md -/
def TM_STB.coded (n : Nat) : Loc := ⟨0x13800 + 0x8 * n, 0, 1, 0x0⟩
def TM_STB.stale (n : Nat) : Loc := ⟨0x13800 + 0x8 * n, 1, 1, 0x0⟩
def TM_STB.ctx (n : Nat) : Loc := ⟨0x13800 + 0x8 * n, 2, 2, 0x0⟩
def TM_STB.offset (n : Nat) : Loc := ⟨0x13800 + 0x8 * n, 12, 28, 0x0⟩
def TM_STB.pfrags (n : Nat) : Loc := ⟨0x13800 + 0x8 * n, 40, 24, 0x0⟩
/-! TM_GSTAT, 09_team_coding.md -/
def TM_GSTAT.touch_used : Loc := ⟨0x13F00, 0, 24, 0x0⟩
/-! CM_CFG, 10_commit_transaction.md -/
def CM_CFG.group (c : Nat) : Loc := ⟨0x14000 + 0x100 * c, 0, 4, 0x0⟩
def CM_CFG.stride (c : Nat) : Loc := ⟨0x14000 + 0x100 * c, 4, 9, 0x1⟩
def CM_CFG.rec_ (c : Nat) : Loc := ⟨0x14000 + 0x100 * c, 13, 6, 0x0⟩
/-! CM_TMO, 10_commit_transaction.md -/
def CM_TMO.vote_tmo (c : Nat) : Loc := ⟨0x14008 + 0x100 * c, 0, 32, 0x773594⟩
def CM_TMO.query_tmo (c : Nat) : Loc := ⟨0x14008 + 0x100 * c, 32, 32, 0x17D784⟩
/-! CM_CTL, 10_commit_transaction.md -/
def CM_CTL.resolve (c : Nat) : Loc := ⟨0x14010 + 0x100 * c, 0, 1, 0x0⟩
def CM_CTL.apply_epoch (c : Nat) : Loc := ⟨0x14010 + 0x100 * c, 1, 1, 0x0⟩
def CM_CTL.unfence (c : Nat) : Loc := ⟨0x14010 + 0x100 * c, 2, 1, 0x0⟩
/-! CM_STAT, 10_commit_transaction.md -/
def CM_STAT.phase (c : Nat) : Loc := ⟨0x14018 + 0x100 * c, 0, 3, 0x0⟩
def CM_STAT.sel (c : Nat) : Loc := ⟨0x14018 + 0x100 * c, 3, 1, 0x0⟩
def CM_STAT.failed (c : Nat) : Loc := ⟨0x14018 + 0x100 * c, 4, 1, 0x0⟩
def CM_STAT.stride (c : Nat) : Loc := ⟨0x14018 + 0x100 * c, 5, 9, 0x1⟩
def CM_STAT.cfg_err (c : Nat) : Loc := ⟨0x14018 + 0x100 * c, 14, 1, 0x0⟩
def CM_STAT.cseq (c : Nat) : Loc := ⟨0x14018 + 0x100 * c, 32, 32, 0x0⟩
/-! CM_STEP, 10_commit_transaction.md -/
def CM_STEP.committed (c : Nat) : Loc := ⟨0x14020 + 0x100 * c, 0, 64, 0x0⟩
/-! CM_OPEN, 10_commit_transaction.md -/
def CM_OPEN.open_ (c : Nat) : Loc := ⟨0x14028 + 0x100 * c, 0, 64, 0x1⟩
/-! CM_CUR, 10_commit_transaction.md -/
def CM_CUR.cur (c : Nat) : Loc := ⟨0x14030 + 0x100 * c, 0, 64, 0x1⟩
/-! CM_EPOCH, 10_commit_transaction.md -/
def CM_EPOCH.staged (c : Nat) : Loc := ⟨0x14038 + 0x100 * c, 0, 16, 0x0⟩
def CM_EPOCH.epoch (c : Nat) : Loc := ⟨0x14038 + 0x100 * c, 16, 16, 0x0⟩
def CM_EPOCH.fence_epoch (c : Nat) : Loc := ⟨0x14038 + 0x100 * c, 32, 16, 0x0⟩
/-! CM_SEED, 10_commit_transaction.md -/
def CM_SEED.seed (c : Nat) : Loc := ⟨0x14040 + 0x100 * c, 0, 64, 0x0⟩
/-! CM_CBASE, 10_commit_transaction.md -/
def CM_CBASE.base (c : Nat) : Loc := ⟨0x14048 + 0x100 * c, 0, 64, 0x0⟩
/-! CM_CSTRIDE, 10_commit_transaction.md -/
def CM_CSTRIDE.cstride (c : Nat) : Loc := ⟨0x14050 + 0x100 * c, 0, 64, 0x0⟩
/-! CM_USER, 10_commit_transaction.md -/
def CM_USER.user (c : Nat) (u : Nat) : Loc := ⟨0x14058 + 0x100 * c + 0x8 * u, 0, 64, 0x0⟩
/-! CM_HALT, 10_commit_transaction.md -/
def CM_HALT.h (c : Nat) : Loc := ⟨0x14078 + 0x100 * c, 0, 64, 0x0⟩
/-! CM_LAST, 10_commit_transaction.md -/
def CM_LAST.reason (c : Nat) : Loc := ⟨0x14080 + 0x100 * c, 0, 8, 0x0⟩
def CM_LAST.rank (c : Nat) : Loc := ⟨0x14080 + 0x100 * c, 8, 16, 0x0⟩
def CM_LAST.late (c : Nat) : Loc := ⟨0x14080 + 0x100 * c, 24, 1, 0x0⟩
def CM_LAST.cseq (c : Nat) : Loc := ⟨0x14080 + 0x100 * c, 32, 32, 0x0⟩
/-! CM_RESOLVE, 10_commit_transaction.md -/
def CM_RESOLVE.action (c : Nat) : Loc := ⟨0x14088 + 0x100 * c, 0, 2, 0x0⟩
def CM_RESOLVE.cseq (c : Nat) : Loc := ⟨0x14088 + 0x100 * c, 32, 32, 0x0⟩
/-! CM_CNT, 10_commit_transaction.md -/
def CM_CNT.commits (c : Nat) : Loc := ⟨0x14090 + 0x100 * c, 0, 32, 0x0⟩
def CM_CNT.aborts (c : Nat) : Loc := ⟨0x14090 + 0x100 * c, 32, 16, 0x0⟩
def CM_CNT.in_doubt (c : Nat) : Loc := ⟨0x14090 + 0x100 * c, 48, 16, 0x0⟩
/-! CM_DIAG, 10_commit_transaction.md -/
def CM_DIAG.stale (c : Nat) : Loc := ⟨0x14098 + 0x100 * c, 0, 16, 0x0⟩
def CM_DIAG.conflict (c : Nat) : Loc := ⟨0x14098 + 0x100 * c, 16, 16, 0x0⟩
def CM_DIAG.queries (c : Nat) : Loc := ⟨0x14098 + 0x100 * c, 32, 16, 0x0⟩
def CM_DIAG.h_mismatch (c : Nat) : Loc := ⟨0x14098 + 0x100 * c, 48, 16, 0x0⟩
/-! FB_CFG, 11_fabric_port.md -/
def FB_CFG.ver_send : Loc := ⟨0x15000, 0, 4, 0x2⟩
def FB_CFG.ver_max : Loc := ⟨0x15000, 4, 4, 0x2⟩
/-! FB_GFAB, 11_fabric_port.md -/
def FB_GFAB.lo : Loc := ⟨0x15008, 0, 16, 0x0⟩
def FB_GFAB.hi : Loc := ⟨0x15008, 16, 16, 0x0⟩
def FB_GFAB.valid : Loc := ⟨0x15008, 63, 1, 0x0⟩
/-! FB_STAT, 11_fabric_port.md -/
def FB_STAT.m : Loc := ⟨0x15010, 0, 5, 0x10⟩
def FB_STAT.narrow : Loc := ⟨0x15010, 5, 1, 0x0⟩
def FB_STAT.crc_err : Loc := ⟨0x15010, 16, 16, 0x0⟩
def FB_STAT.misroute : Loc := ⟨0x15010, 32, 16, 0x0⟩
def FB_STAT.drop_other : Loc := ⟨0x15010, 48, 16, 0x0⟩
/-! FB_DROP, 11_fabric_port.md -/
def FB_DROP.stale : Loc := ⟨0x15018, 0, 16, 0x0⟩
def FB_DROP.remote : Loc := ⟨0x15018, 16, 16, 0x0⟩
def FB_DROP.region : Loc := ⟨0x15018, 32, 16, 0x0⟩
def FB_DROP.version : Loc := ⟨0x15018, 48, 16, 0x0⟩
/-! FB_LANE, 11_fabric_port.md -/
def FB_LANE.state (p : Nat) : Loc := ⟨0x15100 + 0x8 * p, 0, 2, (fget (FB_LANE.rst p) 0 2)⟩
def FB_LANE.mapped (p : Nat) : Loc := ⟨0x15100 + 0x8 * p, 2, 1, (fget (FB_LANE.rst p) 2 1)⟩
def FB_LANE.logical (p : Nat) : Loc := ⟨0x15100 + 0x8 * p, 3, 4, (fget (FB_LANE.rst p) 3 4)⟩
def FB_LANE.downs (p : Nat) : Loc := ⟨0x15100 + 0x8 * p, 16, 16, (fget (FB_LANE.rst p) 16 16)⟩
/-! FB_LANE_CTL, 11_fabric_port.md -/
def FB_LANE_CTL.out : Loc := ⟨0x15190, 0, 18, 0x0⟩
def FB_LANE_CTL.apply : Loc := ⟨0x15190, 63, 1, 0x0⟩
/-! FB_ENG, 11_fabric_port.md -/
def FB_ENG.running (e : Nat) : Loc := ⟨0x15200 + 0x8 * e, 0, 5, 0x0⟩
def FB_ENG.outstanding (e : Nat) : Loc := ⟨0x15200 + 0x8 * e, 5, 10, 0x0⟩
def FB_ENG.ctx (e : Nat) : Loc := ⟨0x15200 + 0x8 * e, 15, 2, 0x0⟩
def FB_ENG.bytes (e : Nat) : Loc := ⟨0x15200 + 0x8 * e, 32, 32, 0x0⟩
/-! FB_INQ, 11_fabric_port.md -/
def FB_INQ.req_used : Loc := ⟨0x15240, 0, 12, 0x0⟩
def FB_INQ.req_peak : Loc := ⟨0x15240, 12, 12, 0x0⟩
def FB_INQ.rsp_used : Loc := ⟨0x15240, 24, 10, 0x0⟩
def FB_INQ.col_used : Loc := ⟨0x15240, 34, 7, 0x0⟩
def FB_INQ.ctl_used : Loc := ⟨0x15240, 41, 9, 0x0⟩
def FB_INQ.combined : Loc := ⟨0x15240, 50, 14, 0x0⟩
/-! FB_INQ_CTL, 11_fabric_port.md -/
def FB_INQ_CTL.peak_clr : Loc := ⟨0x15248, 0, 1, 0x0⟩
/-! FB_TGEN, 11_fabric_port.md -/
def FB_TGEN.gen (c : Nat) (i : Nat) : Loc := ⟨0x15400 + 0x100 * c + 0x8 * i, 0, 8, 0x0⟩
/-! FB_MGR, 11_fabric_port.md -/
def FB_MGR.devid (m : Nat) : Loc := ⟨0x15800 + 0x8 * m, 0, 16, 0x0⟩
def FB_MGR.valid (m : Nat) : Loc := ⟨0x15800 + 0x8 * m, 63, 1, 0x0⟩
/-! DR_STAT, 12_failure_and_recovery.md -/
def DR_STAT.bound (c : Nat) : Loc := ⟨0x16000 + 0x40 * c, 0, 1, 0x0⟩
def DR_STAT.prev_intact (c : Nat) : Loc := ⟨0x16000 + 0x40 * c, 1, 1, 0x0⟩
def DR_STAT.log_used (c : Nat) : Loc := ⟨0x16000 + 0x40 * c, 2, 9, 0x0⟩
def DR_STAT.last_status (c : Nat) : Loc := ⟨0x16000 + 0x40 * c, 11, 8, 0x0⟩
/-! DR_BIND, 12_failure_and_recovery.md -/
def DR_BIND.bank (c : Nat) : Loc := ⟨0x16008 + 0x40 * c, 0, 1, 0x0⟩
def DR_BIND.go (c : Nat) : Loc := ⟨0x16008 + 0x40 * c, 8, 1, 0x0⟩
def DR_BIND.status (c : Nat) : Loc := ⟨0x16008 + 0x40 * c, 16, 8, 0x0⟩
/-! DR_BIND_STEP, 12_failure_and_recovery.md -/
def DR_BIND_STEP.step (c : Nat) : Loc := ⟨0x16010 + 0x40 * c, 0, 64, 0x0⟩
/-! DR_CTL, 12_failure_and_recovery.md -/
def DR_CTL.clear_log (c : Nat) : Loc := ⟨0x16018 + 0x40 * c, 0, 1, 0x0⟩
/-! DR_LOG_STEP, 12_failure_and_recovery.md -/
def DR_LOG_STEP.step (c : Nat) : Loc := ⟨0x16020 + 0x40 * c, 0, 64, 0x0⟩
/-! DR_CNT, 12_failure_and_recovery.md -/
def DR_CNT.written (c : Nat) : Loc := ⟨0x16028 + 0x40 * c, 0, 32, 0x0⟩
def DR_CNT.elsewhere (c : Nat) : Loc := ⟨0x16028 + 0x40 * c, 32, 32, 0x0⟩
/-! TM_REB_CFG, 12_failure_and_recovery.md -/
def TM_REB_CFG.max_out (c : Nat) : Loc := ⟨0x13C00 + 0x20 * c, 0, 10, 0x200⟩
/-! TM_REB_CTL, 12_failure_and_recovery.md -/
def TM_REB_CTL.join (c : Nat) : Loc := ⟨0x13C08 + 0x20 * c, 0, 1, 0x0⟩
def TM_REB_CTL.start (c : Nat) : Loc := ⟨0x13C08 + 0x20 * c, 1, 1, 0x0⟩
def TM_REB_CTL.abandon (c : Nat) : Loc := ⟨0x13C08 + 0x20 * c, 2, 1, 0x0⟩
/-! TM_REB_STAT, 12_failure_and_recovery.md -/
def TM_REB_STAT.state (c : Nat) : Loc := ⟨0x13C10 + 0x20 * c, 0, 2, 0x0⟩
def TM_REB_STAT.status (c : Nat) : Loc := ⟨0x13C10 + 0x20 * c, 2, 8, 0x0⟩
def TM_REB_STAT.lost (c : Nat) : Loc := ⟨0x13C10 + 0x20 * c, 16, 16, 0x0⟩
def TM_REB_STAT.step (c : Nat) : Loc := ⟨0x13C10 + 0x20 * c, 32, 32, 0x0⟩
/-! TM_REB_PROG, 12_failure_and_recovery.md -/
def TM_REB_PROG.stripes (c : Nat) : Loc := ⟨0x13C18 + 0x20 * c, 0, 48, 0x0⟩
/-! DG_REP_CFG, 12_failure_and_recovery.md -/
def DG_REP_CFG.window : Loc := ⟨0x17000, 0, 32, 0xEE6B28⟩
def DG_REP_CFG.accept : Loc := ⟨0x17000, 32, 1, 0x0⟩
/-! DG_REP_STAT, 12_failure_and_recovery.md -/
def DG_REP_STAT.sent : Loc := ⟨0x17008, 0, 16, 0x0⟩
def DG_REP_STAT.coalesced : Loc := ⟨0x17008, 16, 16, 0x0⟩
def DG_REP_STAT.evicted : Loc := ⟨0x17008, 32, 16, 0x0⟩
def DG_REP_STAT.in_use : Loc := ⟨0x17008, 48, 7, 0x0⟩
/-! DG_RIN_STAT, 12_failure_and_recovery.md -/
def DG_RIN_STAT.entries : Loc := ⟨0x17010, 0, 9, 0x0⟩
def DG_RIN_STAT.overflow : Loc := ⟨0x17010, 16, 16, 0x0⟩
/-! DG_RIN_REL, 12_failure_and_recovery.md -/
def DG_RIN_REL.index : Loc := ⟨0x17018, 0, 8, 0x0⟩
/-! DG_WDT, 12_failure_and_recovery.md -/
def DG_WDT.kick : Loc := ⟨0x17020, 0, 1, 0x0⟩
def DG_WDT.period : Loc := ⟨0x17020, 1, 31, 0xBEBC2⟩
def DG_WDT.esc : Loc := ⟨0x17020, 32, 32, 0x9502F90⟩
/-! DG_RST_CTL, 12_failure_and_recovery.md -/
def DG_RST_CTL.seq : Loc := ⟨0x17028, 0, 1, 0x0⟩
def DG_RST_CTL.block : Loc := ⟨0x17028, 1, 1, 0x0⟩
def DG_RST_CTL.purge : Loc := ⟨0x17028, 2, 4, 0x0⟩
/-! DG_COLL_CFG, 12_failure_and_recovery.md -/
def DG_COLL_CFG.stack : Loc := ⟨0x17030, 0, 5, 0x0⟩
def DG_COLL_CFG.addr : Loc := ⟨0x17030, 12, 28, 0x0⟩
def DG_COLL_CFG.valid : Loc := ⟨0x17030, 63, 1, 0x0⟩
/-! DG_COLL_SUM, 12_failure_and_recovery.md -/
def DG_COLL_SUM.reason : Loc := ⟨0x17038, 0, 8, 0x0⟩
def DG_COLL_SUM.valid : Loc := ⟨0x17038, 8, 1, 0x0⟩
def DG_COLL_SUM.complete : Loc := ⟨0x17038, 9, 1, 0x0⟩
def DG_COLL_SUM.sel : Loc := ⟨0x17038, 10, 4, 0x0⟩
def DG_COLL_SUM.bound : Loc := ⟨0x17038, 14, 4, 0x0⟩
def DG_COLL_SUM.prev_intact : Loc := ⟨0x17038, 18, 4, 0x0⟩
def DG_COLL_SUM.fenced : Loc := ⟨0x17038, 22, 4, 0x0⟩
/-! DG_COLL_STEP, 12_failure_and_recovery.md -/
def DG_COLL_STEP.committed (c : Nat) : Loc := ⟨0x17040 + 0x8 * c, 0, 64, 0x0⟩
/-! DG_WEDGE, 12_failure_and_recovery.md -/
def DG_WEDGE.ports (c : Nat) : Loc := ⟨0x17060 + 0x8 * c, 0, 20, 0x0⟩
/-! DG_RIN_ID, 12_failure_and_recovery.md -/
def DG_RIN_ID.subject (i : Nat) : Loc := ⟨0x17100 + 0x20 * i, 0, 16, 0x0⟩
def DG_RIN_ID.kind (i : Nat) : Loc := ⟨0x17100 + 0x20 * i, 16, 8, 0x0⟩
def DG_RIN_ID.msgs (i : Nat) : Loc := ⟨0x17100 + 0x20 * i, 32, 16, 0x0⟩
def DG_RIN_ID.valid (i : Nat) : Loc := ⟨0x17100 + 0x20 * i, 63, 1, 0x0⟩
/-! DG_RIN_CNT, 12_failure_and_recovery.md -/
def DG_RIN_CNT.count (i : Nat) : Loc := ⟨0x17108 + 0x20 * i, 0, 32, 0x0⟩
/-! DG_RIN_T, 12_failure_and_recovery.md -/
def DG_RIN_T.first (i : Nat) : Loc := ⟨0x17110 + 0x20 * i, 0, 64, 0x0⟩
/-! DG_PAR, 13_integrity_and_audit.md -/
def DG_PAR.errors (k : Nat) : Loc := ⟨0x19800 + 0x8 * k, 0, 32, 0x0⟩
def DG_PAR.macro (k : Nat) : Loc := ⟨0x19800 + 0x8 * k, 32, 16, 0x0⟩
/-! DG_FILL, 13_integrity_and_audit.md -/
def DG_FILL.done : Loc := ⟨0x19840, 0, 1, 0x0⟩
def DG_FILL.fail : Loc := ⟨0x19840, 1, 1, 0x0⟩
def DG_FILL.macro : Loc := ⟨0x19840, 2, 16, 0x0⟩
/-! DG_POISON, 13_integrity_and_audit.md -/
def DG_POISON.used : Loc := ⟨0x19848, 0, 11, 0x0⟩
def DG_POISON.full : Loc := ⟨0x19848, 11, 16, 0x0⟩
def DG_POISON.posted : Loc := ⟨0x19848, 32, 32, 0x0⟩
/-! DG_SCRUB_SUM, 13_integrity_and_audit.md -/
def DG_SCRUB_SUM.checked (c : Nat) : Loc := ⟨0x19900 + 0x10 * c, 0, 32, 0x0⟩
def DG_SCRUB_SUM.located (c : Nat) : Loc := ⟨0x19900 + 0x10 * c, 32, 16, 0x0⟩
def DG_SCRUB_SUM.unlocated (c : Nat) : Loc := ⟨0x19900 + 0x10 * c, 48, 16, 0x0⟩
/-! DG_SCRUB_FIX, 13_integrity_and_audit.md -/
def DG_SCRUB_FIX.posted (c : Nat) : Loc := ⟨0x19908 + 0x10 * c, 0, 16, 0x0⟩
def DG_SCRUB_FIX.rewritten (c : Nat) : Loc := ⟨0x19908 + 0x10 * c, 16, 16, 0x0⟩
def DG_SCRUB_FIX.readfail (c : Nat) : Loc := ⟨0x19908 + 0x10 * c, 32, 16, 0x0⟩
def DG_SCRUB_FIX.skipped (c : Nat) : Loc := ⟨0x19908 + 0x10 * c, 48, 16, 0x0⟩
/-! DG_SCRUB_LOG, 13_integrity_and_audit.md -/
def DG_SCRUB_LOG.row (i : Nat) : Loc := ⟨0x19980 + 0x8 * i, 0, 28, 0x0⟩
def DG_SCRUB_LOG.region (i : Nat) : Loc := ⟨0x19980 + 0x8 * i, 28, 6, 0x0⟩
def DG_SCRUB_LOG.stack (i : Nat) : Loc := ⟨0x19980 + 0x8 * i, 34, 5, 0x0⟩
def DG_SCRUB_LOG.finding (i : Nat) : Loc := ⟨0x19980 + 0x8 * i, 39, 3, 0x0⟩
def DG_SCRUB_LOG.bank (i : Nat) : Loc := ⟨0x19980 + 0x8 * i, 42, 1, 0x0⟩
def DG_SCRUB_LOG.ctx (i : Nat) : Loc := ⟨0x19980 + 0x8 * i, 43, 2, 0x0⟩
def DG_SCRUB_LOG.valid (i : Nat) : Loc := ⟨0x19980 + 0x8 * i, 63, 1, 0x0⟩
/-! DG_DIV_T, 13_integrity_and_audit.md -/
def DG_DIV_T.time (i : Nat) : Loc := ⟨0x19A00 + 0x10 * i, 0, 64, 0x0⟩
/-! DG_DIV_INFO, 13_integrity_and_audit.md -/
def DG_DIV_INFO.ts_cap (i : Nat) : Loc := ⟨0x19A08 + 0x10 * i, 0, 16, 0x0⟩
def DG_DIV_INFO.ts_max (i : Nat) : Loc := ⟨0x19A08 + 0x10 * i, 16, 16, 0x0⟩
def DG_DIV_INFO.tag (i : Nat) : Loc := ⟨0x19A08 + 0x10 * i, 32, 8, 0x0⟩
def DG_DIV_INFO.window (i : Nat) : Loc := ⟨0x19A08 + 0x10 * i, 40, 4, 0x0⟩
def DG_DIV_INFO.ctx (i : Nat) : Loc := ⟨0x19A08 + 0x10 * i, 44, 2, 0x0⟩
def DG_DIV_INFO.minority (i : Nat) : Loc := ⟨0x19A08 + 0x10 * i, 46, 1, 0x0⟩
def DG_DIV_INFO.nomaj (i : Nat) : Loc := ⟨0x19A08 + 0x10 * i, 47, 1, 0x0⟩
def DG_DIV_INFO.step (i : Nat) : Loc := ⟨0x19A08 + 0x10 * i, 48, 16, 0x0⟩
/-! DG_LOAD_TAG, 13_integrity_and_audit.md -/
def DG_LOAD_TAG.tag (c : Nat) : Loc := ⟨0x19C08 + 0x8 * c, 0, 8, 0x0⟩
/-! DG_SUS_CFG, 13_integrity_and_audit.md -/
def DG_SUS_CFG.thresh : Loc := ⟨0x19C28, 0, 8, 0x3⟩
def DG_SUS_CFG.decay : Loc := ⟨0x19C28, 8, 16, 0x3E8⟩
def DG_SUS_CFG.par_thresh : Loc := ⟨0x19C28, 24, 8, 0x10⟩
def DG_SUS_CFG.lane_thresh : Loc := ⟨0x19C28, 32, 8, 0x4⟩
/-! DG_SUS_STAT, 13_integrity_and_audit.md -/
def DG_SUS_STAT.score : Loc := ⟨0x19C30, 0, 8, 0x0⟩
def DG_SUS_STAT.raised : Loc := ⟨0x19C30, 8, 16, 0x0⟩
def DG_SUS_STAT.peers : Loc := ⟨0x19C30, 24, 5, 0x0⟩
def DG_SUS_STAT.next : Loc := ⟨0x19C30, 29, 5, 0x0⟩
/-! DG_DWIN_CFG, 13_integrity_and_audit.md -/
def DG_DWIN_CFG.region (c : Nat) (w : Nat) : Loc := ⟨0x1A000 + 0x400 * c + 0x40 * w, 0, 6, 0x0⟩
def DG_DWIN_CFG.lo (c : Nat) (w : Nat) : Loc := ⟨0x1A000 + 0x400 * c + 0x40 * w, 6, 6, 0x0⟩
def DG_DWIN_CFG.pair (c : Nat) (w : Nat) : Loc := ⟨0x1A000 + 0x400 * c + 0x40 * w, 12, 1, 0x0⟩
def DG_DWIN_CFG.bins (c : Nat) (w : Nat) : Loc := ⟨0x1A000 + 0x400 * c + 0x40 * w, 13, 1, 0x0⟩
def DG_DWIN_CFG.every (c : Nat) (w : Nat) : Loc := ⟨0x1A000 + 0x400 * c + 0x40 * w, 14, 8, 0x1⟩
def DG_DWIN_CFG.t (c : Nat) (w : Nat) : Loc := ⟨0x1A000 + 0x400 * c + 0x40 * w, 22, 24, 0x0⟩
def DG_DWIN_CFG.cfg_err (c : Nat) (w : Nat) : Loc := ⟨0x1A000 + 0x400 * c + 0x40 * w, 62, 1, 0x0⟩
def DG_DWIN_CFG.enable (c : Nat) (w : Nat) : Loc := ⟨0x1A000 + 0x400 * c + 0x40 * w, 63, 1, 0x0⟩
/-! DG_DWIN_FIRST, 13_integrity_and_audit.md -/
def DG_DWIN_FIRST.first (c : Nat) (w : Nat) : Loc := ⟨0x1A008 + 0x400 * c + 0x40 * w, 0, 40, 0x0⟩
/-! DG_DWIN_COUNT, 13_integrity_and_audit.md -/
def DG_DWIN_COUNT.count (c : Nat) (w : Nat) : Loc := ⟨0x1A010 + 0x400 * c + 0x40 * w, 0, 40, 0x0⟩
/-! DG_DWIN_P0, 13_integrity_and_audit.md -/
def DG_DWIN_P0.p0 (c : Nat) (w : Nat) : Loc := ⟨0x1A018 + 0x400 * c + 0x40 * w, 0, 40, 0x0⟩
/-! DG_DWIN_CAP, 13_integrity_and_audit.md -/
def DG_DWIN_CAP.digest (c : Nat) (w : Nat) : Loc := ⟨0x1A020 + 0x400 * c + 0x40 * w, 0, 64, 0x0⟩
/-! DG_DWIN_STEP, 13_integrity_and_audit.md -/
def DG_DWIN_STEP.step (c : Nat) (w : Nat) : Loc := ⟨0x1A028 + 0x400 * c + 0x40 * w, 0, 64, 0x0⟩
/-! DG_DWIN_WR, 13_integrity_and_audit.md -/
def DG_DWIN_WR.writes (c : Nat) (w : Nat) : Loc := ⟨0x1A030 + 0x400 * c + 0x40 * w, 0, 64, 0x0⟩
/-! DG_DWIN_BIN, 13_integrity_and_audit.md -/
def DG_DWIN_BIN.digest (c : Nat) (w : Nat) (b : Nat) : Loc := ⟨0x1C000 + 0x2000 * c + 0x200 * w + 0x8 * b, 0, 64, 0x0⟩
/-! SL_CORE_OUT, 13_integrity_and_audit.md -/
def SL_CORE_OUT.out (n : Nat) : Loc := ⟨0x40108 + 0x1000 * n, 0, 42, (fget (SL_CORE_OUT.rst n) 0 42)⟩
def SL_CORE_OUT.active (n : Nat) : Loc := ⟨0x40108 + 0x1000 * n, 42, 6, (fget (SL_CORE_OUT.rst n) 42 6)⟩
def SL_CORE_OUT.apply (n : Nat) : Loc := ⟨0x40108 + 0x1000 * n, 63, 1, (fget (SL_CORE_OUT.rst n) 63 1)⟩
/-! MT_STAT, 14_meter.md -/
def MT_STAT.state : Loc := ⟨0x28000, 0, 2, 0x0⟩
def MT_STAT.faults : Loc := ⟨0x28000, 8, 16, 0x0⟩
def MT_STAT.live : Loc := ⟨0x28000, 24, 1, 0x0⟩
/-! MT_ODO, 14_meter.md -/
def MT_ODO.odo : Loc := ⟨0x28008, 0, 32, 0x0⟩
def MT_ODO.segment : Loc := ⟨0x28008, 32, 16, 0x0⟩
/-! MT_FINE, 14_meter.md -/
def MT_FINE.fine : Loc := ⟨0x28010, 0, 64, 0x0⟩
/-! MT_LIVE, 14_meter.md -/
def MT_LIVE.power : Loc := ⟨0x28018, 0, 32, 0x0⟩
def MT_LIVE.volt : Loc := ⟨0x28018, 32, 16, 0x0⟩
def MT_LIVE.curr : Loc := ⟨0x28018, 48, 16, 0x0⟩
/-! MT_REC, 14_meter.md -/
def MT_REC.seq : Loc := ⟨0x28020, 0, 32, 0x0⟩
def MT_REC.flags : Loc := ⟨0x28020, 32, 8, 0x0⟩
/-! MT_HASH, 14_meter.md -/
def MT_HASH.hash (i : Nat) : Loc := ⟨0x28028 + 0x8 * i, 0, 64, 0x0⟩
/-! MT_ROM, 14_meter.md -/
def MT_ROM.checksum : Loc := ⟨0x28048, 0, 32, 0x0⟩
def MT_ROM.version : Loc := ⟨0x28048, 32, 32, 0x0⟩
/-! GL_ID, 15_dictionary_and_management.md -/
def GL_ID.designation : Loc := ⟨0x0, 0, 16, (fget GL_ID.rst 0 16)⟩
def GL_ID.rev : Loc := ⟨0x0, 16, 16, (fget GL_ID.rst 16 16)⟩
def GL_ID.serial : Loc := ⟨0x0, 32, 32, (fget GL_ID.rst 32 32)⟩
/-! GL_CAP_HEAD, 15_dictionary_and_management.md -/
def GL_CAP_HEAD.head : Loc := ⟨0x10, 0, 16, 0x80⟩
/-! GL_MG_CFG, 15_dictionary_and_management.md -/
def GL_MG_CFG.node : Loc := ⟨0x100, 0, 7, 0x0⟩
def GL_MG_CFG.bus_on : Loc := ⟨0x100, 7, 1, 0x0⟩
def GL_MG_CFG.nrate : Loc := ⟨0x100, 8, 1, 0x1⟩
def GL_MG_CFG.drate : Loc := ⟨0x100, 9, 2, 0x2⟩
def GL_MG_CFG.brs : Loc := ⟨0x100, 11, 1, 0x1⟩
/-! GL_MG_STAT, 15_dictionary_and_management.md -/
def GL_MG_STAT.nmt : Loc := ⟨0x108, 0, 2, 0x0⟩
def GL_MG_STAT.bus_off : Loc := ⟨0x108, 2, 1, 0x0⟩
def GL_MG_STAT.passive : Loc := ⟨0x108, 3, 1, 0x0⟩
def GL_MG_STAT.cfg_err : Loc := ⟨0x108, 4, 1, 0x0⟩
def GL_MG_STAT.tec : Loc := ⟨0x108, 8, 8, 0x0⟩
def GL_MG_STAT.recv_err : Loc := ⟨0x108, 16, 8, 0x0⟩
/-! GL_MBX_REQ, 15_dictionary_and_management.md -/
def GL_MBX_REQ.index : Loc := ⟨0x110, 0, 16, 0x0⟩
def GL_MBX_REQ.sub : Loc := ⟨0x110, 16, 8, 0x0⟩
def GL_MBX_REQ.op : Loc := ⟨0x110, 24, 2, 0x0⟩
def GL_MBX_REQ.length : Loc := ⟨0x110, 32, 7, 0x0⟩
def GL_MBX_REQ.offset : Loc := ⟨0x110, 40, 8, 0x0⟩
def GL_MBX_REQ.go : Loc := ⟨0x110, 63, 1, 0x0⟩
/-! GL_MBX_STAT, 15_dictionary_and_management.md -/
def GL_MBX_STAT.busy : Loc := ⟨0x118, 0, 1, 0x0⟩
def GL_MBX_STAT.done : Loc := ⟨0x118, 1, 1, 0x0⟩
def GL_MBX_STAT.ovf : Loc := ⟨0x118, 2, 1, 0x0⟩
def GL_MBX_STAT.length : Loc := ⟨0x118, 8, 7, 0x0⟩
def GL_MBX_STAT.abort : Loc := ⟨0x118, 32, 32, 0x0⟩
/-! GL_MBX_DATA, 15_dictionary_and_management.md -/
def GL_MBX_DATA.data (i : Nat) : Loc := ⟨0x140 + 0x8 * i, 0, 64, 0x0⟩
/-! GL_FW_SRC, 15_dictionary_and_management.md -/
def GL_FW_SRC.region : Loc := ⟨0x200, 0, 6, 0x0⟩
def GL_FW_SRC.offset : Loc := ⟨0x200, 12, 28, 0x0⟩
/-! GL_FW_CTL, 15_dictionary_and_management.md -/
def GL_FW_CTL.stage : Loc := ⟨0x208, 0, 1, 0x0⟩
def GL_FW_CTL.activate : Loc := ⟨0x208, 1, 1, 0x0⟩
def GL_FW_CTL.cancel : Loc := ⟨0x208, 2, 1, 0x0⟩
/-! GL_FW_STAT, 15_dictionary_and_management.md -/
def GL_FW_STAT.state : Loc := ⟨0x210, 0, 3, 0x0⟩
def GL_FW_STAT.status : Loc := ⟨0x210, 3, 8, 0x0⟩
/-! GL_FW_VER, 15_dictionary_and_management.md -/
def GL_FW_VER.running : Loc := ⟨0x218, 0, 32, 0x0⟩
def GL_FW_VER.staged : Loc := ⟨0x218, 32, 32, 0x0⟩
/-! GL_FW_LVL, 15_dictionary_and_management.md -/
def GL_FW_LVL.level : Loc := ⟨0x220, 0, 8, 0x0⟩
def GL_FW_LVL.staged : Loc := ⟨0x220, 8, 8, 0x0⟩
def GL_FW_LVL.run_lo : Loc := ⟨0x220, 16, 8, 0x0⟩
def GL_FW_LVL.run_hi : Loc := ⟨0x220, 24, 8, 0x0⟩
def GL_FW_LVL.stg_lo : Loc := ⟨0x220, 32, 8, 0x0⟩
def GL_FW_LVL.stg_hi : Loc := ⟨0x220, 40, 8, 0x0⟩
def GL_FW_LVL.apply : Loc := ⟨0x220, 63, 1, 0x0⟩
/-! GL_IRQ_STAT, 16_integration.md -/
def GL_IRQ_STAT.cause : Loc := ⟨0x400, 0, 32, 0x0⟩
/-! GL_IRQ_EN, 16_integration.md -/
def GL_IRQ_EN.en : Loc := ⟨0x408, 0, 32, 0x0⟩
/-! GL_TS, 16_integration.md -/
def GL_TS.code : Loc := ⟨0x410, 0, 16, 0x0⟩
def GL_TS.stale : Loc := ⟨0x410, 16, 1, 0x0⟩
def GL_TS.max_clr : Loc := ⟨0x410, 17, 1, 0x0⟩
def GL_TS.max : Loc := ⟨0x410, 32, 16, 0x8000⟩
/-! GL_RST_STAT, 16_integration.md -/
def GL_RST_STAT.cause : Loc := ⟨0x418, 0, 2, 0x0⟩
/-! GL_MEMPRI, 16_integration.md -/
def GL_MEMPRI.floor : Loc := ⟨0x1F08, 0, 6, 0xF⟩
def GL_MEMPRI.cfg_err : Loc := ⟨0x1F08, 6, 1, 0x0⟩
/-! GL_PWR, 16_integration.md -/
def GL_PWR.ramp : Loc := ⟨0x1F10, 0, 8, 0x8⟩
/-! SL_RETRAIN, 16_integration.md -/
def SL_RETRAIN.req (n : Nat) : Loc := ⟨0x40110 + 0x1000 * n, 0, 32, 0x0⟩
def SL_RETRAIN.chan (n : Nat) : Loc := ⟨0x40110 + 0x1000 * n, 32, 5, 0x0⟩
def SL_RETRAIN.granted (n : Nat) : Loc := ⟨0x40110 + 0x1000 * n, 37, 1, 0x0⟩
def SL_RETRAIN.grants (n : Nat) : Loc := ⟨0x40110 + 0x1000 * n, 48, 16, 0x0⟩

end Sys2Proof.Machine
end

