-- ==== Sys2Proof/Syntax.lean ====
section
/-! DEFINITION. The commands of the block: one constructor for each row of spec/opcode_table.json, in the table's
order. A row that starts a queued command names its queue; a row that is a CTL write carries the written word where
the register holds more than the action bit; a row that is a message carries the bytes that arrived. -/

namespace Sys2Proof

/-- What a parity error touched, for the actions of R413. -/
inductive ParitySite where
  | command (c : Ctx) (q : Que) (e : Ent)
  | message (bytes : List Byte)
  | decodeEntry
  | touchMap
  | mendList (n : Slice) (j : Chan)
  | sequencer
  | reportEntry (i : Nat)
  | inboundEntry (i : Fin 256)
  | unread
  deriving DecidableEq, Repr

/-- A USDO request as the server reads it from the frame (R478): the frame's own layout is CiA 1301's. -/
inductive UsdoRequest where
  | read (index : W16) (sub : Byte)
  | write (index : W16) (sub : Byte) (data : List Byte)
  | beginWrite (index : W16) (sub : Byte) (length : Nat)
  | beginRead (index : W16) (sub : Byte)
  | segmentIn (data : List Byte) (last : Bool)
  | segmentOut
  deriving DecidableEq, Repr

/-- The NMT commands of the meter's channel that change its state (R476). -/
inductive NmtCommand where
  | start | stop | preOperational
  deriving DecidableEq, Repr

/-- The direction of a CAN error (R472). -/
inductive CanError where
  | transmit | receive
  deriving DecidableEq, Repr

/-- The width of a CTL access: 32 and 64 bits are accepted, any other reads as zero and writes nothing (R10). -/
inductive AccessSize where
  | byte | half | word | dword
  deriving DecidableEq, Repr

/-- The bytes of a CTL access. -/
def AccessSize.bytes : AccessSize → Nat
  | .byte => 1
  | .half => 2
  | .word => 4
  | .dword => 8

/-- Where a CTL read goes and how wide it is (R10). -/
structure CtlAccess where
  off : Nat
  size : AccessSize
  deriving DecidableEq, Repr

/-- The commands and events of the block. -/
inductive Instr where
  | nop (c : Ctx) (q : Que)
  | waitHall (c : Ctx) (q : Que)
  | hallWaitDone (c : Ctx) (q : Que) (e : Ent)
  | regionCopy (c : Ctx) (q : Que)
  | stableLoad (c : Ctx) (q : Que)
  | stableEvict (c : Ctx) (q : Que)
  | update (c : Ctx) (q : Que)
  | precondRefresh (c : Ctx) (q : Que)
  | put (c : Ctx) (q : Que)
  | get (c : Ctx) (q : Que)
  | collective (c : Ctx) (q : Que)
  | norm (c : Ctx) (q : Que)
  | stepEnd (c : Ctx) (q : Que)
  | prepareWritersDone (c : Ctx)
  | voteCast (c : Ctx)
  | parityAudit (c : Ctx) (q : Que)
  | scrub (c : Ctx) (q : Que)
  | digestCompare (c : Ctx) (q : Que)
  | drain (c : Ctx) (q : Que)
  | exportCmd (c : Ctx) (q : Que)
  | jobLoad (c : Ctx) (q : Que)
  | broadcastWaitExpiry (c : Ctx) (q : Que) (e : Ent)
  | importCmd (c : Ctx) (q : Que)
  | doorbell (c : Ctx) (q : Que) (tail : Fin 64)
  | commandStart (c : Ctx) (q : Que)
  | commandTimeout (c : Ctx) (q : Que) (e : Ent)
  | resultSlotRelease (c : Ctx) (q : Que) (e : Ent)
  | slotReadLatch (req : Nat) (c : Ctx) (q : Que) (e : Ent) (byte : Fin 16) (wide : Bool)
  | halfReadLatch (req : Nat) (read : CtlAccess)
  | fastIncrement (c : Ctx) (evt : Fin 32) (add : W32)
  | contextStart (c : Ctx)
  | contextHold (c : Ctx)
  | contextResume (c : Ctx)
  | preemptHold (c : Ctx)
  | preemptRelease (c : Ctx)
  | deferredHold (c : Ctx)
  | teardown (c : Ctx)
  | teardownTimeout (c : Ctx)
  | teardownNoticeTimeout (c : Ctx)
  | teardownComplete (c : Ctx)
  | contextPurge (c : Ctx)
  | regionCfgWrite (n : Fin 64) (v : W64)
  | memoryWriteAccept (n : Slice) (tag : Fin 4096)
  | memoryReadResponse (n : Slice) (tag : Fin 4096) (err : Bool) (data : BitVec 2048)
  | retrainRequest (n : Slice) (j : Chan)
  | retrainGrant (n : Slice) (j : Chan)
  | retrainDone (n : Slice) (j : Chan)
  | retrainFail (n : Slice) (j : Chan)
  | channelFail (n : Slice) (j : Chan)
  | memoryPortState (n : Slice) (up : Bool)
  | mendRow (n : Slice) (j : Chan)
  | htStrobe (count : W64)
  | htStrobeLost
  | htFreerunAdvance
  | htFallbackChange (flag : Bool)
  | tickEnable (c : Ctx) (v : W64)
  | tickBoundary (c : Ctx)
  | allowanceExhausted (c : Ctx)
  | saturationWindowEnd (mem lane fab drn yoke : Fin 1025)
  | vote (bytes : List Byte)
  | halt (bytes : List Byte)
  | flip (c : Ctx)
  | cmAbort (bytes : List Byte)
  | query (bytes : List Byte)
  | voteTimeout (c : Ctx)
  | decisionQueryTimeout (c : Ctx)
  | inDoubtTimeout (c : Ctx)
  | novoteTimeout (c : Ctx) (off : Bool) (child : Nat)
  | resolve (c : Ctx)
  | applyEpoch (c : Ctx)
  | commitEpochEffect (c : Ctx)
  | fence (bytes : List Byte)
  | unfence (c : Ctx)
  | yokeMapApply
  | yokeRemap (mismatch : Option (Fin 130 × Fin 130))
  | yokeTestStart
  | yokeCheckPattern (mismatch : Option (Fin 130 × Fin 130))
  | decodeTableComplete
  | bulkDecode (c : Ctx) (epoch : W16) (erased : List Nat) (shards : List (List Byte))
  | trdDoorbell (c : Ctx) (stream : Fin 64) (unit : W32)
  | groupValidate (c : Ctx) (g : Fin 16) (v : W64)
  | trdWatermarkWrite (c : Ctx) (stream : Fin 64) (wmark : W32)
  | slotAdmit (c : Ctx) (gcn : W32) (tile : Nat)
  | cDesc (bytes : List Byte)
  | cRec (bytes : List Byte)
  | cHdr (bytes : List Byte)
  | cPart (bytes : List Byte)
  | cRes (bytes : List Byte)
  | cCredit (bytes : List Byte)
  | cAck (bytes : List Byte)
  | cSplit (bytes : List Byte)
  | cSplitrep (bytes : List Byte)
  | cAbort (bytes : List Byte)
  | teamForm (c : Ctx)
  | formationTimeout (c : Ctx)
  | form (bytes : List Byte)
  | teamApply (c : Ctx)
  | teamApplyEffect (c : Ctx)
  | teamDissolve (c : Ctx)
  | delta (bytes : List Byte)
  | fragAck (bytes : List Byte)
  | fragDrop (bytes : List Byte)
  | fetch (bytes : List Byte)
  | fetchData (bytes : List Byte)
  | stbReady (bytes : List Byte)
  | stbDone (bytes : List Byte)
  | stableRecode (slot : Fin 16)
  | putData (bytes : List Byte)
  | inboundGranuleUpdate (n : Slice) (granule : Nat)
  | putAck (bytes : List Byte)
  | getReq (bytes : List Byte)
  | getData (bytes : List Byte)
  | genNotice (bytes : List Byte)
  | genAck (bytes : List Byte)
  | drop (bytes : List Byte)
  | jobBcast (bytes : List Byte)
  | report (bytes : List Byte)
  | creditWord (link : Fin 19) (bytes : List Byte)
  | laneDown (p : Fin 18)
  | laneUp (p : Fin 18)
  | laneMapApply (v : W64)
  | laneMapRebuild
  | inqPeakClear
  | drnResponse (header : List Byte) (data : List Byte)
  | reportWindowEnd (subject : W16) (kind : Byte)
  | reportRelease (i : Fin 256)
  | watchdogKick
  | watchdogExpiry
  | sequencerRestart
  | blockReset
  | collectionEnd
  | fillDone (bad : Option W16) (stale failed : List (Slice × Chan))
  | rebuildJoin (c : Ctx)
  | rebuildStart (c : Ctx)
  | rebuildAbandon (c : Ctx)
  | bind (c : Ctx) (v : W64)
  | clearLog (c : Ctx)
  | parityError (k : Fin 8) (macroId : W16) (site : ParitySite)
  | digestWindowEnable (c : Ctx) (w : Fin 16) (v : W64)
  | coreMapApply (n : Slice) (v : W64)
  | coreRemap (n : Slice)
  | meterPowerGood (romCrc : W32)
  | meterSample (volt curr : Int)
  | burnReadback (blown : Bool)
  | recordPeriodEnd
  | timebaseFault
  | timebaseRecovery
  | meterNmtReset (romCrc : W32)
  | meterStagingWrite (sub : Fin 9) (v : W64)
  | calibrationProgram (v : Byte)
  | sealDateStage (v : W32)
  | sealMeter (id : W32)
  | meterTpdo (k : Fin 4)
  | meterHeartbeat
  | mgCfgWrite (v : W64)
  | nmtStart
  | nmtStop
  | nmtPreoperational
  | nmtResetNode
  | nmtResetCommunication
  | usdoRequest (r : UsdoRequest)
  | usdoSessionTimeout
  | heartbeat
  | tpdo (k : Fin 4)
  | busOffRecovery
  | mailboxRequest (v : W64)
  | mailboxComplete
  | firmwareStage
  | firmwareCheckDone (image : List Byte)
  | firmwareActivate
  | firmwareActivation (image : List Byte)
  | firmwareCancel
  | levelApply (v : W64)
  | levelApplyEffect
  | pgRstAssert
  | pgRstRelease
  | tsCode (code : W16)
  | tsStale
  | tsMaxClear
  | wirUpdate (code : Byte)
  | mbist (bad : Option W16)
  | fuseRead
  | testExit
  | registerWrite (req : Nat) (off : Nat) (size : AccessSize) (v : W64)
  | fenceAck (bytes : List Byte)
  | unknownMessageType (bytes : List Byte)
  | sequencerRestartDone (image : List Byte)
  | meterPowerGoodFall
  | busError (kind : CanError)
  | meterNmtCommand (cmd : NmtCommand)
  | meterHeartbeatTimeWrite (ms : W16)
  deriving DecidableEq, Repr

end Sys2Proof
end

