-- ==== Sys2Proof/Machine/State.lean ====
section
/-! DEFINITION. The state of the block as plain data, the reasons a step can stop, and the state after PG_RST_N.

Every field of the register tables (spec/03 to spec/16) lives in `regs` under its own Loc of Machine/Regs.lean; a field
that is not listed holds its reset value. What the spec gives the block beside its registers (rings, result slots,
latches, running work, mend lists, outstanding requests, queues, timers, kept notices and so on) stands in the other
fields. -/

namespace Sys2Proof.Machine

/-- Why a step stops. -/
inductive Fault where
  /-- Raised by a response row (a memory or DRN answer) that answers no outstanding request: the surroundings broke
  R502 or R518, and the spec gives the block no behaviour for it. Safe: the model stops. -/
  | noRequest
  /-- Raised by a row whose operands cannot stand for the row's event (a message row whose bytes carry another type, a
  link number the block does not have). Safe: no such event exists. -/
  | illFormed
  deriving DecidableEq, Repr

/-- Why a step refuses. -/
inductive Refusal where
  /-- Raised by the dispatch for a row that has no meaning yet. Safe: the model stops. -/
  | notModelled (mnemonic : String)
  deriving DecidableEq, Repr

/-- A fabric message between its header and its trailer (R343, R345). `sgen` is byte 7 and `tag` bytes 12 to 15, which
for team traffic are the member byte and the job id; `team`, `stripe` and `step` are the fragment header's own. -/
structure Msg where
  typ : Nat
  ctx : Nat
  bit2 : Nat := 0
  ord : Nat := 0
  ver : Nat
  dst : Nat
  src : Nat
  gen : Nat := 0
  sgen : Nat := 0
  epoch : Nat := 0
  tag : Nat := 0
  team : Nat := 0
  stripe : Nat := 0
  step : Nat := 0
  body : List Byte := []
  deriving DecidableEq, Repr

/-- What the block drove on its ports, in order (R500). -/
inductive Out where
  | memRead (n tag granule cls : Nat)
  | memWrite (n tag granule cls : Nat) (bytes : List (Option Byte))
  | rtu (region : Nat) (live : Bool) (sel : Nat) (base bank : Nat)
  | sel (region : Nat) (bank : Nat)
  | grant (n j : Nat) (on : Bool)
  | dirty (n j : Nat) (on : Bool)
  | memRst (on : Bool)
  | tx (link : Nat) (bytes : List Byte)
  | credit (link cls : Nat) (absolute : Bool) (msgs units : Nat)
  | drn (header data : List Byte)
  | trdReady (on : Bool)
  | ctlRead (req : Nat) (value : Nat)
  | can (node : Nat) (id : Nat) (data : List Byte)
  | canOff (node : Nat)
  | usdo (node : Nat) (index sub : Nat) (abort : Nat) (data : List Byte)
  | wdr (bits : List Bool)
  | wrapper (wir : Nat) (meter : Bool)
  | mbist (bad : Option Nat)
  | burn (bank : Nat) (bit : Nat)
  deriving DecidableEq, Repr

/-- The life of a ring entry and its slot (R116 to R119). -/
inductive EntryPhase where
  | released | submitted | running | done
  deriving DecidableEq, Repr

/-- One ring entry's slot (R115) and what R103 keeps of its writers. -/
structure Entry where
  phase : EntryPhase := .released
  foreign : Bool := false
  prev : Nat := 0
  seq : Nat := 0
  status : Nat := 0
  flags : Nat := 0
  tag : Nat := 0
  value : Nat := 0
  deriving DecidableEq, Repr

/-- A requester's read latch (R11, R118): for a register its offset and high half, for a slot the key and the bytes
still held. -/
inductive Latch where
  | reg (off : Nat) (high : Nat)
  | slot (key : Nat) (bytes : List (Nat × Byte))
  deriving DecidableEq, Repr

/-- A range of logical bytes of a region in one bank: `sc` names the scale bytes of a K8 region (R61). -/
structure Span where
  r : Nat
  k : Nat
  sc : Bool := false
  lo : Nat
  n : Nat
  deriving DecidableEq, Repr

/-- One memory request on a port (R501), beside its port and tag, with its class: `job` 0 is the collection's. -/
structure MemReq where
  job : Nat
  granule : Nat
  write : Bool
  region : Nat
  bank : Nat
  pre : Bool := false
  cls : Nat := 1
  deriving DecidableEq, Repr

/-- Rows of one region on a mend list (R80). -/
structure MendEnt where
  region : Nat
  first : Nat
  count : Nat
  deriving DecidableEq, Repr

/-- Where one piece of the block's work belongs. -/
inductive Owner where
  | cmd (c q e : Nat)
  | delta (m : Msg)
  | fetch (m : Msg)
  | serve (m : Msg)
  | inbound (ids : List Nat)
  | getData
  | mend (n j region row : Nat)
  | bind (c : Nat)
  | rebuild (c : Nat)
  | recode (slot : Nat)
  deriving DecidableEq, Repr

/-- What a running piece of work waits for when it has no memory work left. -/
inductive Hold where
  | run
  | hall (t : Nat)
  | prepare
  | vote
  | coll
  | coding
  | evict
  | drn
  | fabric
  | parts
  deriving DecidableEq, Repr

/-- Memory work of a running piece of work, in order: what it reads and writes, unit by unit. -/
inductive Seg where
  /-- The whole region copied from one bank to another, a stripe row a unit (R69, R387). -/
  | bankCopy (r from_ to_ : Nat)
  /-- Part of a region's area copied from one bank to another: bytes [lo, hi) (R162, R200). -/
  | rangeCopy (r from_ to_ : Nat) (sc : Bool) (lo hi : Nat)
  /-- Bytes copied between regions, a destination row a unit (R108, R109). -/
  | copyBytes (src sb : Nat) (sc : Bool) (soff dst db : Nat) (doff n : Nat)
  /-- Given bytes written at a logical byte of a region (the step record, imported data, received data). -/
  | put (r k : Nat) (sc : Bool) (lo : Nat) (bytes : List Byte)
  /-- Runs of bytes at logical bytes of a region that all lie in one granule, written in one read-modify-write (R362). -/
  | granule (r : Nat) (runs : List (Nat × List Byte))
  /-- Zeros written, 4,096 bytes a unit (R287). -/
  | zero (r k lo n : Nat)
  /-- The holder's copy of untouched parity fragments (R282). -/
  | parityCopy (full : Bool)
  /-- The sweep or full delivery over the state image (R278). -/
  | sweep (full : Bool)
  /-- A fragment of the image read back and sent whole in pair mode (R276). -/
  | pairSend (f : Nat)
  /-- A delta applied at a holder (R281) or a contribution in CODING (R287). -/
  | apply
  /-- A fragment read and answered (R292), or decoded and answered (R382). -/
  | answerFetch
  /-- A stripe of a parity audit (R296). -/
  | audit (image first count : Nat)
  /-- The fragments of a slot image sent as deltas (R287 step 4). -/
  | codeSlot (slot : Nat)
  /-- The requests of a PUT or a GET (R356). -/
  | putReqs
  | getReqs
  /-- The data of a GET_REQ read and sent (R357). -/
  | answerGet
  /-- The fetches of a rebuild, a stripe a unit (R381). -/
  | rebuild
  /-- The fragments of a decode for a rebuilding member (R382). -/
  | decodeFor
  /-- The step record read for a bind (R387). -/
  | bindRead
  /-- One mended row (R81). -/
  | mend
  /-- UPDATE over a stripe row of its group (chapter 06). -/
  | update
  /-- PRECOND_REFRESH over n half units: the products of a weight block, then its writes (chapter 07). -/
  | precond (n : Nat)
  /-- The local contributions of one tile of a collective read for the first round trip, and for the second (R224). -/
  | tile (t : Nat)
  | tileB (t : Nat)
  /-- The result of a tile written (R224). -/
  | tileW (t : Nat)
  /-- The elements of a NORM read for the first or the second round trip (R252). -/
  | norm (pass : Nat)
  /-- Rows of a farrier pass (chapter 13). -/
  | scrub
  /-- The step record read for a manifest (R398). -/
  | recordRead
  /-- Elements read for a drain, digested, and written to the object by a writer (R398). -/
  | drnDump (r k : Nat) (sc : Bool) (lo n off : Nat)
  /-- Bytes written to the object at an offset (R398, R518). -/
  | drnPut (off : Nat) (bytes : List Byte)
  /-- Bytes of the object read (R518). -/
  | drnGet (off n : Nat)
  /-- Bytes of the object read and written into a region (R109, R409). -/
  | drnLoad (r k : Nat) (sc : Bool) (lo n off : Nat)
  deriving DecidableEq, Repr

/-- What an UPDATE samples and computes when it starts (R169, R188): the descriptor's choices, and K32 words. -/
structure UpdPar where
  kind : Nat := 0
  decay : Nat := 0
  elemAct : Nat := 0
  accum : Bool := false
  beta1 : Nat := 0
  beta2 : Nat := 0
  eps : Nat := 0
  lambda : Nat := 0
  clipElem : Nat := 0
  elemMax : Nat := 0
  betaF : Nat := 0
  eta : Nat := 0
  c : Nat := 0
  ob1 : Nat := 0
  ob2 : Nat := 0
  bc1 : Nat := 0
  bc2 : Nat := 0
  deriving DecidableEq, Repr

/-- A tile of a collective in its reduction slot, or the lane set of a NORM (R224, R244): its tree, whether it holds its
slot, its record and the children's, the header, lane sums (`acc`) or lane values (`vals`), children's partials, and
its result on the way to the children and to memory. -/
structure GsTile where
  t : Nat
  tr : Nat
  held : Bool := true
  busy : Bool := false
  own : Bool := false
  e : Int := -32768
  nf : Bool := false
  recs : List Nat := []
  up : Bool := false
  hdr : Option Int := none
  conv : Bool := false
  acc : List Int := []
  vals : List Nat := []
  parts : List Nat := []
  sent : Bool := false
  acked : Bool := false
  res : Option (List Byte) := none
  fwd : Bool := false
  wrote : Bool := false
  abort : Bool := false
  deriving DecidableEq, Repr

/-- What a COLLECTIVE or NORM holds besides its command (R220 to R227, R248): admitted tiles, the tiles credited in each
tree, results that wait in their buffer for their tile's slot (R236, R359), the descriptor records, split values by block with their times and counts, the group's size, what a DIGEST_COMPARE samples and
receives (R430, R433), and the status of an abort notice. -/
structure GsJob where
  tiles : List GsTile := []
  next : Nat := 0
  done : Nat := 0
  nf : Nat := 0
  written : List (Nat × Nat) := []
  cred : Tbl (List (Nat × Nat)) := []
  kids : List Nat := []
  cnt : Nat := 0
  mism : Bool := false
  descUp : Bool := false
  down : Option (Nat × Bool) := none
  fixed : Bool := false
  ns : Tbl Nat := []
  nearSent : Tbl Nat := []
  offSent : Tbl Nat := []
  nearAt : Tbl Nat := []
  offAt : Tbl Nat := []
  lateAt : Option Nat := none
  early : List Msg := []
  size : Nat := 0
  samp : List Nat := []
  words : Tbl (List Nat) := []
  abortSt : Option Nat := none
  deriving DecidableEq, Repr

/-- One running piece of work: a started command, or an engine of the block. `pos` is the fault offset that its
acknowledged writes have reached (R90), and `adv` what the unit whose writes are out adds to it.
`ending` is the status of work that was ended early, with its value; none stands for the fault offset. `tick` is the tick
a command belongs to (R140), `fresh` holds in pair mode the new bytes of the fragments in `frags` and the ranges of them that
were written (R276), and `ways` are the staging ways that its buffers are confined to (R96). -/
structure Job where
  id : Nat
  owner : Owner
  ctx : Nat
  opcode : Nat := 0
  cls : Nat := 1
  entry : List Byte := []
  stamp : Nat := 0
  tick : Option Nat := none
  segs : List Seg := []
  unit : Nat := 0
  exed : Bool := false
  got : Tbl (List Byte) := []
  bad : List Nat := []
  out : Nat := 0
  hold : Hold := .run
  paused : Bool := false
  ending : Option (Nat × Option Nat) := none
  pos : Nat := 0
  adv : Nat := 0
  degraded : Bool := false
  status : Nat := 0
  value : Nat := 0
  sel : Nat := 0
  refs : List Nat := []
  slots : List Nat := []
  buf : List Byte := []
  acc : List Nat := []
  frags : Tbl (List Byte) := []
  fresh : Tbl (List Byte × List (Nat × Nat)) := []
  stage : Nat := 0
  engine : Nat := 4
  bytesDone : Nat := 0
  readDone : Nat := 0
  hallAt : Nat := 0
  upd : UpdPar := {}
  gs : GsJob := {}
  ways : Nat := 0
  deriving DecidableEq, Repr

/-- The hidden state of a context (R92, R120, R124, R126, R128). -/
structure CtxS where
  hostHeld : Bool := false
  preHeld : Bool := false
  deferHost : Bool := false
  deferPre : Bool := false
  heldAcc : Nat := 0
  heldAt : Nat := 0
  preIdle : Option Nat := none
  tdAt : Nat := 0
  tdNotice : List Nat := []
  tdNoticed : Bool := false
  oldGen : Nat := 0
  gcn : Option Nat := none
  deriving DecidableEq, Repr

/-- One debt entry of a context's ticks (R145). -/
structure DebtEnt where
  tick : Nat
  size : Nat
  paid : Nat
  deriving DecidableEq, Repr

/-- A tick whose commit path may still run: its deadline, and how much of its overrun its debt entry holds (R140). -/
structure TickEnd where
  tick : Nat
  due : Nat
  seen : Nat := 0
  deriving DecidableEq, Repr

/-- The hidden state of a context's tick planner (chapter 05): `off` is a disable that waits for the next boundary. -/
structure TickS where
  next : Nat := 0
  start : Nat := 0
  period : Nat := 0
  cp : Nat := 0
  floor : Nat := 0
  debts : List DebtEnt := []
  ends : List TickEnd := []
  charged : Option Nat := none
  off : Bool := false
  deriving DecidableEq, Repr

/-- A vote as R315 combines it. -/
structure VoteRec where
  epoch : Nat
  cseq : Nat
  step : Nat
  stride : Nat
  bind : Nat
  cnt : Nat
  noRank : Nat
  reason : Nat
  no : Bool
  mism : Bool
  deriving DecidableEq, Repr

/-- A decision or notice a member keeps (R321, R322): a halt with its H or an abort. -/
structure Notice where
  cseq : Nat
  halt : Bool
  h : Nat
  step : Nat
  rank : Nat
  reason : Nat
  epoch : Nat
  deriving DecidableEq, Repr

/-- Whose writes reached a banked region in the interval: the UPDATEs of a group, refreshes, or another command (R161). -/
inductive Writer where
  | update (group : Nat)
  | refresh
  | other
  deriving DecidableEq, Repr

/-- The hidden state of a context's commit engine (chapter 10). `votes` holds the children's votes by tree and child;
`late` is the lateness of an armed flip as R152 reports it; `cover` and `coverR` are the coverage lists of UPDATE and PRECOND_REFRESH by group (R161, R200), `others` the banked
regions written in the interval and by whom, `sentUp` what was last sent upward in each tree, and `prepared` that the
prepare of the interval has begun. -/
structure CmS where
  own : Option VoteRec := none
  votes : List (Nat × Nat × VoteRec) := []
  sentUp : Tbl VoteRec := []
  prepared : Bool := false
  notices : List Notice := []
  reason : Nat := 0
  job : Nat := 0
  stage : Nat := 0
  votedAt : Nat := 0
  queryAt : Option Nat := none
  noVoteSeen : List (Nat × Nat) := []
  fence : Option Nat := none
  epochPend : Option Nat := none
  users : List Nat := []
  late : Option Int := none
  endStatus : Option Nat := none
  abortPend : Option (Nat × Nat) := none
  writeRegions : Tbl (List (Nat × Nat)) := []
  copied : List Nat := []
  cover : Tbl (List (Nat × Nat)) := []
  coverR : Tbl (List (Nat × Nat)) := []
  others : List (Nat × Writer) := []
  deriving DecidableEq, Repr

/-- A set of team values (R260, R267). `members` holds devid and mstate of indices 0 to 15; `sparEn` allows stable coding
(R285). -/
structure TeamVals where
  mode : Nat := 0
  k : Nat := 1
  r : Nat := 1
  index : Nat := 0
  teamId : Nat := 0
  epoch : Nat := 0
  jobId : Nat := 0
  sparEn : Bool := false
  members : List (Nat × Nat) := []
  deriving DecidableEq, Repr

/-- A kept formation notice (R533) and the hall cycle it came in (R299). -/
structure FormNote where
  src : Nat
  team : Nat
  job : Nat
  epoch : Nat
  digest : Nat
  at_ : Nat
  deriving DecidableEq, Repr

/-- The hidden state of a context's team (chapter 09). `touch` is the touch map of R282. -/
structure TeamS where
  vals : TeamVals := {}
  forms : Tbl FormNote := []
  pending : Option TeamVals := none
  formAt : Nat := 0
  dissolvePend : Bool := false
  touch : List Nat := []
  fullRan : Bool := false
  deriving DecidableEq, Repr

/-- What is held for the team coding of one stable slot: the notices (R287), each context × 16 + member index, and the
indices of the members that have rejoined since the slot was coded, whose positions count as erased (R385). -/
structure StbS where
  ready : List Nat := []
  done : List Nat := []
  gone : List Nat := []
  deriving DecidableEq, Repr

/-- An outbound request that awaits its reply (R339, R356). -/
structure FabOut where
  tag : Nat
  typ : Nat
  dst : Nat
  ctx : Nat
  job : Nat
  stripe : Nat := 0
  lo : Nat := 0
  n : Nat := 0
  at_ : Nat := 0
  cseq : Nat := 0
  eng : Nat := 4
  bank : Nat := 0
  step : Nat := 0
  deriving DecidableEq, Repr

/-- An inbound request held in the REQ buffer (R359); a PUT_DATA keeps the granules not yet taken by an update and how
many updates of it are in flight (R362). -/
structure InReq where
  id : Nat
  msg : Msg
  busy : Bool := false
  todo : List Nat := []
  open_ : Nat := 0
  deriving DecidableEq, Repr

/-- The hidden state of the fabric port (chapter 11). Credits are keyed by link × 4 + class; link 18 is FAB. `laneDn`
holds the lanes whose PHY reports down, `held` the ordered messages whose acknowledgement R341 waits for, `turns` the descriptor that each engine served last
(R355). -/
structure FabS where
  txq : List Msg := []
  outs : List FabOut := []
  reqs : List InReq := []
  nextId : Nat := 0
  nextTag : Nat := 0
  msgCr : Tbl Nat := []
  datCr : Tbl Nat := []
  laneDn : List Nat := []
  rebuildPend : Bool := false
  rebuildDue : Bool := false
  held : List FabOut := []
  turns : Tbl Nat := []
  engBytes : Tbl Nat := []
  combined : Nat := 0
  deriving DecidableEq, Repr

/-- An entry of the report table (R367). -/
structure RepEnt where
  subject : Nat
  kind : Nat
  count : Nat
  first : Nat
  wstart : Nat
  deriving DecidableEq, Repr

/-- An entry of a drain log (R398, R399). -/
structure LogEnt where
  obj : Nat
  tensor : Nat
  fmt : Nat
  written : Bool
  region : Nat
  p : Nat
  count : Nat
  digest : Nat
  length : Nat
  deriving DecidableEq, Repr

/-- An outstanding request at the host storage interface (R518). -/
structure DrnReq where
  tag : Nat
  job : Nat
  ctx : Nat
  write : Bool
  len : Nat
  deriving DecidableEq, Repr

/-- What follows a collection (R370, R373). -/
inductive Reset where
  | seq | block
  deriving DecidableEq, Repr

/-- A collection in progress (R373): `waiting` for armed flips, then for its record's writes. -/
structure CollS where
  reason : Nat
  after : Reset
  start : Nat
  waiting : Bool
  deriving DecidableEq, Repr

/-- The hidden state of recovery (chapter 12): the report table, drain logs, the step of a rebuild under way, watchdog
times, a collection, whether the sequencer is down or has stopped
(R413), DRN requests, bytes drained (context × 2, elsewhere odd), and
REPORTs that wait for the sequencer. -/
structure RecS where
  reps : List RepEnt := []
  logs : Tbl (List LogEnt) := []
  rebStep : Tbl Nat := []
  kickAt : Nat := 0
  restartAt : Option Nat := none
  coll : Option CollS := none
  seqDown : Bool := false
  seqStop : Bool := false
  drns : List DrnReq := []
  drnBytes : Tbl Nat := []
  waiting : List Msg := []
  deriving DecidableEq, Repr

/-- The hidden state of the memory ports and channels (chapters 03 and 16). Channels are keyed slice × 32 + channel. -/
structure MemS where
  reqs : Tbl MemReq := []
  mend : Tbl (List MendEnt) := []
  mendFull : List Nat := []
  grants : List Nat := []
  faults : List Nat := []
  resetHigh : Bool := true
  deriving DecidableEq, Repr

/-- A poison entry (R422): the stored block of one row on one stack. A scale row is listed as rows(r) + row. -/
structure PoisonEnt where
  ctx : Nat
  region : Nat
  bank : Nat
  row : Nat
  stack : Nat
  deriving DecidableEq, Repr

/-- A digest window's live accumulator, bins, write count and flips since enable, with the values at the context's last
flip (R426, R427), the largest TS code since the period began, and the codes and tag of the last capture (R433). -/
structure WinS where
  acc : Nat := 0
  bins : Tbl Nat := []
  writes : Nat := 0
  flips : Nat := 0
  acc0 : Nat := 0
  bins0 : Tbl Nat := []
  writes0 : Nat := 0
  tsRun : Nat := 0x8000
  tsCap : Nat := 0
  tsMax : Nat := 0
  tagCap : Nat := 0
  deriving DecidableEq, Repr

/-- The hidden state of integrity (chapter 13). -/
structure IntS where
  poison : List PoisonEnt := []
  wins : Tbl WinS := []
  logNext : Nat := 0
  divNext : Nat := 0
  peers : List (Nat × Nat) := []
  flips : Nat := 0
  parSeen : Tbl Nat := []
  deriving DecidableEq, Repr

/-- An open segmented dictionary session (R478): a write collects its bytes, a read hands them out. -/
structure Session where
  index : Nat
  sub : Nat
  write : Bool
  total : Nat
  data : List Byte
  at_ : Nat
  deriving DecidableEq, Repr

/-- The hidden state of management and firmware (chapter 15): communication objects, EMCY inhibits and the conditions
that were active, timers, the image's place, what an activation or level apply waits for. -/
structure MgmtS where
  holdStep : Bool := false
  inhibit : Nat := 1000
  hbTime : Nat := 1000
  timers : List Nat := [100, 1000, 1000, 1000]
  rstAction : Nat := 0
  emcyAt : Tbl Nat := []
  anyCond : Bool := false
  hbAt : Nat := 0
  hbDue : Bool := false
  tpdoAt : List Nat := [0, 0, 0, 0]
  session : Option Session := none
  fwPrev : Nat := 0
  fwImg : Option (Nat × Nat) := none
  fwStg : Option (Nat × Nat) := none
  fwChk : Nat × Nat := (0, 0)
  fwFirst : Bool := false
  restart : Bool := false
  levelPend : Option Nat := none
  deriving DecidableEq, Repr

/-- The hidden state of the yoke and of core remaps (R205, R207, R210, R437): requests that wait for their point, the
half under building with the context it serves, and what the last bulk decode returned to the sequencer. -/
structure YokeS where
  applyPend : Bool := false
  applyDue : Bool := false
  testPend : Bool := false
  build : Option Nat := none
  buildCtx : Nat := 0
  corePend : List Nat := []
  coreDue : List Nat := []
  result : Option (Nat × List (List Byte)) := none
  deriving DecidableEq, Repr

/-- The hidden state of chapter 08 outside its commands: hall cycles waited for split notices (R222), the units marked in
each stream's window by context × 64 + stream, and the doorbells held back on TRD (R240, R512). -/
structure GsS where
  late : Nat := 0
  marks : Tbl (List Nat) := []
  heldDb : List (Nat × Nat × Nat) := []
  deriving DecidableEq, Repr

/-- A row of one-time fuses burned from the lowest up (R456, R460): all below `top` are blown but those in `bad`, and
`tried` are those that failed since power-up. -/
structure FuseRow where
  top : Nat := 0
  bad : List Nat := []
  tried : List Nat := []
  deriving DecidableEq, Repr

/-- What a record period gathers (R446, R458): energy in units of 2^-32 millijoule, sums of voltage and current over its
samples, and its overload, timebase and counts-inactive flags. -/
structure PeriodS where
  e : Nat := 0
  v : Nat := 0
  i : Nat := 0
  n : Nat := 0
  ovl : Bool := false
  tb : Bool := false
  idle : Bool := false
  deriving DecidableEq, Repr

/-- What a record takes at the end of its period (R458): the period, the accumulator, and the counts. -/
structure RecordS where
  per : PeriodS
  acc : Nat
  samples : Nat
  steps : Nat
  coded : Nat
  ht : Nat
  deriving DecidableEq, Repr

/-- The meter domain (chapter 14). Fuses: calibration banks (the seven values of 0x5021 each), node-id, seal, odometer and
segment counter. SRAM: staging objects, accumulator (units of 2^-32 millijoule), the running period, energies of the last
100 ms, the newest codes, counts, the record chain, a fuse burn under way (odometer or segment, fuse, attempts), a record
that waits for it (R471), and the meter node's state. -/
structure MeterS where
  state : Nat := 0
  powered : Bool := false
  faults : Nat := 0
  banks : List (List Int) := []
  node : Option Nat := none
  sealed : Bool := false
  sealId : Nat := 0
  sealDate : Nat := 0
  odo : FuseRow := {}
  seg : FuseRow := {}
  stage : List Int := [0, 0, 0, 0, 0, 0, 0]
  stNode : Option Nat := none
  date : Option Nat := none
  rom : Nat := 0
  acc : Nat := 0
  per : PeriodS := {}
  recent : List Nat := []
  volt : Nat := 0
  curr : Nat := 0
  samples : Nat := 0
  steps : Nat := 0
  coded : Nat := 0
  seq : Nat := 0
  prev : List Byte := []
  record : List Byte := List.replicate 128 0#8
  failed : Nat := 0
  burn : Option (Bool × Nat × Nat) := none
  wait : Option RecordS := none
  nmt : Nat := 0
  hbTime : Nat := 1000
  due : List Nat := []
  deriving DecidableEq, Repr

/-- The whole block: registers, rings and slots, latches, queues' start times, work, and each part's hidden state; the
times of the last strobe and temperature code, PG_RST_N low, the wrapper's WIR, the count of free values used, what the
ports drove, and the commands that wait. -/
structure State where
  regs : Tbl Nat := []
  ring : Tbl Nat := []
  entries : Tbl Entry := []
  latches : Tbl Latch := []
  qstamp : Tbl Nat := []
  qhall : Tbl Nat := []
  jobs : List Job := []
  nextJob : Nat := 1
  cx : Tbl CtxS := []
  tk : Tbl TickS := []
  satPrev : Nat := 0
  mem : MemS := {}
  cm : Tbl CmS := []
  tm : Tbl TeamS := []
  stb : Tbl StbS := []
  fab : FabS := {}
  rec_ : RecS := {}
  integ : IntS := {}
  mgmt : MgmtS := {}
  yoke : YokeS := {}
  gs : GsS := {}
  meter : MeterS := {}
  strobeAt : Nat := 0
  tsAt : Nat := 0
  rstLow : Bool := false
  wir : Nat := 0
  free : Nat := 0
  out : List Out := []
  pending : List Instr := []
  deriving DecidableEq, Repr

/-- The block right after PG_RST_N is released (R12, R521): every register field at its reset value, every slot
NOT_READY, every ring entry zero (R98), no work running, the SRAM fill under way and MPnn_RST high (R523). -/
def State.reset : State := {}

end Sys2Proof.Machine
end

