-- ==== Sys2Proof/Machine/Wire.lean ====
section
/-! DEFINITION. The bytes of a fabric message (R343 to R348): CRC-32C, the two headers, encoding and parsing. -/

namespace Sys2Proof.Machine

/-- One step of the reflected CRC-32C (R344). -/
def crcBit (c : Nat) : Nat := if c % 2 = 1 then (c / 2) ^^^ 0x82F63B78 else c / 2
/-- Eight steps. -/
def crcByte (c : Nat) (b : Byte) : Nat :=
  crcBit (crcBit (crcBit (crcBit (crcBit (crcBit (crcBit (crcBit (c ^^^ b.toNat))))))))
/-- CRC-32C of a list of bytes: initial value and final exclusive-or 0xFFFF_FFFF (R344). -/
def crc32c (bs : List Byte) : Nat := (bs.foldl crcByte 0xFFFFFFFF) ^^^ 0xFFFFFFFF

/-- Whether a type belongs to the team traffic of R345. -/
def isTeamType (t : Nat) : Bool := 0x10 ≤ t && t ≤ 0x17

/-- The message types of R347. -/
def msgTypes : List Nat := [0x01, 0x02, 0x03, 0x04, 0x05, 0x06, 0x07, 0x10, 0x11, 0x12, 0x13, 0x14, 0x15, 0x16, 0x17,
  0x20, 0x21, 0x22, 0x23, 0x24, 0x25, 0x26, 0x27, 0x28, 0x29, 0x30, 0x31, 0x32, 0x33, 0x38, 0x39, 0x3A, 0x3B]

/-- The class of a type (R347): 0 REQ, 1 RSP, 2 COL, 3 CTL. -/
def msgClass (t : Nat) : Nat :=
  if t = 0x02 ∨ t = 0x04 ∨ t = 0x06 ∨ t = 0x07 ∨ t = 0x11 ∨ t = 0x12 ∨ t = 0x14 ∨ t = 0x39 then 1
  else if 0x20 ≤ t ∧ t ≤ 0x29 then 2
  else if 0x30 ≤ t then 3
  else 0

/-- Whether a type belongs to the ordered class (R347). -/
def msgOrdered (t : Nat) : Bool := t == 0x01 || t == 0x03 || t == 0x05

/-- Byte 1 of both headers. -/
def Msg.flagByte (m : Msg) : Nat := m.ctx % 4 + 4 * (m.bit2 % 2) + 8 * (m.ord % 2) + 16 * (m.ver % 16)

/-- The common header (R343). -/
def Msg.commonHeader (m : Msg) : List Byte :=
  leBytes 1 m.typ ++ leBytes 1 m.flagByte ++ leBytes 2 m.dst ++ leBytes 2 m.src ++ leBytes 1 m.gen ++ leBytes 1 m.sgen
    ++ leBytes 2 m.epoch ++ leBytes 2 m.body.length ++ leBytes 4 m.tag

/-- The fragment header of R345 with a given digest. -/
def Msg.fragHeader (m : Msg) (digest : Nat) : List Byte :=
  leBytes 1 m.typ ++ leBytes 1 m.flagByte ++ leBytes 2 m.dst ++ leBytes 2 m.src ++ leBytes 1 m.gen ++ leBytes 1 m.sgen
    ++ leBytes 2 m.epoch ++ leBytes 2 m.body.length ++ leBytes 4 m.tag ++ leBytes 2 m.team ++ leBytes 6 m.stripe
    ++ leBytes 4 digest ++ leBytes 4 m.step

/-- The message as it goes on the wire, its check last. -/
def Msg.encode (m : Msg) : List Byte :=
  if isTeamType m.typ then m.fragHeader (crc32c (m.fragHeader 0 ++ m.body)) ++ m.body
  else m.commonHeader ++ m.body ++ leBytes 4 (crc32c (m.commonHeader ++ m.body))

/-- Size on the wire. -/
def Msg.size (m : Msg) : Nat := (if isTeamType m.typ then 32 else 20) + m.body.length

/-- The fields both headers share. -/
def parseHead (bs : List Byte) : Msg :=
  let f := leAt bs 1 1
  { typ := leAt bs 0 1, ctx := f % 4, bit2 := f / 4 % 2, ord := f / 8 % 2, ver := f / 16, dst := leAt bs 2 2,
    src := leAt bs 4 2, gen := leAt bs 6 1, sgen := leAt bs 7 1, epoch := leAt bs 8 2, tag := leAt bs 12 4 }

/-- A message of the common header, when its length fits and its trailer verifies (R343, R344). -/
def parseCommon (bs : List Byte) : Option Msg :=
  let len := leAt bs 10 2
  if bs.length < 20 + len then none
  else if leAt bs (16 + len) 4 = crc32c (bs.take (16 + len)) then
    some { parseHead bs with body := (bs.drop 16).take len }
  else none

/-- A message of team traffic, when its length fits and its digest verifies (R345). -/
def parseFrag (bs : List Byte) : Option Msg :=
  let len := leAt bs 10 2
  if bs.length < 32 + len then none
  else if leAt bs 24 4 = crc32c (bs.take 24 ++ leBytes 4 0 ++ (bs.drop 28).take (4 + len)) then
    some { parseHead bs with
      team := leAt bs 16 2, stripe := leAt bs 18 6, step := leAt bs 28 4, body := (bs.drop 32).take len }
  else none

/-- The message that bytes carry, none where the check of R349's first row fails. -/
def parseMsg (bs : List Byte) : Option Msg :=
  if isTeamType (leAt bs 0 1) then parseFrag bs else parseCommon bs

/-- A field of a message body: n bytes at an offset (R348). -/
def Msg.at_ (m : Msg) (lo n : Nat) : Nat := leAt m.body lo n

/-- The fields of a message are within their widths (R343, R345, R348). -/
def Msg.wf (m : Msg) : Bool :=
  m.typ < 256 && m.ctx < 4 && m.bit2 < 2 && m.ord < 2 && m.ver < 16 && m.dst < 65536 && m.src < 65536 && m.gen < 256
    && m.sgen < 256 && m.epoch < 65536 && m.tag < 2 ^ 32 && m.body.length < 65536
    && (if isTeamType m.typ then m.team < 65536 && m.stripe < 2 ^ 48 && m.step < 2 ^ 32
        else m.team == 0 && m.stripe == 0 && m.step == 0)

end Sys2Proof.Machine
end

