-- ==== Sys2Proof/WellFormed.lean ====
section
/-! DEFINITION. Which commands can stand for an event of the block: a message row carries a message of its own type
(R347), an unknown-type row one that no other row carries, and operands name parts the block has. -/

namespace Sys2Proof

/-- The type byte of the bytes that arrived. -/
def typeOf (bytes : List Byte) : Nat := Machine.leAt bytes 0 1

/-- The version that the bytes carry (R343, R345). -/
def verOf (bytes : List Byte) : Nat := Machine.leAt bytes 1 1 / 16

/-- A message of an unlisted type, or a version-1 message outside types 0x01 to 0x07 (R347). -/
def unknownType (bytes : List Byte) : Bool :=
  !(Machine.msgTypes.contains (typeOf bytes)) || (verOf bytes == 1 && 0x07 < typeOf bytes)

/-- The operands of a command are those of an event that the block's ports can carry. -/
def WellFormed (i : Instr) : Bool :=
  match i with
  | .vote b => typeOf b == 0x30
  | .halt b => typeOf b == 0x31
  | .cmAbort b => typeOf b == 0x32
  | .query b => typeOf b == 0x33
  | .fence b => typeOf b == 0x38
  | .fenceAck b => typeOf b == 0x39
  | .cDesc b => typeOf b == 0x20
  | .cRec b => typeOf b == 0x21
  | .cHdr b => typeOf b == 0x22
  | .cPart b => typeOf b == 0x23
  | .cRes b => typeOf b == 0x24
  | .cCredit b => typeOf b == 0x25
  | .cAck b => typeOf b == 0x26
  | .cSplit b => typeOf b == 0x27
  | .cSplitrep b => typeOf b == 0x28
  | .cAbort b => typeOf b == 0x29
  | .form b => typeOf b == 0x15
  | .delta b => typeOf b == 0x10
  | .fragAck b => typeOf b == 0x11
  | .fragDrop b => typeOf b == 0x12
  | .fetch b => typeOf b == 0x13
  | .fetchData b => typeOf b == 0x14
  | .stbReady b => typeOf b == 0x16
  | .stbDone b => typeOf b == 0x17
  | .putData b => typeOf b == 0x01
  | .putAck b => typeOf b == 0x02
  | .getReq b => typeOf b == 0x03
  | .getData b => typeOf b == 0x04
  | .genNotice b => typeOf b == 0x05
  | .genAck b => typeOf b == 0x06
  | .drop b => typeOf b == 0x07
  | .jobBcast b => typeOf b == 0x3A
  | .report b => typeOf b == 0x3B
  | .unknownMessageType b => unknownType b
  | .creditWord _ b => Machine.leAt b 0 1 / 4 == 0x30 && Machine.leAt b 1 1 ≤ 1
  | .drnResponse h _ => h.length == 32
  | _ => true

end Sys2Proof
end

