-- ==== Sys2Proof/Decode.lean ====
section
/-! DEFINITION. spec/opcode_table.json gives no row any bits: a command of this block is not spelled by a table word,
so no word decodes (a ring entry's 64 bytes, R102, and a message's bytes, R343, are read by the commands themselves). -/

namespace Sys2Proof

/-- The command that a word spells by the table's bits: none, since no row of the table has bits. -/
def decodeTableWord (_nbits _w : Nat) : Option Instr := none

end Sys2Proof
end

