-- ==== Sys2Proof/Machine/RegTable.lean ====
section
/-! DEFINITION. The register tables of the CTL window as data (spec/03 to spec/16): for each register its first offset,
the strides of its indices, its width, its reset word and the bits and access code of each field (R6). A CTL access by
offset is decided from this list. -/

namespace Sys2Proof.Machine

/-- An access code of R6. -/
inductive Acc where
  | ro | rw | w1c | wo | sc | fuse
  deriving DecidableEq, Repr

/-- Where a register's reset word comes from: the table's own word, or the fuses and lane numbers of R12. -/
inductive RstKind where
  | word | lane | rowOut | colOut | ykStat | coreOut | glId
  deriving DecidableEq, Repr

/-- One index of a register array: the offset stride and how many there are. -/
structure Dim where
  stride : Nat
  count : Nat
  deriving DecidableEq, Repr

/-- The bits and access code of one field. -/
structure FieldDef where
  lo : Nat
  w : Nat
  acc : Acc
  deriving DecidableEq, Repr

/-- One register (or register array) of the CTL window. -/
structure RegDef where
  name : String
  base : Nat
  dims : List Dim
  width : Nat
  kind : RstKind
  rst : BitVec 64
  fields : List FieldDef
  deriving DecidableEq, Repr

/-- Registers with prefix GL_ (part 0). -/
def regsGL0 : List RegDef := [
  ⟨"GL_MEMCFG", 0x1F00, [], 32, .word, 0x10#64,
    [⟨0, 6, .rw⟩, ⟨6, 1, .w1c⟩]⟩,
  ⟨"GL_RGN_CFG", 0x2000, [⟨0x20, 64⟩], 64, .word, 0x0#64,
    [⟨0, 4, .rw⟩, ⟨4, 3, .rw⟩, ⟨7, 1, .rw⟩, ⟨8, 1, .rw⟩, ⟨9, 1, .rw⟩, ⟨10, 2, .rw⟩, ⟨12, 6, .rw⟩, ⟨18, 4, .rw⟩, ⟨63, 1, .rw⟩]⟩,
  ⟨"GL_RGN_LOC", 0x2008, [⟨0x20, 64⟩], 64, .word, 0x0#64,
    [⟨12, 28, .rw⟩]⟩,
  ⟨"GL_RGN_SIZE", 0x2010, [⟨0x20, 64⟩], 64, .word, 0x0#64,
    [⟨0, 40, .rw⟩]⟩,
  ⟨"GL_RGN_STAT", 0x2018, [⟨0x20, 64⟩], 64, .word, 0x0#64,
    [⟨0, 16, .ro⟩, ⟨16, 1, .ro⟩, ⟨17, 1, .w1c⟩, ⟨18, 1, .ro⟩, ⟨19, 1, .w1c⟩, ⟨24, 28, .ro⟩]⟩,
  ⟨"GL_WIN_DST", 0x3000, [⟨0x800, 4⟩, ⟨0x20, 64⟩], 64, .word, 0x0#64,
    [⟨0, 16, .rw⟩, ⟨16, 16, .rw⟩, ⟨32, 6, .rw⟩, ⟨38, 1, .rw⟩, ⟨39, 1, .rw⟩, ⟨40, 1, .rw⟩, ⟨63, 1, .rw⟩]⟩,
  ⟨"GL_WIN_OFF", 0x3008, [⟨0x800, 4⟩, ⟨0x20, 64⟩], 64, .word, 0x0#64,
    [⟨0, 48, .rw⟩]⟩,
  ⟨"GL_WIN_LIM", 0x3010, [⟨0x800, 4⟩, ⟨0x20, 64⟩], 64, .word, 0x0#64,
    [⟨0, 48, .rw⟩]⟩,
  ⟨"GL_STB_SLOT", 0x5000, [⟨0x10, 16⟩], 64, .word, 0x0#64,
    [⟨0, 3, .ro⟩, ⟨3, 1, .w1c⟩, ⟨16, 16, .ro⟩, ⟨32, 32, .ro⟩]⟩,
  ⟨"GL_STB_BYTES", 0x5008, [⟨0x10, 16⟩], 64, .word, 0x0#64,
    [⟨0, 40, .ro⟩]⟩,
  ⟨"GL_CTX_CFG", 0x6000, [⟨0x40, 4⟩], 64, .word, 0x0#64,
    [⟨0, 2, .rw⟩, ⟨2, 1, .rw⟩, ⟨3, 8, .rw⟩, ⟨11, 4, .rw⟩, ⟨15, 7, .rw⟩]⟩,
  ⟨"GL_CTX_TMO", 0x6008, [⟨0x40, 4⟩], 64, .word, 0x77359400773594#64,
    [⟨0, 32, .rw⟩, ⟨32, 32, .rw⟩]⟩]

/-- Registers with prefix GL_ (part 1). -/
def regsGL1 : List RegDef := [
  ⟨"GL_CTX_LIM", 0x6010, [⟨0x40, 4⟩], 64, .word, 0x0#64,
    [⟨0, 40, .rw⟩]⟩,
  ⟨"GL_CTX_CTL", 0x6018, [⟨0x40, 4⟩], 64, .word, 0x0#64,
    [⟨0, 1, .wo⟩, ⟨1, 1, .wo⟩, ⟨2, 1, .wo⟩, ⟨3, 1, .wo⟩]⟩,
  ⟨"GL_CTX_STAT", 0x6020, [⟨0x40, 4⟩], 64, .word, 0x0#64,
    [⟨0, 3, .ro⟩, ⟨3, 8, .ro⟩, ⟨11, 1, .w1c⟩, ⟨12, 1, .w1c⟩, ⟨16, 16, .ro⟩, ⟨32, 16, .ro⟩]⟩,
  ⟨"GL_EVT", 0x7000, [⟨0x100, 4⟩, ⟨0x8, 32⟩], 64, .word, 0x0#64,
    [⟨0, 32, .rw⟩, ⟨32, 1, .w1c⟩]⟩,
  ⟨"GL_Q_DB", 0x8000, [⟨0x100, 4⟩, ⟨0x10, 16⟩], 64, .word, 0x0#64,
    [⟨0, 6, .wo⟩]⟩,
  ⟨"GL_Q_STAT", 0x8008, [⟨0x100, 4⟩, ⟨0x10, 16⟩], 64, .word, 0x40000#64,
    [⟨0, 6, .ro⟩, ⟨6, 6, .ro⟩, ⟨12, 7, .ro⟩, ⟨19, 1, .w1c⟩, ⟨20, 1, .ro⟩]⟩,
  ⟨"GL_FAST", 0x9000, [⟨0x8, 4⟩], 64, .word, 0x0#64,
    [⟨0, 5, .wo⟩, ⟨32, 32, .wo⟩]⟩,
  ⟨"GL_RULE_CTL", 0xB000, [⟨0x400, 4⟩, ⟨0x40, 16⟩], 64, .word, 0x400#64,
    [⟨0, 3, .rw⟩, ⟨3, 1, .rw⟩, ⟨4, 2, .rw⟩, ⟨6, 2, .rw⟩, ⟨8, 2, .rw⟩, ⟨10, 8, .rw⟩, ⟨62, 1, .w1c⟩, ⟨63, 1, .rw⟩]⟩,
  ⟨"GL_RULE_T0", 0xB008, [⟨0x400, 4⟩, ⟨0x40, 16⟩], 64, .word, 0x0#64,
    [⟨0, 64, .rw⟩]⟩,
  ⟨"GL_RULE_BETA", 0xB010, [⟨0x400, 4⟩, ⟨0x40, 16⟩], 64, .word, 0x0#64,
    [⟨0, 32, .rw⟩, ⟨32, 32, .rw⟩]⟩,
  ⟨"GL_RULE_EPS", 0xB018, [⟨0x400, 4⟩, ⟨0x40, 16⟩], 64, .word, 0x0#64,
    [⟨0, 32, .rw⟩, ⟨32, 32, .rw⟩]⟩,
  ⟨"GL_RULE_CLIP", 0xB020, [⟨0x400, 4⟩, ⟨0x40, 16⟩], 64, .word, 0x0#64,
    [⟨0, 32, .rw⟩, ⟨32, 32, .rw⟩]⟩]

/-- Registers with prefix GL_ (part 2). -/
def regsGL2 : List RegDef := [
  ⟨"GL_RULE_SCALE", 0xB028, [⟨0x400, 4⟩, ⟨0x40, 16⟩], 64, .word, 0x3F800000#64,
    [⟨0, 32, .rw⟩, ⟨32, 32, .rw⟩]⟩,
  ⟨"GL_RULE_LIM", 0xB030, [⟨0x400, 4⟩, ⟨0x40, 16⟩], 64, .word, 0x0#64,
    [⟨0, 32, .rw⟩, ⟨32, 32, .rw⟩]⟩,
  ⟨"GL_RULE_LR", 0xB038, [⟨0x400, 4⟩, ⟨0x40, 16⟩], 64, .word, 0x3F800000#64,
    [⟨0, 32, .rw⟩]⟩,
  ⟨"GL_SCHED_SEG", 0xC000, [⟨0x800, 4⟩, ⟨0x200, 4⟩, ⟨0x20, 16⟩], 64, .word, 0x0#64,
    [⟨0, 48, .rw⟩, ⟨48, 3, .rw⟩, ⟨62, 1, .w1c⟩, ⟨63, 1, .rw⟩]⟩,
  ⟨"GL_SCHED_LEN", 0xC008, [⟨0x800, 4⟩, ⟨0x200, 4⟩, ⟨0x20, 16⟩], 64, .word, 0x0#64,
    [⟨0, 32, .rw⟩]⟩,
  ⟨"GL_SCHED_LR", 0xC010, [⟨0x800, 4⟩, ⟨0x200, 4⟩, ⟨0x20, 16⟩], 64, .word, 0x0#64,
    [⟨0, 32, .rw⟩, ⟨32, 32, .rw⟩]⟩,
  ⟨"GL_NORM_VAL", 0xE000, [⟨0x100, 4⟩, ⟨0x20, 8⟩], 64, .word, 0x0#64,
    [⟨0, 64, .rw⟩]⟩,
  ⟨"GL_NORM_TAG", 0xE008, [⟨0x100, 4⟩, ⟨0x20, 8⟩], 64, .word, 0x0#64,
    [⟨0, 48, .rw⟩, ⟨63, 1, .rw⟩]⟩,
  ⟨"GL_UPD_STAT", 0xE400, [⟨0x8, 4⟩], 64, .word, 0x0#64,
    [⟨0, 32, .ro⟩, ⟨32, 16, .ro⟩, ⟨48, 16, .ro⟩]⟩,
  ⟨"GL_ID", 0x0, [], 64, .glId, 0x2#64,
    [⟨0, 16, .ro⟩, ⟨16, 16, .fuse⟩, ⟨32, 32, .fuse⟩]⟩,
  ⟨"GL_CAP_HEAD", 0x10, [], 64, .word, 0x80#64,
    [⟨0, 16, .ro⟩]⟩,
  ⟨"GL_MG_CFG", 0x100, [], 64, .word, 0xD00#64,
    [⟨0, 7, .rw⟩, ⟨7, 1, .rw⟩, ⟨8, 1, .rw⟩, ⟨9, 2, .rw⟩, ⟨11, 1, .rw⟩]⟩]

/-- Registers with prefix GL_ (part 3). -/
def regsGL3 : List RegDef := [
  ⟨"GL_MG_STAT", 0x108, [], 64, .word, 0x0#64,
    [⟨0, 2, .ro⟩, ⟨2, 1, .ro⟩, ⟨3, 1, .ro⟩, ⟨4, 1, .w1c⟩, ⟨8, 8, .ro⟩, ⟨16, 8, .ro⟩]⟩,
  ⟨"GL_MBX_REQ", 0x110, [], 64, .word, 0x0#64,
    [⟨0, 16, .rw⟩, ⟨16, 8, .rw⟩, ⟨24, 2, .rw⟩, ⟨32, 7, .rw⟩, ⟨40, 8, .rw⟩, ⟨63, 1, .sc⟩]⟩,
  ⟨"GL_MBX_STAT", 0x118, [], 64, .word, 0x0#64,
    [⟨0, 1, .ro⟩, ⟨1, 1, .w1c⟩, ⟨2, 1, .w1c⟩, ⟨8, 7, .ro⟩, ⟨32, 32, .ro⟩]⟩,
  ⟨"GL_MBX_DATA", 0x140, [⟨0x8, 8⟩], 64, .word, 0x0#64,
    [⟨0, 64, .rw⟩]⟩,
  ⟨"GL_FW_SRC", 0x200, [], 64, .word, 0x0#64,
    [⟨0, 6, .rw⟩, ⟨12, 28, .rw⟩]⟩,
  ⟨"GL_FW_CTL", 0x208, [], 64, .word, 0x0#64,
    [⟨0, 1, .sc⟩, ⟨1, 1, .sc⟩, ⟨2, 1, .sc⟩]⟩,
  ⟨"GL_FW_STAT", 0x210, [], 64, .word, 0x0#64,
    [⟨0, 3, .ro⟩, ⟨3, 8, .ro⟩]⟩,
  ⟨"GL_FW_VER", 0x218, [], 64, .word, 0x0#64,
    [⟨0, 32, .ro⟩, ⟨32, 32, .ro⟩]⟩,
  ⟨"GL_FW_LVL", 0x220, [], 64, .word, 0x0#64,
    [⟨0, 8, .ro⟩, ⟨8, 8, .rw⟩, ⟨16, 8, .ro⟩, ⟨24, 8, .ro⟩, ⟨32, 8, .ro⟩, ⟨40, 8, .ro⟩, ⟨63, 1, .sc⟩]⟩,
  ⟨"GL_IRQ_STAT", 0x400, [], 64, .word, 0x0#64,
    [⟨0, 32, .w1c⟩]⟩,
  ⟨"GL_IRQ_EN", 0x408, [], 64, .word, 0x0#64,
    [⟨0, 32, .rw⟩]⟩,
  ⟨"GL_TS", 0x410, [], 64, .word, 0x800000000000#64,
    [⟨0, 16, .ro⟩, ⟨16, 1, .ro⟩, ⟨17, 1, .sc⟩, ⟨32, 16, .ro⟩]⟩]

/-- Registers with prefix GL_ (part 4). -/
def regsGL4 : List RegDef := [
  ⟨"GL_RST_STAT", 0x418, [], 64, .word, 0x0#64,
    [⟨0, 2, .ro⟩]⟩,
  ⟨"GL_MEMPRI", 0x1F08, [], 64, .word, 0xF#64,
    [⟨0, 6, .rw⟩, ⟨6, 1, .w1c⟩]⟩,
  ⟨"GL_PWR", 0x1F10, [], 64, .word, 0x8#64,
    [⟨0, 8, .rw⟩]⟩]

/-- Registers with prefix SL_ (part 0). -/
def regsSL0 : List RegDef := [
  ⟨"SL_CHAN_STATE", 0x40100, [⟨0x1000, 20⟩], 64, .word, 0x0#64,
    [⟨0, 64, .ro⟩]⟩,
  ⟨"SL_MEND", 0x40118, [⟨0x1000, 20⟩], 64, .word, 0x0#64,
    [⟨0, 12, .ro⟩, ⟨12, 1, .w1c⟩, ⟨13, 1, .ro⟩]⟩,
  ⟨"SL_CORE_OUT", 0x40108, [⟨0x1000, 20⟩], 64, .coreOut, 0xA00000000000#64,
    [⟨0, 42, .rw⟩, ⟨42, 6, .ro⟩, ⟨63, 1, .sc⟩]⟩,
  ⟨"SL_RETRAIN", 0x40110, [⟨0x1000, 20⟩], 64, .word, 0x0#64,
    [⟨0, 32, .ro⟩, ⟨32, 5, .ro⟩, ⟨37, 1, .ro⟩, ⟨48, 16, .ro⟩]⟩]

/-- Registers with prefix TK_ (part 0). -/
def regsTK0 : List RegDef := [
  ⟨"TK_HT_NOW", 0xA000, [], 64, .word, 0x0#64,
    [⟨0, 64, .ro⟩]⟩,
  ⟨"TK_HT_STAT", 0xA008, [], 64, .word, 0x30000#64,
    [⟨0, 1, .ro⟩, ⟨1, 1, .ro⟩, ⟨2, 1, .w1c⟩, ⟨3, 1, .w1c⟩, ⟨4, 1, .w1c⟩, ⟨16, 16, .ro⟩, ⟨32, 16, .ro⟩]⟩,
  ⟨"TK_HT_CFG", 0xA010, [], 64, .word, 0x20061B186A1000#64,
    [⟨0, 16, .rw⟩, ⟨16, 16, .rw⟩, ⟨32, 16, .rw⟩, ⟨48, 8, .rw⟩]⟩,
  ⟨"TK_GCFG", 0xA018, [], 64, .word, 0x3D09005A#64,
    [⟨0, 8, .rw⟩, ⟨16, 32, .rw⟩]⟩,
  ⟨"TK_GSTAT", 0xA020, [], 64, .word, 0x0#64,
    [⟨0, 5, .ro⟩, ⟨8, 34, .ro⟩, ⟨42, 1, .ro⟩]⟩,
  ⟨"TK_CFG", 0xA100, [⟨0x40, 4⟩], 64, .word, 0x0#64,
    [⟨0, 34, .rw⟩, ⟨63, 1, .rw⟩]⟩,
  ⟨"TK_ORIGIN", 0xA108, [⟨0x40, 4⟩], 64, .word, 0x0#64,
    [⟨0, 64, .rw⟩]⟩,
  ⟨"TK_CP", 0xA110, [⟨0x40, 4⟩], 64, .word, 0x0#64,
    [⟨0, 34, .rw⟩, ⟨34, 7, .rw⟩]⟩,
  ⟨"TK_STAT", 0xA118, [⟨0x40, 4⟩], 64, .word, 0x0#64,
    [⟨0, 48, .ro⟩, ⟨48, 1, .ro⟩, ⟨63, 1, .w1c⟩]⟩,
  ⟨"TK_DEBT", 0xA120, [⟨0x40, 4⟩], 64, .word, 0x0#64,
    [⟨0, 40, .ro⟩, ⟨40, 4, .ro⟩]⟩,
  ⟨"TK_ALLOW", 0xA128, [⟨0x40, 4⟩], 64, .word, 0x0#64,
    [⟨0, 34, .ro⟩]⟩,
  ⟨"TK_OVR", 0xA130, [⟨0x40, 4⟩], 64, .word, 0x0#64,
    [⟨0, 40, .ro⟩]⟩]

/-- Registers with prefix YK_ (part 0). -/
def regsYK0 : List RegDef := [
  ⟨"YK_STAT", 0x10000, [], 64, .ykStat, 0x40400#64,
    [⟨0, 3, .ro⟩, ⟨3, 8, .ro⟩, ⟨11, 8, .ro⟩, ⟨19, 1, .ro⟩, ⟨20, 1, .ro⟩, ⟨32, 16, .ro⟩]⟩,
  ⟨"YK_ROWOUT", 0x10008, [⟨0x8, 3⟩], 64, .rowOut, 0x0#64,
    [⟨0, 64, .rw⟩]⟩,
  ⟨"YK_COLOUT", 0x10020, [⟨0x8, 3⟩], 64, .colOut, 0x0#64,
    [⟨0, 64, .rw⟩]⟩,
  ⟨"YK_MAP_CTL", 0x10038, [], 64, .word, 0x0#64,
    [⟨0, 1, .sc⟩]⟩,
  ⟨"YK_TEST", 0x10040, [], 64, .word, 0x7FFF8#64,
    [⟨0, 1, .sc⟩, ⟨1, 1, .w1c⟩, ⟨2, 1, .w1c⟩, ⟨3, 8, .ro⟩, ⟨11, 8, .ro⟩]⟩,
  ⟨"YK_DTAB", 0x10048, [⟨0x8, 2⟩], 64, .word, 0x0#64,
    [⟨0, 16, .ro⟩, ⟨16, 4, .ro⟩, ⟨20, 3, .ro⟩, ⟨23, 12, .ro⟩, ⟨35, 1, .ro⟩, ⟨36, 1, .ro⟩]⟩,
  ⟨"YK_BUSY", 0x10058, [], 64, .word, 0x0#64,
    [⟨0, 32, .ro⟩, ⟨32, 32, .ro⟩]⟩,
  ⟨"YK_REFR", 0x10100, [⟨0x8, 4⟩], 64, .word, 0x0#64,
    [⟨0, 32, .ro⟩, ⟨32, 32, .ro⟩]⟩]

/-- Registers with prefix GS_ (part 0). -/
def regsGS0 : List RegDef := [
  ⟨"GS_GCFG", 0x11000, [], 64, .word, 0x100#64,
    [⟨0, 1, .rw⟩, ⟨1, 9, .rw⟩]⟩,
  ⟨"GS_GSTAT", 0x11008, [], 64, .word, 0x0#64,
    [⟨0, 1, .w1c⟩, ⟨16, 16, .ro⟩, ⟨32, 16, .ro⟩, ⟨48, 16, .ro⟩]⟩,
  ⟨"GS_SELF", 0x11010, [], 64, .word, 0x0#64,
    [⟨0, 8, .rw⟩, ⟨8, 8, .rw⟩, ⟨16, 8, .rw⟩, ⟨24, 8, .rw⟩, ⟨32, 16, .rw⟩]⟩,
  ⟨"GS_SHAPE", 0x11018, [], 64, .word, 0x1010101#64,
    [⟨0, 8, .rw⟩, ⟨8, 8, .rw⟩, ⟨16, 8, .rw⟩, ⟨24, 8, .rw⟩]⟩,
  ⟨"GS_GRP_CFG", 0x11100, [⟨0x100, 4⟩, ⟨0x10, 16⟩], 64, .word, 0x80#64,
    [⟨0, 4, .rw⟩, ⟨4, 5, .rw⟩, ⟨9, 4, .rw⟩, ⟨13, 1, .rw⟩, ⟨63, 1, .rw⟩]⟩,
  ⟨"GS_GRP_BOX", 0x11108, [⟨0x100, 4⟩, ⟨0x10, 16⟩], 64, .word, 0x0#64,
    [⟨0, 8, .rw⟩, ⟨8, 8, .rw⟩, ⟨16, 8, .rw⟩, ⟨24, 8, .rw⟩, ⟨32, 8, .rw⟩, ⟨40, 8, .rw⟩, ⟨48, 8, .rw⟩, ⟨56, 8, .rw⟩]⟩,
  ⟨"GS_GRP_STAT", 0x11500, [⟨0x100, 4⟩, ⟨0x10, 16⟩], 64, .word, 0x0#64,
    [⟨0, 16, .ro⟩, ⟨16, 16, .ro⟩, ⟨32, 4, .ro⟩, ⟨36, 4, .ro⟩, ⟨40, 9, .ro⟩, ⟨49, 1, .w1c⟩]⟩,
  ⟨"GS_GRP_GCN", 0x11508, [⟨0x100, 4⟩, ⟨0x10, 16⟩], 64, .word, 0x0#64,
    [⟨0, 32, .ro⟩, ⟨32, 16, .ro⟩]⟩,
  ⟨"GS_SUBST", 0x11900, [⟨0x200, 4⟩, ⟨0x8, 64⟩], 64, .word, 0x0#64,
    [⟨0, 32, .rw⟩, ⟨32, 16, .rw⟩, ⟨48, 1, .rw⟩, ⟨63, 1, .rw⟩]⟩,
  ⟨"GS_SLOT_CFG", 0x12900, [⟨0x10, 4⟩], 64, .word, 0x2040#64,
    [⟨0, 10, .rw⟩, ⟨10, 10, .rw⟩]⟩,
  ⟨"GS_SLOT_STAT", 0x12908, [⟨0x10, 4⟩], 64, .word, 0x0#64,
    [⟨0, 11, .ro⟩, ⟨11, 11, .ro⟩, ⟨32, 16, .ro⟩]⟩,
  ⟨"GS_TRD", 0x12100, [⟨0x200, 4⟩, ⟨0x8, 64⟩], 64, .word, 0x0#64,
    [⟨0, 32, .rw⟩, ⟨32, 9, .ro⟩, ⟨41, 1, .ro⟩, ⟨48, 16, .ro⟩]⟩]

/-- Registers with prefix TM_ (part 0). -/
def regsTM0 : List RegDef := [
  ⟨"TM_CFG", 0x13000, [⟨0x100, 4⟩], 64, .word, 0x400000A0#64,
    [⟨0, 2, .rw⟩, ⟨2, 4, .rw⟩, ⟨6, 3, .rw⟩, ⟨9, 4, .rw⟩, ⟨13, 6, .rw⟩, ⟨19, 6, .rw⟩, ⟨25, 1, .rw⟩, ⟨26, 7, .rw⟩]⟩,
  ⟨"TM_ID", 0x13008, [⟨0x100, 4⟩], 64, .word, 0x0#64,
    [⟨0, 16, .rw⟩, ⟨16, 16, .rw⟩, ⟨32, 32, .rw⟩]⟩,
  ⟨"TM_CTL", 0x13010, [⟨0x100, 4⟩], 64, .word, 0x0#64,
    [⟨0, 1, .sc⟩, ⟨1, 1, .sc⟩, ⟨2, 1, .sc⟩]⟩,
  ⟨"TM_STAT", 0x13018, [⟨0x100, 4⟩], 64, .word, 0x0#64,
    [⟨0, 3, .ro⟩, ⟨3, 1, .w1c⟩, ⟨4, 1, .w1c⟩, ⟨8, 16, .ro⟩, ⟨24, 4, .ro⟩, ⟨28, 3, .ro⟩, ⟨32, 4, .ro⟩, ⟨36, 4, .ro⟩]⟩,
  ⟨"TM_SHAPE", 0x13020, [⟨0x100, 4⟩], 64, .word, 0x0#64,
    [⟨0, 64, .ro⟩]⟩,
  ⟨"TM_SHAPEF", 0x13048, [⟨0x100, 4⟩], 64, .word, 0x0#64,
    [⟨0, 64, .ro⟩]⟩,
  ⟨"TM_PSIZE", 0x13028, [⟨0x100, 4⟩], 64, .word, 0x0#64,
    [⟨0, 40, .ro⟩]⟩,
  ⟨"TM_DSTAT", 0x13030, [⟨0x100, 4⟩], 64, .word, 0x0#64,
    [⟨0, 32, .ro⟩, ⟨32, 32, .ro⟩]⟩,
  ⟨"TM_HSTAT", 0x13038, [⟨0x100, 4⟩], 64, .word, 0x0#64,
    [⟨0, 32, .ro⟩, ⟨32, 16, .ro⟩, ⟨48, 16, .ro⟩]⟩,
  ⟨"TM_AUD", 0x13040, [⟨0x100, 4⟩], 64, .word, 0xFF000000000000#64,
    [⟨0, 32, .ro⟩, ⟨32, 16, .ro⟩, ⟨48, 8, .ro⟩]⟩,
  ⟨"TM_MEMBER", 0x13400, [⟨0x100, 4⟩, ⟨0x8, 16⟩], 64, .word, 0x0#64,
    [⟨0, 16, .rw⟩, ⟨16, 2, .rw⟩]⟩,
  ⟨"TM_STB", 0x13800, [⟨0x8, 16⟩], 64, .word, 0x0#64,
    [⟨0, 1, .ro⟩, ⟨1, 1, .ro⟩, ⟨2, 2, .ro⟩, ⟨12, 28, .rw⟩, ⟨40, 24, .ro⟩]⟩]

/-- Registers with prefix TM_ (part 1). -/
def regsTM1 : List RegDef := [
  ⟨"TM_GSTAT", 0x13F00, [], 64, .word, 0x0#64,
    [⟨0, 24, .ro⟩]⟩,
  ⟨"TM_REB_CFG", 0x13C00, [⟨0x20, 4⟩], 64, .word, 0x200#64,
    [⟨0, 10, .rw⟩]⟩,
  ⟨"TM_REB_CTL", 0x13C08, [⟨0x20, 4⟩], 64, .word, 0x0#64,
    [⟨0, 1, .sc⟩, ⟨1, 1, .sc⟩, ⟨2, 1, .sc⟩]⟩,
  ⟨"TM_REB_STAT", 0x13C10, [⟨0x20, 4⟩], 64, .word, 0x0#64,
    [⟨0, 2, .ro⟩, ⟨2, 8, .ro⟩, ⟨16, 16, .ro⟩, ⟨32, 32, .ro⟩]⟩,
  ⟨"TM_REB_PROG", 0x13C18, [⟨0x20, 4⟩], 64, .word, 0x0#64,
    [⟨0, 48, .ro⟩]⟩]

/-- Registers with prefix CM_ (part 0). -/
def regsCM0 : List RegDef := [
  ⟨"CM_CFG", 0x14000, [⟨0x100, 4⟩], 64, .word, 0x10#64,
    [⟨0, 4, .rw⟩, ⟨4, 9, .rw⟩, ⟨13, 6, .rw⟩]⟩,
  ⟨"CM_TMO", 0x14008, [⟨0x100, 4⟩], 64, .word, 0x17D78400773594#64,
    [⟨0, 32, .rw⟩, ⟨32, 32, .rw⟩]⟩,
  ⟨"CM_CTL", 0x14010, [⟨0x100, 4⟩], 64, .word, 0x0#64,
    [⟨0, 1, .sc⟩, ⟨1, 1, .sc⟩, ⟨2, 1, .sc⟩]⟩,
  ⟨"CM_STAT", 0x14018, [⟨0x100, 4⟩], 64, .word, 0x20#64,
    [⟨0, 3, .ro⟩, ⟨3, 1, .ro⟩, ⟨4, 1, .ro⟩, ⟨5, 9, .ro⟩, ⟨14, 1, .w1c⟩, ⟨32, 32, .rw⟩]⟩,
  ⟨"CM_STEP", 0x14020, [⟨0x100, 4⟩], 64, .word, 0x0#64,
    [⟨0, 64, .rw⟩]⟩,
  ⟨"CM_OPEN", 0x14028, [⟨0x100, 4⟩], 64, .word, 0x1#64,
    [⟨0, 64, .ro⟩]⟩,
  ⟨"CM_CUR", 0x14030, [⟨0x100, 4⟩], 64, .word, 0x1#64,
    [⟨0, 64, .ro⟩]⟩,
  ⟨"CM_EPOCH", 0x14038, [⟨0x100, 4⟩], 64, .word, 0x0#64,
    [⟨0, 16, .rw⟩, ⟨16, 16, .ro⟩, ⟨32, 16, .ro⟩]⟩,
  ⟨"CM_SEED", 0x14040, [⟨0x100, 4⟩], 64, .word, 0x0#64,
    [⟨0, 64, .rw⟩]⟩,
  ⟨"CM_CBASE", 0x14048, [⟨0x100, 4⟩], 64, .word, 0x0#64,
    [⟨0, 64, .rw⟩]⟩,
  ⟨"CM_CSTRIDE", 0x14050, [⟨0x100, 4⟩], 64, .word, 0x0#64,
    [⟨0, 64, .rw⟩]⟩,
  ⟨"CM_USER", 0x14058, [⟨0x100, 4⟩, ⟨0x8, 4⟩], 64, .word, 0x0#64,
    [⟨0, 64, .rw⟩]⟩]

/-- Registers with prefix CM_ (part 1). -/
def regsCM1 : List RegDef := [
  ⟨"CM_HALT", 0x14078, [⟨0x100, 4⟩], 64, .word, 0x0#64,
    [⟨0, 64, .ro⟩]⟩,
  ⟨"CM_LAST", 0x14080, [⟨0x100, 4⟩], 64, .word, 0x0#64,
    [⟨0, 8, .ro⟩, ⟨8, 16, .ro⟩, ⟨24, 1, .ro⟩, ⟨32, 32, .ro⟩]⟩,
  ⟨"CM_RESOLVE", 0x14088, [⟨0x100, 4⟩], 64, .word, 0x0#64,
    [⟨0, 2, .rw⟩, ⟨32, 32, .rw⟩]⟩,
  ⟨"CM_CNT", 0x14090, [⟨0x100, 4⟩], 64, .word, 0x0#64,
    [⟨0, 32, .ro⟩, ⟨32, 16, .ro⟩, ⟨48, 16, .ro⟩]⟩,
  ⟨"CM_DIAG", 0x14098, [⟨0x100, 4⟩], 64, .word, 0x0#64,
    [⟨0, 16, .ro⟩, ⟨16, 16, .ro⟩, ⟨32, 16, .ro⟩, ⟨48, 16, .ro⟩]⟩]

/-- Registers with prefix FB_ (part 0). -/
def regsFB0 : List RegDef := [
  ⟨"FB_CFG", 0x15000, [], 64, .word, 0x22#64,
    [⟨0, 4, .rw⟩, ⟨4, 4, .ro⟩]⟩,
  ⟨"FB_GFAB", 0x15008, [], 64, .word, 0x0#64,
    [⟨0, 16, .rw⟩, ⟨16, 16, .rw⟩, ⟨63, 1, .rw⟩]⟩,
  ⟨"FB_STAT", 0x15010, [], 64, .word, 0x10#64,
    [⟨0, 5, .ro⟩, ⟨5, 1, .ro⟩, ⟨16, 16, .ro⟩, ⟨32, 16, .ro⟩, ⟨48, 16, .ro⟩]⟩,
  ⟨"FB_DROP", 0x15018, [], 64, .word, 0x0#64,
    [⟨0, 16, .ro⟩, ⟨16, 16, .ro⟩, ⟨32, 16, .ro⟩, ⟨48, 16, .ro⟩]⟩,
  ⟨"FB_LANE", 0x15100, [⟨0x8, 18⟩], 64, .lane, 0x0#64,
    [⟨0, 2, .ro⟩, ⟨2, 1, .ro⟩, ⟨3, 4, .ro⟩, ⟨16, 16, .ro⟩]⟩,
  ⟨"FB_LANE_CTL", 0x15190, [], 64, .word, 0x0#64,
    [⟨0, 18, .rw⟩, ⟨63, 1, .sc⟩]⟩,
  ⟨"FB_ENG", 0x15200, [⟨0x8, 4⟩], 64, .word, 0x0#64,
    [⟨0, 5, .ro⟩, ⟨5, 10, .ro⟩, ⟨15, 2, .ro⟩, ⟨32, 32, .ro⟩]⟩,
  ⟨"FB_INQ", 0x15240, [], 64, .word, 0x0#64,
    [⟨0, 12, .ro⟩, ⟨12, 12, .ro⟩, ⟨24, 10, .ro⟩, ⟨34, 7, .ro⟩, ⟨41, 9, .ro⟩, ⟨50, 14, .ro⟩]⟩,
  ⟨"FB_INQ_CTL", 0x15248, [], 64, .word, 0x0#64,
    [⟨0, 1, .sc⟩]⟩,
  ⟨"FB_TGEN", 0x15400, [⟨0x100, 4⟩, ⟨0x8, 16⟩], 64, .word, 0x0#64,
    [⟨0, 8, .rw⟩]⟩,
  ⟨"FB_MGR", 0x15800, [⟨0x8, 4⟩], 64, .word, 0x0#64,
    [⟨0, 16, .rw⟩, ⟨63, 1, .rw⟩]⟩]

/-- Registers with prefix DR_ (part 0). -/
def regsDR0 : List RegDef := [
  ⟨"DR_STAT", 0x16000, [⟨0x40, 4⟩], 64, .word, 0x0#64,
    [⟨0, 1, .ro⟩, ⟨1, 1, .ro⟩, ⟨2, 9, .ro⟩, ⟨11, 8, .ro⟩]⟩,
  ⟨"DR_BIND", 0x16008, [⟨0x40, 4⟩], 64, .word, 0x0#64,
    [⟨0, 1, .rw⟩, ⟨8, 1, .sc⟩, ⟨16, 8, .ro⟩]⟩,
  ⟨"DR_BIND_STEP", 0x16010, [⟨0x40, 4⟩], 64, .word, 0x0#64,
    [⟨0, 64, .rw⟩]⟩,
  ⟨"DR_CTL", 0x16018, [⟨0x40, 4⟩], 64, .word, 0x0#64,
    [⟨0, 1, .sc⟩]⟩,
  ⟨"DR_LOG_STEP", 0x16020, [⟨0x40, 4⟩], 64, .word, 0x0#64,
    [⟨0, 64, .ro⟩]⟩,
  ⟨"DR_CNT", 0x16028, [⟨0x40, 4⟩], 64, .word, 0x0#64,
    [⟨0, 32, .ro⟩, ⟨32, 32, .ro⟩]⟩]

/-- Registers with prefix DG_ (part 0). -/
def regsDG0 : List RegDef := [
  ⟨"DG_REP_CFG", 0x17000, [], 64, .word, 0xEE6B28#64,
    [⟨0, 32, .rw⟩, ⟨32, 1, .rw⟩]⟩,
  ⟨"DG_REP_STAT", 0x17008, [], 64, .word, 0x0#64,
    [⟨0, 16, .ro⟩, ⟨16, 16, .ro⟩, ⟨32, 16, .ro⟩, ⟨48, 7, .ro⟩]⟩,
  ⟨"DG_RIN_STAT", 0x17010, [], 64, .word, 0x0#64,
    [⟨0, 9, .ro⟩, ⟨16, 16, .ro⟩]⟩,
  ⟨"DG_RIN_REL", 0x17018, [], 64, .word, 0x0#64,
    [⟨0, 8, .wo⟩]⟩,
  ⟨"DG_WDT", 0x17020, [], 64, .word, 0x9502F900017D784#64,
    [⟨0, 1, .wo⟩, ⟨1, 31, .rw⟩, ⟨32, 32, .rw⟩]⟩,
  ⟨"DG_RST_CTL", 0x17028, [], 64, .word, 0x0#64,
    [⟨0, 1, .sc⟩, ⟨1, 1, .sc⟩, ⟨2, 4, .sc⟩]⟩,
  ⟨"DG_COLL_CFG", 0x17030, [], 64, .word, 0x0#64,
    [⟨0, 5, .rw⟩, ⟨12, 28, .rw⟩, ⟨63, 1, .rw⟩]⟩,
  ⟨"DG_COLL_SUM", 0x17038, [], 64, .word, 0x0#64,
    [⟨0, 8, .ro⟩, ⟨8, 1, .ro⟩, ⟨9, 1, .ro⟩, ⟨10, 4, .ro⟩, ⟨14, 4, .ro⟩, ⟨18, 4, .ro⟩, ⟨22, 4, .ro⟩]⟩,
  ⟨"DG_COLL_STEP", 0x17040, [⟨0x8, 4⟩], 64, .word, 0x0#64,
    [⟨0, 64, .ro⟩]⟩,
  ⟨"DG_WEDGE", 0x17060, [⟨0x8, 4⟩], 64, .word, 0x0#64,
    [⟨0, 20, .ro⟩]⟩,
  ⟨"DG_RIN_ID", 0x17100, [⟨0x20, 256⟩], 64, .word, 0x0#64,
    [⟨0, 16, .ro⟩, ⟨16, 8, .ro⟩, ⟨32, 16, .ro⟩, ⟨63, 1, .ro⟩]⟩,
  ⟨"DG_RIN_CNT", 0x17108, [⟨0x20, 256⟩], 64, .word, 0x0#64,
    [⟨0, 32, .ro⟩]⟩]

/-- Registers with prefix DG_ (part 1). -/
def regsDG1 : List RegDef := [
  ⟨"DG_RIN_T", 0x17110, [⟨0x20, 256⟩], 64, .word, 0x0#64,
    [⟨0, 64, .ro⟩]⟩,
  ⟨"DG_PAR", 0x19800, [⟨0x8, 8⟩], 64, .word, 0x0#64,
    [⟨0, 32, .ro⟩, ⟨32, 16, .ro⟩]⟩,
  ⟨"DG_FILL", 0x19840, [], 64, .word, 0x0#64,
    [⟨0, 1, .ro⟩, ⟨1, 1, .ro⟩, ⟨2, 16, .ro⟩]⟩,
  ⟨"DG_POISON", 0x19848, [], 64, .word, 0x0#64,
    [⟨0, 11, .ro⟩, ⟨11, 16, .ro⟩, ⟨32, 32, .ro⟩]⟩,
  ⟨"DG_SCRUB_SUM", 0x19900, [⟨0x10, 4⟩], 64, .word, 0x0#64,
    [⟨0, 32, .ro⟩, ⟨32, 16, .ro⟩, ⟨48, 16, .ro⟩]⟩,
  ⟨"DG_SCRUB_FIX", 0x19908, [⟨0x10, 4⟩], 64, .word, 0x0#64,
    [⟨0, 16, .ro⟩, ⟨16, 16, .ro⟩, ⟨32, 16, .ro⟩, ⟨48, 16, .ro⟩]⟩,
  ⟨"DG_SCRUB_LOG", 0x19980, [⟨0x8, 16⟩], 64, .word, 0x0#64,
    [⟨0, 28, .ro⟩, ⟨28, 6, .ro⟩, ⟨34, 5, .ro⟩, ⟨39, 3, .ro⟩, ⟨42, 1, .ro⟩, ⟨43, 2, .ro⟩, ⟨63, 1, .ro⟩]⟩,
  ⟨"DG_DIV_T", 0x19A00, [⟨0x10, 32⟩], 64, .word, 0x0#64,
    [⟨0, 64, .ro⟩]⟩,
  ⟨"DG_DIV_INFO", 0x19A08, [⟨0x10, 32⟩], 64, .word, 0x0#64,
    [⟨0, 16, .ro⟩, ⟨16, 16, .ro⟩, ⟨32, 8, .ro⟩, ⟨40, 4, .ro⟩, ⟨44, 2, .ro⟩, ⟨46, 1, .ro⟩, ⟨47, 1, .ro⟩, ⟨48, 16, .ro⟩]⟩,
  ⟨"DG_LOAD_TAG", 0x19C08, [⟨0x8, 4⟩], 64, .word, 0x0#64,
    [⟨0, 8, .rw⟩]⟩,
  ⟨"DG_SUS_CFG", 0x19C28, [], 64, .word, 0x41003E803#64,
    [⟨0, 8, .rw⟩, ⟨8, 16, .rw⟩, ⟨24, 8, .rw⟩, ⟨32, 8, .rw⟩]⟩,
  ⟨"DG_SUS_STAT", 0x19C30, [], 64, .word, 0x0#64,
    [⟨0, 8, .ro⟩, ⟨8, 16, .ro⟩, ⟨24, 5, .ro⟩, ⟨29, 5, .ro⟩]⟩]

/-- Registers with prefix DG_ (part 2). -/
def regsDG2 : List RegDef := [
  ⟨"DG_DWIN_CFG", 0x1A000, [⟨0x400, 4⟩, ⟨0x40, 16⟩], 64, .word, 0x4000#64,
    [⟨0, 6, .rw⟩, ⟨6, 6, .rw⟩, ⟨12, 1, .rw⟩, ⟨13, 1, .rw⟩, ⟨14, 8, .rw⟩, ⟨22, 24, .rw⟩, ⟨62, 1, .w1c⟩, ⟨63, 1, .rw⟩]⟩,
  ⟨"DG_DWIN_FIRST", 0x1A008, [⟨0x400, 4⟩, ⟨0x40, 16⟩], 64, .word, 0x0#64,
    [⟨0, 40, .rw⟩]⟩,
  ⟨"DG_DWIN_COUNT", 0x1A010, [⟨0x400, 4⟩, ⟨0x40, 16⟩], 64, .word, 0x0#64,
    [⟨0, 40, .rw⟩]⟩,
  ⟨"DG_DWIN_P0", 0x1A018, [⟨0x400, 4⟩, ⟨0x40, 16⟩], 64, .word, 0x0#64,
    [⟨0, 40, .rw⟩]⟩,
  ⟨"DG_DWIN_CAP", 0x1A020, [⟨0x400, 4⟩, ⟨0x40, 16⟩], 64, .word, 0x0#64,
    [⟨0, 64, .ro⟩]⟩,
  ⟨"DG_DWIN_STEP", 0x1A028, [⟨0x400, 4⟩, ⟨0x40, 16⟩], 64, .word, 0x0#64,
    [⟨0, 64, .ro⟩]⟩,
  ⟨"DG_DWIN_WR", 0x1A030, [⟨0x400, 4⟩, ⟨0x40, 16⟩], 64, .word, 0x0#64,
    [⟨0, 64, .ro⟩]⟩,
  ⟨"DG_DWIN_BIN", 0x1C000, [⟨0x2000, 4⟩, ⟨0x200, 16⟩, ⟨0x8, 64⟩], 64, .word, 0x0#64,
    [⟨0, 64, .ro⟩]⟩]

/-- Registers with prefix MT_ (part 0). -/
def regsMT0 : List RegDef := [
  ⟨"MT_STAT", 0x28000, [], 64, .word, 0x0#64,
    [⟨0, 2, .ro⟩, ⟨8, 16, .ro⟩, ⟨24, 1, .ro⟩]⟩,
  ⟨"MT_ODO", 0x28008, [], 64, .word, 0x0#64,
    [⟨0, 32, .ro⟩, ⟨32, 16, .ro⟩]⟩,
  ⟨"MT_FINE", 0x28010, [], 64, .word, 0x0#64,
    [⟨0, 64, .ro⟩]⟩,
  ⟨"MT_LIVE", 0x28018, [], 64, .word, 0x0#64,
    [⟨0, 32, .ro⟩, ⟨32, 16, .ro⟩, ⟨48, 16, .ro⟩]⟩,
  ⟨"MT_REC", 0x28020, [], 64, .word, 0x0#64,
    [⟨0, 32, .ro⟩, ⟨32, 8, .ro⟩]⟩,
  ⟨"MT_HASH", 0x28028, [⟨0x8, 4⟩], 64, .word, 0x0#64,
    [⟨0, 64, .ro⟩]⟩,
  ⟨"MT_ROM", 0x28048, [], 64, .word, 0x0#64,
    [⟨0, 32, .ro⟩, ⟨32, 32, .ro⟩]⟩]

/-- Every register of the CTL window. -/
def regTable : List RegDef :=
  regsGL0 ++ regsGL1 ++ regsGL2 ++ regsGL3 ++ regsGL4 ++ regsSL0 ++ regsTK0 ++ regsYK0 ++ regsGS0 ++ regsTM0 ++ regsTM1 ++ regsCM0 ++ regsCM1 ++ regsFB0 ++ regsDR0 ++ regsDG0 ++ regsDG1 ++ regsDG2 ++ regsMT0

end Sys2Proof.Machine
end

