-- ==== Sys2Proof/Machine/Ops.lean ====
section
/-! DEFINITION. The named operations over the state that every meaning is built from: register fields, the per-context
tables, ring entries, running work, the port log, interrupt causes (R525) and regions' register views. -/

namespace Sys2Proof.Machine

/-- The outcome type of every meaning. -/
abbrev Res := Host.Outcome State Fault Refusal

/-- The value of a register field. -/
def State.get (s : State) (l : Loc) : Nat := Tbl.at s.regs l.rst l.key

/-- The state with a register field holding v modulo its width; a field at its reset value is not listed. -/
def State.set (s : State) (l : Loc) (v : Nat) : State := { s with regs := Tbl.put s.regs l.rst l.key (v % 2 ^ l.w) }

/-- A field set from a Boolean. -/
def State.setB (s : State) (l : Loc) (b : Bool) : State := s.set l (b2n b)

/-- A counter field plus n, stopping at the largest value of its width. -/
def State.satInc (s : State) (l : Loc) (n : Nat) : State := s.set l (Nat.min (2 ^ l.w - 1) (s.get l + n))

/-- A counter field plus n, wrapping at its width. -/
def State.wrapInc (s : State) (l : Loc) (n : Nat) : State := s.set l (s.get l + n)

/-- A counter field minus n, stopping at 0. -/
def State.dec (s : State) (l : Loc) (n : Nat) : State := s.set l (s.get l - n)

/-- Whether a one-bit field is 1. -/
def State.is (s : State) (l : Loc) : Bool := s.get l == 1

/-- Something driven on a port. -/
def State.emit (s : State) (o : Out) : State := { s with out := s.out ++ [o] }

/-- The internal hall time (R134). -/
def State.now (s : State) : Nat := s.get TK_HT_NOW.now

/-- A cause of interrupt vector v (R525). -/
def State.irq (s : State) (v : Nat) : State := s.set GL_IRQ_STAT.cause (s.get GL_IRQ_STAT.cause ||| 2 ^ v)

/-- The level of IRQ[v] (R525). -/
def State.irqLevel (s : State) (v : Nat) : Bool :=
  nbits (s.get GL_IRQ_STAT.cause) v 1 == 1 && nbits (s.get GL_IRQ_EN.en) v 1 == 1

/-- A fresh free value below 2^w: the spec leaves it open. -/
def State.fresh (s : State) (w : Nat) : State × Nat :=
  ({ s with free := s.free + 1 }, (Config.freeValue s.free).toNat % 2 ^ w)

/-- The hidden state of a context. -/
def State.cxAt (s : State) (c : Nat) : CtxS := Tbl.at s.cx {} c
/-- The state with a context's hidden state replaced. -/
def State.setCx (s : State) (c : Nat) (x : CtxS) : State := { s with cx := Tbl.put s.cx {} c x }
/-- The tick planner's hidden state of a context. -/
def State.tkAt (s : State) (c : Nat) : TickS := Tbl.at s.tk {} c
/-- The state with a context's tick state replaced. -/
def State.setTk (s : State) (c : Nat) (x : TickS) : State := { s with tk := Tbl.put s.tk {} c x }
/-- The commit engine's hidden state of a context. -/
def State.cmAt (s : State) (c : Nat) : CmS := Tbl.at s.cm {} c
/-- The state with a context's commit state replaced. -/
def State.setCm (s : State) (c : Nat) (x : CmS) : State := { s with cm := Tbl.put s.cm {} c x }
/-- The team's hidden state of a context. -/
def State.tmAt (s : State) (c : Nat) : TeamS := Tbl.at s.tm {} c
/-- The state with a context's team state replaced. -/
def State.setTm (s : State) (c : Nat) (x : TeamS) : State := { s with tm := Tbl.put s.tm {} c x }
/-- The coding state of a stable slot. -/
def State.stbAt (s : State) (n : Nat) : StbS := Tbl.at s.stb {} n
/-- The state with a slot's coding state replaced. -/
def State.setStb (s : State) (n : Nat) (x : StbS) : State := { s with stb := Tbl.put s.stb {} n x }
/-- The state with the fabric port's hidden state replaced. -/
def State.setFab (s : State) (x : FabS) : State := { s with fab := x }
/-- The state with the memory ports' hidden state replaced. -/
def State.setMem (s : State) (x : MemS) : State := { s with mem := x }
/-- The state with recovery's hidden state replaced. -/
def State.setRec (s : State) (x : RecS) : State := { s with rec_ := x }

/-- The state with the integrity unit's hidden state replaced. -/
def State.setInteg (s : State) (x : IntS) : State := { s with integ := x }

/-- The state with management's hidden state replaced. -/
def State.setMgmt (s : State) (x : MgmtS) : State := { s with mgmt := x }
/-- The state with the yoke's hidden state replaced. -/
def State.setYoke (s : State) (x : YokeS) : State := { s with yoke := x }
/-- Whether any context's ticks are enabled (R207, R336). -/
def State.anyTicks (s : State) : Bool := (List.range 4).any fun c => s.is (TK_CFG.enable c)
/-- Whether the count port is valid (R443). -/
def State.countValid (s : State) : Bool := s.is DG_FILL.done
/-- Whether the meter runs: its start-up is over and its ROM is sound (R454, R464). -/
def MeterS.runs (m : MeterS) : Bool := m.state == 1 || m.state == 2
/-- The count port (R441, R443): flips and DELTA payload bytes counted by a running meter. -/
def State.countPort (s : State) (steps bytes : Nat) : State :=
  if s.countValid ∧ s.meter.runs then
    { s with meter := { s.meter with steps := s.meter.steps + steps, coded := s.meter.coded + bytes } }
  else s
/-- An activation holds committing STEP_ENDs (R495). -/
def State.fwHold (s : State) : Bool := s.mgmt.holdStep

/-- The key of entry e of queue q of context c. -/
def entryKey (c q e : Nat) : Nat := (c * 16 + q) * 64 + e
/-- The entry of a key. -/
def State.ent (s : State) (k : Nat) : Entry := Tbl.at s.entries {} k
/-- The state with an entry replaced. -/
def State.setEnt (s : State) (k : Nat) (x : Entry) : State := { s with entries := Tbl.put s.entries {} k x }
/-- The 64 bytes of a ring entry (R98, R102). -/
def State.command (s : State) (k : Nat) : List Byte :=
  ((List.range 8).map fun j => leBytes 8 (Tbl.at s.ring 0 (8 * k + j))).flatten

/-- A context's state (R92). -/
def State.ctxState (s : State) (c : Nat) : Nat := s.get (GL_CTX_STAT.state c)
/-- RUN (R92). -/
def ctxRUN : Nat := 1
/-- HELD (R92). -/
def ctxHELD : Nat := 2
/-- TEARING (R92). -/
def ctxTEARING : Nat := 3
/-- WEDGED (R92). -/
def ctxWEDGED : Nat := 4
/-- RUN or HELD. -/
def State.live (s : State) (c : Nat) : Bool := s.ctxState c == ctxRUN || s.ctxState c == ctxHELD
/-- The context's timer clock: hall time without the time spent HELD (R120) (DEDUCED, notes/assumptions/18.md). -/
def State.runClock (s : State) (c : Nat) : Nat :=
  let x := s.cxAt c
  if s.ctxState c == ctxHELD then x.heldAt - x.heldAcc else s.now - x.heldAcc

/-- OPEN (CM_STAT.phase). -/
def phOPEN : Nat := 0
/-- PREPARE. -/
def phPREPARE : Nat := 1
/-- VOTED. -/
def phVOTED : Nat := 2
/-- ARMED. -/
def phARMED : Nat := 3
/-- IN_DOUBT. -/
def phINDOUBT : Nat := 4
/-- FENCED. -/
def phFENCED : Nat := 5
/-- A context's commit phase. -/
def State.phase (s : State) (c : Nat) : Nat := s.get (CM_STAT.phase c)
/-- The bank a context's bank selector names active (R65). -/
def State.active (s : State) (c : Nat) : Nat := s.get (CM_STAT.sel c)
/-- Whether the context is in the commit window of R126. -/
def State.window (s : State) (c : Nat) : Bool := 1 ≤ s.phase c && s.phase c ≤ 4
/-- OFF (TM_STAT.state). -/
def tmOFF : Nat := 0
/-- FORMING. -/
def tmFORMING : Nat := 1
/-- ENCODING. -/
def tmENCODING : Nat := 2
/-- PROTECTED. -/
def tmPROTECTED : Nat := 3
/-- DEGRADED. -/
def tmDEGRADED : Nat := 4
/-- REBUILDING. -/
def tmREBUILDING : Nat := 5
/-- FAILED. -/
def tmFAILED : Nat := 6
/-- A context's team state. -/
def State.team (s : State) (c : Nat) : Nat := s.get (TM_STAT.state c)

/-- The running work with an id. -/
def findJob (l : List Job) (id : Nat) : Option Job := l.find? fun j => j.id == id
/-- The running work with an id. -/
def State.job (s : State) (id : Nat) : Option Job := findJob s.jobs id
/-- The state with a running work replaced. -/
def State.setJob (s : State) (j : Job) : State := { s with jobs := s.jobs.map fun x => if x.id == j.id then j else x }
/-- The state without a running work. -/
def State.delJob (s : State) (id : Nat) : State := { s with jobs := s.jobs.filter fun x => x.id != id }
/-- The state with a new piece of work, and its id. -/
def State.addJob (s : State) (j : Job) : State :=
  { s with jobs := s.jobs ++ [{ j with id := s.nextJob }], nextJob := s.nextJob + 1 }
/-- Whether the work is the command of entry key k. -/
def Job.isCmd (j : Job) (c q e : Nat) : Bool := j.owner == .cmd c q e && j.ctx == c
/-- Whether the work is a queued command: one of the context that its entry belongs to. -/
def Job.isCommand (j : Job) : Bool :=
  match j.owner with
  | .cmd c _ _ => c == j.ctx && c < 4
  | _ => false
/-- Whether the work is a command of a context. -/
def Job.cmdOf (j : Job) (c : Nat) : Bool := j.isCommand && j.ctx == c
/-- The running command of an entry. -/
def State.cmdJob (s : State) (c q e : Nat) : Option Job := s.jobs.find? fun j => j.isCmd c q e
/-- Work added in front of the rest, after the unit under way. -/
def Job.push (j : Job) (gs : List Seg) : Job :=
  match j.segs with
  | [] => { j with segs := gs }
  | h :: t => { j with segs := h :: (gs ++ t) }
/-- An operand of n bytes at a byte of the command (R102). -/
def Job.arg (j : Job) (lo n : Nat) : Nat := leAt j.entry lo n

/-- The opcode byte of a command. -/
def opc (e : List Byte) : Nat := leAt e 0 1
/-- NOP and the other codes of R105. -/
def opNOP : Nat := 0x00
def opWAITHALL : Nat := 0x02
def opREGIONCOPY : Nat := 0x10
def opSTABLELOAD : Nat := 0x18
def opSTABLEEVICT : Nat := 0x19
def opUPDATE : Nat := 0x20
def opPRECOND : Nat := 0x21
def opPUT : Nat := 0x30
def opGET : Nat := 0x31
def opCOLLECTIVE : Nat := 0x38
def opNORM : Nat := 0x39
def opSTEPEND : Nat := 0x40
def opAUDIT : Nat := 0x48
def opSCRUB : Nat := 0x49
def opDIGEST : Nat := 0x4A
def opDRAIN : Nat := 0x50
def opJOBLOAD : Nat := 0x51
def opEXPORT : Nat := 0x52
def opIMPORT : Nat := 0x53
/-- The opcodes of R105. -/
def opcodes : List Nat := [opNOP, opWAITHALL, opREGIONCOPY, opSTABLELOAD, opSTABLEEVICT, opUPDATE, opPRECOND, opPUT,
  opGET, opCOLLECTIVE, opNORM, opSTEPEND, opAUDIT, opSCRUB, opDIGEST, opDRAIN, opJOBLOAD, opEXPORT, opIMPORT]

/-- R132's codes of a command that does nothing or ends in a fault. -/
def faultCodes : List Nat := [0x10, 0x11, 0x12, 0x13, 0x14, 0x15, 0x16, 0x17, 0x18, 0x19, 0x1A, 0x30, 0x31, 0x32, 0x33, 0x34,
  0x35, 0x36, 0x37, 0x38, 0x3F]

/-- The status codes of R132. -/
def stOK : Nat := 0x00
def stNOTREADY : Nat := 0x01
def stBADOPCODE : Nat := 0x10
def stBADFIELD : Nat := 0x11
def stREGION : Nat := 0x12
def stWINDOW : Nat := 0x13
def stSTABLE : Nat := 0x14
def stBINDING : Nat := 0x15
def stCLASS : Nat := 0x16
def stTOOLARGE : Nat := 0x17
def stTEARDOWN : Nat := 0x18
def stDEPFAILED : Nat := 0x19
def stVERSION : Nat := 0x1A
def stOKDEGRADED : Nat := 0x20
def stGUARDSKIPPED : Nat := 0x21
def stAUDITMISMATCH : Nat := 0x22
def stTIMEOUT : Nat := 0x30
def stMEMLOST : Nat := 0x31
def stREMOTEDROPPED : Nat := 0x32
def stLINKFAILED : Nat := 0x33
def stFENCED : Nat := 0x34
def stABORTED : Nat := 0x35
def stGUARDREFUSED : Nat := 0x36
def stPEERLOST : Nat := 0x37
def stSTOREERROR : Nat := 0x38
def stINTERNAL : Nat := 0x3F

end Sys2Proof.Machine
end

