-- ==== Sys2Proof/Machine/Emcy.lean ====
section
/-! DEFINITION. The management node's frames and emergency messages (R475, R476, R480): which conditions are active,
the error register, the inhibit time, and the message that the last condition's end sends. -/

namespace Sys2Proof.Machine

/-- Whether the management node can send a frame: on the bus, with an NMT state, and not bus-off (R472, R474)
(DEDUCED, notes/assumptions/32.md). -/
def State.onBus (s : State) : Bool :=
  s.is GL_MG_CFG.bus_on && s.get GL_MG_STAT.nmt ≠ 0 && !s.is GL_MG_STAT.bus_off

/-- The error-passive bit follows the counters (R472; ISO 11898-1 puts the limit above 127). -/
def State.syncPassive (s : State) : State :=
  s.setB GL_MG_STAT.passive (decide (127 < s.get GL_MG_STAT.tec) || decide (127 < s.get GL_MG_STAT.recv_err))

/-- A frame of the management node; a frame sent lowers the transmit error counter by one (R472, ISO 11898-1). -/
def State.canSend0 (s : State) (base : Nat) (data : List Byte) : State :=
  if s.onBus then
    ((s.emit (.can 0 (base + s.get GL_MG_CFG.node) data)).dec GL_MG_STAT.tec 1).syncPassive
  else s

/-- A frame received without error (R472, ISO 11898-1): the receive error counter falls by one, and from above 127 to a
value between 119 and 127 that is left open. -/
def State.canReceived (s : State) : State :=
  if s.get GL_MG_STAT.recv_err ≤ 127 then s.dec GL_MG_STAT.recv_err 1
  else
    let (s, v) := s.fresh 8
    (s.set GL_MG_STAT.recv_err (119 + v % 9)).syncPassive

/-- Whether any condition of R480 is active: its register bit or state persists. -/
def State.condActive (s : State) : Bool :=
  ((List.range 4).any fun c => s.is (TK_STAT.alarm c) || s.ctxState c == ctxWEDGED || s.phase c == phINDOUBT)
    || s.is DG_FILL.fail || s.is FB_STAT.narrow || s.is YK_STAT.degraded || s.is YK_STAT.failed

/-- The error register 0x1001: bit 7 while any condition is active (R480); the others are not set by any rule. -/
def State.errorReg (s : State) : Nat := if s.condActive then 0x80 else 0

/-- EMCY is sent in pre-operational and operational (R476). -/
def State.emcySent (s : State) : Bool := s.get GL_MG_STAT.nmt == 1 || s.get GL_MG_STAT.nmt == 2

/-- Whether the inhibit time of a code has passed since it was last sent (R480). -/
def State.emcyOpen (s : State) (code : Nat) : Bool :=
  match Tbl.find s.mgmt.emcyAt code with
  | some t => decide (t + s.mgmt.inhibit * 15625 ≤ s.now)
  | none => true

/-- The frame of an EMCY (R480): the code, the error register and five payload bytes; not sent within the inhibit time of
the same code. -/
def State.emcyFrame (s : State) (code : Nat) (payload : List Byte) : State :=
  if s.emcySent ∧ s.emcyOpen code then
    let t := s.canSend0 0x080 (leBytes 2 code ++ leBytes 1 s.errorReg ++ padTo 5 payload)
    t.setMgmt { t.mgmt with emcyAt := Tbl.ins t.mgmt.emcyAt code s.now }
  else s

/-- An EMCY of a code with five payload bytes (R480). -/
def State.emcy (s : State) (code : Nat) (payload : List Byte) : State :=
  (s.setMgmt { s.mgmt with anyCond := s.mgmt.anyCond || s.condActive }).emcyFrame code payload

/-- Code 0x0000 when the last active condition has ended (R480). -/
def State.emcyEnd (s : State) : State :=
  if s.mgmt.anyCond ∧ ¬ s.condActive then
    (s.setMgmt { s.mgmt with anyCond := false }).emcyFrame 0 []
  else s

end Sys2Proof.Machine
end

