-- ==== Sys2Proof/Machine/Send.lean ====
section
/-! DEFINITION. Forming and queueing messages (R339, R343, R350), and the block's own observations and reports (R366,
R367). -/

namespace Sys2Proof.Machine

/-- This device's id (GS_SELF). -/
def State.self (s : State) : Nat := s.get GS_SELF.devid

/-- A message put in line for transmission; the port sends it under the link's credits (R360) and the order of R14. -/
def State.send (s : State) (m : Msg) : State := s.setFab { s.fab with txq := s.fab.txq ++ [m] }

/-- An accepted message leaves its buffer, and its credits return (R359, R360)
(DESIGN CHOICE, notes/assumptions/14.md). -/
def State.done (s : State) (m : Msg) : State :=
  s.emit (.credit 19 (msgClass m.typ) false 1 (cdiv m.size 64))

/-- The messages that the buffer of a class holds (R359): requests that wait or are being served, results of collectives
whose tile has no slot yet, and reports that wait for the sequencer. Replies are delivered as they arrive. -/
def State.buffered (s : State) (k : Nat) : List Msg :=
  if k = 0 then s.fab.reqs.map (·.msg)
  else if k = 2 then s.jobs.flatMap fun j => j.gs.early
  else if k = 3 then s.rec_.waiting
  else []

/-- The team epoch a message of a context carries: the epoch in force, or 0 with no team (R343). -/
def State.msgEpoch (s : State) (c : Nat) : Nat := if s.team c = tmOFF then 0 else s.get (TM_STAT.epoch c)

/-- A message of the common header from context c; dgen is 0, which the receiver does not check (R350). -/
def State.common (s : State) (c typ dst tag : Nat) (body : List Byte) : Msg :=
  { typ := typ, ctx := c, ord := b2n (msgOrdered typ), ver := s.get FB_CFG.ver_send, dst := dst, src := s.self,
    sgen := s.get (GL_CTX_STAT.gen c), epoch := s.msgEpoch c, tag := tag, body := body }

/-- A reply to a message of the common header: dgen copies the request's sgen (R350), the tag is echoed (R343). -/
def State.reply (s : State) (m : Msg) (typ : Nat) (body : List Byte) : Msg :=
  { s.common m.ctx typ m.src m.tag body with gen := m.sgen }

/-- The member byte of a fragment header: the own index in force and the rcv bit (R345). -/
def State.memberByte (s : State) (c : Nat) (rcv : Bool) : Nat := s.get (TM_STAT.index c) % 16 + 16 * b2n rcv

/-- A message of team traffic to member index i (R345, R350). -/
def State.frag (s : State) (c typ i bank stripe step : Nat) (rcv : Bool) (body : List Byte) : Msg :=
  let v := (s.tmAt c).vals
  { typ := typ, ctx := c, bit2 := bank, ver := s.get FB_CFG.ver_send, dst := (v.members.getD i (0, 0)).1, src := s.self,
    gen := s.get (FB_TGEN.gen c i), sgen := s.memberByte c rcv, epoch := v.epoch, tag := v.jobId, team := v.teamId,
    stripe := stripe, step := step % 2 ^ 32, body := body }

/-- A reply to team traffic: bank, step, stripe copied (R348) and gen that of the asking member (R350). -/
def State.fragReply (s : State) (m : Msg) (typ bank step : Nat) (body : List Byte) : Msg :=
  let v := (s.tmAt m.ctx).vals
  { typ := typ, ctx := m.ctx, bit2 := bank, ver := s.get FB_CFG.ver_send, dst := m.src, src := s.self,
    gen := s.get (FB_TGEN.gen m.ctx (m.sgen % 16)), sgen := s.memberByte m.ctx false, epoch := v.epoch, tag := v.jobId,
    team := v.teamId, stripe := m.stripe, step := step % 2 ^ 32, body := body }

/-- DROP or FRAG_DROP with a status (R348), counted in FB_DROP where the spec counts it. -/
def State.drop (s : State) (m : Msg) (status : Nat) : State :=
  let s := if status = stREMOTEDROPPED then s.satInc FB_DROP.remote 1
    else if status = stREGION then s.satInc FB_DROP.region 1
    else if status = stVERSION then s.satInc FB_DROP.version 1 else s
  let body := leBytes 1 status ++ leBytes 1 m.typ ++ leBytes 2 0
  if isTeamType m.typ then s.send (s.fragReply m 0x12 m.bit2 m.step body) else s.send (s.reply m 0x07 body)

/-- The managers of R364. -/
def State.managers (s : State) : List Nat :=
  ((List.range 4).filter fun m => s.is (FB_MGR.valid m)).map fun m => s.get (FB_MGR.devid m)

/-- A REPORT to each valid manager (R364, R367). -/
def State.reportTo (s : State) (subject kind count first : Nat) : State :=
  s.managers.foldl (fun s d =>
    (s.send { s.common 0 0x3B d 0
        (leBytes 2 subject ++ leBytes 1 kind ++ leBytes 1 0 ++ leBytes 4 count ++ leBytes 8 first) with
        sgen := 0, epoch := 0 }).satInc DG_REP_STAT.sent 1) s

/-- The report entry of a subject and kind. -/
def repFind (l : List RepEnt) (subject kind : Nat) : Option RepEnt :=
  l.find? fun e => e.subject == subject && e.kind == kind

/-- The entry with the oldest window start. -/
def repOldest : List RepEnt → Option RepEnt
  | [] => none
  | e :: t => match repOldest t with
    | none => some e
    | some f => some (if f.wstart < e.wstart then f else e)

/-- The report table replaced, DG_REP_STAT.in_use with it. -/
def State.setReps (s : State) (l : List RepEnt) : State :=
  (s.setRec { s.rec_ with reps := l }).set DG_REP_STAT.in_use l.length

/-- An entry's window ends: a follow-up REPORT where its count is not zero, and the entry is freed (R367). -/
def State.closeRep (s : State) (e : RepEnt) : State :=
  let s := s.setReps (s.rec_.reps.filter fun f => !(f.subject == e.subject && f.kind == e.kind))
  if e.count = 0 then s else s.reportTo e.subject e.kind e.count e.first

/-- An observation of a subject device (R366) against the report table (R367). -/
def State.observe (s : State) (subject kind : Nat) : State :=
  match repFind s.rec_.reps subject kind with
  | some e =>
    (s.setReps (s.rec_.reps.map fun f =>
        if f.subject == e.subject && f.kind == e.kind then { f with count := f.count + 1 } else f)).satInc
      DG_REP_STAT.coalesced 1
  | none =>
    let s := if s.rec_.reps.length < 64 then s else
      match repOldest s.rec_.reps with
      | some e => (s.closeRep e).satInc DG_REP_STAT.evicted 1
      | none => s
    let s := s.setReps (s.rec_.reps ++ [⟨subject, kind, 0, s.now, s.now⟩])
    s.reportTo subject kind 1 s.now

/-- A SUSPECT observation (R414, R434 to R436), counted in DG_SUS_STAT. -/
def State.suspect (s : State) (device : Nat) : State := (s.observe device 7).satInc DG_SUS_STAT.raised 1

end Sys2Proof.Machine
end

