-- ==== Sys2Proof/Machine/Group.lean ====
section
/-! DEFINITION. Coordinates, groups, ranks and the two trees (R212 to R219). -/

namespace Sys2Proof.Machine

/-- A logical coordinate (R212). -/
structure Coord where
  c0 : Nat
  c1 : Nat
  c2 : Nat
  c3 : Nat
  deriving DecidableEq, Repr

/-- The value on an axis. -/
def Coord.get (x : Coord) (a : Nat) : Nat := if a = 0 then x.c0 else if a = 1 then x.c1 else if a = 2 then x.c2 else x.c3
/-- The coordinate with an axis set. -/
def Coord.put (x : Coord) (a v : Nat) : Coord :=
  if a = 0 then { x with c0 := v } else if a = 1 then { x with c1 := v } else if a = 2 then { x with c2 := v }
  else { x with c3 := v }
/-- The coordinate as four bytes, c0 first (R374). -/
def Coord.word (x : Coord) : Nat := x.c0 + 256 * x.c1 + 65536 * x.c2 + 16777216 * x.c3
/-- The coordinate of four bytes. -/
def coordOf (w : Nat) : Coord := ⟨w % 256, w / 256 % 256, w / 65536 % 256, w / 16777216 % 256⟩

/-- The device's own coordinate (GS_SELF). -/
def State.coord (s : State) : Coord := ⟨s.get GS_SELF.c0, s.get GS_SELF.c1, s.get GS_SELF.c2, s.get GS_SELF.c3⟩
/-- An axis size (GS_SHAPE): 0 means 256. -/
def State.axisSize (s : State) (a : Nat) : Nat :=
  let v := if a = 0 then s.get GS_SHAPE.n0 else if a = 1 then s.get GS_SHAPE.n1
    else if a = 2 then s.get GS_SHAPE.n2 else s.get GS_SHAPE.n3
  if v = 0 then 256 else v
/-- The default device id of a coordinate (R212). -/
def State.defaultDev (s : State) (x : Coord) : Nat :=
  x.c0 + s.axisSize 0 * (x.c1 + s.axisSize 1 * (x.c2 + s.axisSize 2 * x.c3))

/-- The valid substitution entries of a context (R213). -/
def State.substs (s : State) (c : Nat) : List Nat := (List.range 64).filter fun i => s.is (GS_SUBST.valid c i)

/-- Whether a coordinate is marked absent (R213). -/
def State.absent (s : State) (c : Nat) (x : Coord) : Bool :=
  (s.substs c).any fun i => s.is (GS_SUBST.absent c i) && s.get (GS_SUBST.coord c i) == x.word

/-- The device a message for a coordinate goes to (R213). -/
def State.devOf (s : State) (c : Nat) (x : Coord) : Nat :=
  match (s.substs c).find? fun i => !s.is (GS_SUBST.absent c i) && s.get (GS_SUBST.coord c i) == x.word with
  | some i => s.get (GS_SUBST.devid c i)
  | none => s.defaultDev x

/-- Whether a source device is the default device of a coordinate that an absent entry removes (R378). -/
def State.removedSrc (s : State) (c src : Nat) : Bool :=
  (s.substs c).any fun i => s.is (GS_SUBST.absent c i) && s.defaultDev (coordOf (s.get (GS_SUBST.coord c i))) == src

/-- An axis is set in a group (R214). -/
def State.axisOn (s : State) (c g a : Nat) : Bool := nbits (s.get (GS_GRP_CFG.axes c g)) a 1 == 1
/-- The box's low end on an axis. -/
def State.boxLo (s : State) (c g a : Nat) : Nat :=
  if a = 0 then s.get (GS_GRP_BOX.lo0 c g) else if a = 1 then s.get (GS_GRP_BOX.lo1 c g)
  else if a = 2 then s.get (GS_GRP_BOX.lo2 c g) else s.get (GS_GRP_BOX.lo3 c g)
/-- The box's high end on an axis. -/
def State.boxHi (s : State) (c g a : Nat) : Nat :=
  if a = 0 then s.get (GS_GRP_BOX.hi0 c g) else if a = 1 then s.get (GS_GRP_BOX.hi1 c g)
  else if a = 2 then s.get (GS_GRP_BOX.hi2 c g) else s.get (GS_GRP_BOX.hi3 c g)

/-- Whether a coordinate meets the box conditions of a group (R214). -/
def State.inBox (s : State) (c g : Nat) (x : Coord) : Bool :=
  (List.range 4).all fun a =>
    if s.axisOn c g a then s.boxLo c g a ≤ x.get a && x.get a ≤ s.boxHi c g a else x.get a == s.coord.get a

/-- Whether a coordinate is a member of a group (R214). -/
def State.isMember (s : State) (c g : Nat) (x : Coord) : Bool := s.inBox c g x && !s.absent c x

/-- The position of a coordinate in a group's box: q of R215. -/
def State.boxPos (s : State) (c g : Nat) (x : Coord) : Nat :=
  ((List.range 4).foldl (fun (q, m) a =>
    if s.axisOn c g a then
      (q + (x.get a - s.boxLo c g a) * m, m * (s.boxHi c g a - s.boxLo c g a + 1))
    else (q, m)) (0, 1)).1

/-- The coordinates in a group's box: m of R215. -/
def State.boxSize (s : State) (c g : Nat) : Nat :=
  (List.range 4).foldl (fun m a =>
    if s.axisOn c g a then m * (s.boxHi c g a - s.boxLo c g a + 1) else m) 1

/-- The coordinate at a position of the box. -/
def State.posCoord (s : State) (c g q : Nat) : Coord :=
  ((List.range 4).foldl (fun (x, q) a =>
    if s.axisOn c g a then
      let w := s.boxHi c g a - s.boxLo c g a + 1
      (x.put a (s.boxLo c g a + q % w), q / w)
    else (x, q)) (s.coord, q)).1

/-- The positions of the absent coordinates in a group's box, rising, none twice. -/
def State.absentPos (s : State) (c g : Nat) : List Nat :=
  (s.substs c).foldl (fun l i =>
    let x := coordOf (s.get (GS_SUBST.coord c i))
    if s.is (GS_SUBST.absent c i) ∧ s.inBox c g x then setAdd l (s.boxPos c g x) else l) []

/-- The size of a group (R215). -/
def State.groupSize (s : State) (c g : Nat) : Nat := s.boxSize c g - (s.absentPos c g).length

/-- The rank of a coordinate in a group (R215). -/
def State.rankOf (s : State) (c g : Nat) (x : Coord) : Nat :=
  let q := s.boxPos c g x
  q - ((s.absentPos c g).filter fun a => a < q).length

/-- The coordinate of a rank. -/
def State.rankCoord (s : State) (c g i : Nat) : Coord :=
  s.posCoord c g ((s.absentPos c g).foldl (fun q a => if a ≤ q then q + 1 else q) i)

/-- The device of a rank (R213). -/
def State.rankDev (s : State) (c g i : Nat) : Nat := s.devOf c (s.rankCoord c g i)

/-- A group's trees as one member sees them (R219): n and the own rank as the block filled them in, and fan. -/
structure Tree where
  n : Nat
  me : Nat
  fan : Nat
  deriving DecidableEq, Repr

/-- The trees of a group. -/
def State.tree (s : State) (c g : Nat) : Tree :=
  ⟨s.get (GS_GRP_STAT.n c g), s.get (GS_GRP_STAT.rank c g), s.get (GS_GRP_CFG.fan c g)⟩

/-- The root's rank: tree 0 is the near tree, 1 the off tree (R219). -/
def Tree.root (t : Tree) (tr : Nat) : Nat := if tr = 0 then 0 else t.n - 1

/-- The parent of rank i (R219); the root has none. -/
def Tree.parentOf (t : Tree) (tr i : Nat) : Option Nat :=
  if i = t.root tr then none
  else if tr = 0 then some ((i - 1) / t.fan)
  else some (t.n - 1 - (t.n - 2 - i) / t.fan)

/-- The children of rank i in ascending rank (R219). -/
def Tree.childrenOf (t : Tree) (tr i : Nat) : List Nat :=
  if tr = 0 then
    (List.range t.fan).filterMap fun k => let x := i * t.fan + 1 + k; if x < t.n then some x else none
  else
    ((List.range t.fan).filterMap fun k =>
      let y := (t.n - 1 - i) * t.fan + 1 + k
      if y < t.n then some (t.n - 1 - y) else none).reverse

/-- The own parent in a tree. -/
def Tree.parent (t : Tree) (tr : Nat) : Option Nat := t.parentOf tr t.me
/-- The own children in a tree. -/
def Tree.children (t : Tree) (tr : Nat) : List Nat := t.childrenOf tr t.me
/-- The child of this member on the way down to a rank; none where the rank is not below it. -/
def Tree.hopAux (t : Tree) (tr : Nat) : Nat → Nat → Option Nat
  | 0, _ => none
  | f + 1, x =>
    match t.parentOf tr x with
    | some p => if p = t.me then some x else t.hopAux tr f p
    | none => none
/-- The child of this member on the way down to a rank (depths stay below 17). -/
def Tree.hop (t : Tree) (tr x : Nat) : Option Nat := if x = t.me then none else t.hopAux tr 17 x
/-- Whether this member's tree root is its own rank. -/
def Tree.isRoot (t : Tree) (tr : Nat) : Bool := t.me == t.root tr

/-- The smallest depth d with (fan^(d+1) − 1) / (fan − 1) ≥ n (R219), looked for up to 16. -/
def treeDepthAux : Nat → Nat → Nat → Nat → Nat → Nat
  | 0, _, _, d, _ => d
  | f + 1, n, fan, d, have_ => if n ≤ have_ then d else treeDepthAux f n fan (d + 1) (have_ * fan + 1)

/-- A tree's depth (R219). -/
def treeDepth (n fan : Nat) : Nat := treeDepthAux 17 n fan 0 1

/-- The rank of the device that sent a message, among the children or the parent in a tree. -/
def State.rankOfDev (s : State) (c g src : Nat) (ranks : List Nat) : Option Nat :=
  ranks.find? fun i => s.rankDev c g i == src

end Sys2Proof.Machine
end

