-- ==== Sys2Proof/Machine/Gf.lean ====
section
/-! DEFINITION. The field GF(2^8) of R39 (x^8 + x^4 + x^3 + x^2 + 1, 0x11D, α = 0x02), the inner code of R70 over one
stripe row, the team generator of R271 and the matrix inversion of R204. -/

namespace Sys2Proof.Machine

/-- Multiplication by α (R39). -/
def gfDouble (a : Nat) : Nat := if a < 128 then 2 * a else (2 * a) ^^^ 0x11D

/-- Multiplication bit by bit of the second factor. -/
def gfMulAux : Nat → Nat → Nat → Nat
  | 0, _, _ => 0
  | n + 1, a, b => (if b % 2 = 1 then a else 0) ^^^ gfMulAux n (gfDouble a) (b / 2)

/-- The product in the field of R39. -/
def gfMul (a b : Nat) : Nat := gfMulAux 8 a b

/-- α to a power. -/
def gfPow : Nat → Nat
  | 0 => 1
  | n + 1 => gfDouble (gfPow n)

/-- a to the power n. -/
def gfExp (a : Nat) : Nat → Nat
  | 0 => 1
  | n + 1 => gfMul a (gfExp a n)

/-- The inverse of a nonzero element: a to the power 254. -/
def gfInv (a : Nat) : Nat :=
  let a2 := gfMul a a
  let a4 := gfMul a2 a2
  let a8 := gfMul a4 a4
  let a16 := gfMul a8 a8
  let a32 := gfMul a16 a16
  let a64 := gfMul a32 a32
  let a128 := gfMul a64 a64
  gfMul a128 (gfMul a64 (gfMul a32 (gfMul a16 (gfMul a8 (gfMul a4 a2)))))

/-- A coefficient times every byte. -/
def gfScale (c : Nat) (bs : List Byte) : List Byte :=
  if c = 1 then bs else bs.map fun b => BitVec.ofNat 8 (gfMul c b.toNat)

/-- The bytewise sum of lists scaled by coefficients. -/
def gfSum (n : Nat) : List (Nat × List Byte) → List Byte
  | [] => List.replicate n 0#8
  | (c, bs) :: t => xorBytes (if c = 0 then [] else gfScale c bs) (gfSum n t)

/-- P of a row's 18 data blocks (R70). -/
def innerP (n : Nat) (ds : List (List Byte)) : List Byte := gfSum n (ds.map fun d => (1, d))

/-- Q of a row's 18 data blocks (R70). -/
def innerQ (n : Nat) (ds : List (List Byte)) : List Byte := gfSum n (ds.zipIdx.map fun (d, i) => (gfPow i, d))

/-- The positions of the missing blocks. -/
def missing : List (Option (List Byte)) → Nat → List Nat
  | [], _ => []
  | none :: t, i => i :: missing t (i + 1)
  | some _ :: t, i => missing t (i + 1)

/-- The row's 18 data blocks from those that can be read and P and Q (R75), none where too much is missing (R76). -/
def solveRow (n : Nat) (ds : List (Option (List Byte))) (p q : Option (List Byte)) : Option (List (List Byte)) :=
  let known := ds.map fun d => d.getD (List.replicate n 0#8)
  match missing ds 0, p, q with
  | [], _, _ => some known
  | [i], some p, _ => some (setAt known i (xorBytes p (innerP n known)))
  | [i], none, some q => some (setAt known i (gfScale (gfInv (gfPow i)) (xorBytes q (innerQ n known))))
  | [i, j], some p, some q =>
    let a := xorBytes p (innerP n known)
    let b := xorBytes q (innerQ n known)
    let den := gfInv (gfPow i ^^^ gfPow j)
    let di := gfScale den (xorBytes b (gfScale (gfPow j) a))
    some (setAt (setAt known i di) j (xorBytes a di))
  | _, _, _ => none

/-- The generator entry of parity position k + j, column q (R271). -/
def genEntry (j q : Nat) : Nat := gfMul (0x10 ^^^ q) (gfInv ((0x10 + j) ^^^ q))

/-- The generator row of a position (R271). -/
def genRow (k p : Nat) : List Nat :=
  if p < k then (List.range k).map fun q => if q = p then 1 else 0
  else (List.range k).map fun q => genEntry (p - k) q

/-- A row minus f times another. -/
def rowSub (f : Nat) (a b : List Nat) : List Nat := List.zipWith (fun x y => x ^^^ gfMul f y) a b

/-- The first row at or after a place with a nonzero entry in a column. -/
def findPivot : List (List Nat) → Nat → Nat → Option Nat
  | [], _, _ => none
  | row :: t, c, i => if row.getD c 0 ≠ 0 then some i else findPivot t c (i + 1)

/-- Gauss and Jordan elimination of columns c, c + 1, … over the rows (R204: the decode matrix is the inverse of the
generator's rows of the fragments used). -/
def gaussAux : Nat → Nat → List (List Nat) → Option (List (List Nat))
  | 0, _, m => some m
  | n + 1, c, m =>
    match findPivot (m.drop c) c c with
    | none => none
    | some i =>
      let rc := m.getD c []
      let ri := m.getD i []
      let m := setAt (setAt m i rc) c ri
      let f := gfInv (ri.getD c 0)
      let pr := ri.map fun x => gfMul f x
      let m := m.zipIdx.map fun (row, k) => if k = c then pr else rowSub (row.getD c 0) row pr
      gaussAux n (c + 1) m

/-- The inverse of a k by k matrix of rows. -/
def gfMatInv (k : Nat) (m : List (List Nat)) : Option (List (List Nat)) :=
  let aug := m.zipIdx.map fun (row, i) => row ++ (List.range k).map fun j => if j = i then 1 else 0
  (gaussAux k 0 aug).map fun m => m.map fun row => row.drop k

/-- A row vector times a matrix of k rows. -/
def rowTimes (k : Nat) (v : List Nat) (m : List (List Nat)) : List Nat :=
  (List.range k).map fun j => (List.range k).foldl (fun a i => a ^^^ gfMul (v.getD i 0) ((m.getD i []).getD j 0)) 0

/-- The decode row of a wanted position from the k positions at hand (R204). -/
def decodeRow (k : Nat) (have_ : List Nat) (want : Nat) : Option (List Nat) :=
  (gfMatInv k (have_.map (genRow k))).map fun inv => rowTimes k (genRow k want) inv

/-- The wanted fragment from the fragments at hand, all of n bytes (R206, R291). -/
def decodeFrag (n k : Nat) (have_ : List (Nat × List Byte)) (want : Nat) : Option (List Byte) :=
  (decodeRow k (have_.map (·.1)) want).map fun row => gfSum n (row.zip (have_.map (·.2)))

end Sys2Proof.Machine
end

