-- ==== Sys2Proof/Machine/Region.lean ====
section
/-! DEFINITION. Regions: kinds (R57), geometry and placement (R61), overlap and validation (R60, R63, R64, R71, R261),
references and freeing (R89), and the region-table records on the memory ports (R504). -/

namespace Sys2Proof.Machine

/-- Whether a kind is banked (R57). -/
def kindBanked (k : Nat) : Bool := 1 ≤ k && k ≤ 7

/-- Bytes of one element of a format (GL_RGN_CFG.fmt). -/
def fmtBytes (f : Nat) : Nat :=
  if f = 0 then 2 else if f = 1 then 3 else if f = 2 ∨ f = 4 then 4 else if f = 5 then 8 else 1

/-- The K8 block format. -/
def fmtK8 : Nat := 3
/-- The byte format. -/
def fmtBYTE : Nat := 6

/-- A region's description, as its registers hold it. -/
structure Rgn where
  kind : Nat
  fmt : Nat
  coded : Bool
  inner : Bool
  team : Bool
  ctx : Nat
  group : Nat
  slot : Nat
  valid : Bool
  base : Nat
  count : Nat
  deriving DecidableEq, Repr

/-- The description of region n. -/
def State.rgn (s : State) (n : Nat) : Rgn :=
  { kind := s.get (GL_RGN_CFG.kind n), fmt := s.get (GL_RGN_CFG.fmt n), coded := s.is (GL_RGN_CFG.layout n),
    inner := s.is (GL_RGN_CFG.inner n), team := s.is (GL_RGN_CFG.team n), ctx := s.get (GL_RGN_CFG.ctx n),
    group := s.get (GL_RGN_CFG.group n), slot := s.get (GL_RGN_CFG.slot n), valid := s.is (GL_RGN_CFG.valid n),
    base := s.get (GL_RGN_LOC.base n) * 4096, count := s.get (GL_RGN_SIZE.count n) }

/-- Whether the region is banked. -/
def Rgn.banked (g : Rgn) : Bool := kindBanked g.kind
/-- Bytes of one element. -/
def Rgn.esize (g : Rgn) : Nat := fmtBytes g.fmt
/-- Data positions of a stripe row: D of R61. -/
def Rgn.width (g : Rgn) : Nat := if g.coded then 18 else 20
/-- Element blocks. -/
def Rgn.blocks (g : Rgn) : Nat := cdiv g.count 128
/-- rows(r) of R61. -/
def Rgn.rows (g : Rgn) : Nat := cdiv g.blocks g.width
/-- Bytes of an element block: B(r). -/
def Rgn.bsize (g : Rgn) : Nat := 128 * g.esize
/-- bank_bytes(r) of R61. -/
def Rgn.bankBytes (g : Rgn) : Nat :=
  roundUp (g.rows * g.bsize + if g.fmt = fmtK8 then 4 * g.rows else 0) 4096
/-- The bytes of stack memory a region takes on each stack (R63). -/
def Rgn.extent (g : Rgn) : Nat := if g.banked then 2 * g.bankBytes else g.bankBytes
/-- Bytes of the logical byte space: elements (R354), or the scales of a K8 region. -/
def Rgn.bytes (g : Rgn) (sc : Bool) : Nat := if sc then 4 * g.blocks else g.count * g.esize
/-- Block size of an area: an element block, or one scale (R61). -/
def Rgn.area (g : Rgn) (sc : Bool) : Nat := if sc then 4 else g.bsize
/-- The stack-local address of an area's row 0 in bank k (R61). -/
def Rgn.start (g : Rgn) (k : Nat) (sc : Bool) : Nat :=
  g.base + k * g.bankBytes + if sc then g.rows * 128 else 0
/-- The stack of P in row s (R61). -/
def stackP (s : Nat) : Nat := 2 * s % 20
/-- The stack of data position d in row s (R61). -/
def Rgn.stack (g : Rgn) (s d : Nat) : Nat := if g.coded then (if d < stackP s then d else d + 2) else d

/-- R61: the stack and stack-local address of element i in bank k. -/
def Rgn.locate (g : Rgn) (i k : Nat) : Nat × Nat :=
  let b := i / 128
  let row := b / g.width
  (g.stack row (b % g.width), g.start k false + row * g.bsize + i % 128 * g.esize)

/-- A contiguous piece of a span: its row and data position, its offset in the block, its stack and address. -/
structure Piece where
  row : Nat
  d : Nat
  off : Nat
  n : Nat
  x : Nat
  addr : Nat
  deriving DecidableEq, Repr

/-- The pieces of a byte range, block by block (R61). -/
def piecesAux (g : Rgn) (k : Nat) (sc : Bool) : Nat → Nat → Nat → List Piece
  | 0, _, _ => []
  | f + 1, lo, n =>
    if n = 0 then [] else
    let bs := g.area sc
    let b := lo / bs
    let off := lo % bs
    let m := Nat.min n (bs - off)
    let row := b / g.width
    let d := b % g.width
    ⟨row, d, off, m, g.stack row d, g.start k sc + row * bs + off⟩ :: piecesAux g k sc f (lo + m) (n - m)

/-- The pieces of a span. -/
def State.pieces (s : State) (p : Span) : List Piece :=
  let g := s.rgn p.r
  piecesAux g p.k p.sc (p.n / g.area p.sc + 2) p.lo p.n

/-- Whether two regions' ranges meet (R63). -/
def overlap (a b : Rgn) : Bool := a.base < b.base + b.extent && b.base < a.base + a.extent

/-- The checks of R60, R63, R64, R71 and R261 on region n's description against every other valid region. -/
def State.rgnOk (s : State) (n : Nat) (g : Rgn) : Bool :=
  1 ≤ g.kind && g.kind ≤ 10 && g.fmt ≠ 7 && !(g.inner && !g.coded)
    && (!g.team || (1 ≤ g.kind && g.kind ≤ 6) || g.kind == 9)
    && (List.range 64).all fun m => m == n ||
      (let h := s.rgn m
       !h.valid || (!overlap g h && (h.group ≠ g.group || (h.coded == g.coded && h.count == g.count))))

/-- The region-table record of a region on the MPnn_RTU ports (R504). -/
def State.rtu (s : State) (n : Nat) : State :=
  let g := s.rgn n
  s.emit (.rtu n (g.valid && g.kind == 1) (if g.banked then s.active g.ctx else 0) g.base g.bankBytes)

/-- The poison list replaced, DG_POISON.used with it. -/
def State.setPoison (s : State) (l : List PoisonEnt) : State :=
  (s.setInteg { s.integ with poison := l }).set DG_POISON.used l.length

/-- Poison entries of a region are released when its valid bit is cleared (R422). -/
def State.releaseRgnPoison (s : State) (r : Nat) : State :=
  s.setPoison (s.integ.poison.filter fun p => p.region ≠ r)

/-- A region leaves the table: valid falls, its poison entries go (R422) and its record is sent. -/
def State.freeRgn (s : State) (n : Nat) : State :=
  let s := s.releaseRgnPoison n
  ((((s.set (GL_RGN_CFG.valid n) 0).set (GL_RGN_STAT.free_pending n) 0).set (GL_RGN_STAT.rows n) 0)).rtu n

/-- A reference taken on a region (R89). -/
def State.hold (s : State) (n : Nat) : State := s.wrapInc (GL_RGN_STAT.refs (n % 64)) 1

/-- A reference given back; a pending free takes place at refs 0 (R89). -/
def State.unhold (s : State) (n : Nat) : State :=
  let n := n % 64
  let s := s.dec (GL_RGN_STAT.refs n) 1
  if s.get (GL_RGN_STAT.refs n) = 0 ∧ s.is (GL_RGN_STAT.free_pending n) then s.freeRgn n else s

/-- A region's lost bit (R76, R77), with the channel vector of R525. -/
def State.lose (s : State) (n : Nat) : State := (s.set (GL_RGN_STAT.lost n) 1).irq 22

/-- The regions of kind 9 of a stable slot, ascending (R83). -/
def State.slotRgns (s : State) (n : Nat) : List Nat :=
  (List.range 64).filter fun r => let g := s.rgn r; g.valid && g.kind == 9 && g.slot == n

/-- EMPTY and the other states of GL_STB_SLOT.state (R83). -/
def sbEMPTY : Nat := 0
def sbLOADING : Nat := 1
def sbCODING : Nat := 2
def sbRESIDENT : Nat := 3
def sbEVICTING : Nat := 4

/-- Whether region r is a frozen region of a RESIDENT slot. -/
def State.resident (s : State) (r : Nat) : Bool :=
  let g := s.rgn r
  g.valid && g.kind == 9 && s.get (GL_STB_SLOT.state g.slot) == sbRESIDENT

/-- The stable parity region of some context's team, by the values in force (R267): no command writes it (R286). -/
def State.isSpar (s : State) (r : Nat) : Bool :=
  (List.range 4).any fun c => (s.tmAt c).vals.sparEn && s.get (TM_CFG.spar c) == r && s.team c ≠ tmOFF

/-- The regions of the state image of context c, ascending (R262). -/
def State.imageRgns (s : State) (c : Nat) : List Nat :=
  (List.range 64).filter fun r =>
    let g := s.rgn r
    g.valid && 1 ≤ g.kind && g.kind ≤ 6 && g.ctx == c && g.team

/-- A region's image size: elements, then K8 scales, padded to 4,096 (R262). -/
def Rgn.imageBytes (g : Rgn) : Nat :=
  roundUp (g.bytes false + if g.fmt = fmtK8 then g.bytes true else 0) 4096

/-- The size of an image over regions. -/
def State.imageSize (s : State) (rs : List Nat) : Nat := (rs.map fun r => (s.rgn r).imageBytes).sum

/-- The part of an image fragment that lies in one region's area: the area's byte, the offset in the fragment and the
length. -/
structure FragPart where
  r : Nat
  sc : Bool
  lo : Nat
  off : Nat
  n : Nat
  deriving DecidableEq, Repr

/-- The parts of fragment f of an image, over the regions' images in order (R262). -/
def State.fragParts (s : State) : List Nat → Nat → List FragPart
  | [], _ => []
  | r :: t, f =>
    let g := s.rgn r
    let m := g.imageBytes / 4096
    if f < m then
      let lo := 4096 * f
      let e := g.bytes false
      let a := if lo < e then [⟨r, false, lo, 0, Nat.min 4096 (e - lo)⟩] else []
      let k := if g.fmt = fmtK8 then g.bytes true else 0
      let slo := Nat.max lo e
      let shi := Nat.min (lo + 4096) (e + k)
      let b := if slo < shi then [⟨r, true, slo - e, slo - lo, shi - slo⟩] else []
      a ++ b
    else s.fragParts t (f - m)

/-- The fragments of an image that a byte range of a region's area touches: where the region's image begins, in
fragments. -/
def State.imageBase (s : State) : List Nat → Nat → Nat
  | [], _ => 0
  | r :: t, n => if r = n then 0 else (s.rgn r).imageBytes / 4096 + s.imageBase t n

end Sys2Proof.Machine
end

