-- ==== Sys2Proof/Machine/Num.lean ====
section
/-! DEFINITION. Exact numbers and their rounding: the short formats of R21 to R36, binary32 and binary64 of R37 and R38,
the K40 split of R30 to R33, and the lane arithmetic of the grid sum (R40 to R44).

An exact quotient or square root is carried as a number of many bits whose last bit says whether anything lies below
it: it rounds to every format of the block as the exact result does. -/

namespace Sys2Proof.Machine

/-- An exact value: NaR or a NaN, an infinity, or (−1)^neg × m × 2^e, zeros with their sign. -/
inductive Num where
  | nan
  | inf (neg : Bool)
  | fin (neg : Bool) (m : Nat) (e : Int)
  deriving DecidableEq, Repr

/-- A binary format: mantissa width, exponent width, bias. -/
structure Fmt where
  w : Nat
  ew : Nat
  bias : Nat
  deriving DecidableEq, Repr

/-- K8 (R34). -/
def fK8 : Fmt := ⟨3, 4, 7⟩
/-- K16 (R28). -/
def fK16 : Fmt := ⟨7, 8, 127⟩
/-- K32 (R28). -/
def fK32 : Fmt := ⟨23, 8, 127⟩
/-- binary32 (R37). -/
def fB32 : Fmt := ⟨23, 8, 127⟩
/-- binary64 (R37). -/
def fB64 : Fmt := ⟨52, 11, 1023⟩

/-- The sign bit of a word of a format. -/
def Fmt.sign (f : Fmt) (v : Nat) : Bool := nbits v (f.w + f.ew) 1 == 1
/-- The exponent field of a word of a format. -/
def Fmt.exp (f : Fmt) (v : Nat) : Nat := nbits v f.w f.ew
/-- A word with a sign. -/
def Fmt.signed (f : Fmt) (neg : Bool) (v : Nat) : Nat := b2n neg * 2 ^ (f.w + f.ew) + v
/-- The canonical NaR of a K format (R22, R28). -/
def Fmt.nar (f : Fmt) : Nat := f.signed true ((2 ^ f.ew - 1) * 2 ^ f.w)
/-- The quiet NaN the block writes in an IEEE format (R38). -/
def Fmt.qnan (f : Fmt) : Nat := (2 ^ f.ew - 1) * 2 ^ f.w + 2 ^ (f.w - 1)

/-- The value of a word of a K format (R21, R22). -/
def kNum (f : Fmt) (v : Nat) : Num :=
  if f.exp v = 0 then .fin (f.sign v) 0 0
  else if f.exp v = 2 ^ f.ew - 1 then .nan
  else .fin (f.sign v) (2 ^ f.w + v % 2 ^ f.w) ((f.exp v : Int) - f.bias - f.w)

/-- The value of a word of an IEEE format, subnormals exactly (R37). -/
def ieeeNum (f : Fmt) (v : Nat) : Num :=
  if f.exp v = 2 ^ f.ew - 1 then (if v % 2 ^ f.w = 0 then .inf (f.sign v) else .nan)
  else if f.exp v = 0 then .fin (f.sign v) (v % 2 ^ f.w) (1 - (f.bias : Int) - f.w)
  else .fin (f.sign v) (2 ^ f.w + v % 2 ^ f.w) ((f.exp v : Int) - f.bias - f.w)

/-- m / 2^k to the nearest integer, ties to even (R23). -/
def rneShift (m k : Nat) : Nat :=
  let q := m / 2 ^ k
  let r := m % 2 ^ k
  if 2 * r < 2 ^ k then q else if 2 ^ k < 2 * r then q + 1 else q + q % 2

/-- m × 2^e in units of 2^g, to the nearest integer, ties to even. -/
def rneGrid (m : Nat) (e g : Int) : Nat := if g ≤ e then m * 2 ^ (e - g).toNat else rneShift m (g - e).toNat

/-- m × 2^e in units of 2^g, truncated toward zero (R42). -/
def truncGrid (m : Nat) (e g : Int) : Nat := if g ≤ e then m * 2 ^ (e - g).toNat else m / 2 ^ (g - e).toNat

/-- ⌊log2⌋ of m × 2^e. -/
def floorLog (m : Nat) (e : Int) : Int := (Nat.log2 m : Int) + e

/-- A value rounded to a K format, as its word (R22 to R26). -/
def kRound (f : Fmt) : Num → Nat
  | .nan => f.nar
  | .inf _ => f.nar
  | .fin s m e =>
    let l := floorLog m e
    if m = 0 then f.signed s 0
    else if l < 1 - (f.bias : Int) then
      f.signed s (if l = -(f.bias : Int) ∧ m ≠ 2 ^ Nat.log2 m then 2 ^ f.w else 0)
    else
      let v := (l + f.bias - 1).toNat * 2 ^ f.w + rneGrid m e (l - f.w)
      f.signed s (Nat.min v ((2 ^ f.ew - 1) * 2 ^ f.w - 1))

/-- A value rounded to an IEEE format, round-to-nearest-even with subnormals kept, as its word (R44, R164). -/
def ieeeRound (f : Fmt) : Num → Nat
  | .nan => f.qnan
  | .inf s => f.signed s ((2 ^ f.ew - 1) * 2 ^ f.w)
  | .fin s m e =>
    if m = 0 then f.signed s 0
    else
      let l : Int := max (floorLog m e) (1 - (f.bias : Int))
      let v := (l + f.bias - 1).toNat * 2 ^ f.w + rneGrid m e (l - f.w)
      f.signed s (Nat.min v ((2 ^ f.ew - 1) * 2 ^ f.w))

/-- rnd32 as a value (R164). -/
def rnd32 (x : Num) : Num := kNum fK32 (kRound fK32 x)
/-- rnd64 as a value (R164). -/
def rnd64 (x : Num) : Num := ieeeNum fB64 (ieeeRound fB64 x)

/-- The signed integer of a sign and magnitude. -/
def sgn (neg : Bool) (m : Nat) : Int := if neg then -(m : Int) else m

/-- The opposite value. -/
def Num.neg : Num → Num
  | .nan => .nan
  | .inf s => .inf (!s)
  | .fin s m e => .fin (!s) m e

/-- The magnitude. -/
def Num.abs : Num → Num
  | .nan => .nan
  | .inf _ => .inf false
  | .fin _ m e => .fin false m e

/-- The exact sum; one whose value is zero is +0 (R27). -/
def Num.add : Num → Num → Num
  | .nan, _ => .nan
  | _, .nan => .nan
  | .inf s, .inf t => if s = t then .inf s else .nan
  | .inf s, _ => .inf s
  | _, .inf t => .inf t
  | .fin s m e, .fin t n f =>
    let g := min e f
    let v := sgn s (m * 2 ^ (e - g).toNat) + sgn t (n * 2 ^ (f - g).toNat)
    if v = 0 then .fin false 0 0 else .fin (decide (v < 0)) v.natAbs g

/-- The exact difference (R27). -/
def Num.sub (a b : Num) : Num := a.add b.neg

/-- The exact product; a zero takes the exclusive-or of the signs (R27). -/
def Num.mul : Num → Num → Num
  | .nan, _ => .nan
  | _, .nan => .nan
  | .inf s, .inf t => .inf (s != t)
  | .inf s, .fin t n _ => if n = 0 then .nan else .inf (s != t)
  | .fin s m _, .inf t => if m = 0 then .nan else .inf (s != t)
  | .fin s m e, .fin t n f => .fin (s != t) (m * n) (e + f)

/-- The quotient, carried so that it rounds as the exact one. -/
def Num.div : Num → Num → Num
  | .nan, _ => .nan
  | _, .nan => .nan
  | .inf _, .inf _ => .nan
  | .inf s, .fin t _ _ => .inf (s != t)
  | .fin s _ _, .inf t => .fin (s != t) 0 0
  | .fin s m e, .fin t n f =>
    if n = 0 then (if m = 0 then .nan else .inf (s != t))
    else if m = 0 then .fin (s != t) 0 0
    else
      let k := 130 + Nat.log2 n - Nat.log2 m
      let a := m * 2 ^ k
      .fin (s != t) (2 * (a / n) + b2n (decide (a % n ≠ 0))) (e - f - k - 1)

/-- ⌊√m⌋ of a number below 4^n, bit by bit. -/
def isqrtAux (m : Nat) : Nat → Nat → Nat
  | 0, r => r
  | n + 1, r => isqrtAux m n (if (r + 2 ^ n) * (r + 2 ^ n) ≤ m then r + 2 ^ n else r)

/-- ⌊√m⌋. -/
def isqrt (m : Nat) : Nat := isqrtAux m (Nat.log2 m / 2 + 1) 0

/-- The square root, carried so that it rounds as the exact one: a NaN below zero, a zero with its sign (R169). -/
def Num.sqrt : Num → Num
  | .nan => .nan
  | .inf s => if s then .nan else .inf false
  | .fin s m e =>
    if m = 0 then .fin s 0 0
    else if s then .nan
    else
      let k := 260 + (e % 2).toNat
      let a := m * 2 ^ k
      let r := isqrt a
      .fin false (2 * r + b2n (decide (r * r ≠ a))) ((e - k) / 2 - 1)

/-- Exact comparison (R164); false with a NaN. -/
def Num.lt (a b : Num) : Bool :=
  match a, b with
  | .inf s, .inf t => s && !t
  | a, b =>
    match b.sub a with
    | .fin s m _ => !s && m ≠ 0
    | .inf s => !s
    | .nan => false

/-- Whether a value is a zero of either sign. -/
def Num.isZero : Num → Bool
  | .fin _ m _ => m == 0
  | _ => false

/-- Whether a value is NaR or a NaN. -/
def Num.isNan : Num → Bool
  | .nan => true
  | _ => false

/-- Whether a value is below zero: a zero of either sign is not (R189). -/
def Num.isNeg : Num → Bool
  | .nan => false
  | .inf s => s
  | .fin s m _ => s && m ≠ 0

/-- Whether a value is neither NaN nor infinite. -/
def Num.isFin : Num → Bool
  | .fin _ _ _ => true
  | _ => false

/-- The sign of a value. -/
def Num.sign : Num → Bool
  | .nan => false
  | .inf s => s
  | .fin s _ _ => s

/-- A natural number. -/
def Num.nat (n : Nat) : Num := .fin false n 0
/-- An integer. -/
def Num.int (i : Int) : Num := .fin (decide (i < 0)) i.natAbs 0
/-- +0. -/
def Num.zero : Num := .fin false 0 0
/-- 1. -/
def Num.one : Num := .nat 1
/-- 2^e. -/
def Num.pow2 (e : Int) : Num := .fin false 1 e

/-- A finite value in units of 2^g, to the nearest integer. -/
def Num.rneInt (x : Num) (g : Int) : Int :=
  match x with
  | .fin s m e => sgn s (rneGrid m e g)
  | _ => 0

/-- The exponent of the unit u(h) (R30). -/
def unitExp (h : Nat) : Int := if fK16.exp h = 0 then -149 else (fK16.exp h : Int) - 158

/-- The exact value of a K40 master (R31); L is an integer. -/
def k40Num (h : Nat) (l : Int) : Num := (kNum fK16 h).add (.fin (decide (l < 0)) l.natAbs (unitExp h))

/-- The largest K40 magnitude (R32). -/
def k40Top : Num := .fin false (255 * 2 ^ 24 + (2 ^ 23 - 1)) 96

/-- The K16 neighbour of a word in the direction of greater values. -/
def k16Up (h : Nat) : Nat := if fK16.sign h then h - 1 else h + 1

/-- split (R32): the high word and the residual. -/
def k40Split (x : Num) : Nat × Int :=
  match x with
  | .nan => (fK16.nar, 0)
  | .inf _ => (fK16.nar, 0)
  | .fin s m e =>
    if k40Top.lt x.abs then (fK16.signed s 0x7F7F, sgn s (2 ^ 23 - 1))
    else if x.abs.lt (.pow2 (-126)) then
      let l := rneGrid m e (-149)
      if l = 2 ^ 23 then (fK16.signed s 0x0080, 0) else (fK16.signed s 0, sgn s l)
    else
      let h := kRound fK16 x
      let l := (x.sub (kNum fK16 h)).rneInt (unitExp h)
      if l = 2 ^ 23 then (k16Up h, (x.sub (kNum fK16 (k16Up h))).rneInt (unitExp (k16Up h))) else (h, l)

/-- The exponent of a K8 block's scale for a largest magnitude m × 2^e that is not zero (R36). -/
def k8ScaleExp (m : Nat) (e : Int) : Int :=
  let k := floorLog m e - 7
  let k := if (Num.fin false 240 k).lt (.fin false m e) then k + 1 else k
  max (-120) k

/-- The larger of two magnitudes. -/
def Num.maxAbs (a b : Num) : Num := if a.lt b.abs then b.abs else a

/-- A K8 block written from its new exact values: the scale word and the element words (R36). A scale above the largest
finite K32 value saturates to it (R25), and the elements are divided by the scale so written. -/
def k8Block (xs : List Num) : Nat × List Nat :=
  if xs.any Num.isNan then (fK32.nar, xs.map fun _ => fK8.nar)
  else
    match xs.foldl Num.maxAbs Num.zero with
    | .fin _ m e =>
      let scale := kRound fK32 (if m = 0 then Num.one else .pow2 (k8ScaleExp m e))
      (scale, xs.map fun x => kRound fK8 (x.div (kNum fK32 scale)))
    | _ => (fK32.nar, xs.map fun _ => fK8.nar)

/-- The value of an element of a K8 block (R35). -/
def k8Num (scale k : Nat) : Num := (kNum fK32 scale).mul (kNum fK8 k)

/-- E(x) of R40, for a finite nonzero value. -/
def Num.expE : Num → Option Int
  | .fin _ m e => if m = 0 then none else some (floorLog m e + 1)
  | _ => none

/-- emax of values: the largest E(x), −32,768 where there is none (R40). -/
def emaxOf (xs : List Num) : Int :=
  xs.foldl (fun a x => match x.expE with
    | some e => max a e
    | none => a) (-32768)

/-- ⌈log2 n⌉. -/
def clog2 (n : Nat) : Nat := if n ≤ 1 then 0 else Nat.log2 (n - 1) + 1

/-- P and hs of a reduction (R41): wide is binary64. -/
def gridShift (wide : Bool) (n : Nat) : Nat × Nat := if wide then (100, clog2 n - 27) else (40, clog2 n - 15)

/-- The lane integer of an input on a grid (R42); an input that is not finite counts as 0. -/
def Num.lane (x : Num) (g : Int) : Int :=
  match x with
  | .fin s m e => sgn s (truncGrid m e g)
  | _ => 0

/-- The grid sum over one lane of K32 or binary32 values with N contributions, exactly (R40 to R44). -/
def gridSum (n : Nat) (xs : List Num) : Num :=
  if xs.any fun x => !x.isFin then .nan
  else
    let e := emaxOf xs
    let g := e - 40 + ((gridShift false n).2 : Int)
    if e = -32768 then Num.zero
    else
      let v : Int := (xs.map fun x => x.lane g).sum
      .fin (decide (v < 0)) v.natAbs g

/-- The variates of an output of the generator (R48): K32 or binary32, and binary64. -/
def variate32 (o : Nat) : Num := .fin false (o / 256) (-24)
/-- A binary64 variate from two words (R48). -/
def variate64 (hi lo : Nat) : Num := .fin false (hi * 2 ^ 21 ||| lo / 2 ^ 11) (-53)

/-- A conversion by value between the formats of R38: the word of a K format, or of an IEEE format, for a value. -/
def Fmt.word (f : Fmt) (k : Bool) (x : Num) : Nat := if k then kRound f x else ieeeRound f x

end Sys2Proof.Machine
end

