-- ==== Sys2Proof/Machine/Rng.lean ====
section
/-! DEFINITION. The counter generator (R45 to R47) and the variates of its outputs (R48), the cursor and binding digest (R50, R51) and position-keyed digests
(R54), all over unsigned words. -/

namespace Sys2Proof.Machine

/-- A sum modulo 2^32. -/
def add32 (a b : Nat) : Nat := (a + b) % 2 ^ 32
/-- A product modulo 2^64. -/
def mul64 (a b : Nat) : Nat := a * b % 2 ^ 64
/-- A sum modulo 2^64. -/
def add64 (a b : Nat) : Nat := (a + b) % 2 ^ 64
/-- A left rotation of a 32-bit word. -/
def rotl32 (x n : Nat) : Nat := (x * 2 ^ n) % 2 ^ 32 + x / 2 ^ (32 - n)

/-- Four 32-bit words. -/
structure Quad where
  a : Nat
  b : Nat
  c : Nat
  d : Nat
  deriving DecidableEq, Repr

/-- The word of a quad. -/
def Quad.get (x : Quad) (i : Nat) : Nat := if i = 0 then x.a else if i = 1 then x.b else if i = 2 then x.c else x.d

/-- The round key rk[i][j] (R47). -/
def roundKey (k : Quad) (i j : Nat) : Nat := (k.get ((i + j) % 4) + (4 * i + j + 1) * 0x6A5D39E1) % 2 ^ 32

/-- One round of the permutation (R47). -/
def permRound (k : Quad) (i : Nat) (x : Quad) : Quad :=
  let x0 := add32 x.a (roundKey k i 0)
  let x1 := add32 x.b (roundKey k i 1)
  let x2 := add32 x.c (roundKey k i 2)
  let x3 := add32 x.d (roundKey k i 3)
  let x0 := add32 x0 x1
  let x3 := rotl32 (x3 ^^^ x0) 11
  let x2 := add32 x2 x3
  let x1 := rotl32 (x1 ^^^ x2) 19
  let x0 := add32 x0 x1
  let x3 := rotl32 (x3 ^^^ x0) 5
  let x2 := add32 x2 x3
  let x1 := rotl32 (x1 ^^^ x2) 23
  ⟨x1, x2, x3, x0⟩

/-- The permutation P_K (R47). -/
def permute (k x : Quad) : Quad :=
  let y := (List.range 10).foldl (fun y i => permRound k i y) x
  ⟨y.a ^^^ roundKey k 10 0, y.b ^^^ roundKey k 10 1, y.c ^^^ roundKey k 10 2, y.d ^^^ roundKey k 10 3⟩

/-- The counter of R45 as four words. -/
def counterWords (step stream index : Nat) : Quad := ⟨index, stream, step % 2 ^ 32, step / 2 ^ 32 % 2 ^ 32⟩

/-- The key of a job seed (R46). -/
def jobKey (seed : Nat) : Quad :=
  permute ⟨0x4B616C69, 0x6E646573, 0x6B504731, 0x00000002⟩ (counterWords seed 0xFFFFFFFF 0)

/-- The output of the generator (R45 to R47). -/
def genOut (seed step stream index : Nat) : Quad := permute (jobKey seed) (counterWords step stream index)

/-- The four K32 or binary32 variates of an output, from j = 0 to 3 (R48). -/
def Quad.variates32 (o : Quad) : List Num := (List.range 4).map fun j => variate32 (o.get j)
/-- The two binary64 variates of an output, for m = 0 and 1 (R48). -/
def Quad.variates64 (o : Quad) : List Num := (List.range 2).map fun m => variate64 (o.get (2 * m + 1)) (o.get (2 * m))

/-- cursor(step) (R50). -/
def cursorOf (base stride step : Nat) : Nat := (base + step * stride) % 2 ^ 64

/-- The binding digest of a step (R51). -/
def bindOf (seed base stride step : Nat) : Nat :=
  let o := genOut seed step 0xFFFFFFFE 0
  (o.b * 2 ^ 32 + o.a) ^^^ cursorOf base stride step

/-- w(t, p) of R54. -/
def digestW (t p : Nat) : Nat :=
  let z := (t * 2 ^ 40 ||| p) % 2 ^ 64
  let z := mul64 (z ^^^ (z / 2 ^ 29)) 0xB7E15163A4D29C8B
  let z := mul64 (z ^^^ (z / 2 ^ 32)) 0x8CB92BA72F3D8DD7
  (z ^^^ (z / 2 ^ 29)) ||| 1

/-- The digest term of a stored pattern v at (t, p) (R54). -/
def digestTerm (t p v : Nat) : Nat := mul64 (digestW t p) (v + 1)

/-- The sum over words of w(t, j) × (word + 1), from word number j on (R305, R374, R399, R403). -/
def wordDigest (t : Nat) : Nat → List (List Byte) → Nat
  | _, [] => 0
  | j, w :: ws => add64 (digestTerm t j (leNat w)) (wordDigest t (j + 1) ws)

end Sys2Proof.Machine
end

