-- ==== Sys2Proof/Machine/Mem.lean ====
section
/-! DEFINITION. Access to stack memory, which lies outside the block: which granules a read needs (R74 to R77), how an
erased one is rebuilt (R75), how a row is written with its inner code (R72, R78), the requests on the ports (R501), and
what hangs on a write: digest windows (R426), the written parts of an interval (R69, R161), prev_intact (R388) and the
deltas of in-pass delivery (R275, R276). -/

namespace Sys2Proof.Machine

/-- Channels per stack in force (GL_MEMCFG.nch). -/
def State.nch (s : State) : Nat := s.get GL_MEMCFG.nch
/-- ONLINE, OUT, MENDING, FAILED (R73). -/
def chONLINE : Nat := 0
def chOUT : Nat := 1
def chMENDING : Nat := 2
def chFAILED : Nat := 3
/-- The key of channel j of stack n. -/
def chKey (n j : Nat) : Nat := n * 32 + j
/-- The channels with a hard fault, of 20 stacks of 32 (R73). -/
def State.hardFaults (s : State) : List Nat := s.mem.faults.filter (· < 640)
/-- A channel's state. -/
def State.chan (s : State) (n j : Nat) : Nat := nbits (s.get (SL_CHAN_STATE.chan n)) (2 * j) 2
/-- The state with a channel's state set; the channel vector is raised on a change (R525). -/
def State.setChan (s : State) (n j v : Nat) : State :=
  let w := s.get (SL_CHAN_STATE.chan n)
  if nbits w (2 * j) 2 = v then s
  else (s.set (SL_CHAN_STATE.chan n) (w - nbits w (2 * j) 2 * 2 ^ (2 * j) + v * 2 ^ (2 * j))).irq 22

/-- The key of a granule of a stack. -/
def gKey (x gr : Nat) : Nat := x * 2 ^ 32 + gr
/-- The row number under which a row of an area stands on mend and poison lists. -/
def Rgn.listRow (g : Rgn) (sc : Bool) (row : Nat) : Nat := if sc then g.rows + row else row

/-- Whether a row of a region is on the mend list of channel j of stack x (R80, R81). -/
def State.listed (s : State) (x j r row : Nat) : Bool :=
  s.mem.mendFull.contains (chKey x j) ||
    (Tbl.at s.mem.mend [] (chKey x j)).any fun e => e.region == r && e.first ≤ row && row < e.first + e.count

/-- Whether a poison entry names a block (R422). -/
def State.poisoned (s : State) (r k row x : Nat) : Bool :=
  s.integ.poison.any fun p => p.region == r && p.bank == k && p.row == row && p.stack == x

/-- How a granule stands (R74, R422): 0 readable, 1 on an OUT channel, 2 failed or its port down, 3 stale in a mend list,
4 named by a poison entry. -/
def State.granule (s : State) (r k row x gr : Nat) : Nat :=
  let j := gr % s.nch
  if s.is (SL_MEND.port_down x) then 2
  else if s.chan x j = chOUT then 1
  else if s.chan x j = chFAILED then 2
  else if s.chan x j = chMENDING ∧ s.listed x j r row then 3
  else if s.poisoned r k row x then 4
  else 0

/-- Whether a write skips a granule: one that is erased under R74 (R78). A poisoned one is written (R422). -/
def State.skips (s : State) (r k row x gr : Nat) : Bool :=
  let g := s.granule r k row x gr
  1 ≤ g && g ≤ 3

/-- A part of one granule. -/
structure Sub where
  row : Nat
  x : Nat
  gr : Nat
  off : Nat
  n : Nat
  deriving DecidableEq, Repr

/-- A piece split at granule boundaries. -/
def subsAux (row x : Nat) : Nat → Nat → Nat → List Sub
  | 0, _, _ => []
  | f + 1, a, n =>
    if n = 0 then [] else
    let m := Nat.min n (256 - a % 256)
    ⟨row, x, a / 256, a % 256, m⟩ :: subsAux row x f (a + m) (n - m)

/-- A piece split at granule boundaries. -/
def Piece.subs (p : Piece) : List Sub := subsAux p.row p.x (p.n / 256 + 2) p.addr p.n

/-- What a piece of work still needs: granules to read, or a reason to wait or to fail. -/
structure Need where
  miss : List Nat := []
  wait : Bool := false
  lost : Bool := false
  degraded : Bool := false
  deriving DecidableEq, Repr

/-- Two needs together. -/
def Need.add (a b : Need) : Need :=
  ⟨b.miss.foldl setAdd a.miss, a.wait || b.wait, a.lost || b.lost, a.degraded || b.degraded⟩

/-- Whether a granule of an inner-coded row counts as erased for a piece of work (R74, R422, R503). -/
def State.erasedFor (s : State) (j : Job) (r k row x gr : Nat) : Bool :=
  j.bad.contains (gKey x gr) || s.granule r k row x gr ≠ 0

/-- The stacks whose granules rebuild an erased one, given the erased stacks of its row (R75): every other data granule;
P for one erased data granule, Q where P is erased too; both for two. -/
def Rgn.rebuildFrom (row : Nat) (er : List Nat) : List Nat :=
  let p := stackP row
  let data := (List.range 20).filter fun y => y ≠ p ∧ y ≠ p + 1
  let left := data.filter fun y => !er.contains y
  left ++ match data.length - left.length with
    | 0 => []
    | 1 => if er.contains p then [p + 1] else [p]
    | _ => [p, p + 1]

/-- What a part of a granule needs before it can be read (R75 to R77). One or two erasures are rebuilt and three fail;
R82's last sentence, which lets a second erasure on a row of an erased stack fail, gives way to R75 and R76
(DEDUCED, notes/assumptions/22.md). -/
def State.needSub (s : State) (j : Job) (p : Span) (u : Sub) : Need :=
  let g := s.rgn p.r
  let row := g.listRow p.sc u.row
  if (Tbl.find j.got (gKey u.x u.gr)).isSome then {}
  else if g.inner then
    if s.erasedFor j p.r p.k row u.x u.gr then
      let er := (List.range 20).filter fun y => s.erasedFor j p.r p.k row y u.gr
      if 3 ≤ er.length then { lost := true }
      else { miss := ((Rgn.rebuildFrom u.row er).filter fun y => (Tbl.find j.got (gKey y u.gr)).isNone).map fun y =>
               gKey y u.gr, degraded := true }
    else { miss := [gKey u.x u.gr] }
  else if j.bad.contains (gKey u.x u.gr) then { lost := true }
  else
    match s.granule p.r p.k row u.x u.gr with
    | 1 => { wait := true }
    | 2 => { lost := true }
    | _ => { miss := [gKey u.x u.gr] }

/-- What reading a span needs. -/
def State.needRead (s : State) (j : Job) (p : Span) : Need :=
  (s.pieces p).foldl (fun n pc => pc.subs.foldl (fun n u => n.add (s.needSub j p u)) n) {}

/-- The n bytes at an offset of a granule that has been read. -/
def slice (bs : List Byte) (off n : Nat) : List Byte := padTo n (bs.drop off)

/-- A part of a granule from what has been read, rebuilt where it is erased (R75). -/
def State.readSub (s : State) (j : Job) (p : Span) (u : Sub) : List Byte :=
  match Tbl.find j.got (gKey u.x u.gr) with
  | some bs => slice bs u.off u.n
  | none =>
    let g := s.rgn p.r
    let ask := fun y => (Tbl.find j.got (gKey y u.gr)).map fun bs => slice bs u.off u.n
    let ds := (List.range 18).map fun d => ask (g.stack u.row d)
    match solveRow u.n ds (ask (stackP u.row)) (ask (stackP u.row + 1)) with
    | none => List.replicate u.n 0#8
    | some full =>
      if u.x = stackP u.row then innerP u.n full
      else if u.x = stackP u.row + 1 then innerQ u.n full
      else full.getD (if u.x < stackP u.row then u.x else u.x - 2) []

/-- The bytes of a span from what has been read. -/
def State.readSpan (s : State) (j : Job) (p : Span) : List Byte :=
  ((s.pieces p).map fun pc => (pc.subs.map fun u => s.readSub j p u).flatten).flatten

/-- The tags in use on a port. -/
def State.tagsOf (s : State) (x : Nat) : List Nat :=
  (s.mem.reqs.filter fun e => e.1 / 4096 == x).map fun e => e.1 % 4096

/-- The lowest free tag of a port (R501: one request a tag, at most 4,096)
(DESIGN CHOICE, notes/assumptions/12.md). -/
def freeTag : List Nat → Nat → Nat
  | [], t => t
  | u :: us, t => if u = t then freeTag us (t + 1) else t

/-- One hall cycle charged to a context's background allowance, once for a hall cycle (R143). -/
def State.charge (s : State) (c : Nat) : State :=
  if s.get (TK_CFG.enable c) = 1 ∧ (s.tkAt c).charged ≠ some s.now then
    (s.setTk c { s.tkAt c with charged := some s.now }).dec (TK_ALLOW.allow c) 1
  else s

/-- A class 0 piece of work that issues a request is charged for the hall cycle (R143). -/
def State.chargeFor (s : State) (cls c : Nat) : State := if cls = 0 then s.charge c else s

/-- A read request for a granule, on behalf of a piece of work. -/
def State.issueRead (s : State) (j : Job) (p : Span) (key : Nat) : State :=
  let x := key / 2 ^ 32
  let gr := key % 2 ^ 32
  let t := freeTag (s.tagsOf x) 0
  let s := s.chargeFor j.cls j.ctx
  (s.setMem { s.mem with reqs := Tbl.ins s.mem.reqs (x * 4096 + t) ⟨j.id, gr, false, p.r, p.k, false, j.cls⟩ }).emit
    (.memRead x t gr j.cls)

/-- A write request for part of a granule; none at a byte keeps it (wbe of R500). -/
def State.issueWrite (s : State) (jid cls x gr r k : Nat) (bytes : List (Option Byte)) : State :=
  let t := freeTag (s.tagsOf x) 0
  (s.setMem { s.mem with reqs := Tbl.ins s.mem.reqs (x * 4096 + t) ⟨jid, gr, true, r, k, false, cls⟩ }).emit
    (.memWrite x t gr cls bytes)

/-- The floor that the block presents at memory port n: MPnn_FLOOR, high while a request of class 1 or 2 is pending there,
and MPnn_FPCT (R16, R507). -/
def State.memFloor (s : State) (n : Nat) : Bool × Nat :=
  (s.mem.reqs.any (fun e => e.1 / 4096 == n && 1 ≤ e.2.cls), s.get GL_MEMPRI.floor)

/-- A mend list with one more row: adjacent rows share an entry, and a row between two entries joins them (R80). -/
def joinRow (l : List MendEnt) (r row : Nat) : List MendEnt :=
  let below := l.find? fun e => e.region == r && e.first + e.count == row
  let above := l.find? fun e => e.region == r && e.first == row + 1
  match below, above with
  | some a, some b => (l.filter (· ≠ b)).map fun e => if e = a then { a with count := a.count + 1 + b.count } else e
  | some a, none => l.map fun e => if e = a then { a with count := a.count + 1 } else e
  | none, some b => l.map fun e => if e = b then { b with first := row, count := b.count + 1 } else e
  | none, none => l ++ [⟨r, row, 1⟩]

/-- An entry added to a mend list, joined with an adjacent one (R80); the list marked full at 2,048 entries
(DEDUCED, notes/assumptions/23.md). -/
def State.listMend (s : State) (x j r row : Nat) : State :=
  if s.listed x j r row then s else
  let l := Tbl.at s.mem.mend [] (chKey x j)
  let l' := joinRow l r row
  if 2048 < l'.length then
    (s.setMem { s.mem with mendFull := setAdd s.mem.mendFull (chKey x j) }).set (SL_MEND.mend_full x) 1
  else
    (s.setMem { s.mem with mend := Tbl.put s.mem.mend [] (chKey x j) l' }).set (SL_MEND.mend_used x)
      (s.get (SL_MEND.mend_used x) + l'.length - l.length)

/-- One request that writes the bytes of a granule that a mask gives. -/
def State.putMask (s : State) (j : Job) (p : Span) (x gr : Nat) (mask : List (Option Byte)) : State × Job :=
  ((s.chargeFor j.cls j.ctx).issueWrite j.id j.cls x gr p.r p.k mask, { j with out := j.out + 1 })

/-- One request that writes part of a granule. -/
def State.putSub (s : State) (j : Job) (p : Span) (u : Sub) (bs : List Byte) : State × Job :=
  s.putMask j p u.x u.gr (List.replicate u.off none ++ bs.map some ++ List.replicate (256 - u.off - u.n) none)

/-- A write to part of one granule of a region: skipped where the granule is erased, its row listed where the channel
is OUT (R78); otherwise one request. -/
def State.writeSub (s : State) (j : Job) (p : Span) (u : Sub) (bs : List Byte) : State × Job :=
  let g := s.rgn p.r
  let row := g.listRow p.sc u.row
  match s.granule p.r p.k row u.x u.gr with
  | 1 => (if g.inner then s.listMend u.x (u.gr % s.nch) p.r row else s, j)
  | 2 => (s, j)
  | 3 => if g.inner then (s, j) else s.putSub j p u bs
  | _ => s.putSub j p u bs

/-- Bytes written at an address of a row of a region, granule by granule. -/
def writeSubs (s : State) (j : Job) (p : Span) : List Sub → List Byte → State × Job
  | [], _ => (s, j)
  | u :: us, bs =>
    let (s, j) := s.writeSub j p u (bs.take u.n)
    writeSubs s j p us (bs.drop u.n)

/-- Bytes written at a stack-local address of a row. -/
def State.writeAt (s : State) (j : Job) (p : Span) (row x addr : Nat) (bs : List Byte) : State × Job :=
  writeSubs s j p (subsAux row x (bs.length / 256 + 2) addr bs.length) bs

/-- The pieces of a span with their bytes. -/
def zipPieces : List Piece → List Byte → List (Piece × List Byte)
  | [], _ => []
  | p :: ps, bs => (p, bs.take p.n) :: zipPieces ps (bs.drop p.n)

/-- The bytes that data position d of a row really holds (R70: the rest are zeros). -/
def Rgn.validBytes (g : Rgn) (sc : Bool) (row d : Nat) : Nat :=
  let b := row * g.width + d
  Nat.min (g.area sc) (g.bytes sc - b * g.area sc)

/-- Whether pieces cover every data block of a row (R72). -/
def Rgn.fullRow (g : Rgn) (sc : Bool) (row : Nat) (ps : List Piece) : Bool :=
  (List.range 18).all fun d => g.validBytes sc row d == 0 ||
    ps.any fun p => p.row == row && p.d == d && p.off == 0 && g.validBytes sc row d ≤ p.n

/-- The rows that pieces touch. -/
def rowsOf (ps : List Piece) : List Nat := ps.foldl (fun l p => setAdd l p.row) []

/-- An interval joined to a rising list of intervals. -/
def ivAdd : List (Nat × Nat) → Nat → Nat → List (Nat × Nat)
  | [], lo, hi => [(lo, hi)]
  | (a, b) :: t, lo, hi =>
    if hi < a then (lo, hi) :: (a, b) :: t
    else if b < lo then (a, b) :: ivAdd t lo hi
    else ivAdd t (Nat.min a lo) (Nat.max b hi)

/-- The byte ranges of a row's blocks that pieces touch: where P and Q change with them (R72). -/
def rowRanges (row : Nat) (ps : List Piece) : List (Nat × Nat) :=
  ps.foldl (fun l p => if p.row = row then ivAdd l p.off (p.off + p.n) else l) []

/-- The parts of granules of one stack that hold a byte range of a row's block. -/
def Rgn.rangeSubs (g : Rgn) (k : Nat) (sc : Bool) (row x : Nat) (iv : Nat × Nat) : List Sub :=
  subsAux row x ((iv.2 - iv.1) / 256 + 2) (g.start k sc + row * g.area sc + iv.1) (iv.2 - iv.1)

/-- What writing a span needs to have read first: nothing for whole rows and for regions without the inner bit; for
part of a row the old data and the matching P and Q (R72), where these are not erased (R78). What is rebuilt for a
write is no degraded read of the command. -/
def State.needWrite (s : State) (j : Job) (p : Span) : Need :=
  let g := s.rgn p.r
  let ps := s.pieces p
  if g.inner then
    (rowsOf ps).foldl (fun n row =>
      if g.fullRow p.sc row ps then n else
      let old := (ps.filter fun pc => pc.row == row).flatMap Piece.subs
      let par := ([stackP row, stackP row + 1].flatMap fun x =>
        (rowRanges row ps).flatMap fun iv => g.rangeSubs p.k p.sc row x iv).filter fun u =>
          !s.skips p.r p.k (g.listRow p.sc row) u.x u.gr
      { (old ++ par).foldl (fun n u => n.add (s.needSub j p u)) n with degraded := false }) {}
  else
    ps.foldl (fun n pc => pc.subs.foldl (fun n u =>
      match s.granule p.r p.k (g.listRow p.sc u.row) u.x u.gr with
      | 1 => n.add { wait := true }
      | 2 => n.add { lost := true }
      | _ => n) n) {}

/-- A delta laid at its offset in a block of zeros. -/
def placed (bsz off : Nat) (bs : List Byte) : List Byte :=
  List.replicate off 0#8 ++ bs ++ List.replicate (bsz - off - bs.length) 0#8

/-- A whole row written: the data blocks padded with zeros, P and Q (R72). -/
def State.writeFullRow (s : State) (j : Job) (p : Span) (row : Nat) (ps : List (Piece × List Byte)) : State × Job :=
  let g := s.rgn p.r
  let bs := g.area p.sc
  let a := g.start p.k p.sc + row * bs
  let ds := (List.range 18).map fun d =>
    match ps.find? fun q => q.1.row == row && q.1.d == d with
    | some q => padTo bs q.2
    | none => List.replicate bs 0#8
  let (s, j) := ds.zipIdx.foldl (fun (s, j) (b, d) => s.writeAt j p row (g.stack row d) a b) (s, j)
  let (s, j) := s.writeAt j p row (stackP row) a (innerP bs ds)
  s.writeAt j p row (stackP row + 1) a (innerQ bs ds)

/-- Part of a row written with P and Q brought up to date from the old data (R72). -/
def State.writePartRow (s : State) (j : Job) (p : Span) (row : Nat) (ps : List (Piece × List Byte)) : State × Job :=
  let g := s.rgn p.r
  let bs := g.area p.sc
  let here := ps.filter fun q => q.1.row == row
  let deltas := here.map fun q =>
    (q.1.d, placed bs q.1.off (xorBytes q.2 (q.1.subs.map fun u => s.readSub j p u).flatten))
  let dp := gfSum bs (deltas.map fun q => (1, q.2))
  let dq := gfSum bs (deltas.map fun q => (gfPow q.1, q.2))
  let par := fun (sj : State × Job) (x : Nat) (d : List Byte) =>
    (rowRanges row (here.map (·.1))).foldl (fun (sj : State × Job) iv =>
      let us := g.rangeSubs p.k p.sc row x iv
      let old := us.flatMap fun u =>
        if s.skips p.r p.k (g.listRow p.sc row) u.x u.gr then List.replicate u.n 0#8 else s.readSub j p u
      writeSubs sj.1 sj.2 p us (xorBytes old (slice d iv.1 (iv.2 - iv.1)))) sj
  let sj := here.foldl (fun (s, j) q => writeSubs s j p q.1.subs q.2) (s, j)
  par (par sj (stackP row) dp) (stackP row + 1) dq

/-- A rising list of intervals without [lo, hi). -/
def ivSub (l : List (Nat × Nat)) (lo hi : Nat) : List (Nat × Nat) :=
  l.flatMap fun (a, b) =>
    if b ≤ lo ∨ hi ≤ a then [(a, b)]
    else (if a < lo then [(a, lo)] else []) ++ (if hi < b then [(hi, b)] else [])

/-- Whether a point lies in a list of intervals. -/
def ivHas (l : List (Nat × Nat)) (x : Nat) : Bool := l.any fun (a, b) => a ≤ x && x < b

/-- Whether [lo, hi) lies wholly in a list of intervals. -/
def ivCovers (l : List (Nat × Nat)) (lo hi : Nat) : Bool := hi ≤ lo || l.any fun (a, b) => a ≤ lo && hi ≤ b

/-- Whether two ranges meet. -/
def ivMeets (l : List (Nat × Nat)) (lo hi : Nat) : Bool := l.any fun (a, b) => a < hi && lo < b

/-- The key of a region's area. -/
def areaKey (r : Nat) (sc : Bool) : Nat := 2 * r + b2n sc

/-- Whether an element block of a region's area has been written in the open interval. -/
def State.blockWritten (s : State) (r : Nat) (sc : Bool) (b : Nat) : Bool :=
  ivHas (Tbl.at (s.cmAt (s.rgn r).ctx).writeRegions [] (areaKey r sc)) b

/-- Whose write a piece of work's write is (R161). -/
def State.writerOf (s : State) (j : Job) : Writer :=
  if j.isCommand ∧ j.opcode = opUPDATE then .update (s.rgn (j.arg 26 1 % 64)).group
  else if j.isCommand ∧ j.opcode = opPRECOND then .refresh else .other

/-- A write to the inactive bank noted: the element blocks written in the interval with their writer where the write is
tracked, and prev_intact (R388). -/
def State.noteWrite (s : State) (p : Span) (track : Option Writer) : State :=
  let g := s.rgn p.r
  if g.banked ∧ p.k ≠ s.active g.ctx then
    let s := s.set (DR_STAT.prev_intact g.ctx) 0
    match track with
    | some w =>
      let m := s.cmAt g.ctx
      let bs := g.area p.sc
      let l := ivAdd (Tbl.at m.writeRegions [] (areaKey p.r p.sc)) (p.lo / bs) (cdiv (p.lo + p.n) bs)
      s.setCm g.ctx { m with writeRegions := Tbl.ins m.writeRegions (areaKey p.r p.sc) l,
                             others := if m.others.contains (p.r, w) then m.others else m.others ++ [(p.r, w)] }
    | none => s
  else s

/-- One digest window's view of elements written (R426). An index that passes 40 bits wraps, as R53 gives it 40 bits and
no rule says more (DESIGN CHOICE, notes/assumptions/48.md). -/
def winTerms (t p0 first count es lo : Nat) (bytes : List Byte) : List (Nat × Nat) :=
  (List.range (bytes.length / es + 1)).filterMap fun n =>
    let i := cdiv lo es + n
    if first ≤ i ∧ i < first + count ∧ i * es + es ≤ lo + bytes.length then
      some ((i - first) * 64 / count, digestTerm t ((p0 + i - first) % 2 ^ 40) (leAt bytes (i * es - lo) es))
    else none

/-- Terms added to a window (R426). -/
def WinS.addTerms (w : WinS) (bins : Bool) (ts : List (Nat × Nat)) : WinS :=
  ts.foldl (fun w (b, t) =>
    { w with acc := add64 w.acc t, writes := w.writes + 1,
             bins := if bins then Tbl.put w.bins 0 b (add64 (Tbl.at w.bins 0 b) t) else w.bins }) w

/-- A window's live state. -/
def State.winAt (s : State) (i : Nat) : WinS := Tbl.at s.integ.wins {} i
/-- The state with a window's live state replaced. -/
def State.setWin (s : State) (i : Nat) (w : WinS) : State :=
  s.setInteg { s.integ with wins := Tbl.put s.integ.wins {} i w }

/-- The digest windows that see a write of elements of a region (R426); pair windows see UPDATE alone. -/
def State.seeWrite (s : State) (p : Span) (bytes : List Byte) : State :=
  if p.sc then s else
  (List.range 64).foldl (fun s i =>
    let c := i / 16
    let w := i % 16
    if s.is (DG_DWIN_CFG.enable c w) ∧ s.get (DG_DWIN_CFG.region c w) = p.r ∧ !s.is (DG_DWIN_CFG.pair c w) then
      s.setWin i ((s.winAt i).addTerms (s.is (DG_DWIN_CFG.bins c w))
        (winTerms (s.get (DG_DWIN_CFG.t c w)) (s.get (DG_DWIN_P0.p0 c w)) (s.get (DG_DWIN_FIRST.first c w))
          (s.get (DG_DWIN_COUNT.count c w)) (s.rgn p.r).esize p.lo bytes))
    else s) s

/-- A region read or written counts as degraded (GL_RGN_STAT.degraded). -/
def State.markDegraded (s : State) (r : Nat) : State := s.set (GL_RGN_STAT.degraded r) 1

/-- Whether a context's team delivers deltas in pass (R274). -/
def State.inPass (s : State) (c : Nat) : Bool :=
  (s.team c == tmPROTECTED || s.team c == tmDEGRADED) && s.get (CM_STAT.stride c) == 1

/-- Whether a write to a region forms deltas as it is made (R274, R275). -/
def State.forms (s : State) (r : Nat) : Bool :=
  let g := s.rgn r
  g.valid && g.team && 1 ≤ g.kind && g.kind ≤ 6 && s.inPass g.ctx

/-- The bank that holds the current contents of an element block (R275). -/
def State.curBank (s : State) (r : Nat) (sc : Bool) (b : Nat) : Nat :=
  let g := s.rgn r
  if s.blockWritten r sc b then 1 - s.active g.ctx else s.active g.ctx

/-- The spans, block by block, that hold the current contents of a byte range (R275). -/
def State.oldSpans (s : State) (p : Span) : List Span :=
  let g := s.rgn p.r
  (s.pieces p).map fun pc =>
    let b := pc.row * g.width + pc.d
    ⟨p.r, s.curBank p.r p.sc b, p.sc, b * g.area p.sc + pc.off, pc.n⟩

/-- Members, n and the parameters of the team values. -/
def TeamVals.n (v : TeamVals) : Nat := v.k + v.r
/-- A member's state in a set of team values: 0 absent, 1 present, 2 rebuilding. -/
def TeamVals.mstate (v : TeamVals) (i : Nat) : Nat := (v.members.getD i (0, 0)).2
/-- A member's device. -/
def TeamVals.dev (v : TeamVals) (i : Nat) : Nat := (v.members.getD i (0, 0)).1
/-- Whether a member is present. -/
def TeamVals.present (v : TeamVals) (i : Nat) : Bool := i < v.n && v.mstate i == 1
/-- Whether a member's positions are erased: absent or rebuilding. -/
def TeamVals.erased (v : TeamVals) (i : Nat) : Bool := v.mstate i ≠ 1
/-- Stripe of the own fragment f (R272). -/
def TeamVals.stripe (v : TeamVals) (f : Nat) : Nat := f / v.k * v.n + (v.index + v.n - f % v.k) % v.n
/-- The member at position q of stripe t (R272). -/
def TeamVals.memberAt (v : TeamVals) (t q : Nat) : Nat := (q + t % v.n) % v.n
/-- The position of member index m in stripe t (R272). -/
def TeamVals.posOf (v : TeamVals) (t m : Nat) : Nat := (m + v.n - t % v.n) % v.n
/-- The present holders of a stripe's parity (R273, R276), with their parity numbers. -/
def TeamVals.holders (v : TeamVals) (t : Nat) : List Nat :=
  ((List.range v.r).map fun j => v.memberAt t (v.k + j)).filter v.present

/-- Whether the slice buffer of a fragment's home slice is full (R277): the fragments of the context in it, each until it
has gone to every holder, reach dbuf. -/
def State.bufferFull (s : State) (c f : Nat) : Bool :=
  let v := (s.tmAt c).vals
  let home := fun st => (st % 2 ^ 43 / v.n * v.k + v.posOf (st % 2 ^ 43) v.index) % 20
  s.get (TM_CFG.dbuf c) ≤ ((s.fab.txq.filter fun m => m.typ == 0x10 && m.ctx == c && home m.stripe == f % 20).foldl
    (fun l m => setAdd l m.stripe) []).length

/-- A fragment sent as a delta to each present holder of its stripe (R276), with the bank written and the open step
(R348); image 0 is the state image. -/
def State.sendDelta (s : State) (j : Job) (image f : Nat) (payload : List Byte) : State :=
  let c := j.ctx
  let v := (s.tmAt c).vals
  let t := v.stripe f
  let bank := 1 - s.active c
  let step := s.get (CM_OPEN.open_ c)
  (v.holders t).foldl (fun s h =>
    let st := image * 2 ^ 43 + t
    let s := (s.chargeFor j.cls c).send (s.frag c 0x10 h bank st step false payload)
    let o : FabOut := { tag := 0, typ := 0x10, dst := v.dev h, ctx := c, job := j.id, stripe := st, at_ := s.now,
                        cseq := s.get (CM_STAT.cseq c), bank := bank, step := step % 2 ^ 32 }
    (s.setFab { s.fab with outs := s.fab.outs ++ [o] }).wrapInc (TM_DSTAT.sent c) 1) s

/-- Whether every byte is zero. -/
def allZero (bs : List Byte) : Bool := bs.all fun b => b == 0#8

/-- Whether a fragment's new bytes wait to be filled up and sent (R276, pair mode). -/
def Job.sendsPair (j : Job) (f : Nat) : Bool := j.segs.any fun g => match g with
  | .pairSend x => x == f
  | _ => false

/-- A fragment's delta leaves the coding unit: not sent if all zero. In pair mode the fragment's new bytes go in its place;
where the command has not written all of them, the rest is read first (R276). -/
def State.flushDelta (s : State) (j : Job) (f : Nat) (d : List Byte) : State × Job :=
  let c := j.ctx
  let v := (s.tmAt c).vals
  let whole := Tbl.at j.fresh ([], []) f
  let kept := { j with frags := Tbl.del j.frags f }
  let gone := { kept with fresh := Tbl.del j.fresh f }
  if allZero d then (s.wrapInc (TM_DSTAT.skipped c) 1, if j.sendsPair f then kept else gone)
  else if v.mode ≠ 1 then (s.sendDelta j 0 f d, kept)
  else if j.sendsPair f then (s, kept)
  else if ivCovers whole.2 0 4096 then (s.sendDelta j 0 f whole.1, gone)
  else (s, kept.push [.pairSend f])

/-- Every delta a piece of work still holds leaves at its end (R276: a fragment written in part carries zeros). -/
def flushAll (s : State) (j : Job) : List (Nat × List Byte) → State × Job
  | [] => (s, j)
  | (f, d) :: t => let (s, j) := s.flushDelta j f d; flushAll s j t

/-- Bytes laid over a fragment's new bytes, the range noted (R276, pair mode). -/
def Job.layFresh (j : Job) (f off : Nat) (bs : List Byte) : Job :=
  let x := Tbl.at j.fresh (List.replicate 4096 0#8, []) f
  { j with fresh := Tbl.ins j.fresh f (x.1.take off ++ bs ++ x.1.drop (off + bs.length), ivAdd x.2 off (off + bs.length)) }

/-- A range of the image changed, as new bytes and their delta: laid into its fragments, the completed ones leaving. -/
def layDelta (s : State) (j : Job) : Nat → Nat → List Byte → List Byte → State × Job
  | 0, _, _, _ => (s, j)
  | n + 1, pos, d, bs =>
    if d = [] then (s, j) else
    let f := pos / 4096
    let off := pos % 4096
    let m := Nat.min d.length (4096 - off)
    let cur := Tbl.at j.frags (List.replicate 4096 0#8) f
    let new := xorBytes cur (placed 4096 off (d.take m))
    let j := { j with frags := Tbl.ins j.frags f new }
    let j := if (s.tmAt j.ctx).vals.mode = 1 then j.layFresh f off (bs.take m) else j
    let (s, j) := if off + m = 4096 then s.flushDelta j f new else (s, j)
    layDelta s j n (pos + m) (d.drop m) (bs.drop m)

/-- Where a span stands in its context's state image (R262). -/
def State.imagePos (s : State) (p : Span) : Nat :=
  let g := s.rgn p.r
  s.imageBase (s.imageRgns g.ctx) p.r * 4096 + (if p.sc then g.bytes false else 0) + p.lo

/-- The delta of a write under in-pass delivery (R275): new ⊕ old, at the bytes' place in the image. -/
def State.formDelta (s : State) (j : Job) (p : Span) (old bytes : List Byte) : State × Job :=
  layDelta s j (p.n / 4096 + 2) (s.imagePos p) (xorBytes bytes old) bytes

/-- How a write counts: `track` it as a write of the interval, show it to digest windows (`see`), form deltas. -/
structure WriteKind where
  track : Bool
  see : Bool
  delta : Bool
  deriving DecidableEq, Repr

/-- A write of the step (R275, R426). -/
def wkStep : WriteKind := ⟨true, true, true⟩
/-- A copy that leaves bytes unchanged (R275, R426). -/
def wkCopy : WriteKind := ⟨false, false, false⟩
/-- A write that forms no delta of its own but is seen by digest windows (rebuild, IMPORT, STABLE_LOAD). -/
def wkSeen : WriteKind := ⟨false, true, false⟩

/-- Whether a write that forms deltas finds the buffer of one of its fragments full (R277). -/
def State.deltaWaits (s : State) (p : Span) : Bool :=
  let a := s.imagePos p
  (List.range (cdiv (a + p.n) 4096 - a / 4096)).any fun i => s.bufferFull (s.rgn p.r).ctx (a / 4096 + i)

/-- What a write needs to have read (R72, R275), and its room in the delta buffers (R277). -/
def State.needStep (s : State) (j : Job) (p : Span) (w : WriteKind) : Need :=
  let n := s.needWrite j p
  if w.delta ∧ s.forms p.r then
    ((s.oldSpans p).foldl (fun n q => n.add (s.needRead j q)) n).add { wait := s.deltaWaits p }
  else n

/-- Bytes written over a span, row by row, with everything that hangs on the write. -/
def State.writeSpan (s : State) (j : Job) (p : Span) (bytes : List Byte) (w : WriteKind) : State × Job :=
  let g := s.rgn p.r
  let ps := s.pieces p
  let old := if w.delta ∧ s.forms p.r then (s.oldSpans p).flatMap fun q => s.readSpan j q else []
  let form := w.delta ∧ s.forms p.r
  let zs := zipPieces ps bytes
  let (s, j) :=
    if g.inner then
      (rowsOf ps).foldl (fun (s, j) row =>
        if g.fullRow p.sc row ps then s.writeFullRow j p row zs else s.writePartRow j p row zs) (s, j)
    else zs.foldl (fun (s, j) q => writeSubs s j p q.1.subs q.2) (s, j)
  let (s, j) := if form then s.formDelta j p old bytes else (s, j)
  let s := s.noteWrite p (if w.track then some (s.writerOf j) else none)
  let s := if w.see then s.seeWrite p bytes else s
  (s, { j with bytesDone := j.bytesDone + p.n })

end Sys2Proof.Machine
end

