-- ==== Sys2Proof/Machine/Queue.lean ====
section
/-! DEFINITION. Queues and result slots: the start point and its timer (R101, R120), waits (R111, R113), refusal and
completion (R112, R117), the end of a command by a fault (R90, R91, R123), the tick account of R140, and the hold of a
context. -/

namespace Sys2Proof.Machine

/-- The start point's entry of a queue. -/
def State.headOf (s : State) (c q : Nat) : Nat := s.get (GL_Q_STAT.head c q)
/-- Whether a queue has a command at its start point. -/
def State.hasHead (s : State) (c q : Nat) : Bool := s.headOf c q ≠ s.get (GL_Q_STAT.tail c q)
/-- The key of the start point's entry. -/
def State.headKey (s : State) (c q : Nat) : Nat := entryKey c q (s.headOf c q)

/-- The run clock at which the command at a queue's start point reached it (R120). -/
def State.stampOf (s : State) (c q : Nat) : Nat := Tbl.at s.qstamp 0 (c * 16 + q)

/-- The command now at a queue's start point has reached it: its timer starts (R120, R374). -/
def State.stampHead (s : State) (c q : Nat) : State :=
  { s with qstamp := Tbl.put s.qstamp 0 (c * 16 + q) (s.runClock c), qhall := Tbl.put s.qhall 0 (c * 16 + q) s.now }

/-- The start point moves to the next entry, whose timer starts (R120). -/
def State.advance (s : State) (c q : Nat) : State :=
  let s := s.set (GL_Q_STAT.head c q) ((s.headOf c q + 1) % 64)
  s.stampHead c q

/-- A counter's signal on a completion status (R112). -/
def State.signal (s : State) (c sig status : Nat) : State :=
  if sig < 128 then s
  else
    let e := sig % 32
    if status = 0 ∨ (0x20 ≤ status ∧ status ≤ 0x2F) then s.wrapInc (GL_EVT.value c e) 1
    else s.set (GL_EVT.poison c e) 1

/-- A whole result written into a slot, the counter signalled and the completion vector raised (R112, R117, R525). -/
def State.post (s : State) (c k status flags value : Nat) : State :=
  let b := s.command k
  let e := s.ent k
  let s := s.setEnt k { e with phase := .done, seq := leAt b 2 2, status := status, flags := flags,
                               tag := leAt b 20 4, value := value % 2 ^ 64 }
  let s := if status = stTIMEOUT then s.satInc (GL_CTX_STAT.timeouts c) 1 else s
  let s := s.signal c (leAt b 18 1) status
  if leAt b 1 1 % 2 = 1 then s.irq c else s

/-- A wait's byte and value: the counter it names has reached the value (R111). -/
def State.waitMet (s : State) (c wb wv : Nat) : Bool :=
  wb < 128 || subMod 32 (s.get (GL_EVT.value c (wb % 32))) wv < 2 ^ 31

/-- A wait names a poisoned counter (R113). -/
def State.waitPoison (s : State) (c wb : Nat) : Bool := 128 ≤ wb && s.is (GL_EVT.poison c (wb % 32))

/-- Whether a command's waits are met. -/
def State.waitsMet (s : State) (c : Nat) (b : List Byte) : Bool :=
  s.waitMet c (leAt b 16 1) (leAt b 8 4) && s.waitMet c (leAt b 17 1) (leAt b 12 4)

/-- Whether a command waits on a poisoned counter. -/
def State.depFailed (s : State) (c : Nat) (b : List Byte) : Bool :=
  s.waitPoison c (leAt b 16 1) || s.waitPoison c (leAt b 17 1)

/-- Whether a command of a queue is running. -/
def State.queueBusy (s : State) (c q : Nat) : Bool :=
  s.jobs.any fun j => match j.owner with
    | .cmd c' q' _ => c' == c && q' == q
    | _ => false

/-- Whether the order flag lets the start point's command start (R101). -/
def State.orderMet (s : State) (c q : Nat) (b : List Byte) : Bool :=
  leAt b 1 1 / 2 % 2 == 0 || !s.queueBusy c q

/-- A command's timeout (R102). -/
def State.timeoutOf (s : State) (c : Nat) (b : List Byte) : Nat :=
  let t := leAt b 4 4
  if t = 0 then s.get (GL_CTX_TMO.dflt c) else t

/-- The command at a start point as a piece of work about to start. -/
def State.candidate (s : State) (c q : Nat) : Job :=
  let b := s.command (s.headKey c q)
  { id := 0, owner := .cmd c q (s.headOf c q), ctx := c, opcode := leAt b 0 1, cls := leAt b 19 1 % 4, entry := b,
    stamp := s.stampOf c q, hallAt := Tbl.at s.qhall 0 (c * 16 + q), sel := s.active c,
    ways := s.get (GL_CTX_CFG.ways c), tick := if s.is (TK_CFG.enable c) then some (s.get (TK_STAT.tick c)) else none }

/-- The key of a command's entry. -/
def Job.key (j : Job) : Nat :=
  match j.owner with
  | .cmd c q e => entryKey c q e
  | _ => 0

/-- The queue of a command. -/
def Job.queue (j : Job) : Nat :=
  match j.owner with
  | .cmd _ q _ => q
  | _ => 0

/-- A command refused or completed at its start point without running (R531): its slot is written and the start point
moves on. -/
def State.refuse (s : State) (j : Job) (status : Nat) : State := (s.post j.ctx j.key status 0 0).advance j.ctx j.queue

/-- A command refused with no effect but its status, or started. -/
def State.startOr (s : State) (j : Job) (checks : List (Bool × Nat)) (go : State) : State :=
  match checks.find? fun p => p.1 with
  | some p => s.refuse j p.2
  | none => go

/-- TK_DEBT as debt entries give it. -/
def State.showDebt (s : State) (c : Nat) (ds : List DebtEnt) : State :=
  let s := s.set (TK_DEBT.debt c) ((ds.map fun d => d.size - d.paid).sum)
  let age := match ds.filter fun d => d.paid < d.size with
    | [] => 0
    | d :: _ => Nat.min 15 (s.get (TK_STAT.tick c) - d.tick)
  s.set (TK_DEBT.oldest_age c) age

/-- A tick's overrun grown by n: its debt entry takes it, or where the entry has been merged the oldest one; at most 16
entries, older ones merged into the oldest kept (R146). -/
def growDebt (l : List DebtEnt) (tick n : Nat) : List DebtEnt :=
  if n = 0 then l
  else if l.any fun d => d.tick == tick then l.map fun d => if d.tick == tick then { d with size := d.size + n } else d
  else
    match l with
    | a :: b :: t =>
      if t.length < 14 then (l.filter fun d => d.tick < tick) ++ [⟨tick, n, 0⟩] ++ l.filter fun d => tick < d.tick
      else if tick < a.tick then { a with size := a.size + n } :: b :: t
      else { b with size := a.size + b.size, paid := a.paid + b.paid } :: (t ++ [⟨tick, n, 0⟩])
    | l => (l.filter fun d => d.tick < tick) ++ [⟨tick, n, 0⟩] ++ l.filter fun d => tick < d.tick

/-- Whether a command of class 1 or 2 of a tick is running (R140). -/
def State.tickBusy (s : State) (c tick : Nat) : Bool :=
  s.jobs.any fun j => j.cmdOf c && 1 ≤ j.cls && j.tick == some tick

/-- The debts with one tick's overrun grown to a hall time (R140, R145). -/
def TickS.note (t : TickS) (e : TickEnd) (now : Nat) : TickS :=
  let o := now - e.due
  { t with debts := growDebt t.debts e.tick (o - e.seen),
           ends := t.ends.map fun x => if x.tick == e.tick then { x with seen := Nat.max x.seen o } else x }

/-- The debts of a context with those of running ticks grown to the present (R140, R145). -/
def State.grown (s : State) (c : Nat) : TickS :=
  (s.tkAt c).ends.foldl (fun t e => if s.tickBusy c e.tick then t.note e s.now else t) (s.tkAt c)

/-- The completion of a class 1 or 2 command: its tick's overrun is final once none of that tick runs (R140). -/
def State.tickDone (s : State) (j : Job) : State :=
  match (s.tkAt j.ctx).ends.find? fun e => j.tick == some e.tick with
  | none => s
  | some e =>
    if s.get (TK_CFG.enable j.ctx) = 0 ∨ j.cls = 0 ∨ s.tickBusy j.ctx e.tick then s
    else
      let t := (s.tkAt j.ctx).note e s.now
      ((s.setTk j.ctx t).set (TK_OVR.last_ovr j.ctx) (s.now - e.due)).showDebt j.ctx t.debts

/-- A command that completes in the cycle in which it starts (R106, R309): its tick's overrun counts it (R140). -/
def State.instant (s : State) (j : Job) (value : Nat) : State :=
  ((s.post j.ctx j.key stOK 0 value).tickDone j).advance j.ctx j.queue

/-- Stable slots referenced (R84, R85). -/
def State.holdSlot (s : State) (n : Nat) : State := s.wrapInc (GL_STB_SLOT.refs (n % 16)) 1

/-- A command starts: it runs, holds each of its regions and slots once (R89), and the start point moves on. -/
def State.launch (s : State) (j : Job) : State :=
  let j := { j with refs := j.refs.foldl setAdd [] }
  let s := s.setEnt j.key { s.ent j.key with phase := .running }
  let s := s.wrapInc (GL_CTX_STAT.running j.ctx) 1
  let s := j.refs.foldl (fun s r => s.hold r) s
  let s := j.slots.foldl (fun s n => s.holdSlot n) s
  (s.addJob j).advance j.ctx j.queue

/-- A slot empties: its bytes, tag and coding go, and its regions become invalid on an evict (R83, R85). -/
def State.emptySlot (s : State) (n : Nat) (err : Bool) : State :=
  let s := s.set (GL_STB_SLOT.state n) sbEMPTY
  let s := s.set (GL_STB_BYTES.bytes n) 0
  let s := s.set (TM_STB.coded n) 0
  let s := s.set (TM_STB.stale n) 0
  let s := s.set (TM_STB.pfrags n) 0
  let s := s.setStb n {}
  if err then s.set (GL_STB_SLOT.err n) 1 else s

/-- A slot's reference given back; an evict completes at refs 0 (R85). -/
def State.unholdSlot (s : State) (n : Nat) : State :=
  let n := n % 16
  let s := s.dec (GL_STB_SLOT.refs n) 1
  if s.get (GL_STB_SLOT.refs n) = 0 ∧ s.get (GL_STB_SLOT.state n) = sbEVICTING then
    (s.slotRgns n).foldl (fun s r => s.freeRgn r) (s.emptySlot n false)
  else s

/-- The open interval of a context is marked failed (R91), unless its vote has been sent (R313), be the member FENCED since.
The first fault gives the reason (R311). -/
def State.failInterval (s : State) (c reason : Nat) : State :=
  if (s.cmAt c).own.isSome ∨ s.phase c = phVOTED ∨ s.phase c = phARMED ∨ s.phase c = phINDOUBT then s
  else if s.is (CM_STAT.failed c) then s
  else (s.set (CM_STAT.failed c) 1).setCm c { s.cmAt c with reason := reason }

/-- Whether a command writes a banked region's inactive bank (R91), by its opcode and destination; the copies of a STEP_END
are the commit engine's own (R312). -/
def State.writesInactive (s : State) (j : Job) : Bool :=
  j.opcode == opUPDATE || j.opcode == opPRECOND
    || (j.opcode == opREGIONCOPY && (s.rgn (j.arg 25 1 % 64)).banked)

/-- Whether a command writes a banked region (R310, R326): an inactive bank, or by an IMPORT an active one (R409). -/
def State.writesBank (s : State) (j : Job) : Bool :=
  s.writesInactive j || (j.opcode == opIMPORT && (j.arg 24 1 % 2 == 1 || (s.rgn (j.arg 25 1 % 64)).banked))

/-- The range of an UPDATE or PRECOND_REFRESH that issued no write leaves its coverage list (R161, R200), unless the
interval it belongs to is over (DEDUCED, notes/assumptions/42.md). -/
def State.uncover (s : State) (j : Job) : State :=
  let m := s.cmAt j.ctx
  let lo := j.arg 48 8
  let hi := lo + j.arg 56 8
  if j.bytesDone ≠ 0 ∨ j.stage ≠ s.get (CM_STAT.cseq j.ctx) then s
  else if j.opcode = opUPDATE then
    let g := (s.rgn (j.arg 26 1 % 64)).group
    s.setCm j.ctx { m with cover := Tbl.put m.cover [] g (ivSub (Tbl.at m.cover [] g) lo hi) }
  else if j.opcode = opPRECOND then
    let g := (s.rgn (j.arg 25 1 % 64)).group
    s.setCm j.ctx { m with coverR := Tbl.put m.coverR [] g (ivSub (Tbl.at m.coverR [] g) lo hi) }
  else s

/-- The levels of R148 a background command loads: 0 MEM, 1 LANE, 3 DRN, 4 YOKE. -/
def levelsOf (op : Nat) (b : List Byte) : List Nat :=
  if op = opSCRUB then [0]
  else if op = opAUDIT then [0, 1]
  else if op = opDIGEST then [1]
  else if op = opDRAIN ∨ op = opEXPORT then [0, 3]
  else if op = opPRECOND then [4, 0]
  else if op = opSTABLELOAD then (if leAt b 32 1 = 1 then [3, 0] else [0])
  else []

/-- Whether a level is saturated (TK_GSTAT.sat). -/
def State.saturated (s : State) (l : Nat) : Bool := nbits (s.get TK_GSTAT.sat) l 1 == 1

/-- Whether running background work stops at a saturated level (R149): a mend loads MEM, a STABLE_LOAD in CODING
LANE. -/
def State.satStop (s : State) (j : Job) : Bool :=
  j.cls == 0 && s.is (TK_CFG.enable j.ctx) &&
    (match j.owner with
    | .cmd _ _ _ => if j.opcode = opSTABLELOAD ∧ 1 ≤ j.stage then [1] else levelsOf j.opcode j.entry
    | .mend _ _ _ _ => [0]
    | .recode _ => [1]
    | _ => []).any fun l => s.saturated l

/-- Whether running work issues nothing for now: paused, background work of a context whose allowance is zero (R144), or
stopped at a saturated level (R149). -/
def State.stopped (s : State) (j : Job) : Bool :=
  j.paused || (j.cls == 0 && s.is (TK_CFG.enable j.ctx) && s.get (TK_ALLOW.allow j.ctx) == 0) || s.satStop j

/-- The fields of a COLLECTIVE and a NORM that both have (R235, R251): group and gcn. -/
def Job.gsGroup (j : Job) : Nat := j.arg 25 1 % 16
def Job.gcn (j : Job) : Nat := j.arg 28 4
/-- Whether the command is a COLLECTIVE, a NORM or a DIGEST_COMPARE, which is an all-reduce (R430). -/
def Job.isGs (j : Job) : Bool := j.opcode == opCOLLECTIVE || j.opcode == opNORM || j.opcode == opDIGEST

/-- The member whose message a collective has waited longest for (R366): the first child missing at its lowest tile, or
its parent. -/
def State.gsPeer (s : State) (j : Job) : Option Nat :=
  let t := s.tree j.ctx j.gsGroup
  let (tr, miss) := match j.gs.tiles with
    | x :: _ => (x.tr, (t.children x.tr).find? fun i => !x.parts.contains i && !(x.recs.contains i && !x.up))
    | [] => (0, none)
  (miss.or (t.parent tr)).map fun i => s.rankDev j.ctx j.gsGroup i

/-- The commit group of a context (CM_CFG.group). -/
def State.cmGroup (s : State) (c : Nat) : Nat := s.get (CM_CFG.group c)
/-- The commit group's trees. -/
def State.cmTree (s : State) (c : Nat) : Tree := s.tree c (s.cmGroup c)
/-- The device of a rank of the commit group. -/
def State.cmDev (s : State) (c i : Nat) : Nat := s.rankDev c (s.cmGroup c) i

/-- Whether an outstanding message is a delta of the open interval, which its STEP_END's prepare waits for (R310). -/
def State.openDelta (s : State) (c : Nat) (o : FabOut) : Bool :=
  o.typ == 0x10 && o.ctx == c && decide (o.stripe < 2 ^ 43) && o.cseq == s.get (CM_STAT.cseq c)

/-- The first child of a node of the commit trees whose vote is missing, near tree first (R366). -/
def State.votePeer (s : State) (c : Nat) : Option Nat :=
  let t := s.cmTree c
  let lacking := fun (tr : Nat) => (t.children tr).find? fun i => !(s.cmAt c).votes.any fun v => v.1 == tr && v.2.1 == i
  ((lacking 0).or (lacking 1)).map (s.cmDev c)

/-- The device whose outstanding message a command has waited longest for (R366): a collective's record, partial or
result; what answers the command's own messages; for a STEP_END the acknowledgements of the interval's deltas, which are
sent before the votes it waits for. -/
def State.oldestPeer (s : State) (j : Job) : Option Nat :=
  let mine := fun (o : FabOut) => o.job == j.id || (j.opcode == opSTEPEND && s.openDelta j.ctx o)
  if j.isGs then s.gsPeer j
  else ((s.fab.outs.find? mine).map (·.dst)).or (if j.opcode = opSTEPEND then s.votePeer j.ctx else none)

/-- A message of a collective to a rank (R343, R348): the gcn in tag, a tile address before the rest. -/
def State.gsSend (s : State) (j : Job) (typ tr rank tile : Nat) (rest : List Byte) : State :=
  let c := j.ctx
  let g := j.gsGroup
  (s.chargeFor j.cls c).send { s.common c typ (s.rankDev c g rank) j.gcn (leBytes 6 tile ++ leBytes 1 g ++ leBytes 1 0 ++ rest) with
    bit2 := tr }

/-- C_ACK of a C_PART (R245): as a reply it carries the sgen of the message it answers (R350). -/
def State.gsAck (s : State) (j : Job) (m : Msg) (tr rank tile : Nat) : State :=
  let c := j.ctx
  let g := j.gsGroup
  (s.chargeFor j.cls c).send { s.common c 0x26 (s.rankDev c g rank) j.gcn
      (leBytes 6 tile ++ leBytes 1 g ++ leBytes 1 0 ++ leBytes 2 1 ++ leBytes 2 0) with
    bit2 := tr, gen := m.sgen }

/-- A record of a message (R348): emax, the non-finite flag and the abort flag. -/
def recBytes (e : Int) (nf abort : Bool) : List Byte := leBytes 4 (twos 16 e + b2n nf * 2 ^ 16 + b2n abort * 2 ^ 17)

/-- Reduction slots in use in a slice of a context (R244). -/
def State.slotsUsed (s : State) (c x : Nat) : Nat :=
  ((s.jobs.filter fun j => j.cmdOf c && j.isGs).map fun j =>
    (j.gs.tiles.filter fun t => t.held && t.t % 20 == x).length).sum

/-- GS_SLOT_STAT brought up to date, with the number of collectives that wait for a slot. -/
def State.syncSlots (s : State) (c : Nat) : State :=
  let n := ((List.range 20).map fun x => s.slotsUsed c x).foldl Nat.max 0
  let s := s.set (GS_SLOT_STAT.in_use c) n
  s.set (GS_SLOT_STAT.peak c) (Nat.max n (s.get (GS_SLOT_STAT.peak c)))

/-- Hall cycles waited for a split notice, counted in units of 1,024 (R222). -/
def State.countLate (s : State) (t0 : Option Nat) : State :=
  match t0 with
  | some t =>
    let total := s.gs.late + (s.now - t)
    ({ s with gs := { s.gs with late := total % 1024 } } : State).satInc GS_GSTAT.late_split (total / 1024)
  | none => s

/-- A COLLECTIVE or NORM ends (R256): a wait for a split notice ends with it (R222), and the results that waited for a
slot leave their buffer (R359). With any status but OK, OK_DEGRADED and the BAD_FIELD of R226 an abort notice goes
to its parent and children in both trees; a forwarded notice keeps its status. -/
def State.gsEnded (s : State) (j : Job) (status : Nat) : State :=
  if ¬ j.isGs then s
  else
    let c := j.ctx
    let t := s.tree c j.gsGroup
    let s := s.dec (GS_GRP_GCN.running c j.gsGroup) 1
    let s := (j.gs.early.foldl State.done s).countLate j.gs.lateAt
    let s := s.syncSlots c
    if status = stOK ∨ status = stOKDEGRADED ∨ status = stBADFIELD then s
    else
      [0, 1].foldl (fun s tr =>
        ((t.parent tr).toList ++ t.children tr).foldl (fun s i =>
          s.gsSend j 0x29 tr i 0 (leBytes 1 (j.gs.abortSt.getD status) ++ leBytes 3 0)) s) s

/-- Whether a command's fault has an offset (R258): a BARRIER and a NORM have none, nor has a DIGEST_COMPARE. -/
def Job.hasOffset (j : Job) : Bool :=
  !(j.opcode == opNORM || j.opcode == opDIGEST || (j.opcode == opCOLLECTIVE && j.arg 24 1 % 8 == 4))

/-- off_valid of a started command that ends with a status: TEARDOWN and the codes from 0x30 carry a fault offset (R132),
where the command has one. -/
def Job.offFlag (j : Job) (status : Nat) : Nat := b2n (j.hasOffset && (status == stTEARDOWN || decide (0x30 ≤ status)))

/-- A command completes: its result is posted, what it held is given back (R89, R117), and what hangs on its status
follows (R91, R140, R366, R83); `stage` holds the cseq of the interval in which a writer started. -/
def State.complete (s : State) (j : Job) (status value flags : Nat) : State :=
  let s := s.delJob j.id
  let s := s.post j.ctx j.key status flags value
  let s := s.dec (GL_CTX_STAT.running j.ctx) 1
  let s := j.refs.foldl (fun s r => s.unhold r) s
  let s := j.slots.foldl (fun s n => s.unholdSlot n) s
  let s := if j.engine < 4 then s.dec (FB_ENG.running j.engine) 1 else s
  let s := s.tickDone j
  let s := if (0x30 ≤ status ∨ status = stTEARDOWN) ∧ s.writesInactive j ∧ j.stage = s.get (CM_STAT.cseq j.ctx) then
      s.failInterval j.ctx status else s
  let s := (s.uncover j).gsEnded j status
  let s := if status = stGUARDREFUSED then s.satInc (GL_UPD_STAT.refused j.ctx) 1 else s
  let s := if status = stTIMEOUT then
      match s.oldestPeer j with
      | some d => s.observe d 1
      | none => s
    else s
  let s := if status = stLINKFAILED then s.observe (j.arg 26 2) 2 else s
  let s := if j.opcode = opDRAIN ∨ j.opcode = opEXPORT then s.set (DR_STAT.last_status j.ctx) status else s
  if j.opcode = opSTABLELOAD ∧ ¬ (status = stOK ∨ status = stOKDEGRADED) then s.emptySlot (j.arg 24 1 % 16) true else s

/-- The offset that a command's acknowledged writes have reached: with none outstanding the unit under way counts (R90). -/
def Job.ackedPos (j : Job) : Nat := j.pos + if j.exed ∧ j.out = 0 then j.adv else 0

/-- The fault offset a command has reached (R90): for a bulk copy the lowest byte of its range that is neither
acknowledged nor, for a GET, written. -/
def State.faultPos (s : State) (j : Job) : Nat :=
  if j.isGs then
    (match j.gs.written with
     | (0, b) :: _ => b
     | _ => 0)
  else if j.opcode = opPUT ∨ j.opcode = opGET then
    let p := ((s.fab.outs.filter fun o => o.job == j.id).map (·.lo)).foldl Nat.min j.pos
    ((if j.exed ∧ j.out = 0 then j.segs.drop 1 else j.segs).map fun g => match g with
      | .put _ _ _ lo _ => lo - j.arg 40 6
      | _ => j.pos).foldl Nat.min p
  else j.ackedPos

/-- The value of a command that ends early: its fault offset; 0 where it carries none (DESIGN CHOICE,
notes/assumptions/65.md). -/
def State.endValue (s : State) (j : Job) (status : Nat) : Nat := if j.offFlag status = 1 then s.faultPos j else 0

/-- A running command ends early with a status and the fault offset its work has reached (R90): at once when none of its
memory requests is outstanding, else when the last is acknowledged (R123), with the offset reached then. -/
def State.endCmd (s : State) (j : Job) (status : Nat) : State :=
  if j.out = 0 then s.complete j status (s.endValue j status) (j.offFlag status)
  else s.setJob { j with ending := some (status, none), hold := .run }

/-- A command in a queue completes with OK, or OK_DEGRADED where it read degraded (R132). -/
def State.finishCmd (s : State) (j : Job) : State :=
  s.complete j (if j.status = 0 ∧ j.degraded then stOKDEGRADED else j.status) j.value 0

/-- A context enters HELD (R92): its commands' timers stop (R120). -/
def State.enterHeld (s : State) (c : Nat) : State :=
  (s.set (GL_CTX_STAT.state c) ctxHELD).setCx c { s.cxAt c with heldAt := s.now }

/-- A context leaves HELD for RUN. -/
def State.leaveHeld (s : State) (c : Nat) : State :=
  let x := s.cxAt c
  (s.set (GL_CTX_STAT.state c) ctxRUN).setCx c
    { x with heldAcc := x.heldAcc + (s.now - x.heldAt), hostHeld := false, preHeld := false }

/-- The blocked bit of every queue of a context brought up to date (GL_Q_STAT.blocked). -/
def State.syncBlocked (s : State) (c q : Nat) : State :=
  let b := s.command (s.headKey c q)
  s.setB (GL_Q_STAT.blocked c q) (s.hasHead c q && !(s.waitsMet c b && s.orderMet c q b))

end Sys2Proof.Machine
end

