-- ==== Sys2Proof/Machine/Windows.lean ====
section
/-! DEFINITION. What a flip and an abort do to digest windows (R427) and the poison list (R422). -/

namespace Sys2Proof.Machine

/-- One window at a flip of its context (R427): the count of flips rises, and at a multiple of every the accumulator,
bins and write count are captured with the new committed step, and cleared. -/
def State.captureWin (s : State) (c w : Nat) : State :=
  let x := s.winAt (16 * c + w)
  if ¬ s.is (DG_DWIN_CFG.enable c w) then s
  else
    let flips := x.flips + 1
    if flips % s.get (DG_DWIN_CFG.every c w) = 0 then
      let s := s.set (DG_DWIN_CAP.digest c w) x.acc
      let s := s.set (DG_DWIN_STEP.step c w) (s.get (CM_STEP.committed c))
      let s := s.set (DG_DWIN_WR.writes c w) x.writes
      let s := (List.range 64).foldl (fun s b => s.set (DG_DWIN_BIN.digest c w b) (Tbl.at x.bins 0 b)) s
      s.setWin (16 * c + w) { flips := flips, tsRun := s.get GL_TS.code, tsCap := s.get GL_TS.code, tsMax := x.tsRun,
                              tagCap := s.get (DG_LOAD_TAG.tag c) }
    else
      s.setWin (16 * c + w) { x with flips := flips, acc0 := x.acc, bins0 := x.bins, writes0 := x.writes }

/-- Every window of a context at a flip. -/
def State.captureWins (s : State) (c : Nat) : State := (List.range 16).foldl (fun s w => s.captureWin c w) s

/-- Every window of a context at an abort: back to its values at the last flip (R427). -/
def State.restoreWins (s : State) (c : Nat) : State :=
  (List.range 16).foldl (fun s w =>
    let x := s.winAt (16 * c + w)
    if s.is (DG_DWIN_CFG.enable c w) then
      s.setWin (16 * c + w) { x with acc := x.acc0, bins := x.bins0, writes := x.writes0 }
    else s) s

/-- Poison entries whose bank is active again after a flip are released (R422). -/
def State.releasePoison (s : State) (c : Nat) : State :=
  s.setPoison (s.integ.poison.filter fun p => !(p.ctx == c && p.bank == s.active c))

/-- A peer's score down by one, no lower than 0. -/
def lowerScore (p : Nat × Nat) : Nat × Nat := (p.1, p.2 - 1)

/-- Every DG_SUS_CFG.decay flips of any context the suspect scores fall (R434, R435). -/
def State.decayScores (s : State) : State :=
  let n := s.integ.flips + 1
  if s.get DG_SUS_CFG.decay ≤ n then
    (s.dec DG_SUS_STAT.score 1).setInteg { s.integ with flips := 0, peers := s.integ.peers.map lowerScore }
  else s.setInteg { s.integ with flips := n }

end Sys2Proof.Machine
end

