-- ==== Sys2Proof/Machine/Commit.lean ====
section
/-! DEFINITION. The commit transaction's operations (chapter 10): the step record, votes and their combination (R315 to
R317), the decision and its notices (R318 to R322), arming and the flip (R152, R319, R323), the abort (R326), fences
and epochs (R331, R332). -/

namespace Sys2Proof.Machine

/-- The binding digest of a step of a context (R51). -/
def State.bindDigest (s : State) (c step : Nat) : Nat :=
  bindOf (s.get (CM_SEED.seed c)) (s.get (CM_CBASE.base c)) (s.get (CM_CSTRIDE.cstride c)) step

/-- Whether the record region rule R303 holds. -/
def State.recOk (s : State) (c : Nat) : Bool :=
  let g := s.rgn (s.get (CM_CFG.rec_ c))
  g.valid && g.kind == 6 && g.fmt == fmtBYTE && g.ctx == c && 128 ≤ g.count && (s.team c == tmOFF || g.team)

/-- rec_digest over the first 15 words of a record (R305). -/
def recDigest (bs : List Byte) : Nat := wordDigest 0xFFFFFE 0 (chunks 8 (bs.take 120))

/-- The step record of the open step (R304). -/
def State.stepRecord (s : State) (c : Nat) : List Byte :=
  let o := s.get (CM_OPEN.open_ c)
  let off := s.team c == tmOFF
  let body :=
    leBytes 2 2 ++ leBytes 2 (s.get (CM_STAT.stride c)) ++ leBytes 4 (if off then 0 else (s.tmAt c).vals.jobId)
      ++ leBytes 8 o ++ leBytes 8 (cursorOf (s.get (CM_CBASE.base c)) (s.get (CM_CSTRIDE.cstride c)) o)
      ++ leBytes 8 (s.get (CM_SEED.seed c)) ++ leBytes 8 (s.get (CM_CBASE.base c))
      ++ leBytes 8 (s.get (CM_CSTRIDE.cstride c)) ++ leBytes 8 (s.bindDigest c o)
      ++ leBytes 4 (s.get (CM_STAT.cseq c)) ++ leBytes 2 (if off then 0 else s.get (TM_STAT.epoch c))
      ++ leBytes 2 (s.get (CM_EPOCH.epoch c)) ++ leBytes 8 (if off then 0 else s.get (TM_SHAPEF.digest c))
      ++ leBytes 8 (s.get (CM_STEP.committed c)) ++ leBytes 8 0
      ++ ((s.cmAt c).users.flatMap fun u => leBytes 8 u)
  body ++ leBytes 8 (recDigest body)

/-- A vote as VOTE's body (R348). -/
def VoteRec.body (v : VoteRec) (group : Nat) : List Byte :=
  leBytes 2 v.epoch ++ leBytes 2 v.stride ++ leBytes 4 v.cseq ++ leBytes 8 v.step ++ leBytes 8 v.bind ++ leBytes 4 v.cnt
    ++ leBytes 2 v.noRank ++ leBytes 1 v.reason ++ leBytes 1 (b2n v.no + 2 * b2n v.mism + 16 * group)

/-- The vote that VOTE's body carries (R348). -/
def voteOf (m : Msg) : VoteRec :=
  let f := m.at_ 31 1
  { epoch := m.at_ 0 2, stride := m.at_ 2 2, cseq := m.at_ 4 4, step := m.at_ 8 8, bind := m.at_ 16 8, cnt := m.at_ 24 4,
    noRank := m.at_ 28 2, reason := m.at_ 30 1, no := f % 2 == 1, mism := f / 2 % 2 == 1 }

/-- Two votes combined (R315); `own` says that the first is the node's own. -/
def VoteRec.join (a b : VoteRec) : VoteRec :=
  let low := if b.no && (!a.no || b.noRank < a.noRank) then b else a
  { a with cnt := a.cnt + b.cnt, no := a.no || b.no, noRank := low.noRank, reason := low.reason,
           mism := a.mism || b.mism || a.step ≠ b.step || a.stride ≠ b.stride || a.bind ≠ b.bind }

/-- The votes of children held in a tree (tree 2 is the off root's direct path, R317). -/
def CmS.held (m : CmS) (tr : Nat) : List VoteRec := (m.votes.filter fun v => v.1 == tr).map (·.2.2)

/-- Children's votes put together where the node has no vote of its own yet: nothing to compare with (R315). -/
def VoteRec.both (a b : VoteRec) : VoteRec := { a.join b with mism := a.mism || b.mism }

/-- The combination of what a node holds in a tree. -/
def CmS.combined (m : CmS) (tr : Nat) : Option VoteRec :=
  match m.own, m.held tr with
  | some o, l => some (l.foldl VoteRec.join o)
  | none, v :: l => some (l.foldl VoteRec.both v)
  | none, [] => none

/-- Whether a node holds its own vote and those of all its children in a tree. -/
def CmS.full (m : CmS) (t : Tree) (tr : Nat) : Bool :=
  m.own.isSome && (t.children tr).all fun i => m.votes.any fun v => v.1 == tr && v.2.1 == i

/-- A commit message of a context (R343). -/
def State.cmSend (s : State) (c typ tr dst : Nat) (body : List Byte) : State :=
  s.send { s.common c typ dst 0 body with bit2 := tr }

/-- The notice a member keeps, oldest of 16 dropped (R322). -/
def State.keepNotice (s : State) (c : Nat) (n : Notice) : State :=
  let m := s.cmAt c
  let l := m.notices.filter fun x => x.cseq ≠ n.cseq
  s.setCm c { m with notices := l.drop (l.length - 15) ++ [n] }

/-- A halt or abort notice as a message body (R348). -/
def Notice.body (n : Notice) : List Byte :=
  if n.halt then leBytes 2 n.epoch ++ leBytes 2 0 ++ leBytes 4 n.cseq ++ leBytes 8 n.h ++ leBytes 8 n.step
  else leBytes 2 n.epoch ++ leBytes 2 n.rank ++ leBytes 4 n.cseq ++ leBytes 1 n.reason ++ leBytes 7 0

/-- A notice's message type. -/
def Notice.typ (n : Notice) : Nat := if n.halt then 0x31 else 0x32

/-- The notice of a cseq that a context keeps. -/
def State.noticeOf (s : State) (c cseq : Nat) : Option Notice := (s.cmAt c).notices.find? fun n => n.cseq == cseq

/-- The decision that a context holds for the transaction under way: a kept notice of its cseq and of the epoch in force
(R317, R321). -/
def State.decided (s : State) (c : Nat) : Option Notice :=
  (s.cmAt c).notices.find? fun n => n.cseq == s.get (CM_STAT.cseq c) && n.epoch == s.get (CM_EPOCH.epoch c)

/-- A notice sent to a rank in a tree. -/
def State.sendNotice (s : State) (c tr i : Nat) (n : Notice) : State := s.cmSend c n.typ tr (s.cmDev c i) n.body

/-- A notice forwarded to the children in a tree (R318, R320). -/
def State.forward (s : State) (c tr : Nat) (n : Notice) : State :=
  ((s.cmTree c).children tr).foldl (fun s i => s.sendNotice c tr i n) s

/-- Hall time is of fallback quality (R136). -/
def State.fallback (s : State) : Bool := s.is TK_HT_STAT.fallback || s.is TK_HT_STAT.lost

/-- The lead of a halt fixed now (R151). -/
def State.haltLead (s : State) : Nat := if s.fallback then s.get TK_HT_CFG.fb_lead else s.get TK_HT_CFG.lead

/-- The commit engine's per-transaction state cleared for the next interval. -/
def CmS.next (m : CmS) : CmS :=
  { notices := m.notices, epochPend := m.epochPend, fence := m.fence, late := m.late }

/-- The holder's work on deltas of a context's interval (R280, R281): a contribution to a stable slot belongs to none. -/
def Job.isDelta (j : Job) (c : Nat) : Bool :=
  match j.owner with
  | .delta m => j.ctx == c && m.stripe < 2 ^ 43
  | _ => false

/-- The delta applications under way of a context end with a drop reply of a status once their writes are accepted
(R534). -/
def State.cutDeltas (s : State) (c status : Nat) : State :=
  { s with jobs := s.jobs.map fun j =>
      if j.isDelta c then { j with ending := some (status, some 0), segs := [] } else j }

/-- The interval's marks cleared for a context: coverage lists and copies (R161, R69), the touch map (R282), the failed
mark (R326). -/
def State.clearInterval (s : State) (c : Nat) : State :=
  let s := s.setCm c (s.cmAt c).next
  let s := s.setTm c { s.tmAt c with touch := [], fullRan := false }
  s.set (CM_STAT.failed c) 0

/-- The open step and the current step from C and the stride in force (R301). -/
def State.openStep (s : State) (c : Nat) : State :=
  let k := s.get (CM_STEP.committed c)
  (s.set (CM_OPEN.open_ c) (k + s.get (CM_STAT.stride c))).set (CM_CUR.cur c) (k + 1)

/-- The running STEP_END of a context. -/
def State.stepEndJob (s : State) (c : Nat) : Option Job :=
  s.jobs.find? fun j => j.cmdOf c && j.opcode == opSTEPEND && j.ending.isNone

/-- The running commands of a context that write a banked region or the parity share (R326), STEP_END apart. -/
def State.writers (s : State) (c : Nat) : List Job :=
  s.jobs.filter fun j => j.cmdOf c && j.ending.isNone && s.writesBank j

/-- The phase after a halt or abort: FENCED where it was or a fence waits (R319, R326), else OPEN. -/
def State.restPhase (s : State) (c : Nat) : Nat :=
  if s.phase c = phFENCED ∨ (s.cmAt c).fence.isSome then phFENCED else phOPEN

/-- The value of a STEP_END that ends with COMMIT_ABORTED (R326). -/
def abortValue (reason rank cseq : Nat) : Nat := reason % 256 + rank % 65536 * 256 + cseq % 2 ^ 32 * 2 ^ 32

/-- The actions of an abort of the open interval on this member (R326). -/
def State.doAbort (s : State) (c reason rank : Nat) : State :=
  let cseq := s.get (CM_STAT.cseq c)
  let s := (s.writers c).foldl (fun s j => s.endCmd j stABORTED) s
  let s := match s.stepEndJob c with
    | some j => if j.out = 0 then s.complete j stABORTED (abortValue reason rank cseq) 0
        else s.setJob { j with ending := some (stABORTED, some (abortValue reason rank cseq)), segs := [], hold := .run }
    | none => s
  let s := s.set (CM_STAT.phase c) (s.restPhase c)
  let s := s.clearInterval c
  let s := s.setCm c { s.cmAt c with fence := none }
  let s := s.set (CM_STAT.stride c) (s.get (CM_CFG.stride c))
  let s := s.openStep c
  let s := s.wrapInc (CM_STAT.cseq c) 1
  let s := ((s.set (CM_LAST.reason c) reason).set (CM_LAST.rank c) rank).set (CM_LAST.cseq c) cseq
  let s := s.satInc (CM_CNT.aborts c) 1
  let s := s.set (DR_STAT.prev_intact c) 0
  s.restoreWins c

/-- A delta application of a context still has writes to be accepted (R534). -/
def State.deltaBusy (s : State) (c : Nat) : Bool :=
  s.jobs.any fun j => j.isDelta c && s.mem.reqs.any fun e => e.2.job == j.id && e.2.write

/-- An abort of the open interval (R326): it waits until the writes of delta applications are accepted, and none is
issued any more (R534). -/
def State.abort (s : State) (c reason rank : Nat) : State :=
  let s := s.cutDeltas c stABORTED
  if s.deltaBusy c then s.setCm c { s.cmAt c with abortPend := some (reason, rank) } else s.doAbort c reason rank

/-- A flip armed for an internal hall time (R319). -/
def State.arm (s : State) (c h : Nat) (late : Option Int) : State :=
  ((s.set (CM_STAT.phase c) phARMED).set (CM_HALT.h c) h).setCm c { s.cmAt c with late := late }

/-- A halt notice accepted by a VOTED or IN_DOUBT member: armed at H, or later with the lateness H - (t_rx + arm_min)
reported to the commit engine (R152). -/
def State.armHalt (s : State) (c h : Nat) : State :=
  let m := s.get TK_HT_CFG.arm_min
  if s.now + m ≤ h then s.arm c h none else s.arm c (s.now + m) (some (h - (s.now + m)))

/-- The outstanding reads of a context's banked regions marked, so that writes to the newly inactive bank wait (R68). -/
def State.markPre (s : State) (c : Nat) : State :=
  let reqs := s.mem.reqs.map fun e =>
    if !e.2.write && (s.rgn e.2.region).banked && (s.rgn e.2.region).ctx == c then (e.1, { e.2 with pre := true }) else e
  s.setMem { s.mem with reqs := reqs }

/-- An answer to a FETCH or GET_REQ of a context of which nothing is read yet. -/
def Job.unread (j : Job) (c : Nat) : Bool :=
  j.ctx == c && j.out == 0 && j.frags == [] && match j.owner with
    | .fetch _ => j.hold == .run
    | .serve _ => true
    | _ => false

/-- What a flip changes for answers being read: those with no read accepted yet take the new bank and step (R68). -/
def State.moveServed (s : State) (c : Nat) : State :=
  { s with jobs := s.jobs.map fun j =>
      if j.unread c then { j with sel := s.active c, stage := s.get (CM_STEP.committed c), got := [] } else j }

/-- The selector lines of every region of a context (R504). -/
def State.driveSel (s : State) (c : Nat) : State :=
  (List.range 64).foldl (fun s r =>
    let g := s.rgn r
    if g.valid ∧ g.kind = 1 ∧ g.ctx = c then s.emit (.sel r (s.active c)) else s) s

/-- The flip (R323) with everything that falls in its hall cycle. -/
def State.flip (s : State) (c : Nat) : State :=
  let m := s.cmAt c
  let s := s.markPre c
  let s := s.set (CM_STAT.sel c) (1 - s.active c)
  let s := (s.set (CM_STEP.committed c) (s.get (CM_OPEN.open_ c))).moveServed c
  let s := s.set (CM_STAT.stride c) (s.get (CM_CFG.stride c))
  let s := s.openStep c
  let s := s.wrapInc (CM_STAT.cseq c) 1
  let s := s.cutDeltas c stREMOTEDROPPED
  let full := (s.tmAt c).fullRan
  let s := s.clearInterval c
  let s := s.set (CM_STAT.phase c) (if m.fence.isSome then phFENCED else phOPEN)
  let s := s.setCm c { s.cmAt c with fence := none, late := none }
  let s := (s.set (CM_HALT.h c) s.now).wrapInc (CM_CNT.commits c) 1
  let s := (s.set (DR_STAT.bound c) 1).set (DR_STAT.prev_intact c) 1
  let s := if m.late.isSome then s.satInc TK_HT_STAT.late_flips 1 else s
  let s := s.setB (CM_LAST.late c) m.late.isSome
  let s := if s.team c = tmENCODING ∧ full then s.set (TM_STAT.state c) tmPROTECTED else s
  let s := (s.irq (4 + c)).driveSel c
  let s := (((s.captureWins c).releasePoison c).decayScores).countPort 1 0
  match s.stepEndJob c with
  | some j => s.complete j stOK (s.get (CM_STEP.committed c)) 0
  | none => s

/-- A decision taken at the near root (R317): the notice is kept, sent to the near-tree children and to the off root,
and acted on here (R318, R320). -/
def State.conclude (s : State) (c : Nat) (n : Notice) : State :=
  let t := s.cmTree c
  let s := s.keepNotice c n
  let s := s.forward c 0 n
  let s := if t.n ≤ 1 then s else s.sendNotice c 1 (t.n - 1) n
  if n.halt then (if s.phase c = phVOTED ∨ s.phase c = phINDOUBT then s.armHalt c n.h else s)
  else s.abort c n.reason n.rank

/-- What the near root decides on the votes it holds (R317): abort on a no or mismatch flag, halt on a complete vote
from either tree with every rank's yes. -/
def State.rootDecision (s : State) (c : Nat) : Option Notice :=
  let t := s.cmTree c
  let m := s.cmAt c
  let cseq := s.get (CM_STAT.cseq c)
  let ep := s.get (CM_EPOCH.epoch c)
  let vs := (m.combined 0).toList ++ m.held 2
  let nos := vs.filter (·.no)
  if ¬ nos.isEmpty then
    let low := nos.foldl (fun a v => if v.noRank < a.1 then (v.noRank, v.reason) else a) (0x10000, 0)
    some ⟨cseq, false, 0, 0, low.1, low.2, ep⟩
  else if vs.any (·.mism) then some ⟨cseq, false, 0, 0, 0xFFFF, stBADFIELD, ep⟩
  else
    let near := if m.full t 0 then (m.combined 0).toList else []
    if (near ++ m.held 2).any fun v => v.cnt == t.n then
      some ⟨cseq, true, s.now + s.haltLead, s.get (CM_OPEN.open_ c), 0, 0, ep⟩
    else none

/-- What a node sends upward now in a tree (R316, R317): its combination once complete, or with a flag set at once, and
again whenever what it holds changes it. -/
def State.pushUp (s : State) (c tr : Nat) : State :=
  let t := s.cmTree c
  let m := s.cmAt c
  match m.combined tr with
  | none => s
  | some v =>
    if (m.full t tr || v.no || v.mism) && Tbl.find m.sentUp tr ≠ some v && !(tr == 0 && t.isRoot 0) && 1 < t.n then
      let s := s.setCm c { m with sentUp := Tbl.ins m.sentUp tr v }
      let par := match t.parent tr with
        | some p => p
        | none => 0
      s.cmSend c 0x30 tr (s.cmDev c par) (v.body (s.cmGroup c))
    else s

/-- The votes a node holds acted on: sent upward in both trees, and decided on at the near root (R316, R317), but for one
whose flip is armed, which nothing cancels (R155, R319). -/
def State.pushVotes (s : State) (c : Nat) : State :=
  let t := s.cmTree c
  let s := (s.pushUp c 0).pushUp c 1
  if t.isRoot 0 ∧ (s.decided c).isNone ∧ s.phase c ≠ phARMED ∧ (s.cmAt c).abortPend.isNone then
    match s.rootDecision c with
    | some n => s.conclude c n
    | none => s
  else s

/-- The reason of a no vote, the earliest failing row of R311, or none for a yes vote. -/
def State.noReason (s : State) (c : Nat) : Option Nat :=
  let m := s.cmAt c
  if s.is (CM_STAT.failed c) then some m.reason
  else if s.team c = tmFORMING ∨ s.team c = tmREBUILDING ∨ s.team c = tmFAILED then some stPEERLOST
  else m.endStatus

/-- P7 of R310: the member's vote formed under R311 and sent. -/
def State.castVote (s : State) (c : Nat) : State :=
  let no := s.noReason c
  let o := s.get (CM_OPEN.open_ c)
  let v : VoteRec :=
    { epoch := s.get (CM_EPOCH.epoch c), cseq := s.get (CM_STAT.cseq c), step := o,
      stride := s.get (CM_CFG.stride c), bind := s.bindDigest c o, cnt := if no.isSome then 0 else 1,
      noRank := if no.isSome then (s.cmTree c).me else 0xFFFF, reason := no.getD 0, no := no.isSome, mism := false }
  let s := s.set (CM_STAT.phase c) phVOTED
  let s := s.setCm c { s.cmAt c with own := some v, votedAt := s.now, queryAt := none }
  let s := match s.stepEndJob c with
    | some j => s.setJob { j with segs := [], hold := .vote }
    | none => s
  s.pushVotes c

/-- A no vote that a fault, the team's state, a timer expiry or a teardown has made due leaves at once (R311, R312). -/
def State.settleVote (s : State) (c : Nat) : State :=
  if s.phase c = phPREPARE ∧ (s.cmAt c).own.isNone ∧ (s.cmAt c).abortPend.isNone ∧ (s.noReason c).isSome then
    s.castVote c
  else s

/-- An abort that waited for the writes of delta applications is performed once the last is accepted (R534). -/
def State.settleAbort (s : State) (c : Nat) : State :=
  match (s.cmAt c).abortPend with
  | some (reason, rank) => if s.deltaBusy c then s else s.doAbort c reason rank
  | none => s

/-- Every context's due abort and due no vote. -/
def State.settle (s : State) : State := (List.range 4).foldl (fun s c => (s.settleAbort c).settleVote c) s

/-- The effects of a fence whose epoch is newer (R332): ARMED waits for its flip (R319). -/
def State.fence (s : State) (c epoch : Nat) : State :=
  let s := s.set (CM_EPOCH.fence_epoch c) epoch
  if s.phase c = phARMED then s.setCm c { s.cmAt c with fence := some epoch }
  else
    let s := s.set (CM_STAT.phase c) phFENCED
    match s.stepEndJob c with
    | some j => s.endCmd j stFENCED
    | none => s

/-- A commit message is one of the transaction under way: its epoch is in force and its cseq is the member's (R321). -/
def State.cmCurrent (s : State) (c epoch cseq : Nat) : Bool :=
  epoch == s.get (CM_EPOCH.epoch c) && cseq == s.get (CM_STAT.cseq c)

/-- A message dropped as stale (R321). -/
def State.cmStale (s : State) (c : Nat) : State := s.satInc (CM_DIAG.stale c) 1

end Sys2Proof.Machine
end

