-- ==== Sys2Proof/Machine/Yoke.lean ====
section
/-! DEFINITION. The yoke's decode tables (R204, R205) and bulk decode (R206, R211). -/

namespace Sys2Proof.Machine

/-- A binomial coefficient. -/
def binom : Nat → Nat → Nat
  | _, 0 => 1
  | 0, _ + 1 => 0
  | n + 1, k + 1 => binom n k + binom n (k + 1)

/-- The entries of a full decode table: every erased set of size 1 to r (R205). -/
def tableEntries (k r : Nat) : Nat := ((List.range r).map fun i => binom (k + r) (i + 1)).sum

/-- A half of the decode-table SRAM given an epoch and its code, with nothing built
(DEDUCED, notes/assumptions/44.md). -/
def State.setTable (s : State) (t epoch k r : Nat) : State :=
  let s := ((s.set (YK_DTAB.epoch t) epoch).set (YK_DTAB.k t) k).set (YK_DTAB.r t) r
  ((s.set (YK_DTAB.entries t) 0).set (YK_DTAB.ready t) 0).set (YK_DTAB.in_use t) 0

/-- The sequencer announces an epoch to the yoke (R205, R211): the half that is not in use is built for it, and a build
for an older epoch is abandoned. -/
def State.announce (s : State) (c epoch k r : Nat) : State :=
  let t := if s.is (YK_DTAB.in_use 0) then 1 else 0
  (s.setTable t epoch k r).setYoke { s.yoke with build := some t, buildCtx := c }

/-- The tick planner holds back the generator inversion of a team whose ticks are on while YOKE is saturated (R148). -/
def State.buildHeld (s : State) : Bool := s.is (TK_CFG.enable s.yoke.buildCtx) && nbits (s.get TK_GSTAT.sat) 4 1 == 1

/-- A build completes (R205): its table is in use, and the other half is free. It does not run while the array has failed
(R209) or the planner holds it back (R148). -/
def State.tableDone (s : State) : State :=
  match s.yoke.build with
  | some t =>
    if s.is YK_STAT.failed ∨ s.buildHeld then s
    else
      let s := s.set (YK_DTAB.entries t) (tableEntries (s.get (YK_DTAB.k t)) (s.get (YK_DTAB.r t)))
      let s := (s.set (YK_DTAB.ready t) 1).set (YK_DTAB.in_use t) 1
      (s.setTable (1 - t) 0 0 0).setYoke { s.yoke with build := none }
  | none => s

/-- The half that holds an epoch's table, in use or under building. -/
def State.tableOf (s : State) (epoch : Nat) : Option Nat :=
  (List.range 2).find? fun t => s.get (YK_DTAB.epoch t) == epoch && (s.is (YK_DTAB.in_use t) || s.yoke.build == some t)

/-- Issue time in the field personality (YK_BUSY): the spec gives the limits of a decode's time and no time, so it is a
free value (DESIGN CHOICE, notes/assumptions/51.md). A failed array does no field work: the coding units decode (R209,
R293). -/
def State.fieldBusy (s : State) : State :=
  if s.is YK_STAT.failed then s
  else
    let (s, v) := s.fresh 32
    s.set YK_BUSY.fld_kcyc v

/-- Whether a requested remap has reached its point (R207). -/
def State.remapDue (s : State) : Bool := s.yoke.applyPend && (s.yoke.applyDue || !s.anyTicks)

/-- The k lowest positions that are not erased (R204). -/
def lowestLeft (k n : Nat) (er : List Nat) : List Nat := ((List.range n).filter fun p => !er.contains p).take k

/-- A bulk decode (R204, R206): the shards of the erased positions in ascending order, byte by byte. -/
def bulkOf (k n : Nat) (er : List Nat) (shards : List (List Byte)) : Option (List (List Byte)) :=
  let len := (shards.headD []).length
  (er.foldl setAdd []).mapM fun m => decodeFrag len k ((lowestLeft k n er).zip shards) m

end Sys2Proof.Machine
end

