-- ==== Sys2Proof/Machine/TeamOps.lean ====
section
/-! DEFINITION. Team coding's operations: staged and in-force values (R260, R267), shape and parity sizes (R263, R264),
states and applies (R265 to R269), where a fragment lies (R262, R272, R273, R286), and the checks on team traffic
(R279, R280). -/

namespace Sys2Proof.Machine

/-- The staged values of a context (R260): k = r = 1 in pair mode. -/
def State.staged (s : State) (c : Nat) : TeamVals :=
  let pair := s.get (TM_CFG.mode c) == 1
  { mode := s.get (TM_CFG.mode c), k := if pair then 1 else s.get (TM_CFG.k c),
    r := if pair then 1 else s.get (TM_CFG.r c), index := s.get (TM_CFG.index c), teamId := s.get (TM_ID.team_id c),
    epoch := s.get (TM_ID.epoch c), jobId := s.get (TM_ID.job_id c),
    sparEn := s.is (TM_CFG.spar_en c), members := (List.range 16).map fun i => (s.get (TM_MEMBER.devid c i), s.get (TM_MEMBER.mstate c i)) }

/-- Whether values obey R260. -/
def TeamVals.ok (v : TeamVals) : Bool :=
  (v.mode == 1 || (v.mode == 2 && 2 ≤ v.k && v.k ≤ 15 && 1 ≤ v.r && v.r ≤ 4 && v.n ≤ 16))
    && v.index < v.n && (List.range v.n).all fun i => v.mstate i ≠ 3

/-- Whether every index of the values is present. -/
def TeamVals.allPresent (v : TeamVals) : Bool := (List.range v.n).all v.present
/-- How many indices are absent or rebuilding. -/
def TeamVals.erasedCount (v : TeamVals) : Nat := ((List.range v.n).filter v.erased).length
/-- Whether any index is rebuilding. -/
def TeamVals.anyRebuilding (v : TeamVals) : Bool := (List.range v.n).any fun i => v.mstate i == 2
/-- The present indices, ascending. -/
def TeamVals.presentList (v : TeamVals) : List Nat := (List.range v.n).filter v.present

/-- The shape digest of values over the valid team regions (R263). -/
def State.shape (s : State) (c : Nat) (v : TeamVals) : Nat :=
  (s.imageRgns c).foldl (fun d r =>
    let g := s.rgn r
    add64 d (mul64 (digestW r 1) (((g.kind ||| g.fmt * 2 ^ 4) ||| g.count * 2 ^ 8) + 1)))
    (mul64 (digestW 0xFFFFFF 0)
      ((((((v.mode ||| v.k * 2 ^ 4) ||| v.r * 2 ^ 8) ||| v.n * 2 ^ 12) ||| v.teamId * 2 ^ 16) ||| v.jobId * 2 ^ 32) + 1))

/-- pbytes of values (R264). -/
def State.pbytes (s : State) (c : Nat) (v : TeamVals) : Nat :=
  cdiv (s.imageSize (s.imageRgns c)) (4096 * v.k) * v.r * 4096

/-- Whether the share region fits values (R264). -/
def State.shareOk (s : State) (c : Nat) (v : TeamVals) : Bool :=
  let g := s.rgn (s.get (TM_CFG.share c))
  g.valid && g.kind == 7 && g.fmt == fmtBYTE && g.ctx == c && !g.team && s.pbytes c v ≤ g.count

/-- Whether the stable parity region is usable (R266). -/
def State.sparOk (s : State) (c : Nat) : Bool :=
  let g := s.rgn (s.get (TM_CFG.spar c))
  !s.is (TM_CFG.spar_en c) || (g.valid && g.kind == 10 && g.fmt == fmtBYTE && g.ctx == c)

/-- The touch-map fragments reserved by teams not OFF, but for context c (R284). -/
def State.touchOthers (s : State) (c : Nat) : Nat :=
  (((List.range 4).filter fun d => d ≠ c ∧ s.team d ≠ tmOFF).map fun d => s.pbytes d (s.tmAt d).vals / 4096).sum

/-- R284 with context c at given values. -/
def State.touchFits (s : State) (c : Nat) (v : TeamVals) : Bool :=
  s.touchOthers c + s.pbytes c v / 4096 ≤ 10485760

/-- The register views of the values in force (TM_STAT, TM_SHAPEF, TM_GSTAT). -/
def State.syncTeam (s : State) (c : Nat) : State :=
  let v := (s.tmAt c).vals
  let s := (((s.set (TM_STAT.epoch c) v.epoch).set (TM_STAT.k c) v.k).set (TM_STAT.r c) v.r).set (TM_STAT.index c) v.index
  let s := s.set (TM_STAT.erased c) v.erasedCount
  let s := s.set (TM_SHAPEF.digest c) (s.shape c v)
  s.set TM_GSTAT.touch_used (s.touchOthers c + s.pbytes c v / 4096)

/-- The team epoch in force announced to the yoke (R205, R269). -/
def State.announceTeam (s : State) (c : Nat) : State :=
  let v := (s.tmAt c).vals
  s.announce c v.epoch v.k v.r

/-- The state a set of values leads to by a substitution or a layout change (R268). -/
def teamNext (state : Nat) (old new : TeamVals) : Nat :=
  let layout := old.mode ≠ new.mode || old.k ≠ new.k || old.r ≠ new.r ||
    (List.range new.n).any fun i => new.mstate i == 1 && new.dev i ≠ old.dev i
  if layout then tmENCODING
  else if state = tmENCODING ∨ state = tmFAILED then (if new.allPresent then tmENCODING else tmFAILED)
  else if new.r < new.erasedCount then tmFAILED
  else if new.anyRebuilding then tmREBUILDING
  else if 0 < new.erasedCount then tmDEGRADED
  else tmPROTECTED

/-- Whether an apply of values is a layout change (R268). -/
def layoutChange (old new : TeamVals) : Bool :=
  old.mode ≠ new.mode || old.k ≠ new.k || old.r ≠ new.r ||
    (List.range new.n).any fun i => new.mstate i == 1 && new.dev i ≠ old.dev i

/-- The slots coded under a context's team. -/
def State.codedSlots (s : State) (c : Nat) : List Nat :=
  (List.range 16).filter fun n => s.is (TM_STB.coded n) && s.get (TM_STB.ctx n) == c

/-- What a context's team serves for another member: the application of a delta, or the answer to a fetch. -/
def Job.serves (j : Job) (c : Nat) : Bool :=
  match j.owner with
  | .delta _ => j.ctx == c
  | .fetch _ => j.ctx == c
  | _ => false

/-- The team traffic of an epoch that is over (R269, R279): what is served under it issues nothing more and ends with a
drop reply, and no reply to what was sent under it counts any more. -/
def State.cutTeamWork (s : State) (c : Nat) : State :=
  let cut := fun (j : Job) =>
    if j.serves c then { j with ending := some (stREMOTEDROPPED, some 0), segs := [], hold := .run } else j
  let s : State := { s with jobs := s.jobs.map cut }
  s.setFab { s.fab with outs := s.fab.outs.filter fun o => !(o.ctx == c && isTeamType o.typ) }

/-- Whether a piece of work codes a stable slot anew for a context (R288). -/
def Job.recodes (j : Job) (c : Nat) : Bool :=
  j.ctx == c && match j.owner with
    | .recode _ => true
    | _ => false

/-- A team ends (R265): OFF, kept notices and a pending apply discarded, its slots' coded flags cleared, their coding
stopped. -/
def State.dissolve (s : State) (c : Nat) : State :=
  let s := (s.codedSlots c).foldl (fun s n => s.set (TM_STB.coded n) 0) s
  let s := s.cutTeamWork c
  let s : State := { s with jobs := s.jobs.filter fun j => !j.recodes c }
  let s := s.setTm c {}
  let s := ((s.set (TM_STAT.state c) tmOFF).set (TM_CTL.apply c) 0).set (TM_STAT.epoch c) 0
  let s := (((s.set (TM_STAT.k c) 0).set (TM_STAT.r c) 0).set (TM_STAT.index c) 0).set (TM_STAT.erased c) 0
  let s := s.set (TM_SHAPEF.digest c) 0
  s.set TM_GSTAT.touch_used (s.touchOthers c)

/-- The image a stripe value names: 0 the state image, 1 + n stable slot n (R273). -/
def imageOf (stripe : Nat) : Nat := stripe / 2 ^ 43
/-- The stripe number of a stripe value. -/
def stripeOf (stripe : Nat) : Nat := stripe % 2 ^ 43

/-- The regions of an image. -/
def State.imageOfCtx (s : State) (c image : Nat) : List Nat :=
  if image = 0 then s.imageRgns c else s.slotRgns (image - 1)

/-- The spans of data fragment f of an image, in order, with their offsets in the fragment. -/
def State.fragSpans (s : State) (c image f : Nat) (bank : FragPart → Nat) : List (Span × Nat) :=
  (s.fragParts (s.imageOfCtx c image) f).map fun p => (⟨p.r, bank p, p.sc, p.lo, p.n⟩, p.off)

/-- The bank a region is read in: the active one where banked (R66). -/
def State.readBank (s : State) (r : Nat) : Nat := if (s.rgn r).banked then s.active (s.rgn r).ctx else 0

/-- The span of a parity index: in the share's bank, or in the slot's range of the stable parity region (R273, R286). -/
def State.paritySpan (s : State) (c image i bank : Nat) : Span :=
  if image = 0 then ⟨s.get (TM_CFG.share c), bank, false, 4096 * i, 4096⟩
  else ⟨s.get (TM_CFG.spar c), 0, false, s.get (TM_STB.offset (image - 1)) * 4096 + 4096 * i, 4096⟩

/-- The parity index of parity position k + j of stripe t (R273). -/
def TeamVals.parityIndex (v : TeamVals) (t j : Nat) : Nat := t / v.n * v.r + j

/-- The parity fragments that an image takes on each member (R264, R286). -/
def State.parityCount (s : State) (c image : Nat) : Nat :=
  if image = 0 then s.pbytes c (s.tmAt c).vals / 4096 else s.get (TM_STB.pfrags (image - 1))

/-- The spans of the fragment that member m holds of a stripe value, in a bank (R292). -/
def State.memberSpans (s : State) (c stripe m bank : Nat) : List (Span × Nat) :=
  let v := (s.tmAt c).vals
  let t := stripeOf stripe
  let q := v.posOf t m
  if q < v.k then
    s.fragSpans c (imageOf stripe) (t / v.n * v.k + q) fun p => if (s.rgn p.r).banked then bank else 0
  else
    let i := v.parityIndex t (q - v.k)
    if i < s.parityCount c (imageOf stripe) then [(s.paritySpan c (imageOf stripe) i bank, 0)] else []

/-- A fragment of 4,096 bytes from its spans, zeros elsewhere (R262). -/
def State.readFrag (s : State) (j : Job) (ps : List (Span × Nat)) : List Byte :=
  ps.foldl (fun acc p => xorBytes acc (placed 4096 p.2 (s.readSpan j p.1))) (List.replicate 4096 0#8)

/-- The stripes of an image (R295). -/
def State.stripes (s : State) (c image : Nat) : Nat :=
  let v := (s.tmAt c).vals
  v.n * cdiv (s.imageSize (s.imageOfCtx c image)) (4096 * v.k)

/-- The own index in force a team message's member byte names. -/
def Msg.member (m : Msg) : Nat := m.sgen % 16
/-- The rcv bit (R345). -/
def Msg.rcv (m : Msg) : Bool := m.sgen / 16 % 2 == 1

/-- Team traffic carries the receiver's job id, team id, epoch in force and context generation (R279). -/
def State.teamMsgOk (s : State) (m : Msg) : Bool :=
  let v := (s.tmAt m.ctx).vals
  s.team m.ctx ≠ tmOFF && m.tag == v.jobId && m.team == v.teamId && m.epoch == v.epoch &&
    m.gen == s.get (GL_CTX_STAT.gen m.ctx)

/-- Whether a contribution meets a slot that its context's team is coding or recoding (R287, R289). -/
def State.slotCoding (s : State) (c image : Nat) : Bool :=
  let n := image - 1
  n < 16 && s.get (TM_STB.ctx n) == c && s.get (TM_STB.pfrags n) ≠ 0
    && (s.get (GL_STB_SLOT.state n) == sbCODING || s.is (TM_STB.stale n))

/-- Whether a delta is dropped under R280, a contribution in CODING included. A sender index that the team does not have
holds no position; a parity fragment that the image does not have, or that no coding forms, is no parity position of the
holder (DEDUCED, notes/assumptions/24.md). -/
def State.deltaBad (s : State) (m : Msg) : Bool :=
  let c := m.ctx
  let v := (s.tmAt c).vals
  let t := stripeOf m.stripe
  let q := v.posOf t m.member
  let h := v.posOf t v.index
  m.step ≠ s.get (CM_OPEN.open_ c) % 2 ^ 32 || m.bit2 == s.active c
    || !(s.team c == tmENCODING || s.team c == tmPROTECTED || s.team c == tmDEGRADED)
    || (imageOf m.stripe ≠ 0 && !s.slotCoding c (imageOf m.stripe))
    || v.n ≤ m.member || v.k ≤ q || h < v.k || s.parityCount c (imageOf m.stripe) ≤ v.parityIndex t (h - v.k)

/-- A delta of the next step that arrives while a halt is armed waits (R283) (DEDUCED, notes/assumptions/24.md). -/
def State.deltaEarly (s : State) (m : Msg) : Bool :=
  s.phase m.ctx == phARMED
    && m.step == (s.get (CM_OPEN.open_ m.ctx) + 1) % 2 ^ 32

end Sys2Proof.Machine
end

