-- ==== Sys2Proof/Machine/View.lean ====
section
/-! DEFINITION. What a CTL read finds (R2, R6, R9, R10): the register at an offset, its fields put together, and the
fields that follow other state (R150, R263, R264, SC fields that read 1 while their action runs). -/

namespace Sys2Proof.Machine

/-- A class 1 or 2 command of a context is running or ready (R150, TK_STAT.cp_open). R150 counts a disabled context's ready
commands, which R139 does not name; a HELD context's start points hold none that is ready
(DEDUCED, notes/assumptions/49.md). -/
def State.commitBusy (s : State) (c : Nat) : Bool :=
  (s.jobs.any fun j => j.cmdOf c && 1 ≤ j.cls) ||
    (s.ctxState c == ctxRUN && (List.range 16).any fun q =>
      let b := s.command (s.headKey c q)
      s.hasHead c q && 1 ≤ leAt b 19 1 % 4 && s.waitsMet c b)

/-- What the yoke does (YK_STAT.state, R192, R207, R210): a remap or a check pattern that is due, field work (a bulk decode or
a table build), or the products of a weight block in flight. Every product is one event, so the personality changes only
where the array holds no partial accumulators (DESIGN CHOICE, notes/assumptions/51.md). -/
def State.yokeState (s : State) : Nat :=
  let decode := fun (j : Job) => match j.segs with
    | .decodeFor :: _ => j.ending.isNone && j.hold == .run
    | _ => false
  let number := fun (j : Job) => match j.segs with
    | .precond _ :: _ => j.out ≠ 0 || j.exed
    | .update :: _ => j.upd.kind == 3 && (j.out ≠ 0 || j.exed)
    | _ => false
  if s.remapDue then 3
  else if s.yoke.testPend then 4
  else if s.is YK_STAT.failed then 0
  else if s.yoke.build.isSome ∨ s.jobs.any decode then 2
  else if s.jobs.any number then 1 else 0

/-- The time to the nearest next boundary of an enabled context, with none of them a large number
(DESIGN CHOICE, notes/assumptions/17.md). -/
def State.nearestBoundary (s : State) : Nat :=
  (List.range 4).foldl (fun m c => if s.is (TK_CFG.enable c) then Nat.min m ((s.tkAt c).next - s.now) else m) (2 ^ 64)

/-- TK_GSTAT.slack_valid (R150). -/
def State.slackValid (s : State) : Bool :=
  (List.range 4).all (fun c => !s.commitBusy c && (!s.is (TK_CFG.enable c) || s.get (TK_DEBT.debt c) == 0))
    && s.get TK_GCFG.retrain_min ≤ s.nearestBoundary

/-- The indices of an offset relative to a register array's base, and what is left over. -/
def dimIndex : List Dim → Nat → List Nat × Nat
  | [], o => ([], o)
  | d :: ds, o =>
    let i := Nat.min (o / d.stride) (d.count - 1)
    let (is, rest) := dimIndex ds (o - i * d.stride)
    (i :: is, rest)

/-- The indices under which an offset lies in a register (its array element's own offset, not inside it). -/
def RegDef.at_ (d : RegDef) (off : Nat) : Option (List Nat) :=
  if off < d.base then none
  else
    match dimIndex d.dims (off - d.base) with
    | (is, 0) => some is
    | _ => none

/-- The register at an offset and its indices. -/
def regAtAux : List RegDef → Nat → Option (RegDef × List Nat)
  | [], _ => none
  | d :: ds, off =>
    match d.at_ off with
    | some is => some (d, is)
    | none => regAtAux ds off

/-- The register at an offset and its indices. -/
def regAt (off : Nat) : Option (RegDef × List Nat) := regAtAux regTable off

/-- The reset word of a register (R12). -/
def RegDef.rstWord (d : RegDef) (is : List Nat) : BitVec 64 :=
  match d.kind with
  | .word => d.rst
  | .lane => FB_LANE.rst (is.headD 0)
  | .rowOut => mapWord Config.fusedRowOut (is.headD 0)
  | .colOut => mapWord Config.fusedColOut (is.headD 0)
  | .ykStat => YK_STAT.rst
  | .coreOut => SL_CORE_OUT.rst (is.headD 0)
  | .glId => GL_ID.rst

/-- A field of a register as the register file names it. -/
def RegDef.loc (d : RegDef) (is : List Nat) (off : Nat) (f : FieldDef) : Loc := ⟨off, f.lo, f.w, fget (d.rstWord is) f.lo f.w⟩

/-- The word of a register: what its fields read as; a WO field reads as zero (R6), a reserved one too (R9). -/
def State.regWord (s : State) (off : Nat) : Nat :=
  match regAt off with
  | some (d, is) => (d.fields.map fun f => if f.acc = .wo then 0 else s.get (d.loc is off f) * 2 ^ f.lo).sum
  | none => 0

/-- The fields of context c that follow other state, brought up to date for a read. -/
def State.viewCtx (s : State) (c : Nat) : State :=
  let v := s.staged c
  let s := s.setB (TK_STAT.cp_open c) (s.commitBusy c)
  let s := s.showDebt c (s.grown c).debts
  let s := s.set (TM_SHAPE.digest c) (s.shape c v)
  let s := s.set (TM_PSIZE.pbytes c) (s.pbytes c (if s.team c = tmOFF then v else (s.tmAt c).vals))
  let s := s.setB (TM_CTL.form c) (s.team c == tmFORMING)
  let s := s.setB (TM_CTL.dissolve c) (s.tmAt c).dissolvePend
  let s := s.setB (CM_CTL.apply_epoch c) (s.cmAt c).epochPend.isSome
  let s := s.setB (GL_CTX_CTL.hold c) (s.cxAt c).deferHost
  s.setB (GL_CTX_CTL.teardown c) (s.ctxState c == ctxTEARING)

/-- A slice's channel states as they read: channels at or above nch read 0. -/
def State.viewChan (s : State) (n : Nat) : State :=
  s.set (SL_CHAN_STATE.chan n) (s.get (SL_CHAN_STATE.chan n) % 4 ^ s.nch)

/-- The fields that follow other state but the slack's, brought up to date for a read. -/
def State.viewFields (s : State) : State :=
  let s := ((List.range 4).foldl State.viewCtx s).set YK_STAT.state s.yokeState
  let s := (List.range 20).foldl State.viewChan s
  let s := (s.set FB_INQ.rsp_used (s.buffered 1).length).set FB_INQ.col_used (s.buffered 2).length
  s.set FB_INQ.ctl_used (s.buffered 3).length

/-- The slack as it reads: while no context is enabled the spec states none, a free value. -/
def State.viewSlack (s : State) : State × Nat :=
  if (List.range 4).any fun c => s.is (TK_CFG.enable c) then (s, s.nearestBoundary) else s.fresh 34

/-- The fields that follow other state, brought up to date for a read. -/
def State.view (s : State) : State :=
  let p := s.viewFields.viewSlack
  (p.1.set TK_GSTAT.slack p.2).setB TK_GSTAT.slack_valid p.1.slackValid

end Sys2Proof.Machine
end

