-- ==== Sys2Proof/Machine/Collect.lean ====
section
/-! DEFINITION. Lanes' states and credit words (R334, R337, R517), the resets of R370 and the collection before them
(R373, R374). -/

namespace Sys2Proof.Machine

/-- ACTIVE, SPARE, DOWN, OUT (R334). -/
def lnACTIVE : Nat := 0
def lnSPARE : Nat := 1
def lnDOWN : Nat := 2
def lnOUT : Nat := 3

/-- A lane's state. -/
def State.lane (s : State) (p : Nat) : Nat := s.get (FB_LANE.state p)

/-- FB_STAT.m and narrow brought up to date (R337), with the fabric vector and the emergency of a narrow port. -/
def State.syncLanes (s : State) : State :=
  let m := ((List.range 18).filter fun p => s.lane p == lnACTIVE).length
  let was := s.is FB_STAT.narrow
  let s := (s.set FB_STAT.m m).setB FB_STAT.narrow (decide (m < 16))
  let s := if was ≠ decide (m < 16) then s.irq 20 else s
  if ¬ was ∧ m < 16 then s.emcy 0xFF16 (leBytes 1 0xFF ++ leBytes 1 m) else s

/-- The entries of the four inbound buffers and their 64-byte units (R359). -/
def bufEntries : Nat → Nat × Nat
  | 0 => (2048, 16384)
  | 1 => (512, 8192)
  | 2 => (64, 1024)
  | _ => (256, 1024)

/-- Absolute credit words for every class on a link (R517): the spec bounds what they advertise by what is free and
gives no share, so the amounts are free values under that bound (DESIGN CHOICE, notes/assumptions/21.md). -/
def State.creditWords (s : State) (link : Nat) : State :=
  (List.range 4).foldl (fun s k =>
    let used := (s.buffered k).length
    let units := ((s.buffered k).map fun m => cdiv m.size 64).sum
    let (s, a) := s.fresh 32
    let (s, b) := s.fresh 32
    s.emit (.credit link k true (a % ((bufEntries k).1 - used + 1)) (b % ((bufEntries k).2 - units + 1)))) s

/-- Register offsets of the meter's mirrors: no reset of the block changes the meter (R370, R444). -/
def meterOff (off : Nat) : Bool := 0x28000 ≤ off && off < 0x29000
/-- Register offsets that a block reset keeps: DG_COLL_CFG, DG_COLL_SUM and DG_COLL_STEP (R370). -/
def collOff (off : Nat) : Bool := 0x17030 ≤ off && off < 0x17060

/-- The lanes whose PHY reports them down: ports 0 to 17 (R334). -/
def State.lanesDn (s : State) : List Nat := s.fab.laneDn.filter (· < 18)

/-- The block in an internal reset (R370, R415, R523): every register that `keep` does not name at its reset value, no
work, MPnn_RST high, the node off its bus (R477). What pins show is sampled again: PHY lanes down, port up, hard channel faults, retraining requests
and the hall-time fallback flag. -/
def State.resetTo (s : State) (keep : Nat → Bool) (cause : Nat) : State :=
  let t : State := { State.reset with
    regs := s.regs.filter fun p => keep (p.1 / 64), meter := s.meter, out := s.out, pending := s.pending, free := s.free,
    mem := { faults := s.mem.faults },
    fab := { laneDn := s.fab.laneDn, rebuildPend := s.lanesDn ≠ [] } }
  let t := t.set GL_RST_STAT.cause cause
  let t := t.setB TK_HT_STAT.fallback (s.is TK_HT_STAT.fallback)
  let t := if s.is TK_HT_STAT.fallback then t.set TK_HT_STAT.skew_bound (t.get TK_HT_CFG.fb_skew) else t
  let t := (List.range 20).foldl (fun t n =>
    (t.set (SL_MEND.port_down n) (s.get (SL_MEND.port_down n))).set (SL_RETRAIN.req n) (s.get (SL_RETRAIN.req n))) t
  let t := s.hardFaults.foldl (fun t k =>
    t.set (SL_CHAN_STATE.chan (k / 32)) (t.get (SL_CHAN_STATE.chan (k / 32)) + 3 * 4 ^ (k % 32))) t
  let t := s.lanesDn.foldl (fun t p => t.set (FB_LANE.state p) lnDOWN) t
  let t := t.syncLanes
  let t := s.mem.grants.foldl (fun t k => t.emit (.grant (k / 32) (k % 32) false)) t
  (t.emit (.memRst true)).emit (.canOff 0)

/-- Absolute credit words on every link that is up, after a reset (R517). -/
def State.creditAll (s : State) : State :=
  ((List.range 19).filter fun l => !s.fab.laneDn.contains l).foldl (fun s l => s.creditWords l) s

/-- The block reset of R370: the fill begins (R415). -/
def State.blockReset (s : State) (cause : Nat) : State :=
  (s.resetTo (fun o => meterOff o || collOff o) cause).creditAll

/-- The firmware's waiting activation released: its STEP_ENDs may start (R495). -/
def State.fwRelease (s : State) : State :=
  (s.set GL_FW_CTL.activate 0).setMgmt { s.mgmt with holdStep := false }

/-- The sequencer stops for a restart (R370): its report tables are empty and every running class 2 command completes
with INTERNAL; its pending decision queries are forgotten, and a member still VOTED asks again (R328); an activation
that waits is STAGED again (R499). A restart by the watchdog starts the escalation window of R369. -/
def State.seqRestart (s : State) (watchdog : Bool) : State :=
  let s := if s.get GL_FW_STAT.state = 4 then (s.set GL_FW_STAT.state 3).fwRelease else s
  let s := (s.jobs.filter fun j => j.isCommand && j.cls == 2 && j.ending.isNone).foldl (fun s j => s.endCmd j stINTERNAL) s
  let s := s.setReps []
  let s := (List.range 256).foldl (fun s i =>
    let s := ((s.set (DG_RIN_ID.subject i) 0).set (DG_RIN_ID.kind i) 0).set (DG_RIN_ID.msgs i) 0
    ((s.set (DG_RIN_ID.valid i) 0).set (DG_RIN_CNT.count i) 0).set (DG_RIN_T.first i) 0) s
  let s := s.set DG_RIN_STAT.entries 0
  let s := (List.range 4).foldl (fun s c => s.setCm c { s.cmAt c with queryAt := none }) s
  s.setRec { s.rec_ with seqDown := true, seqStop := false, coll := none,
                         restartAt := if watchdog then some s.now else s.rec_.restartAt }

/-- The reset that follows a collection (R373); reason 1 is the watchdog's. -/
def State.afterColl (s : State) (k : CollS) : State :=
  match k.after with
  | .seq => s.seqRestart (k.reason == 1)
  | .block => s.blockReset 1

/-- A context's block of the collect record (R374). -/
def State.collCtx (s : State) (c : Nat) : List Byte :=
  let v := (s.tmAt c).vals
  let outs := (s.fab.outs.filter fun o => o.ctx == c).foldl (fun l o => if l.contains o.dst then l else l ++ [o.dst]) []
  let w := fun (l : Loc) => leBytes 8 (s.regWord l.off)
  padTo 128
    (w (GL_CTX_STAT.state c) ++ w (CM_STAT.phase c) ++ w (CM_STEP.committed c) ++ w (CM_EPOCH.epoch c) ++ w (CM_HALT.h c)
      ++ w (TM_STAT.state c) ++ leBytes 8 (v.teamId + v.epoch * 2 ^ 16 + v.jobId * 2 ^ 32) ++ w (TK_STAT.tick c)
      ++ w (DR_STAT.bound c) ++ w (TM_SHAPE.digest c) ++ ((outs.take 4).flatMap fun d => leBytes 2 d))

/-- A region's block of the collect record (R374). -/
def State.collRgn (s : State) (n : Nat) : List Byte :=
  leBytes 8 (s.regWord (GL_RGN_CFG.kind n).off) ++ leBytes 8 (s.regWord (GL_RGN_LOC.base n).off)
    ++ leBytes 8 (s.regWord (GL_RGN_SIZE.count n).off) ++ leBytes 8 (s.regWord (GL_RGN_STAT.refs n).off)

/-- A running command's block of the collect record (R374). -/
def Job.collCmd (j : Job) : List Byte :=
  leBytes 1 (j.ctx + 4 * j.queue) ++ leBytes 1 (j.key % 64) ++ leBytes 1 j.opcode ++ leBytes 1 j.cls
    ++ leBytes 2 (j.arg 2 2) ++ leBytes 2 0 ++ leBytes 4 (j.arg 20 4) ++ leBytes 4 0 ++ leBytes 8 j.hallAt
    ++ leBytes 8 (j.bytesDone + j.readDone)

/-- The collect record (R374). -/
def State.collRecord (s : State) (reason start : Nat) : List Byte :=
  let s := s.view
  let cmds := (s.jobs.filter fun j => j.isCommand).take 45
  let body :=
    padTo 64 (leBytes 4 0x50474352 ++ leBytes 2 2 ++ leBytes 1 reason ++ leBytes 1 0 ++ leBytes 8 start
      ++ leBytes 2 s.self ++ leBytes 4 s.coord.word ++ leBytes 2 (s.get GL_TS.code)
      ++ leBytes 4 (s.get GL_FW_VER.running) ++ leBytes 1 (s.get FB_CFG.ver_send))
    ++ (List.range 4).flatMap s.collCtx ++ (List.range 64).flatMap s.collRgn
    ++ padTo (45 * 32) (cmds.flatMap Job.collCmd) ++ leBytes 24 0
  body ++ leBytes 8 (wordDigest 0xFFFFFB 0 (chunks 8 body))

/-- Bit c of a word for every context that meets a condition. -/
def ctxMask (f : Nat → Bool) : Nat := ((List.range 4).map fun c => if f c then 2 ^ c else 0).sum

/-- A collection once no flip is armed (R373): its summary is set and its record written; with no record to write the
reset starts at once. -/
def State.collect (s : State) (k : CollS) : State :=
  let s := ((s.set DG_COLL_SUM.reason k.reason).set DG_COLL_SUM.valid 1).set DG_COLL_SUM.complete 0
  let s := s.set DG_COLL_SUM.sel (ctxMask fun c => s.active c == 1)
  let s := s.set DG_COLL_SUM.bound (ctxMask fun c => s.is (DR_STAT.bound c))
  let s := s.set DG_COLL_SUM.prev_intact (ctxMask fun c => s.is (DR_STAT.prev_intact c))
  let s := s.set DG_COLL_SUM.fenced (ctxMask fun c => s.phase c == phFENCED)
  let s := (List.range 4).foldl (fun s c => s.set (DG_COLL_STEP.committed c) (s.get (CM_STEP.committed c))) s
  let s := s.emcy 0xFF18 (leBytes 1 0xFF ++ leBytes 1 k.reason)
  let n := s.get DG_COLL_CFG.stack
  if s.is DG_COLL_CFG.valid ∧ n < 20 ∧ ¬ s.is (SL_MEND.port_down n) ∧ ¬ s.mem.resetHigh then
    let s := s.setRec { s.rec_ with coll := some { k with waiting := false } }
    (chunks 256 (s.collRecord k.reason k.start)).zipIdx.foldl (fun s (b, i) =>
      s.issueWrite 0 2 n (16 * s.get DG_COLL_CFG.addr + i) 64 0 (b.map some)) s
  else s.afterColl k

/-- A collection that waits for armed flips goes on once none is armed. -/
def State.settleColl (s : State) : State :=
  match s.rec_.coll with
  | some k => if k.waiting ∧ (List.range 4).all (fun c => s.phase c ≠ phARMED) then s.collect k else s
  | none => s

/-- A collection starts (R366, R373); one already running is completed, and then the block reset follows where one is
asked for (R412). -/
def State.startColl (s : State) (reason : Nat) (after : Reset) : State :=
  match s.rec_.coll with
  | some k => if after = .block then s.setRec { s.rec_ with coll := some { k with after := after } } else s
  | none =>
    let s := s.observe s.self 6
    s.setRec { s.rec_ with coll := some ⟨reason, after, s.now, true⟩ }

end Sys2Proof.Machine
end

