-- ==== Sys2Proof/Machine/Unit.lean ====
section
/-! DEFINITION. The units of memory work of chapters 03, 04, 09, 11 and 12: how many a segment has, what each reads and
writes, and what it does once its reads are in. -/

namespace Sys2Proof.Machine

/-- What a unit needs before it runs: spans to read and spans to write, or a reason to wait. -/
structure Plan where
  reads : List Span := []
  subs : List (Span × Sub) := []
  writes : List (Span × WriteKind) := []
  wait : Bool := false
  lost : Bool := false
  deriving DecidableEq, Repr

/-- The bytes of one row of an area that lie in [lo, hi), as a span in a bank. -/
def Rgn.rowSpan (g : Rgn) (r k : Nat) (sc : Bool) (lo hi row : Nat) : Span :=
  let w := g.width * g.area sc
  let a := Nat.max lo (row * w)
  let b := Nat.min (Nat.min hi (g.bytes sc)) ((row + 1) * w)
  ⟨r, k, sc, a, b - a⟩

/-- The rows of a byte range of an area. -/
def Rgn.rowCount (g : Rgn) (sc : Bool) (lo hi : Nat) : Nat :=
  let w := g.width * g.area sc
  if hi ≤ lo ∨ w = 0 then 0 else (hi - 1) / w + 1 - lo / w

/-- The row of the u-th unit of a byte range. -/
def Rgn.rowAt (g : Rgn) (sc : Bool) (lo u : Nat) : Nat := lo / (g.width * g.area sc) + u

/-- How bytes that a copy or a given write puts down count (R275, R426). -/
def wkFor (j : Job) : WriteKind :=
  match j.owner with
  | .cmd _ _ _ =>
    if j.opcode = opIMPORT ∨ j.opcode = opSTABLELOAD then wkSeen else if j.opcode = opJOBLOAD then wkCopy else wkStep
  | .inbound _ => wkStep
  | .rebuild _ => wkSeen
  | _ => wkCopy

/-- The bytes written so far count towards the fault offset once acknowledged (R90). -/
def Job.reached (j : Job) (n : Nat) : Job := { j with pos := j.pos + n }

/-- The fragments of the state image. -/
def State.imageFrags (s : State) (c : Nat) : Nat := s.imageSize (s.imageRgns c) / 4096

/-- Whether a fragment belongs to a region that has been written in the interval: a sweep takes every fragment of such a
region (R274, R277). -/
def State.fragWritten (s : State) (c f : Nat) : Bool :=
  (s.fragParts (s.imageRgns c) f).any fun p =>
    Tbl.at (s.cmAt c).writeRegions [] (areaKey p.r false) ≠ [] || Tbl.at (s.cmAt c).writeRegions [] (areaKey p.r true) ≠ []

/-- The spans of a fragment in one bank. -/
def State.fragIn (s : State) (c image f bank : Nat) : List (Span × Nat) :=
  s.fragSpans c image f fun p => if (s.rgn p.r).banked then bank else 0

/-- The current contents of a fragment, block by block (R275, pair mode of R276). -/
def State.fragNow (s : State) (c f : Nat) : List (Span × Nat) :=
  (s.fragParts (s.imageRgns c) f).flatMap fun p =>
    (s.oldSpans ⟨p.r, 0, p.sc, p.lo, p.n⟩).map fun q => (q, p.off + (q.lo - p.lo))

/-- What a fragment's new bytes still lack: the current contents of the bytes that the command did not write, each with its
place in the fragment (R276, pair mode). -/
def State.fragRest (s : State) (j : Job) (f : Nat) : List (Span × Nat) :=
  let ivs := (Tbl.at j.fresh ([], []) f).2
  (s.fragNow j.ctx f).flatMap fun q =>
    (ivs.foldl (fun l iv => ivSub l iv.1 iv.2) [(q.2, q.2 + q.1.n)]).map fun (a, b) =>
      ({ q.1 with lo := q.1.lo + (a - q.2), n := b - a }, a)

/-- The delta a holder's work applies. -/
def Job.delta (j : Job) : Option Msg :=
  match j.owner with
  | .delta m => some m
  | .fetch m => some m
  | .serve m => some m
  | _ => none

/-- Where a holder applies a delta: the share, or a slot's parity range (R281, R287). -/
def State.applyAt (s : State) (m : Msg) (bank : Nat) : Span :=
  let v := (s.tmAt m.ctx).vals
  let t := stripeOf m.stripe
  s.paritySpan m.ctx (imageOf m.stripe) (v.parityIndex t (v.posOf t v.index - v.k)) bank

/-- The parity index a delta touches. -/
def State.touchIx (s : State) (m : Msg) : Nat :=
  let v := (s.tmAt m.ctx).vals
  let t := stripeOf m.stripe
  v.parityIndex t (v.posOf t v.index - v.k)

/-- The bank a delta's base is read from; none for a base of zeros (R281). -/
def State.baseBank (s : State) (m : Msg) : Option Nat :=
  if imageOf m.stripe ≠ 0 then some 0
  else if (s.tmAt m.ctx).touch.contains (s.touchIx m) then some (1 - s.active m.ctx)
  else if s.team m.ctx = tmENCODING then none
  else some (s.active m.ctx)

/-- The row of a region that a mend rewrites in one bank: its area, the span of its data and the parts of the mended
stack's block that lie on the mended channel (R80, R81). -/
def State.mendSpan (s : State) (r k row : Nat) : Span :=
  let g := s.rgn r
  let sc := decide (g.rows ≤ row)
  g.rowSpan r k sc 0 (g.bytes sc) (if g.rows ≤ row then row - g.rows else row)

/-- The parts of the mended stack's block of a row on the mended channel. -/
def State.mendSubs (s : State) (n c r k row : Nat) : List (Span × Sub) :=
  let g := s.rgn r
  let sc := decide (g.rows ≤ row)
  let i := if g.rows ≤ row then row - g.rows else row
  let p := s.mendSpan r k row
  ((subsAux i n (g.area sc / 256 + 2) (g.start k sc + i * g.area sc) (g.area sc)).filter fun u =>
    u.gr % s.nch == c).map fun u => (p, u)

/-- How many units a segment has. -/
def State.units (s : State) (j : Job) (g : Seg) : Nat :=
  match g with
  | .bankCopy r _ _ =>
    let d := s.rgn r
    d.rowCount false 0 (d.bytes false) + if d.fmt = fmtK8 then d.rowCount true 0 (d.bytes true) else 0
  | .rangeCopy r _ _ sc lo hi => (s.rgn r).rowCount sc lo hi
  | .copyBytes _ _ sc _ dst _ doff n => (s.rgn dst).rowCount sc doff (doff + n)
  | .put _ _ _ _ bs => if bs = [] then 0 else 1
  | .granule _ runs => if runs = [] then 0 else 1
  | .zero _ _ _ n => cdiv n 4096
  | .parityCopy _ => s.pbytes j.ctx (s.tmAt j.ctx).vals / 4096
  | .sweep _ => s.imageFrags j.ctx
  | .codeSlot n => s.imageSize (s.slotRgns n) / 4096
  | .audit _ _ n => n
  | .pairSend _ | .apply | .answerFetch | .answerGet | .bindRead => 1
  | .mend =>
    match j.owner with
    | .mend _ _ r _ => if (s.rgn r).banked then 2 else 1
    | _ => 0
  | _ => 0

/-- The ready notices of the holders of a slot's fragment are held: contributions go to a holder only after its notice
(R287). Fragments go in ascending order, each to its holders together (DESIGN CHOICE, notes/assumptions/24.md). -/
def State.holdersReady (s : State) (c slot f : Nat) : Bool :=
  let v := (s.tmAt c).vals
  (v.holders (v.stripe f)).all fun h => (s.stbAt slot).ready.contains (16 * c + h)

/-- Whether every position of a stripe is there for an audit (R290, R296, R385). -/
def State.noneErased (s : State) (c image : Nat) : Bool :=
  let v := (s.tmAt c).vals
  v.presentList.length == v.n && (image == 0 || (s.stbAt (image - 1)).gone == [])

/-- The ranges that one update of a granule writes: in a region with the inner bit the runs of one element block joined to one
range, whose gaps are read and written back; else each run on its own (R362). -/
def Rgn.updateRanges (g : Rgn) (runs : List (Nat × List Byte)) : List (Nat × Nat) :=
  let w := g.area false
  runs.foldl (fun l run =>
    let hi := run.1 + run.2.length
    match l.getLast? with
    | some x => if g.inner ∧ x.1 / w = run.1 / w then l.dropLast ++ [(x.1, hi)] else l ++ [(run.1, hi)]
    | none => [(run.1, hi)]) []

/-- Runs laid over the bytes of a range. -/
def layRuns (lo : Nat) (bytes : List Byte) (runs : List (Nat × List Byte)) : List Byte :=
  runs.foldl (fun bs run =>
    if lo ≤ run.1 ∧ run.1 + run.2.length ≤ lo + bs.length then
      bs.take (run.1 - lo) ++ run.2 ++ bs.drop (run.1 - lo + run.2.length)
    else bs) bytes

/-- Whether a PARITY_AUDIT audits a stripe (R294): all of them, or those of one residue. -/
def Job.selects (j : Job) (n stripe : Nat) : Bool :=
  j.arg 25 1 < 128 || stripe % n == j.arg 25 1 % 16

/-- What a unit reads and writes. -/
def State.plan (s : State) (j : Job) (g : Seg) (u : Nat) : Plan :=
  match g with
  | .bankCopy r f t =>
    let d := s.rgn r
    let (f, t) := if j.isCommand then (s.active d.ctx, 1 - s.active d.ctx) else (f, t)
    let n := d.rowCount false 0 (d.bytes false)
    let sc := decide (n ≤ u)
    let row := if n ≤ u then u - n else u
    { reads := [d.rowSpan r f sc 0 (d.bytes sc) row], writes := [(d.rowSpan r t sc 0 (d.bytes sc) row, wkCopy)] }
  | .rangeCopy r f t sc lo hi =>
    let d := s.rgn r
    let row := d.rowAt sc lo u
    { reads := [d.rowSpan r f sc lo hi row], writes := [(d.rowSpan r t sc lo hi row, wkCopy)] }
  | .copyBytes src sb sc soff dst db doff n =>
    let d := s.rgn dst
    let db := if d.banked then 1 - s.active d.ctx else db
    let p := d.rowSpan dst db sc doff (doff + n) (d.rowAt sc doff u)
    { reads := [⟨src, sb, sc, soff + (p.lo - doff), p.n⟩], writes := [(p, wkFor j)] }
  | .put r k sc lo bs => { writes := [(⟨r, k, sc, lo, bs.length⟩, wkFor j)] }
  | .granule r runs =>
    let g := s.rgn r
    let ps := (g.updateRanges runs).map fun x => (⟨r, 0, false, x.1, x.2 - x.1⟩ : Span)
    { reads := if g.inner then ps else [], writes := ps.map fun p => (p, wkFor j) }
  | .zero r k lo n => { writes := [(⟨r, k, false, lo + 4096 * u, Nat.min 4096 (n - 4096 * u)⟩, wkCopy)] }
  | .parityCopy full =>
    if (s.tmAt j.ctx).touch.contains u then {}
    else
      { reads := if full then [] else [s.paritySpan j.ctx 0 u (s.active j.ctx)],
        writes := [(s.paritySpan j.ctx 0 u (1 - s.active j.ctx), wkCopy)] }
  | .sweep full =>
    if full then { reads := (s.fragIn j.ctx 0 u (1 - s.active j.ctx)).map (·.1), wait := s.bufferFull j.ctx u }
    else if s.fragWritten j.ctx u then
      { reads := (s.fragIn j.ctx 0 u (s.active j.ctx) ++ s.fragIn j.ctx 0 u (1 - s.active j.ctx)).map (·.1),
        wait := s.bufferFull j.ctx u }
    else {}
  | .pairSend f => { reads := (s.fragRest j f).map (·.1), wait := s.bufferFull j.ctx f }
  | .apply =>
    match j.delta with
    | some m =>
      { reads := match s.baseBank m with
          | some b => [s.applyAt m b]
          | none => [],
        writes := [(s.applyAt m (1 - s.active m.ctx), wkCopy)] }
    | none => {}
  | .answerFetch =>
    match j.delta with
    | some m => { reads := (s.memberSpans m.ctx m.stripe (s.tmAt m.ctx).vals.index j.sel).map (·.1) }
    | none => {}
  | .answerGet =>
    match j.delta with
    | some m => { reads := [⟨m.at_ 0 1 % 64, if (s.rgn (m.at_ 0 1 % 64)).banked then j.sel else 0, false, m.at_ 2 6, m.at_ 8 2⟩] }
    | none => {}
  | .bindRead => { reads := [⟨s.get (CM_CFG.rec_ j.ctx), j.sel, false, 0, 128⟩] }
  | .mend =>
    match j.owner with
    | .mend n c r row =>
      let subs := s.mendSubs n c r u row
      { subs := subs, writes := if subs = [] then [] else [(s.mendSpan r u row, wkCopy)] }
    | _ => {}
  | .codeSlot n =>
    { reads := (s.fragIn j.ctx (1 + n) u 0).map (·.1), wait := s.bufferFull j.ctx u || !s.holdersReady j.ctx n u }
  | .audit image first _ =>
    if ¬ j.selects (s.tmAt j.ctx).vals.n (first + u) then {} else
    { reads := (s.memberSpans j.ctx (image * 2 ^ 43 + first + u) (s.tmAt j.ctx).vals.index (s.active j.ctx)).map (·.1) }
  | _ => {}

/-- The bytes a member asks another for: a FETCH for a stripe value, kept among the outstanding requests (R292). -/
def State.sendFetch (s : State) (c jid stripe i : Nat) (rcv : Bool) : State :=
  let s := s.send (s.frag c 0x13 i 0 stripe 0 rcv [])
  let o : FabOut := { tag := i, typ := 0x13, dst := (s.tmAt c).vals.dev i, ctx := c, job := jid, stripe := stripe,
                      at_ := s.now }
  s.setFab { s.fab with outs := s.fab.outs ++ [o] }

/-- A request of the REQ buffer has been answered: its place is free, its credits return (R359, R360). -/
def State.freeReq (s : State) (id : Nat) : State :=
  match s.fab.reqs.find? fun r => r.id == id with
  | none => s
  | some r =>
    ((s.setFab { s.fab with reqs := s.fab.reqs.filter fun x => x.id ≠ id }).dec FB_INQ.req_used 1).emit
      (.credit 19 0 false 1 (cdiv r.msg.size 64))

/-- A reply with a drop status to the request that a piece of work serves. -/
def State.dropReq (s : State) (j : Job) (m : Msg) (status : Nat) : State :=
  (j.acc.foldl (fun s id => s.freeReq id) (s.drop m status)).delJob j.id

/-- A counter of a piece of work raised. -/
def Job.bump (j : Job) (i n : Nat) : Job := { j with acc := setAt j.acc i (j.acc.getD i 0 + n) }

/-- The byte enables of writes that all lie in one granule, with their bytes (R362, R500). -/
def State.granuleMask (s : State) (ws : List (Span × WriteKind)) (runs : List (Nat × List Byte)) : List (Option Byte) :=
  ws.foldl (fun m w =>
    let bs := layRuns w.1.lo (List.replicate w.1.n 0#8) runs
    match (s.pieces w.1).flatMap Piece.subs with
    | [u] => m.take u.off ++ bs.map some ++ m.drop (u.off + u.n)
    | _ => m) (List.replicate 256 none)

/-- The write of one update of a granule (R362): with the inner bit a read-modify-write of each range with its P and Q (R72),
else one request whose byte enables name the bytes written. -/
def State.updateGranule (s : State) (j : Job) (p : Plan) (runs : List (Nat × List Byte)) : State × Job :=
  let done := fun (s : State) (w : Span × WriteKind) => s.seeWrite w.1 (layRuns w.1.lo (List.replicate w.1.n 0#8) runs)
  match p.writes with
  | [] => (s, j)
  | w :: _ =>
    if (s.rgn w.1.r).inner then
      p.writes.foldl (fun (s, j) w => s.writeSpan j w.1 (layRuns w.1.lo (s.readSpan j w.1) runs) w.2) (s, j)
    else
      match (s.pieces w.1).flatMap Piece.subs with
      | u :: _ =>
        let lost := s.granule w.1.r w.1.k ((s.rgn w.1.r).listRow false u.row) u.x u.gr == 2
        let (t, j) := if lost then (s, j) else s.putMask j w.1 u.x u.gr (s.granuleMask p.writes runs)
        (p.writes.foldl done t, { j with bytesDone := j.bytesDone + (p.writes.map fun x => x.1.n).sum })
      | [] => (s, j)

/-- A unit done once its reads are in. -/
def State.exe (s : State) (j : Job) (g : Seg) (u : Nat) : State × Job :=
  let p := s.plan j g u
  match g with
  | .bankCopy _ _ _ | .rangeCopy _ _ _ _ _ _ | .copyBytes _ _ _ _ _ _ _ _ =>
    match p.reads, p.writes with
    | [a], [(b, k)] => s.writeSpan j b (s.readSpan j a) k
    | _, _ => (s, j)
  | .put _ _ _ _ bs =>
    match p.writes with
    | [(b, k)] => s.writeSpan j b bs k
    | _ => (s, j)
  | .granule _ runs => s.updateGranule j p runs
  | .zero _ _ _ _ =>
    match p.writes with
    | [(b, k)] => s.writeSpan j b (List.replicate b.n 0#8) k
    | _ => (s, j)
  | .parityCopy full =>
    match p.writes with
    | [(b, k)] =>
      let s := s.setTm j.ctx { s.tmAt j.ctx with touch := setAdd (s.tmAt j.ctx).touch u }
      s.writeSpan j b (if full then List.replicate 4096 0#8 else p.reads.flatMap fun q => s.readSpan j q) k
    | _ => (s, j)
  | .sweep full =>
    if p.reads = [] then (s, j)
    else
      let c := j.ctx
      let new := s.readFrag j (s.fragIn c 0 u (1 - s.active c))
      let d := if full then new else xorBytes new (s.readFrag j (s.fragIn c 0 u (s.active c)))
      if allZero d then (s.wrapInc (TM_DSTAT.skipped c) 1, j)
      else (s.sendDelta j 0 u (if (s.tmAt c).vals.mode = 1 then new else d), j)
  | .pairSend f =>
    (s.sendDelta j 0 f (xorBytes (padTo 4096 (Tbl.at j.fresh ([], []) f).1) (s.readFrag j (s.fragRest j f))),
      { j with fresh := Tbl.del j.fresh f })
  | .apply =>
    match j.delta, p.writes with
    | some m, [(b, k)] =>
      let v := (s.tmAt m.ctx).vals
      let t := stripeOf m.stripe
      let pos := v.posOf t v.index
      let base := match s.baseBank m with
        | some x => s.readSpan j (s.applyAt m x)
        | none => List.replicate 4096 0#8
      let s := if imageOf m.stripe = 0 then
          s.setTm m.ctx { s.tmAt m.ctx with touch := setAdd (s.tmAt m.ctx).touch (s.touchIx m) }
        else s
      let coef := (genRow v.k pos).getD (v.posOf t m.member) 0
      s.writeSpan j b (if v.mode = 1 ∧ imageOf m.stripe = 0 then m.body else xorBytes base (gfScale coef m.body)) k
    | _, _ => (s, j)
  | .answerFetch =>
    match j.delta with
    | some m =>
      let c := m.ctx
      let data := s.readFrag j (s.memberSpans c m.stripe (s.tmAt c).vals.index j.sel)
      (s.send (s.fragReply m 0x14 j.sel j.stage data), j)
    | none => (s, j)
  | .answerGet =>
    match j.delta, p.reads with
    | some m, [a] => (s.send (s.reply m 0x04 (s.readSpan j a)), j)
    | _, _ => (s, j)
  | .bindRead => (s, { j with buf := p.reads.flatMap fun q => s.readSpan j q })
  | .mend =>
    p.subs.foldl (fun (s, j) q => (s.noteWrite q.1 none).putSub j q.1 q.2 (s.readSub j q.1 q.2)) (s, j)
  | .codeSlot n =>
    let d := s.readFrag j (s.fragIn j.ctx (1 + n) u 0)
    if allZero d then (s.wrapInc (TM_DSTAT.skipped j.ctx) 1, j) else (s.sendDelta j (1 + n) u d, j)
  | .audit image first _ =>
    let c := j.ctx
    let v := (s.tmAt c).vals
    let stripe := image * 2 ^ 43 + first + u
    let own := s.readFrag j (s.memberSpans c stripe v.index (s.active c))
    if ¬ j.selects v.n (first + u) then (s, j) else
    if ¬ s.noneErased c image then (s, j.bump 2 1) else
    let others := v.presentList.filter fun i => i ≠ v.index
    let s := others.foldl (fun s i => s.sendFetch c j.id stripe i false) s
    (s, { j with frags := [(v.index, own)], hold := .fabric, sel := s.active c, stage := s.get (CM_STEP.committed c) })
  | _ => (s, j)

/-- How far a unit moves the fault offset once its writes are acknowledged (R90). -/
def State.advanceBy (s : State) (j : Job) (g : Seg) (u : Nat) : Nat :=
  match g with
  | .copyBytes _ _ sc _ _ _ _ _ => if sc then 0 else ((s.plan j g u).writes.map fun w => w.1.n).sum
  | .put _ _ sc _ bs => if sc ∨ j.opcode = opGET then 0 else bs.length
  | _ => 0

end Sys2Proof.Machine
end

