-- ==== Sys2Proof/Machine/Integ.lean ====
section
/-! DEFINITION. The integrity unit's work: a farrier pass over stripe rows (R419 to R424), and the comparison of captured
digests with the suspects it names (R430 to R435). -/

namespace Sys2Proof.Machine

/-- The region of a SCRUB and whether it repairs (R417). -/
def Job.scrubRgn (j : Job) : Nat := j.arg 24 1 % 64
def Job.repair (j : Job) : Bool := j.arg 24 1 / 64 % 2 == 1

/-- One area of a row: its block size, its stack-local address and the row it stands under on lists (R61). -/
structure RowPart where
  size : Nat
  addr : Nat
  row : Nat
  lrow : Nat
  deriving DecidableEq, Repr

/-- The parts of a scrubbed row: its element blocks, and the scales of a K8 region (R419). -/
def Rgn.rowParts (g : Rgn) (k row : Nat) : List RowPart :=
  ⟨g.bsize, g.start k false + row * g.bsize, row, row⟩
    :: if g.fmt = fmtK8 then [⟨4, g.start k true + row * 4, row, g.rows + row⟩] else []

/-- The granule parts of a row part on a stack. -/
def RowPart.subs (p : RowPart) (x : Nat) : List Sub := subsAux p.row x (p.size / 256 + 2) p.addr p.size

/-- A block of a row part counts as an erasure (R419). -/
def State.blockErased (s : State) (j : Job) (r k : Nat) (p : RowPart) (x : Nat) : Bool :=
  (p.subs x).any fun u => s.erasedFor j r k p.lrow x u.gr

/-- A block of a row part whose read the controller reported as uncorrectable (R419). -/
def Job.readFailed (j : Job) (p : RowPart) (x : Nat) : Bool := (p.subs x).any fun u => j.bad.contains (gKey x u.gr)

/-- The erased stacks of a row part. -/
def State.erasedIn (s : State) (j : Job) (r k : Nat) (p : RowPart) : List Nat :=
  (List.range 20).filter fun x => s.blockErased j r k p x

/-- What a unit of a SCRUB reads: the blocks of a row that are not erased, in the active bank (R419, R423); three
erasures in an inner-coded row fail (R76). -/
def State.planScrub (s : State) (j : Job) (u : Nat) : Plan :=
  let r := j.scrubRgn
  let g := s.rgn r
  let k := s.readBank r
  let ps := g.rowParts k (j.arg 32 8 + u)
  { subs := ps.flatMap fun p =>
      ((List.range 20).filter fun x => !s.blockErased j r k p x).flatMap fun x =>
        (p.subs x).map fun q => (⟨r, k, decide (g.rows ≤ p.lrow), 0, 0⟩, q),
    lost := g.inner && ps.any fun p => 3 ≤ (s.erasedIn j r k p).length }

/-- A block as it was read. -/
def State.scrubBlock (s : State) (j : Job) (r k : Nat) (sc : Bool) (p : RowPart) (x : Nat) : List Byte :=
  (p.subs x).flatMap fun u => s.readSub j ⟨r, k, sc, 0, 0⟩ u

/-- Where a row's syndromes place a fault (R420): a data position, P, Q, or nowhere. -/
inductive Finding where
  | data (d : Nat) | p | q | unlocated
  deriving DecidableEq, Repr

/-- The code of a finding (DG_SCRUB_LOG). -/
def Finding.code : Finding → Nat
  | .data _ => 0
  | .p => 1
  | .q => 2
  | .unlocated => 3

/-- Whether Sq is α^d times Sp at every byte (R420). -/
def atPosition (sp sq : List Byte) (d : Nat) : Bool :=
  (List.zip sp sq).all fun (a, b) => gfMul (gfPow d) a.toNat == b.toNat

/-- The finding of two syndromes; none where the row matches (R420). -/
def locate (sp sq : List Byte) : Option Finding :=
  if allZero sp ∧ allZero sq then none
  else if allZero sq then some .p
  else if allZero sp then some .q
  else
    match (List.range 18).find? fun d => atPosition sp sq d with
    | some d => some (.data d)
    | none => some .unlocated

/-- A finding written to the scrub log's ring (R424); an unlocated row names no stack
(DESIGN CHOICE, notes/assumptions/53.md). -/
def State.scrubLog (s : State) (j : Job) (row stack finding bank : Nat) : State :=
  let i := s.integ.logNext
  let s := ((s.set (DG_SCRUB_LOG.row i) row).set (DG_SCRUB_LOG.region i) j.scrubRgn).set (DG_SCRUB_LOG.stack i) stack
  let s := ((s.set (DG_SCRUB_LOG.finding i) finding).set (DG_SCRUB_LOG.bank i) bank).set (DG_SCRUB_LOG.ctx i) j.ctx
  (s.set (DG_SCRUB_LOG.valid i) 1).setInteg { s.integ with logNext := (i + 1) % 16 }

/-- A poison entry posted (R421, R422); a full list takes none. -/
def State.postPoison (s : State) (j : Job) (e : PoisonEnt) : State :=
  if 1024 ≤ s.integ.poison.length then s.satInc DG_POISON.full 1
  else
    ((s.setPoison (s.integ.poison ++ [e])).wrapInc DG_POISON.posted 1).satInc (DG_SCRUB_FIX.posted j.ctx) 1

/-- The data blocks of a row with some stacks' blocks taken as erased (R75). -/
def State.rowSolved (s : State) (j : Job) (r k : Nat) (sc : Bool) (p : RowPart) (out : List Nat) : Option (List (List Byte)) :=
  let g := s.rgn r
  let ask := fun x => if out.contains x then none else some (s.scrubBlock j r k sc p x)
  solveRow p.size ((List.range 18).map fun d => ask (g.stack p.row d)) (ask (stackP p.row)) (ask (stackP p.row + 1))

/-- A block repaired (R421): poisoned in a banked region, rewritten in place in an unbanked one. `out` names the stacks
whose blocks are not used. -/
def State.repairBlock (s : State) (j : Job) (k : Nat) (p : RowPart) (x : Nat) (out : List Nat) : State × Job :=
  let r := j.scrubRgn
  let g := s.rgn r
  let sc := decide (g.rows ≤ p.lrow)
  if g.banked then (s.postPoison j ⟨g.ctx, r, k, p.lrow, x⟩, j)
  else
    match s.rowSolved j r k sc p (setAdd out x) with
    | none => (s, j)
    | some ds =>
      let bs := if x = stackP p.row then innerP p.size ds
        else if x = stackP p.row + 1 then innerQ p.size ds
        else ds.getD (if x < stackP p.row then x else x - 2) []
      (s.satInc (DG_SCRUB_FIX.rewritten j.ctx) 1).writeAt j ⟨r, k, sc, 0, 0⟩ p.row x p.addr bs

/-- The stack of a finding (R61, R420). -/
def Rgn.findStack (g : Rgn) (row : Nat) : Finding → Nat
  | .data d => g.stack row d
  | .p => stackP row
  | _ => stackP row + 1

/-- One part of a row checked (R419 to R421): words 3 to 5 of the job say whether the row had an erasure, a located
block, an unlocated part. -/
def State.scrubPart (s : State) (j : Job) (k : Nat) (p : RowPart) : State × Job :=
  let r := j.scrubRgn
  let g := s.rgn r
  let sc := decide (g.rows ≤ p.lrow)
  let er := s.erasedIn j r k p
  if er ≠ [] then
    let fails := er.filter fun x => j.readFailed p x
    let s := fails.foldl (fun s x => (s.scrubLog j p.row x 4 k).satInc (DG_SCRUB_FIX.readfail j.ctx) 1) s
    let (s, j) := if j.repair ∧ er.length ≤ 2 then fails.foldl (fun (s, j) x => s.repairBlock j k p x er) (s, j) else (s, j)
    (s, { j with acc := setAt j.acc 3 1, degraded := true })
  else if ¬ g.inner then (s, j)
  else
    let ds := (List.range 18).map fun d => s.scrubBlock j r k sc p (g.stack p.row d)
    let sp := xorBytes (s.scrubBlock j r k sc p (stackP p.row)) (innerP p.size ds)
    let sq := xorBytes (s.scrubBlock j r k sc p (stackP p.row + 1)) (innerQ p.size ds)
    match locate sp sq with
    | none => (s, j)
    | some .unlocated =>
      let (s, v) := s.fresh 5
      (s.scrubLog j p.row v 3 k, { j with acc := setAt j.acc 5 1 })
    | some f =>
      let x := g.findStack p.row f
      let s := s.scrubLog j p.row x f.code k
      let (s, j) := if j.repair then s.repairBlock j k p x [] else (s, j)
      (s, { j with acc := setAt j.acc 4 1 })

/-- A row scrubbed (R419, R424): job words 0 to 2 count rows checked, located and unlocated. -/
def State.exeScrub (s : State) (j : Job) (u : Nat) : State × Job :=
  let k := s.readBank j.scrubRgn
  let c := j.ctx
  let j := { j with acc := setAt (setAt (setAt j.acc 3 0) 4 0) 5 0 }
  let (s, j) := ((s.rgn j.scrubRgn).rowParts k (j.arg 32 8 + u)).foldl (fun (s, j) p => s.scrubPart j k p) (s, j)
  let n := fun i => j.acc.getD i 0
  let s := (s.wrapInc (DG_SCRUB_SUM.checked c) 1).satInc (DG_SCRUB_SUM.located c) (n 4)
  let s := (s.satInc (DG_SCRUB_SUM.unlocated c) (n 5)).satInc (DG_SCRUB_FIX.skipped c) (n 3)
  (s, ((j.bump 0 1).bump 1 (n 4)).bump 2 (n 5))

/-- A SCRUB's value (R424). -/
def Job.scrubValue (j : Job) : Nat :=
  Nat.min 0xFFFFFFFF (j.acc.getD 0 0) + Nat.min 0xFFFF (j.acc.getD 1 0) * 2 ^ 32 + Nat.min 0xFFFF (j.acc.getD 2 0) * 2 ^ 48

/-- The distinct values of a list. -/
def distinct (l : List Nat) : List Nat := l.foldl setAdd []
/-- The majority value: the one that more than half of the members hold (R431). -/
def majority (l : List Nat) : Option Nat := (distinct l).find? fun v => l.length < 2 * l.count v

/-- What a comparison finds over positions, each with the values of the members by rank (R431). -/
structure Compared where
  holders : List Nat
  minority : List Nat
  most : Nat
  noMaj : Bool
  mism : List Nat
  deriving DecidableEq, Repr

/-- The comparison of R431. -/
def compare (n : Nat) (ps : List (List Nat)) : Compared :=
  let ms := ps.map majority
  let pair := List.zip ps ms
  let noMaj := ms.any Option.isNone
  let minor := (List.range n).filter fun i => pair.any fun (l, m) => m.isSome && some (l.getD i 0) ≠ m
  { holders := if noMaj then [] else (List.range n).filter fun i => !minor.contains i,
    minority := minor,
    most := (ps.map fun l => (distinct l).length).foldl Nat.max 0,
    noMaj := noMaj,
    mism := (List.range ps.length).filter fun i => 1 < (distinct (ps.getD i [])).length }

/-- The value of a DIGEST_COMPARE (R431). -/
def Compared.value (x : Compared) (me : Nat) (bins : Bool) : Nat :=
  x.holders.length % 2 ^ 16 + Nat.min 255 x.most * 2 ^ 16 + x.minority.headD 0xFFFF * 2 ^ 24
    + b2n (x.minority.contains me) * 2 ^ 40 + b2n x.noMaj * 2 ^ 41
    + if bins then x.mism.headD 0 * 2 ^ 42 + x.mism.length * 2 ^ 48 else 0

/-- The own score after a compare that places this member in the minority (R434). -/
def State.scoreSelf (s : State) : State :=
  let n := s.get DG_SUS_STAT.score + 1
  if s.get DG_SUS_CFG.thresh ≤ n then (s.suspect s.self).set DG_SUS_STAT.score 0 else s.set DG_SUS_STAT.score n

/-- The oldest entry of the lowest score (R435). -/
def lowestPeer : List (Nat × Nat) → Option (Nat × Nat)
  | [] => none
  | p :: t => match lowestPeer t with
    | none => some p
    | some q => some (if q.2 < p.2 then q else p)

/-- The peer table replaced, DG_SUS_STAT.peers with it (DEDUCED, notes/assumptions/48.md). -/
def State.setPeers (s : State) (l : List (Nat × Nat)) : State :=
  (s.setInteg { s.integ with peers := l }).set DG_SUS_STAT.peers l.length

/-- A peer's score after a compare that places it in the minority (R435). -/
def State.scorePeer (s : State) (device : Nat) : State :=
  let l := s.integ.peers
  let old := (l.find? fun p => p.1 == device).map (·.2)
  let n := old.getD 0 + 1
  let hit := decide (s.get DG_SUS_CFG.thresh ≤ n)
  let v := if hit then 0 else n
  let l := if old.isSome then l.map fun p => if p.1 == device then (device, v) else p
    else
      (if l.length < 16 then l else
        match lowestPeer l with
        | some q => l.filter fun p => p.1 ≠ q.1
        | none => l) ++ [(device, v)]
  let s := s.setPeers l
  if hit then s.suspect device else s

/-- A divergence entry (R432, R433): one of the 32 newest. -/
def State.divEntry (s : State) (c w tsCap tsMax tag step : Nat) (minor noMaj : Bool) : State :=
  let i := s.get DG_SUS_STAT.next
  let s := ((s.set (DG_DIV_T.time i) s.now).set (DG_DIV_INFO.ts_cap i) tsCap).set (DG_DIV_INFO.ts_max i) tsMax
  let s := ((s.set (DG_DIV_INFO.tag i) tag).set (DG_DIV_INFO.window i) w).set (DG_DIV_INFO.ctx i) c
  let s := ((s.setB (DG_DIV_INFO.minority i) minor).setB (DG_DIV_INFO.nomaj i) noMaj).set (DG_DIV_INFO.step i) step
  ((s.set DG_SUS_STAT.next ((i + 1) % 32)).irq 18).emcy 0xFF15 (leBytes 1 c ++ leBytes 4 step)

/-- The captured digests that a DIGEST_COMPARE takes at its start: the window's digest, or its bins (R430, R439). -/
def State.captured (s : State) (c w : Nat) (bins : Bool) : List Nat :=
  if bins then (List.range 64).map fun b => s.get (DG_DWIN_BIN.digest c w b) else [s.get (DG_DWIN_CAP.digest c w)]

/-- The lanes of a tile that carry a member's own digests (R430). -/
def digLanes (vals : List Nat) (bins : Bool) (rank t : Nat) : List Nat :=
  (List.range 64).map fun l =>
    let half := fun v => v / 2 ^ (32 * (l % 2)) % 2 ^ 32
    if bins then (if t / 2 = rank then half (vals.getD (32 * (t % 2) + l / 2) 0) else 0)
    else if 32 * t + l / 2 = rank then half (vals.headD 0) else 0

/-- The digest of a position and a rank from the exchanged lanes (R430). -/
def digOf (words : Tbl (List Nat)) (bins : Bool) (pos rank : Nat) : Nat :=
  let t := if bins then 2 * rank + pos / 32 else rank / 32
  let l := 2 * (if bins then pos % 32 else rank % 32)
  let ws := Tbl.at words [] t
  ws.getD l 0 + ws.getD (l + 1) 0 * 2 ^ 32

/-- What a comparison leaves behind (R432 to R435): a divergence entry, the own score, and the peer table of the lowest
rank that holds every majority value. `samp` is window, codes, tag and step as sampled at the start. -/
def State.digestFound (s : State) (c g me : Nat) (x : Compared) (samp : List Nat) : State :=
  let a := fun i => samp.getD i 0
  let minor := x.minority.contains me
  let s := if x.mism = [] then s else s.divEntry c (a 0) (a 1) (a 2) (a 3) (a 4) minor x.noMaj
  let s := if minor then s.scoreSelf else s
  if x.holders.head? = some me then x.minority.foldl (fun s i => s.scorePeer (s.rankDev c g i)) s else s

end Sys2Proof.Machine
end

