-- ==== Sys2Proof/Machine/UpdMath.lean ====
section
/-! DEFINITION. The arithmetic of chapters 06 and 07: schedule and scalars (R167 to R169), the guard and the element work
(R171 to R175), the preconditioned rule (R178), the yoke's products (R193 to R195) and the inverse-root refresh (R202). -/

namespace Sys2Proof.Machine

/-- cos(π × j / 256) in units of 2^-256 for j = 0 and 1, by halving the right angle seven times. -/
def cosOne : Nat := (List.range 7).foldl (fun c _ => isqrt ((2 ^ 256 + c) * 2 ^ 255)) 0

/-- cos(π × j / 256) and its successor in units of 2^-256, for j up to 128. -/
def cosPair : Nat → Int × Int
  | 0 => (2 ^ 256, cosOne)
  | j + 1 => let p := cosPair j; (p.2, 2 * cosOne * p.2 / 2 ^ 256 - p.1)

/-- cos(π × j / 256) in units of 2^-256. -/
def cosAt (j : Nat) : Int := if j ≤ 128 then (cosPair j).1 else -(cosPair (256 - j)).1

/-- C[j] (R168). -/
def cosC (j : Nat) : Num := rnd64 (.fin false (2 ^ 256 + cosAt j).toNat (-257))

/-- A segment of a schedule as sampled (R166, R188). -/
structure SchedSeg where
  start : Nat
  kind : Nat
  len : Nat
  a : Num
  b : Num
  deriving DecidableEq, Repr

/-- sched(s, step) (R167). -/
def SchedSeg.rate (g : SchedSeg) (step : Nat) : Num :=
  let k := step - g.start
  let n := g.len
  if g.kind = 0 then g.a
  else if g.kind = 3 then rnd64 (g.a.mul (rnd64 (rnd64 ((Num.nat n).div (rnd64 (.nat (k + n))))).sqrt))
  else
    let x := if n ≤ k then Num.one else rnd64 ((Num.nat k).div (.nat n))
    if g.kind = 1 then rnd64 (g.a.add (rnd64 ((rnd64 (g.b.sub g.a)).mul x)))
    else
      let y := x.mul (.nat 256)
      let j := match y with
        | .fin _ m e => Nat.min 255 (truncGrid m e 0)
        | _ => 255
      let f := y.sub (.nat j)
      let cj := rnd64 ((cosC j).add (rnd64 ((rnd64 ((cosC (j + 1)).sub (cosC j))).mul f)))
      rnd64 (g.b.add (rnd64 ((rnd64 (g.a.sub g.b)).mul cj)))

/-- pow64(b, t) (R169). -/
def pow64 (b : Num) (t : Nat) : Num :=
  (List.range 64).foldl (fun r i =>
    let r := rnd64 (r.mul r)
    if nbits t (63 - i) 1 = 1 then rnd64 (r.mul b) else r) Num.one

/-- The bias correction of R169. -/
def biasOf (beta : Num) (t : Nat) : Num := rnd32 (Num.one.div (rnd64 (Num.one.sub (pow64 beta t))))

/-- gn, the norm event and c of R169. -/
def normScalars (n2 inv normMax clip : Num) : Num × Bool × Num :=
  let gn := rnd64 ((rnd64 n2.sqrt).mul inv)
  let event := !n2.isFin || n2.isNeg || (!normMax.isZero && normMax.lt gn)
  (gn, event, if !clip.isZero ∧ clip.lt gn then rnd32 (inv.mul (rnd64 (clip.div gn))) else inv)

/-- One element's old values. -/
structure OldElem where
  h : Nat
  l : Nat
  grad : Num
  m : Num
  v : Num
  deriving DecidableEq, Repr

/-- One element's new values. -/
structure NewElem where
  h : Nat
  l : Int
  m : Num
  v : Num
  deriving DecidableEq, Repr

/-- A word of a K32 parameter as a value. -/
def kw (v : Nat) : Num := kNum fK32 v

/-- What the guard leaves of an element (R171, R172): its refusal, its old values, or its gradient. -/
inductive Prep where
  | refuse
  | keep
  | run (graw gs : Num) (clipped event : Bool)
  deriving DecidableEq, Repr

/-- The value of a master (R31). -/
def OldElem.w (o : OldElem) : Num := k40Num o.h (sext 24 o.l)

/-- A stored-state event (R171), for the moments the rule has. -/
def UpdPar.stored (p : UpdPar) (o : OldElem) : Bool :=
  (kNum fK16 o.h).isNan || (1 ≤ p.kind && o.m.isNan) || (2 ≤ p.kind && (o.v.isNan || o.v.isNeg))

/-- prep(i) of R173 with the guard of R171 and R172. -/
def UpdPar.prep (p : UpdPar) (o : OldElem) : Prep :=
  let gs := rnd32 ((kw p.c).mul o.grad)
  let event := o.grad.isNan || (!(kw p.elemMax).isZero && (kw p.elemMax).lt gs.abs)
  if p.stored o ∨ (event ∧ p.elemAct = 2) then .refuse
  else if event ∧ p.elemAct = 1 then .keep
  else
    let gs := if event then Num.zero else gs
    let clip := !(kw p.clipElem).isZero && (kw p.clipElem).lt gs.abs
    let graw := if clip then (if gs.sign then (kw p.clipElem).neg else kw p.clipElem) else gs
    .run graw (if p.decay = 1 then rnd32 (graw.add ((kw p.lambda).mul (rnd32 o.w))) else graw) clip event

/-- m', v' and the direction of the adaptive-moment rule (R174). -/
def UpdPar.adaptive (p : UpdPar) (o : OldElem) (gs : Num) : Num × Num × Num :=
  let m := rnd32 (((kw p.beta1).mul o.m).add ((kw p.ob1).mul gs))
  let v := rnd32 (((kw p.beta2).mul o.v).add (((kw p.ob2).mul gs).mul gs))
  let mh := rnd32 ((kw p.bc1).mul m)
  let r := rnd32 (rnd32 ((kw p.bc2).mul v)).sqrt
  let q := rnd32 (r.add (kw p.eps))
  (m, v, if q.isZero then Num.zero else rnd32 (mh.div q))

/-- tail(i, u) of R175. -/
def UpdPar.tail (p : UpdPar) (o : OldElem) (u : Num) : Nat × Int :=
  let u := if p.decay = 0 ∧ !(kw p.lambda).isZero then rnd32 (u.add ((kw p.lambda).mul (rnd32 o.w))) else u
  k40Split (o.w.sub (rnd32 ((kw p.eta).mul u)))

/-- An element kept (R172): its old values, canonical (R165) and the second moment with sign 0 (R171). -/
def OldElem.kept (o : OldElem) : NewElem := ⟨kRound fK16 (kNum fK16 o.h), sext 24 o.l, o.m, o.v.abs⟩

/-- One element under the plain, momentum or adaptive-moment rule (R173 to R175). -/
def UpdPar.elem (p : UpdPar) (o : OldElem) (gs : Num) : NewElem :=
  let a := p.adaptive o gs
  let m := if p.kind = 1 then rnd32 (((kw p.beta1).mul o.m).add gs) else a.1
  let u := if p.kind = 0 then gs else if p.kind = 1 then m else a.2.2
  let t := p.tail o u
  ⟨t.1, t.2, m, a.2.1⟩

/-- What a run of elements gives: the new values, none after a refusal, with the events and clips counted. -/
structure RowOut where
  new : Option (List NewElem) := some []
  events : Nat := 0
  clips : Nat := 0
  deriving DecidableEq, Repr

/-- Elements in order, up to a refusal (R172). -/
def UpdPar.row (p : UpdPar) : List OldElem → List NewElem → Nat → Nat → RowOut
  | [], acc, ev, cl => ⟨some acc.reverse, ev, cl⟩
  | o :: t, acc, ev, cl =>
    match p.prep o with
    | .refuse => ⟨none, ev + 1, cl⟩
    | .keep => p.row t (o.kept :: acc) (ev + 1) cl
    | .run _ gs clip e => p.row t (p.elem o gs :: acc) (ev + b2n e) (cl + b2n clip)

/-- A matrix by rows. -/
abbrev Mat := List (List Num)

/-- The element [a][b] of a matrix. -/
def Mat.el (x : Mat) (a b : Nat) : Num := (x.getD a []).getD b Num.zero
/-- A 128 × 128 matrix from its elements in row-major order; absent elements are +0. -/
def matOf (xs : List Num) : Mat :=
  (List.range 128).map fun a => ((xs.drop (128 * a)).take 128) ++ List.replicate (128 - ((xs.drop (128 * a)).take 128).length) Num.zero
/-- The transpose of a 128 × 128 matrix. -/
def Mat.tr (x : Mat) : Mat := (List.range 128).map fun b => x.map fun r => r.getD b Num.zero

/-- The accumulation of one output element in ascending k (R193). -/
def yokeDot : Num → List Num → List Num → Num
  | acc, a :: as, b :: bs => yokeDot (rnd64 (acc.add (a.mul b))) as bs
  | acc, _, _ => acc

/-- A ⊗ B delivered in K32, or in binary64 (R193, R194). -/
def Mat.mul (wide : Bool) (a b : Mat) : Mat :=
  let bt := b.tr
  a.map fun r => bt.map fun c => let acc := yokeDot Num.zero r c; if wide then acc else rnd32 acc

/-- beta × C + A × B, in K32 (R193, R195). -/
def Mat.mulAcc (beta : Num) (c a b : Mat) : Mat :=
  let bt := b.tr
  (List.zip a c).map fun (r, cr) => (List.zip bt cr).map fun (col, x) => rnd32 (yokeDot (rnd64 (beta.mul x)) r col)

/-- Phase 1 of the preconditioned rule for one element (R178): what it keeps between the halves of the pass. -/
structure Half where
  old : OldElem
  keep : Bool
  graw : Num
  m : Num
  v : Num
  a : Num
  deriving DecidableEq, Repr

/-- The halves of a weight block's elements, none after a refusal, with events and clips counted. R178 gives an element
under the keep action its M and a, and no G: the model takes +0 (DESIGN CHOICE, notes/assumptions/41.md). -/
def UpdPar.halves (p : UpdPar) : List OldElem → List Half → Nat → Nat → Option (List Half) × Nat × Nat
  | [], acc, ev, cl => (some acc.reverse, ev, cl)
  | o :: t, acc, ev, cl =>
    match p.prep o with
    | .refuse => (none, ev + 1, cl)
    | .keep => p.halves t (⟨o, true, Num.zero, o.m, o.v, Num.zero⟩ :: acc) (ev + 1) cl
    | .run graw gs clip e =>
      let x := p.adaptive o gs
      p.halves t (⟨o, false, graw, x.1, x.2.1, x.2.2⟩ :: acc) (ev + b2n e) (cl + b2n clip)

/-- A weight block under the preconditioned rule (R178): its elements, and on an accumulating step its new factors. -/
structure BlockOut where
  row : RowOut
  facL : Mat := []
  facR : Mat := []
  deriving DecidableEq, Repr

/-- precond_block(j) (R178, R195); absent elements of a last, partial block count as +0. -/
def UpdPar.block (p : UpdPar) (olds : List OldElem) (lr rr fl fr : Mat) : BlockOut :=
  match p.halves olds [] 0 0 with
  | (none, ev, cl) => { row := ⟨none, ev, cl⟩ }
  | (some hs, ev, cl) =>
    let a2 := rnd32 (gridSum 16384 (hs.map fun x => rnd32 (x.a.mul x.a)))
    let d := (lr.mul false (matOf (hs.map (·.m)))).mul false rr
    let g := matOf (hs.map (·.graw))
    let ds := d.flatten
    let d2 := rnd32 (gridSum 16384 (ds.map fun x => rnd32 (x.mul x)))
    let sc := if d2.isZero then Num.zero else rnd32 (a2.div d2).sqrt
    let new := (List.zip hs ds).map fun (x, y) =>
      if x.keep then x.old.kept
      else
        let t := p.tail x.old (rnd32 (sc.mul y))
        ⟨t.1, t.2, x.m, x.v⟩
    { row := ⟨some new, ev, cl⟩,
      facL := if p.accum then Mat.mulAcc (kw p.betaF) fl g g.tr else [],
      facR := if p.accum then Mat.mulAcc (kw p.betaF) fr g.tr g else [] }

/-- The iteration of R202 from k = 2 on: M and X after n more steps. -/
def rootIter (rd : Num → Num) (wide : Bool) : Nat → Mat → Mat → Mat
  | 0, _, x => x
  | n + 1, m, x =>
    let t : Mat := (List.range 128).map fun a => (List.range 128).map fun b =>
      rd (((Num.nat (if a = b then 5 else 0)).sub (m.el a b)).mul (.pow2 (-2)))
    let x : Mat := x.mul wide t
    let t2 : Mat := t.mul wide t
    rootIter rd wide n (if n = 0 then m else t2.mul wide (t2.mul wide m)) x

/-- refresh_matrix(A) (R202); none for KEEP. A residual that is not a number does not pass the test. -/
def refreshMatrix (wide : Bool) (nit : Nat) (epsr tol : Num) (a : Mat) : Option Mat :=
  let rd := if wide then rnd64 else rnd32
  if a.any fun r => r.any Num.isNan then none
  else
    let idx := List.range 128
    let t := idx.foldl (fun acc i => rnd64 (acc.add (a.el i i))) Num.zero
    let dl := rd (epsr.mul (rnd64 (t.mul (.pow2 (-7)))))
    let a : Mat := idx.map fun i => idx.map fun k => if i = k then rd ((a.el i k).add dl) else a.el i k
    let f := rnd64 (a.flatten.foldl (fun acc x => rnd64 (acc.add (x.mul x))) Num.zero).sqrt
    if f.isZero then some (idx.map fun _ => idx.map fun _ => Num.zero)
    else
      let cf := rd f
      let m0 : Mat := a.map fun r => r.map fun x => rd (x.div cf)
      let t1 : Mat := idx.map fun i => idx.map fun k =>
        rd (((Num.nat (if i = k then 5 else 0)).sub (m0.el i k)).mul (.pow2 (-2)))
      let x : Mat :=
        if nit ≤ 1 then t1
        else
          let t2 : Mat := t1.mul wide t1
          rootIter rd wide (nit - 1) (t2.mul wide (t2.mul wide m0)) t1
      let x2 : Mat := x.mul wide x
      let e : Mat := x2.mul wide (x2.mul wide m0)
      let far := idx.any fun i => idx.any fun k =>
        let y := ((e.el i k).sub (.nat (if i = k then 1 else 0))).abs
        y.isNan || tol.lt y
      if far then none
      else
        let s := rd (Num.one.div (rnd64 (rnd64 cf.sqrt).sqrt))
        some (x.map fun r => r.map fun v => rnd32 (s.mul v))

end Sys2Proof.Machine
end

