-- ==== Sys2Proof/Machine/UpdUnit.lean ====
section
/-! DEFINITION. The memory work of UPDATE and PRECOND_REFRESH (R172, R176 to R182, R198 to R203): an UPDATE runs a stripe
row of its group a unit, a preconditioned one a weight block; a refresh takes two units a weight block, its products and
its writes. -/

namespace Sys2Proof.Machine

/-- An UPDATE's region operands (R157). -/
def Job.hi (j : Job) : Nat := j.arg 26 1 % 64
def Job.lo (j : Job) : Nat := j.arg 27 1 % 64
def Job.grad (j : Job) : Nat := j.arg 28 1 % 64
def Job.mom (j : Job) : Nat := j.arg 29 1 % 64
def Job.vel (j : Job) : Nat := j.arg 30 1 % 64
def Job.fac (j : Job) : Nat := j.arg 31 1 % 64
def Job.root (j : Job) : Nat := j.arg 32 1 % 64

/-- Elements [a, b) of unit u of an UPDATE (R157, R177). -/
def State.updRange (s : State) (j : Job) (u : Nat) : Nat × Nat :=
  let first := j.arg 48 8
  let n := j.arg 56 8
  let w := if j.upd.kind = 3 then 16384 else 128 * (s.rgn j.hi).width
  let k := first / w + u
  (Nat.max first (k * w), Nat.min (first + n) ((k + 1) * w))

/-- The units of an UPDATE. -/
def State.updUnits (s : State) (j : Job) : Nat :=
  let first := j.arg 48 8
  let w := if j.upd.kind = 3 then 16384 else 128 * (s.rgn j.hi).width
  cdiv (first + j.arg 56 8) w - first / w

/-- Elements [a, b) of a region in a bank. -/
def State.elemSpan (s : State) (r k a b : Nat) : Span :=
  let e := (s.rgn r).esize
  ⟨r, k, false, a * e, (b - a) * e⟩

/-- The scales of elements [a, b) of a K8 region in a bank (R61). -/
def scaleSpan (r k a b : Nat) : Span := ⟨r, k, true, 4 * (a / 128), 4 * (cdiv b 128 - a / 128)⟩

/-- What a moment region stores for elements [a, b) (R176). -/
def State.momSpans (s : State) (r k a b : Nat) : List Span :=
  s.elemSpan r k a b :: if (s.rgn r).fmt = fmtK8 then [scaleSpan r k a b] else []

/-- A factor or root of a weight block: side 0 left, 1 right (R177). -/
def facSpan (r k blk side : Nat) : Span := ⟨r, k, false, 4 * (32768 * blk + 16384 * side), 65536⟩

/-- The moment regions of an UPDATE's rule. -/
def Job.moments (j : Job) : List Nat :=
  if j.upd.kind = 0 then [] else if j.upd.kind = 1 then [j.mom] else [j.mom, j.vel]

/-- What a unit of an UPDATE reads: old state in the active banks and the gradient (R66). -/
def State.updReads (s : State) (j : Job) (u : Nat) : List Span :=
  let (a, b) := s.updRange j u
  let rb := fun r => s.readBank r
  [s.elemSpan j.hi (rb j.hi) a b, s.elemSpan j.lo (rb j.lo) a b, s.elemSpan j.grad (rb j.grad) a b]
    ++ (j.moments.flatMap fun r => s.momSpans r (rb r) a b)
    ++ (if j.upd.kind = 3 then [facSpan j.root (rb j.root) (a / 16384) 0, facSpan j.root (rb j.root) (a / 16384) 1] else [])
    ++ (if j.upd.kind = 3 ∧ j.upd.accum then [facSpan j.fac (rb j.fac) (a / 16384) 0, facSpan j.fac (rb j.fac) (a / 16384) 1] else [])

/-- What a unit of an UPDATE writes, in the inactive banks (R67). -/
def State.updWrites (s : State) (j : Job) (u : Nat) : List Span :=
  let (a, b) := s.updRange j u
  let wb := fun r => 1 - s.active (s.rgn r).ctx
  [s.elemSpan j.hi (wb j.hi) a b, s.elemSpan j.lo (wb j.lo) a b]
    ++ (j.moments.flatMap fun r => s.momSpans r (wb r) a b)
    ++ (if j.upd.kind = 3 ∧ j.upd.accum then [facSpan j.fac (wb j.fac) (a / 16384) 0, facSpan j.fac (wb j.fac) (a / 16384) 1] else [])

/-- Bytes as words of es bytes. -/
def wordsOf (es : Nat) (bs : List Byte) : List Nat := (chunks es bs).map leNat

/-- The words of elements of a region. -/
def State.elemWords (s : State) (j : Job) (r a b : Nat) : List Nat :=
  wordsOf (s.rgn r).esize (s.readSpan j (s.elemSpan r (s.readBank r) a b))

/-- The values of elements of a moment region (R176). -/
def State.momNums (s : State) (j : Job) (r a b : Nat) : List Num :=
  let ws := s.elemWords j r a b
  if (s.rgn r).fmt = fmtK8 then
    let ks := wordsOf 4 (s.readSpan j (scaleSpan r (s.readBank r) a b))
    ws.zipIdx.map fun (w, i) => k8Num (ks.getD (i / 128) 0) w
  else ws.map (kNum fK32)

/-- Values cut into element blocks of 128. -/
def blocksOf : Nat → List Num → List (List Num)
  | 0, _ => []
  | f + 1, xs => if xs = [] then [] else xs.take 128 :: blocksOf f (xs.drop 128)

/-- The bytes that new moment values take: elements, and for a K8 region the scales (R36, R176). -/
def State.momBytes (s : State) (r : Nat) (xs : List Num) : List (List Byte) :=
  if (s.rgn r).fmt = fmtK8 then
    let bs := (blocksOf (xs.length / 128 + 1) xs).map k8Block
    [bs.flatMap fun b => b.2.flatMap (leBytes 1), bs.flatMap fun b => leBytes 4 b.1]
  else [xs.flatMap fun x => leBytes 4 (kRound fK32 x)]

/-- The elements of a unit with their old values. -/
def State.oldElems (s : State) (j : Job) (u : Nat) : List OldElem :=
  let (a, b) := s.updRange j u
  let gf := if (s.rgn j.grad).fmt = 0 then fK16 else fK32
  let hs := s.elemWords j j.hi a b
  let ls := s.elemWords j j.lo a b
  let gs := (s.elemWords j j.grad a b).map (kNum gf)
  let ms := if j.upd.kind = 0 then [] else s.momNums j j.mom a b
  let vs := if j.upd.kind ≤ 1 then [] else s.momNums j j.vel a b
  (List.range (b - a)).map fun i =>
    ⟨hs.getD i 0, ls.getD i 0, gs.getD i Num.zero, ms.getD i Num.zero, vs.getD i Num.zero⟩

/-- A factor or root read as a matrix. -/
def State.facMat (s : State) (j : Job) (p : Span) : Mat := matOf ((wordsOf 4 (s.readSpan j p)).map (kNum fK32))

/-- The bytes of a K32 matrix. -/
def Mat.bytes (x : Mat) : List Byte := x.flatMap fun r => r.flatMap fun v => leBytes 4 (kRound fK32 v)

/-- The new values of a unit (R173 to R178). -/
def State.updBlock (s : State) (j : Job) (u : Nat) : BlockOut :=
  let olds := s.oldElems j u
  if j.upd.kind = 3 then
    let k := (s.updRange j u).1 / 16384
    let m := fun r side => s.facMat j (facSpan r (s.readBank r) k side)
    j.upd.block olds (m j.root 0) (m j.root 1) (if j.upd.accum then m j.fac 0 else []) (if j.upd.accum then m j.fac 1 else [])
  else { row := j.upd.row olds [] 0 0 }

/-- The bytes of each span that a unit writes, in the order of updWrites. -/
def State.updBytes (s : State) (j : Job) (o : BlockOut) (new : List NewElem) : List (List Byte) :=
  let ms := new.map (·.m)
  let vs := new.map (·.v)
  [new.flatMap fun e => leBytes 2 e.h, new.flatMap fun e => leBytes 3 (twos 24 e.l)]
    ++ (if j.upd.kind = 0 then [] else s.momBytes j.mom ms)
    ++ (if j.upd.kind ≤ 1 then [] else s.momBytes j.vel vs)
    ++ (if j.upd.kind = 3 ∧ j.upd.accum then [o.facL.bytes, o.facR.bytes] else [])

/-- Pair windows see UPDATE's writes of a master (R426): the value of element i is (h << 24) | L. -/
def State.seePair (s : State) (r a : Nat) (new : List NewElem) : State :=
  (List.range 64).foldl (fun s i =>
    let c := i / 16
    let w := i % 16
    let first := s.get (DG_DWIN_FIRST.first c w)
    let count := s.get (DG_DWIN_COUNT.count c w)
    if s.is (DG_DWIN_CFG.enable c w) ∧ s.get (DG_DWIN_CFG.region c w) = r ∧ s.is (DG_DWIN_CFG.pair c w) then
      s.setWin i ((s.winAt i).addTerms (s.is (DG_DWIN_CFG.bins c w))
        (new.zipIdx.filterMap fun (e, n) =>
          let x := a + n
          if first ≤ x ∧ x < first + count then
            some ((x - first) * 64 / count,
              digestTerm (s.get (DG_DWIN_CFG.t c w)) (s.get (DG_DWIN_P0.p0 c w) + x - first) (e.h * 2 ^ 24 + twos 24 e.l))
          else none))
    else s) s

/-- Spans written with their bytes, as writes of the step. -/
def writeAll (s : State) (j : Job) : List (Span × List Byte) → State × Job
  | [] => (s, j)
  | (p, bs) :: t => let (s, j) := s.writeSpan j p bs wkStep; writeAll s j t

/-- Products issued in the number personality: n units of 1,024 core cycles of a full array, and more with fewer usable
rows and columns (YK_BUSY, R19, R190, R208). Background work is charged for the hall cycles in which it holds the yoke
(R143; DEDUCED, notes/assumptions/51.md). -/
def State.yokeBusy (s : State) (j : Job) (n : Nat) : State :=
  let m := cdiv (n * 16384) (Nat.max 1 (s.get YK_STAT.rows * s.get YK_STAT.cols))
  let s := s.wrapInc YK_BUSY.num_kcyc m
  if j.cls = 0 ∧ s.is (TK_CFG.enable j.ctx) then s.dec (TK_ALLOW.allow j.ctx) (cdiv (m * 1024 * 25) 432) else s

/-- A free value among those that R165 lets the update unit write, for a result that R178's arithmetic makes NaR
(DESIGN CHOICE, notes/assumptions/41.md). -/
def State.freshNum (s : State) : State × Num :=
  let (s, v) := s.fresh 32
  (s, if (kNum fK32 v).isNan then Num.zero else kNum fK32 v)

/-- New elements with no NaR master (R165). -/
def cleanElems (s : State) : List NewElem → State × List NewElem
  | [] => (s, [])
  | e :: t =>
    if (kNum fK16 e.h).isNan then
      let (s, x) := s.freshNum
      let (s, t) := cleanElems s t
      (s, { e with h := (k40Split x).1, l := (k40Split x).2 } :: t)
    else
      let (s, t) := cleanElems s t
      (s, e :: t)

/-- Values with no NaR (R165). -/
def cleanNums (s : State) : List Num → State × List Num
  | [] => (s, [])
  | x :: t =>
    if x.isNan then
      let (s, y) := s.freshNum
      let (s, t) := cleanNums s t
      (s, y :: t)
    else
      let (s, t) := cleanNums s t
      (s, x :: t)

/-- A factor with no NaR (R165). -/
def cleanMat (s : State) (x : Mat) : State × Mat :=
  if x = [] ∨ ¬ x.flatten.any Num.isNan then (s, x)
  else
    let (s, l) := cleanNums s x.flatten
    (s, matOf l)

/-- A unit of an UPDATE done (R165, R172, R175, R178, R181, R183). -/
def State.updExe (s : State) (j : Job) (u : Nat) : State × Job :=
  let o := s.updBlock j u
  let s := s.satInc (GL_UPD_STAT.guard_events j.ctx) o.row.events
  let j := (j.bump 0 o.row.events).bump 1 o.row.clips
  match o.row.new with
  | none => (s, { j with ending := some (stGUARDREFUSED, some j.pos), segs := [] })
  | some new =>
    let s := if j.upd.kind = 3 then s.yokeBusy j (if j.upd.accum then 2 else 1) else s
    let (s, new) := cleanElems s new
    let (s, fl) := cleanMat s o.facL
    let (s, fr) := cleanMat s o.facR
    let o := { o with facL := fl, facR := fr }
    let (s, j) := writeAll s j (List.zip (s.updWrites j u) (s.updBytes j o new))
    (s.seePair j.hi (s.updRange j u).1 new, j)

/-- An UPDATE's value (R183). -/
def Job.updValue (j : Job) : Nat :=
  Nat.min 0xFFFFFFFF (j.acc.getD 0 0) + Nat.min 0xFFFFFFFF (j.acc.getD 1 0) * 2 ^ 32

/-- PRECOND_REFRESH's region operands (R198). -/
def Job.rfac (j : Job) : Nat := j.arg 24 1 % 64
def Job.rroot (j : Job) : Nat := j.arg 25 1 % 64

/-- The sides of a weight block whose refresh returned KEEP: job words 2 and 3. -/
def Job.keptSide (j : Job) (side : Nat) : Bool := j.acc.getD (2 + side) 0 == 1

/-- What a unit of a refresh reads: the factors, then the old roots that are kept (R202). -/
def State.refReads (s : State) (j : Job) (u : Nat) : List Span :=
  let k := j.arg 48 8 + u / 2
  if u % 2 = 0 then [facSpan j.rfac (s.readBank j.rfac) k 0, facSpan j.rfac (s.readBank j.rfac) k 1]
  else ([0, 1].filter j.keptSide).map fun side => facSpan j.rroot (s.readBank j.rroot) k side

/-- What a unit of a refresh writes: the roots, in the inactive bank. -/
def State.refWrites (s : State) (j : Job) (u : Nat) : List Span :=
  let k := j.arg 48 8 + u / 2
  if u % 2 = 0 then [] else [0, 1].map fun side => facSpan j.rroot (1 - s.active (s.rgn j.rroot).ctx) k side

/-- A unit of a refresh done (R202, R203). -/
def State.refExe (s : State) (j : Job) (u : Nat) : State × Job :=
  let k := j.arg 48 8 + u / 2
  if u % 2 = 0 then
    let nit := j.arg 26 1 % 16
    let wide := decide (128 ≤ j.arg 26 1)
    let go := fun side =>
      refreshMatrix wide nit (kw (j.arg 28 4)) (kw (j.arg 32 4)) (s.facMat j (facSpan j.rfac (s.readBank j.rfac) k side))
    let l := go 0
    let r := go 1
    (s.yokeBusy j ((4 * nit - 1) * if wide then 4 else 1),
      { j with buf := (l.getD []).bytes ++ (r.getD []).bytes,
               acc := setAt (setAt (j.bump 1 (b2n l.isNone + b2n r.isNone)).acc 2 (b2n l.isNone)) 3 (b2n r.isNone) })
  else
    let old := fun side => s.readSpan j (facSpan j.rroot (s.readBank j.rroot) k side)
    let lb := if j.keptSide 0 then old 0 else j.buf.take 65536
    let rb := if j.keptSide 1 then old 1 else j.buf.drop (if j.keptSide 0 then 0 else 65536)
    writeAll s { j with buf := [] } (List.zip (s.refWrites j u) [lb, rb])

/-- A refresh's completion (R201, R203). -/
def State.refreshEnd (s : State) (j : Job) : State :=
  let kept := j.acc.getD 1 0
  let s := (s.satInc (YK_REFR.blocks j.ctx) j.pos).satInc (YK_REFR.kept j.ctx) kept
  s.finishCmd { j with value := j.pos % 2 ^ 32 + Nat.min 0xFFFFFFFF kept * 2 ^ 32 }

/-- Whether an UPDATE holds a weight block in flight (R180). -/
def Job.blockInFlight (j : Job) : Bool :=
  j.isCommand && j.opcode == opUPDATE && j.upd.kind == 3 && j.ending.isNone && (j.out ≠ 0 || j.got ≠ [] || j.exed)

/-- Whether a context's ways have no room for a further weight block: 5 in flight per way (R180). -/
def State.blocksFull (s : State) (j : Job) : Bool :=
  5 * popcount 8 j.ways ≤ (s.jobs.filter fun x => x.id ≠ j.id && x.ctx == j.ctx && x.blockInFlight).length

/-- Units of chapters 06 and 07. -/
def State.unitsUpd (s : State) (j : Job) (g : Seg) : Nat :=
  match g with
  | .update => s.updUnits j
  | .precond n => n
  | _ => 0

/-- What a unit of chapters 06 and 07 reads and writes. -/
def State.planUpd (s : State) (j : Job) (g : Seg) (u : Nat) : Plan :=
  match g with
  | .update => { reads := s.updReads j u, writes := (s.updWrites j u).map fun p => (p, wkStep),
                 wait := j.upd.kind == 3 && !j.blockInFlight && s.blocksFull j }
  | .precond _ => { reads := s.refReads j u, writes := (s.refWrites j u).map fun p => (p, wkStep) }
  | _ => {}

/-- A unit of chapters 06 and 07 done. -/
def State.exeUpd (s : State) (j : Job) (g : Seg) (u : Nat) : State × Job :=
  match g with
  | .update => s.updExe j u
  | .precond _ => s.refExe j u
  | _ => (s, j)

/-- How far a unit of chapters 06 and 07 moves the fault offset (R90): elements, or weight blocks. -/
def State.advanceUpd (s : State) (j : Job) (g : Seg) (u : Nat) : Nat :=
  match g with
  | .update => let (a, b) := s.updRange j u; b - a
  | .precond _ => u % 2
  | _ => 0

end Sys2Proof.Machine
end

