-- ==== Sys2Proof/Machine/Gs.lean ====
section
/-! DEFINITION. Collectives (chapter 08): what a COLLECTIVE or NORM adds up and in which formats, the life of a tile from
its slot to its result (R224 to R231, R245, R248), the descriptor record (R225), the tree split (R220 to R223), and the
memory work of both commands (R234). -/

namespace Sys2Proof.Machine

/-- How the tiles of a collective combine (R224, R228, R231, R236). -/
inductive GsKind where
  | grid | arrival | max | min | bcast | barrier
  deriving DecidableEq, Repr

/-- A NORM. -/
def Job.isNorm (j : Job) : Bool := j.opcode == opNORM
/-- A DIGEST_COMPARE, its window and whether it compares bins (R428). -/
def Job.isDig (j : Job) : Bool := j.opcode == opDIGEST
def Job.digWin (j : Job) : Nat := j.arg 24 1 % 16
def Job.digBins (j : Job) : Bool := j.arg 24 1 / 16 % 2 == 1
/-- A COLLECTIVE. -/
def Job.isColl (j : Job) : Bool := j.opcode == opCOLLECTIVE
/-- The op of a COLLECTIVE (R235); a NORM and a DIGEST_COMPARE reduce to every member. -/
def Job.gsOp (j : Job) : Nat := if j.isColl then j.arg 24 1 % 8 else 0
/-- The red of a COLLECTIVE; SUM for the others. -/
def Job.gsRed (j : Job) : Nat := if j.isColl then j.arg 24 1 / 8 % 4 else 0
/-- The mode of a NORM (R251). -/
def Job.normMode (j : Job) : Nat := j.arg 24 1 % 4
/-- How the command's tiles combine. -/
def Job.gsKind (j : Job) : GsKind :=
  if j.isNorm then (if j.normMode = 2 then .max else .grid)
  else if j.isDig then .grid
  else if j.gsOp = 4 then .barrier
  else if j.gsOp = 3 then .bcast
  else if j.gsRed = 2 then .max
  else if j.gsRed = 3 then .min
  else if j.arg 24 1 / 32 % 2 = 1 then .arrival
  else .grid
/-- The declared count N (R235, R251); the group's size for a DIGEST_COMPARE (R430). -/
def Job.gsN (j : Job) : Nat := if j.isNorm then j.arg 32 6 else if j.isDig then j.gs.size else j.arg 32 4
def Job.nloc (j : Job) : Nat := j.arg 36 1
def Job.gsStream (j : Job) : Nat := j.arg 37 1 % 64
def Job.gsRoot (j : Job) : Nat := j.arg 38 2
def Job.gsSrc (j : Job) : Nat := j.arg 26 1 % 64
def Job.gsDst (j : Job) : Nat := j.arg 27 1 % 64
def Job.srcFirst (j : Job) : Nat := j.arg 40 5
def Job.dstFirst (j : Job) : Nat := j.arg 45 5
def Job.gsCount (j : Job) : Nat := j.arg 50 5
def Job.cstride (j : Job) : Nat := j.arg 55 5
def Job.trd (j : Job) : Bool := j.isColl && j.arg 24 1 / 64 % 2 == 1

/-- The enabled ranges of a NORM: region, first element, count (R251). -/
def Job.normRanges (j : Job) : List (Nat × Nat × Nat) :=
  (if 128 ≤ j.arg 26 1 then [(j.arg 26 1 % 64, j.arg 40 5, j.arg 45 5)] else [])
    ++ if 128 ≤ j.arg 27 1 then [(j.arg 27 1 % 64, j.arg 50 5, j.arg 55 5)] else []

/-- Whether a region format takes part in collectives (R237, R253). -/
def gsFmt (f : Nat) : Bool := f == 0 || f == 2 || f == 4 || f == 5
/-- The value of a word of a region format. -/
def fmtNum (f w : Nat) : Num :=
  if f = 0 then kNum fK16 w else if f = 2 then kNum fK32 w else if f = 4 then ieeeNum fB32 w else ieeeNum fB64 w
/-- The word of a value in a region format (R44). -/
def fmtWord (f : Nat) (x : Num) : Nat :=
  if f = 0 then kRound fK16 x else if f = 2 then kRound fK32 x else if f = 4 then ieeeRound fB32 x else ieeeRound fB64 x

/-- The input format of a command; the terms of a NORM and the digests stand in binary64 (R252, R430). -/
def State.inFmt (s : State) (j : Job) : Nat := if j.isColl then (s.rgn j.gsSrc).fmt else 5
/-- The output format. -/
def State.outFmt (s : State) (j : Job) : Nat := if j.isColl then (s.rgn j.gsDst).fmt else 5
/-- The format of the values sent upward where no grid is used (R228, R231). -/
def State.partFmt (s : State) (j : Job) : Nat :=
  if j.gsKind = .arrival then (if s.inFmt j = 5 then 5 else 4) else s.inFmt j
/-- Whether the grid has 128-bit lanes (R41, R252). -/
def State.wideGrid (s : State) (j : Job) : Bool := s.inFmt j == 5
/-- Bytes of a lane going up (R348). -/
def State.laneBytes (s : State) (j : Job) : Nat :=
  if j.gsKind = .grid then (if s.wideGrid j then 16 else 7) else fmtBytes (s.partFmt j)

/-- Tiles of the command (R219, R430): one for a NORM's lane set and for a BARRIER's descriptor record. -/
def Job.gsTiles (j : Job) : Nat :=
  if j.isDig then (if j.digBins then 2 * j.gs.size else cdiv j.gs.size 32)
  else if j.isNorm ∨ j.gsOp = 4 then 1 else cdiv j.gsCount 64
/-- The valid lanes of a tile: the last may be partial (R237). -/
def Job.lanes (j : Job) (t : Nat) : Nat := if j.isNorm then 1 else Nat.min 64 (j.gsCount - 64 * t)

/-- The 8 bits of a number reversed (R220). -/
def bitrev8 (x : Nat) : Nat := ((List.range 8).map fun i => nbits x i 1 * 2 ^ (7 - i)).sum
/-- ns of a block as the member holds it (R220). -/
def GsJob.nsOf (g : GsJob) (b : Nat) : Option Nat := Tbl.find g.ns (if g.fixed then 0 else b)
/-- The tree of a tile: 0 near, 1 off (R220). -/
def GsJob.treeOf (g : GsJob) (t : Nat) : Nat :=
  match g.nsOf (t / 256) with
  | some n => if bitrev8 (t % 256) < n then 0 else 1
  | none => 1

/-- The trees of the command's group. -/
def State.gsTree (s : State) (j : Job) : Tree := s.tree j.ctx j.gsGroup

/-- The rank that a tile's result is for; none where every member receives it (R236). -/
def State.gsTarget (s : State) (j : Job) (t : Nat) : Option Nat :=
  if j.gsOp = 1 then some j.gsRoot
  else if j.gsOp = 2 then some (64 * t / (j.gsCount / (s.gsTree j).n))
  else none
/-- Whether this member writes a tile's result. -/
def State.receives (s : State) (j : Job) (t : Nat) : Bool :=
  j.isColl && j.gsOp ≠ 4 && match s.gsTarget j t with
    | some x => x == (s.gsTree j).me
    | none => true
/-- The children that a tile's result is sent to (R236). -/
def State.downTo (s : State) (j : Job) (x : GsTile) : List Nat :=
  match s.gsTarget j x.t with
  | some r => ((s.gsTree j).hop x.tr r).toList
  | none => (s.gsTree j).children x.tr
/-- Whether this member takes part in a tile's way down. -/
def State.needsRes (s : State) (j : Job) (x : GsTile) : Bool :=
  match s.gsTarget j x.t with
  | some r => r == (s.gsTree j).me || ((s.gsTree j).hop x.tr r).isSome
  | none => true
/-- The children whose partials a tile needs: all, or the one on the way from a BROADCAST's sender. -/
def State.upFrom (s : State) (j : Job) (x : GsTile) : List Nat :=
  if j.gsKind = .bcast then ((s.gsTree j).hop x.tr j.gsRoot).toList
  else if j.gsKind = .barrier then []
  else (s.gsTree j).children x.tr
/-- Whether this member reads its source for a tile. -/
def State.hasOwn (s : State) (j : Job) : Bool :=
  !(j.gsKind == .barrier || (j.gsKind == .bcast && j.gsRoot ≠ (s.gsTree j).me))
/-- Whether this member sends a tile upward, or completes it as its root (DEDUCED, notes/assumptions/45.md). -/
def State.onWayUp (s : State) (j : Job) (x : GsTile) : Bool :=
  j.gsKind ≠ .barrier && (s.hasOwn j || s.upFrom j x ≠ [])

/-- A tile of the command's contributions is ready (R242). -/
def State.tileReady (s : State) (j : Job) (t : Nat) : Bool :=
  !j.trd || (List.range j.nloc).all fun i =>
    let u := (j.arg 60 4 + (i * j.gsCount + 64 * t) / (64 * 2 ^ (j.arg 25 1 / 16))) % 2 ^ 32
    newer 32 (s.get (GS_TRD.wmark j.ctx j.gsStream)) u

/-- +0 is greater than −0 (R228). -/
def gsLt (a b : Num) : Bool := if a.isZero ∧ b.isZero then a.sign && !b.sign else a.lt b
/-- The larger or the smaller value, the first where neither is (R228). -/
def pickNum (mx : Bool) (a b : Num) : Num := if (if mx then gsLt a b else gsLt b a) then b else a

/-- Two lane values combined, as words of the partial format (R228, R231) (DEDUCED, notes/assumptions/46.md). -/
def State.combine (s : State) (j : Job) (a b : Nat) : Nat :=
  let f := s.partFmt j
  match j.gsKind with
  | .max => fmtWord f (pickNum true (fmtNum f a) (fmtNum f b))
  | .min => fmtWord f (pickNum false (fmtNum f a) (fmtNum f b))
  | _ => fmtWord f ((fmtNum f a).add (fmtNum f b))

/-- Lane values with more combined into them; the first come as they are. -/
def State.combineAll (s : State) (j : Job) (as bs : List Nat) : List Nat :=
  if as = [] then bs else List.zipWith (s.combine j) as bs

/-- Lane sums added (R224), exactly. R42 bounds them inside the lane's width; a sum that a peer's partial takes past it
is kept as it is, where the spec states no result (DESIGN CHOICE, notes/assumptions/46.md). -/
def addLanes (as bs : List Int) : List Int := if as = [] then bs else List.zipWith (· + ·) as bs

/-- 64 lanes: the valid ones, then zeros (R237). -/
def pad64 {α : Type} (zero : α) (l : List α) : List α := l ++ List.replicate (64 - l.length) zero

/-- The exponent of a tile's grid (R41). -/
def State.gridOf (s : State) (j : Job) (e : Int) : Int :=
  let p := gridShift (s.wideGrid j) j.gsN
  e - p.1 + p.2

/-- A tile replaced in its command. -/
def Job.setTile (j : Job) (x : GsTile) : Job :=
  { j with gs := { j.gs with tiles := j.gs.tiles.map fun y => if y.t = x.t then x else y } }
/-- A tile of a command. -/
def Job.tileAt (j : Job) (t : Nat) : Option GsTile := j.gs.tiles.find? fun x => x.t == t
/-- A tile's slot is held. -/
def Job.holds (j : Job) (t : Nat) : Bool := j.gs.tiles.any fun x => x.t == t && x.held

/-- The lanes of a tile going up, as bytes (R348). -/
def State.partBytes (s : State) (j : Job) (x : GsTile) : List Byte :=
  let w := s.laneBytes j
  if j.gsKind = .grid then (pad64 0 x.acc).flatMap fun v => leBytes w (twos (8 * w) v)
  else recBytes x.e x.nf x.abort ++ (pad64 0 x.vals).flatMap (leBytes w)

/-- The output words of a tile's valid lanes at its root (R227, R228, R231). -/
def State.outWords (s : State) (j : Job) (x : GsTile) (cnt : Nat) : List Nat :=
  let f := s.outFmt j
  let avg : Num → Num := fun v => if j.gsRed == 1 then v.div (.nat cnt) else v
  if x.nf ∧ j.gsKind ≠ .bcast then List.replicate 64 (fmtWord f .nan)
  else if j.gsKind = .grid then
    let g := s.gridOf j (x.hdr.getD 0)
    (pad64 0 x.acc).map fun v => fmtWord f (avg (.fin (decide (v < 0)) v.natAbs g))
  else if j.gsKind = .arrival then (pad64 0 x.vals).map fun v => fmtWord f (avg (fmtNum (s.partFmt j) v))
  else (pad64 0 x.vals).map fun v => fmtWord f (fmtNum (s.partFmt j) v)

/-- A tile's result as its message carries it after the tile address (R348). -/
def State.resBytes (s : State) (j : Job) (x : GsTile) (cnt : Nat) : List Byte :=
  (if j.gsKind = .grid then [] else recBytes x.e x.nf x.abort)
    ++ (s.outWords j x cnt).flatMap (leBytes (fmtBytes (s.outFmt j)))
/-- The lane bytes of a result. -/
def Job.resLanes (j : Job) (bs : List Byte) : List Byte := if j.gsKind = .grid then bs else bs.drop 4

/-- The descriptor record (R225, R253, R348). -/
def State.descBytes (s : State) (j : Job) (dir cnt : Nat) (mism : Bool) : List Byte :=
  let t := s.gsTree j
  let b1 := if j.isNorm then j.normMode else if j.isDig then 0 else j.arg 24 1 % 64
  let count := if j.isNorm then 0 else if j.isDig then 64 * j.gsTiles else j.gsCount
  leBytes 1 j.opcode ++ leBytes 1 (b1 + 64 * dir + 128 * b2n mism)
    ++ leBytes 1 (if j.isNorm ∨ j.gsOp = 4 then 0 else s.inFmt j + 8 * s.outFmt j) ++ leBytes 1 t.fan ++ leBytes 2 t.n
    ++ leBytes 2 (if j.isColl then j.gsRoot else 0) ++ leBytes 6 count ++ leBytes 6 j.gsN
    ++ leBytes 6 cnt ++ leBytes 6 0
/-- The own part of cnt (R225, R253). -/
def Job.ownCnt (j : Job) : Nat :=
  if j.isNorm then (j.normRanges.map fun r => r.2.2).sum else if j.isDig then 1 else j.nloc
/-- Whether a child's descriptor record differs from this member's in a compared field (R225). -/
def State.descDiffers (s : State) (j : Job) (d : List Byte) : Bool :=
  let own := s.descBytes j 0 0 false
  leAt d 0 1 ≠ leAt own 0 1 || leAt d 1 1 % 64 ≠ leAt own 1 1 % 64
    || leAt d 2 1 % 64 ≠ leAt own 2 1 % 64 || leAt d 3 17 ≠ leAt own 3 17

/-- A descriptor record as it is passed on: reserved bits are sent as zero (R348). -/
def descOn (d : List Byte) : List Byte :=
  leBytes 2 (leAt d 0 2) ++ leBytes 1 (leAt d 2 1 % 64) ++ leBytes 23 (leAt d 3 23) ++ leBytes 6 0

/-- Whether this member may send for a tile: it is the tile's root, or holds a credit (R248). -/
def State.credited (s : State) (j : Job) (t tr : Nat) : Bool := (s.gsTree j).isRoot tr || ivHas (Tbl.at j.gs.cred [] tr) t

/-- A message of a tile to a list of ranks. -/
def State.gsSendAll (s : State) (j : Job) (typ tr tile : Nat) (rest : List Byte) (ranks : List Nat) : State :=
  ranks.foldl (fun s i => s.gsSend j typ tr i tile rest) s

/-- The descriptor record sent once it is complete and credited (R225): the root answers it. -/
def State.pumpDesc (s : State) (j : Job) : State × Job :=
  let t := s.gsTree j
  let tr := j.gs.treeOf 0
  if j.gs.descUp ∨ j.gs.next = 0 ∨ ¬ s.credited j 0 tr ∨ ¬ (t.children tr).all (fun i => j.gs.kids.contains i) then (s, j)
  else
    let cnt := j.gs.cnt + j.ownCnt
    match t.parent tr with
    | some p => (s.gsSend j 0x20 tr p 0 (s.descBytes j 0 cnt j.gs.mism), { j with gs := { j.gs with descUp := true } })
    | none =>
      let bad := j.gs.mism || decide (j.gsN < cnt)
      (s.gsSendAll j 0x20 tr 0 (s.descBytes j 1 cnt bad) (t.children tr),
        { j with gs := { j.gs with descUp := true, down := some (cnt, bad) } })

/-- Tiles of block b that travel on a tree (R220). -/
def Job.treeTiles (j : Job) (b tr : Nat) : Nat :=
  ((List.range (Nat.min 256 (j.gsTiles - 256 * b))).filter fun i => j.gs.treeOf (256 * b + i) == tr).length

/-- The near root's choice of the next split value (R223). -/
def GsJob.choose (g : GsJob) (b : Nat) : Nat :=
  let prev := (Tbl.find g.ns (b + 1)).getD 128
  let both := (List.range (b + 1)).filter fun x => (Tbl.find g.nearAt x).isSome && (Tbl.find g.offAt x).isSome
  let v := match both.getLast? with
    | some x =>
      let near := Tbl.at g.nearAt 0 x
      let off := Tbl.at g.offAt 0 x
      if near + 64 < off then prev + 16 else if off + 64 < near then prev - 16 else prev
    | none => prev
  Nat.min 240 (Nat.max 16 v)

/-- The near root fixes ns of every block up to b + 2 that it has not fixed, and sends the notices (R221). -/
def fixSplits (s : State) (j : Job) : Nat → State × Job
  | 0 => fixOne s j 0
  | b + 1 => let (s, j) := fixSplits s j b; fixOne s j (b + 1)
where
  fixOne (s : State) (j : Job) (b : Nat) : State × Job :=
    let t := s.gsTree j
    if j.gs.fixed ∨ t.me ≠ 0 ∨ (Tbl.find j.gs.ns (b + 2)).isSome ∨ cdiv j.gsTiles 256 ≤ b + 2 then (s, j)
    else
      let v := j.gs.choose b
      let body := leBytes 2 v ++ leBytes 2 0
      let s := s.gsSendAll j 0x27 0 (256 * (b + 2)) body (t.children 0)
      let s := if t.root 1 = 0 then s else s.gsSend j 0x27 1 (t.root 1) (256 * (b + 2)) body
      (s, { j with gs := { j.gs with ns := Tbl.ins j.gs.ns (b + 2) v } })

/-- What hangs on a result that its tree root has sent (R221, R223): the near root fixes the split of block b + 2, the
times of each tree's last result of a block are kept, and the off root reports its own. -/
def State.resultSent (s : State) (j : Job) (x : GsTile) : State × Job :=
  let t := s.gsTree j
  let b := x.t / 256
  if j.gs.fixed then (s, j)
  else if x.tr = 0 then
    let n := Tbl.at j.gs.nearSent 0 b + 1
    (s, { j with gs := { j.gs with
      nearSent := Tbl.put j.gs.nearSent 0 b n,
      nearAt := if n = j.treeTiles b 0 then Tbl.ins j.gs.nearAt b s.now else j.gs.nearAt } })
  else
    let n := Tbl.at j.gs.offSent 0 b + 1
    let last := n == j.treeTiles b 1
    let s := if last ∧ t.me ≠ 0 then s.gsSend j 0x28 1 0 (256 * b) (leBytes 8 s.now) else s
    (s, { j with gs := { j.gs with
      offSent := Tbl.put j.gs.offSent 0 b n,
      offAt := if last ∧ t.me = 0 then Tbl.ins j.gs.offAt b s.now else j.gs.offAt } })

/-- The values of the lanes that this member's digests take in a tile (R430). -/
def State.ownDig (s : State) (j : Job) (t : Nat) : List Num := (digLanes j.acc j.digBins (s.gsTree j).me t).map Num.nat

/-- A tile's first read begins (R224, R242); a DIGEST_COMPARE reads nothing (R430). -/
def State.pumpRead (s : State) (j : Job) (x : GsTile) : Job × GsTile :=
  if x.own ∨ x.busy then (j, x)
  else if ¬ s.hasOwn j then (j, { x with own := true })
  else if j.isDig then (j, { x with own := true, e := max x.e (emaxOf (s.ownDig j x.t)) })
  else if s.tileReady j x.t then
    ({ j with segs := j.segs ++ [if j.isNorm then .norm 1 else .tile x.t] }, { x with busy := true })
  else (j, x)

/-- A grid tile's record goes up, or its header down from the root (R224). -/
def State.pumpRec (s : State) (j : Job) (x : GsTile) : State × GsTile :=
  let t := s.gsTree j
  if j.gsKind ≠ .grid ∨ x.up ∨ ¬ x.own ∨ ¬ s.credited j x.t x.tr ∨ ¬ (t.children x.tr).all (fun i => x.recs.contains i) then
    (s, x)
  else
    match t.parent x.tr with
    | some p => (s.gsSend j 0x21 x.tr p x.t (recBytes x.e x.nf x.abort), { x with up := true })
    | none =>
      (s.gsSendAll j 0x22 x.tr x.t (recBytes x.e x.nf x.abort) (t.children x.tr), { x with up := true, hdr := some x.e })

/-- A grid tile's second read begins (R224). -/
def State.pumpConv (s : State) (j : Job) (x : GsTile) : Job × GsTile :=
  if j.gsKind ≠ .grid ∨ x.conv ∨ x.busy ∨ x.hdr.isNone then (j, x)
  else if j.isDig then
    let g := s.gridOf j (x.hdr.getD 0)
    (j, { x with conv := true, acc := addLanes x.acc ((s.ownDig j x.t).map fun v => v.lane g) })
  else ({ j with segs := j.segs ++ [if j.isNorm then .norm 2 else .tileB x.t] }, { x with busy := true })

/-- A tile's partial goes up, or its result is formed at the root once the down descriptor record stands (R226). -/
def State.pumpPart (s : State) (j : Job) (x : GsTile) : State × GsTile :=
  let t := s.gsTree j
  let inHand := if j.gsKind = .grid then x.conv else x.own
  if x.sent ∨ ¬ s.onWayUp j x ∨ ¬ inHand ∨ ¬ s.credited j x.t x.tr ∨ ¬ (s.upFrom j x).all (fun i => x.parts.contains i) then
    (s, x)
  else
    match t.parent x.tr with
    | some p => (s.gsSend j 0x23 x.tr p x.t (s.partBytes j x), { x with sent := true })
    | none =>
      match j.gs.down with
      | some (cnt, false) => (s, { x with sent := true, res := some (s.resBytes j x cnt) })
      | _ => (s, x)

/-- A result goes down the tree (R224, R236). -/
def State.pumpRes (s : State) (j : Job) (x : GsTile) : State × Job × GsTile :=
  match x.res with
  | some bs =>
    if x.fwd then (s, j, x)
    else
      let root := (s.gsTree j).isRoot x.tr
      let (s, j) := if root ∧ x.tr = 0 then fixSplits s j (x.t / 256) else (s, j)
      let s := s.gsSendAll j 0x24 x.tr x.t bs (s.downTo j x)
      let (s, j) := if root then s.resultSent j x else (s, j)
      (s, j, { x with fwd := true })
  | none => (s, j, x)

/-- A result is written once the down descriptor record stands (R226). -/
def State.pumpWrite (s : State) (j : Job) (x : GsTile) : Job × GsTile :=
  if x.wrote ∨ x.busy ∨ x.res.isNone ∨ ¬ s.receives j x.t ∨ j.gs.down.isNone then (j, x)
  else ({ j with segs := j.segs ++ [.tileW x.t] }, { x with busy := true })

/-- Whether a tile's slot is free again (R245). -/
def State.slotOver (s : State) (j : Job) (x : GsTile) : Bool :=
  if j.gsKind = .barrier then j.gs.down.isSome
  else if (s.gsTree j).isRoot x.tr then x.fwd
  else if s.onWayUp j x then x.acked else x.fwd || !s.needsRes j x

/-- Whether a tile is finished on this member. -/
def State.tileOver (s : State) (j : Job) (x : GsTile) : Bool :=
  !x.held && !x.busy && (j.gsKind == .barrier || !s.needsRes j x || (x.fwd && (x.wrote || !s.receives j x.t)))

/-- A NORM's result (R252, R254). -/
def Job.normValue (j : Job) (x : GsTile) : Nat :=
  match x.res with
  | some bs => leAt (j.resLanes bs) 0 8
  | none => 0

/-- The integer of a word that carries one exactly. -/
def numNat : Num → Nat
  | .fin _ m e => m * 2 ^ e.toNat / 2 ^ (-e).toNat
  | _ => 0

/-- A finished tile's contribution to what its command returns: a NORM's value, a DIGEST_COMPARE's digests. -/
def Job.keepTile (j : Job) (x : GsTile) : Job :=
  if j.isNorm then { j with value := j.normValue x }
  else if j.isDig then
    let ws := (wordsOf 8 (j.resLanes (x.res.getD []))).map fun w => numNat (fmtNum 5 w)
    { j with gs := { j.gs with words := Tbl.ins j.gs.words x.t ws } }
  else j

/-- One tile carried on as far as it goes (R224). -/
def State.pumpTile (s : State) (j : Job) (t : Nat) : State × Job :=
  match j.tileAt t with
  | none => (s, j)
  | some x =>
    let (j, x) := s.pumpRead j x
    let (s, x) := s.pumpRec j x
    let (j, x) := s.pumpConv j x
    let (s, x) := s.pumpPart j x
    let (s, j, x) := s.pumpRes j x
    let (j, x) := s.pumpWrite j x
    let x := if x.held ∧ s.slotOver j x then { x with held := false } else x
    if s.tileOver j x then
      let j := j.keepTile x
      (s, { j with gs := { j.gs with
        tiles := j.gs.tiles.filter fun y => y.t ≠ t, done := j.gs.done + 1, nf := j.gs.nf + b2n x.nf } })
    else (s, j.setTile x)

/-- A command ended by the mismatch flag of its down record (R226). -/
def State.endMismatch (s : State) (j : Job) : State × Job :=
  (s.satInc GS_GSTAT.desc_mismatch 1, { j with segs := [], hold := .run, ending := some (stBADFIELD, some 0) })

/-- A COLLECTIVE or NORM carried on as far as it goes without another event: its descriptor record, then its tiles. A
stopped one issues nothing (R144, R149). -/
def State.pump (s : State) (j : Job) : State × Job :=
  if j.ending.isSome ∨ s.stopped j then (s, j)
  else
    let (s, j) := s.pumpDesc j
    match j.gs.down with
    | some (_, true) => s.endMismatch j
    | _ => (j.gs.tiles.map (·.t)).foldl (fun (s, j) t => s.pumpTile j t) (s, j)

/-- A DIGEST_COMPARE's end (R431 to R435). -/
def State.digestEnd (s : State) (j : Job) : State :=
  let t := s.gsTree j
  let ps := (List.range (if j.digBins then 64 else 1)).map fun p =>
    (List.range t.n).map fun i => digOf j.gs.words j.digBins p i
  let x := compare t.n ps
  (s.digestFound j.ctx j.gsGroup t.me x j.gs.samp).finishCmd { j with value := x.value t.me j.digBins }

/-- The stage after the memory work at hand: more tiles, or the end (R238, R254). -/
def State.gsStage (s : State) (j : Job) : State × Option Job :=
  let (s, j) := s.pump j
  match j.gs.down with
  | some (cnt, false) =>
    if j.ending.isNone ∧ j.segs = [] ∧ j.gs.done = j.gsTiles then
      if j.isDig then (s.digestEnd j, none)
      else if j.isNorm then
        let r := j.arg 24 1 / 8 % 8
        let s := if j.arg 24 1 / 4 % 2 = 1 then
            ((s.set (GL_NORM_VAL.n2 j.ctx r) j.value).set (GL_NORM_TAG.step j.ctx r)
              (s.get (CM_OPEN.open_ j.ctx) % 2 ^ 48)).set (GL_NORM_TAG.valid j.ctx r) 1
          else s
        (s.finishCmd j, none)
      else
        (s.finishCmd { j with
          value := cnt % 2 ^ 32 + (s.gsTree j).n * 2 ^ 32 + Nat.min 0xFFFF j.gs.nf * 2 ^ 48 }, none)
    else (s, some j)
  | _ => (s, some j)

/-- The bank a collective reads of a region: the active one at its start (R66, R324). -/
def State.gsBank (s : State) (j : Job) (r : Nat) : Nat := if (s.rgn r).banked then j.sel else 0

/-- Elements a unit of a NORM reads at most. -/
def normUnit : Nat := 8192

/-- The span of elements that unit u of a NORM reads; none past its last. -/
def normSpanAux (s : State) (j : Job) : List (Nat × Nat × Nat) → Nat → Option Span
  | [], _ => none
  | (r, f, n) :: t, u =>
    let k := cdiv n normUnit
    if u < k then some (s.elemSpan r (s.gsBank j r) (f + u * normUnit) (f + Nat.min n ((u + 1) * normUnit)))
    else normSpanAux s j t (u - k)

/-- The units of a NORM's pass: its ranges, then one that ends the pass. -/
def Job.normUnits (j : Job) : Nat := (j.normRanges.map fun r => cdiv r.2.2 normUnit).sum + 1

/-- The spans of a tile's contributions (R235). -/
def State.tileSpans (s : State) (j : Job) (t : Nat) : List Span :=
  (List.range j.nloc).map fun i =>
    let a := j.srcFirst + i * j.cstride + 64 * t
    s.elemSpan j.gsSrc (s.gsBank j j.gsSrc) a (a + j.lanes t)

/-- The span that a tile's result is written to (R236). -/
def State.tileDst (s : State) (j : Job) (t : Nat) : Span :=
  let base := if j.gsOp = 2 then (s.gsTree j).me * (j.gsCount / (s.gsTree j).n) else 0
  let a := j.dstFirst + 64 * t - base
  s.elemSpan j.gsDst 0 a (a + j.lanes t)

/-- Units of a segment of chapter 08. -/
def State.unitsGs (_s : State) (j : Job) (g : Seg) : Nat :=
  match g with
  | .tile _ | .tileB _ => 1
  | .tileW _ => 2
  | .norm _ => j.normUnits
  | _ => 0

/-- What a unit of chapter 08 reads and writes. -/
def State.planGs (s : State) (j : Job) (g : Seg) (u : Nat) : Plan :=
  match g with
  | .tile t | .tileB t => { reads := s.tileSpans j t }
  | .tileW t => if u = 0 then { writes := [(s.tileDst j t, wkStep)] } else {}
  | .norm _ => { reads := (normSpanAux s j j.normRanges u).toList }
  | _ => {}

/-- The values a span holds. -/
def State.numsOf (s : State) (j : Job) (p : Span) : List Num :=
  (wordsOf (s.rgn p.r).esize (s.readSpan j p)).map (fmtNum (s.rgn p.r).fmt)

/-- The first read of a tile done: its maximum exponent, flag, and values where no grid is used (R224, R228, R231). -/
def State.tileExe (s : State) (j : Job) (x : GsTile) : GsTile :=
  let xs := (s.tileSpans j x.t).map fun p => s.numsOf j p
  let f := s.partFmt j
  let all := xs.flatten
  { x with
    own := true, busy := false, e := max x.e (emaxOf all), nf := x.nf || all.any fun v => !v.isFin,
    vals := if j.gsKind = .grid then []
      else xs.foldl (fun vs l => s.combineAll j vs (pad64 0 (l.map (fmtWord f)))) x.vals }

/-- The second read of a grid tile done (R42): lane integers added. -/
def State.convExe (s : State) (j : Job) (x : GsTile) : GsTile :=
  let g := s.gridOf j (x.hdr.getD 0)
  let xs := (s.tileSpans j x.t).map fun p => (s.numsOf j p).map fun v => v.lane g
  { x with conv := true, busy := false, acc := xs.foldl (fun a l => addLanes a (pad64 0 l)) x.acc }

/-- The term of a NORM (R252). -/
def Job.term (j : Job) (x : Num) : Num := if j.normMode = 0 then x.mul x else if j.normMode = 2 then x.abs else x

/-- A unit of a NORM's pass done (R252). -/
def State.normExe (s : State) (j : Job) (pass u : Nat) (x : GsTile) : GsTile :=
  match normSpanAux s j j.normRanges u with
  | none => if pass = 1 then { x with own := true, busy := false } else { x with conv := true, busy := false }
  | some p =>
    let xs := (s.numsOf j p).map j.term
    if pass = 1 then
      { x with
        e := max x.e (emaxOf xs), nf := x.nf || xs.any fun v => !v.isFin,
        vals := if j.gsKind = .grid then []
          else s.combineAll j x.vals (pad64 0 [fmtWord 5 (xs.foldl (pickNum true) Num.zero)]) }
    else
      let g := s.gridOf j (x.hdr.getD 0)
      { x with acc := addLanes x.acc (pad64 0 [(xs.map fun v => v.lane g).sum]) }

/-- A unit of chapter 08 done. -/
def State.exeGs (s : State) (j : Job) (g : Seg) (u : Nat) : State × Job :=
  match g with
  | .tile t =>
    match j.tileAt t with
    | some x => (s, j.setTile (s.tileExe j x))
    | none => (s, j)
  | .tileB t =>
    match j.tileAt t with
    | some x => (s, j.setTile (s.convExe j x))
    | none => (s, j)
  | .norm pass =>
    match j.tileAt 0 with
    | some x => (s, j.setTile (s.normExe j pass u x))
    | none => (s, j)
  | .tileW t =>
    match j.tileAt t with
    | some x =>
      let p := s.tileDst j t
      if u = 0 then s.writeSpan j p ((j.resLanes (x.res.getD [])).take p.n) wkStep
      else
        let lo := p.lo - j.dstFirst * (s.rgn j.gsDst).esize
        (s, { (j.setTile { x with wrote := true, busy := false }) with
              gs := { (j.setTile { x with wrote := true, busy := false }).gs with
                written := ivAdd j.gs.written lo (lo + p.n) } })
    | none => (s, j)
  | _ => (s, j)

/-- The marks of a stream's window (R240). -/
def State.marksOf (s : State) (c st : Nat) : List Nat := Tbl.at s.gs.marks [] (c * 64 + st)
/-- The marks of a stream replaced, GS_TRD.pending with them. -/
def State.setMarks (s : State) (c st : Nat) (l : List Nat) : State :=
  ({ s with gs := { s.gs with marks := Tbl.put s.gs.marks [] (c * 64 + st) l } } : State).set (GS_TRD.pending c st) l.length

/-- The watermark past every marked unit (R240), on the 256 units of the window. -/
def advanceMark : Nat → Nat → List Nat → Nat × List Nat
  | 0, w, l => (w, l)
  | f + 1, w, l => if l.contains w then advanceMark f ((w + 1) % 2 ^ 32) (l.filter fun u => u ≠ w) else (w, l)

/-- A doorbell judged against its stream's window (R240): taken, or not yet. -/
def State.judgeDoorbell (s : State) (c st u : Nat) : Option State :=
  let w := s.get (GS_TRD.wmark c st)
  let d := subMod 32 u w
  if ¬ s.live c then some s
  else if d < 256 then
    let (w, l) := advanceMark 257 w (setAdd (s.marksOf c st) u)
    some ((s.set (GS_TRD.wmark c st) w).setMarks c st l)
  else if 2 ^ 31 ≤ d then some (s.satInc (GS_TRD.dup c st) 1)
  else none

/-- The doorbells that wait on TRD, in order: each is taken once its window has come (R240, R512). -/
def drainDoorbells : Nat → State → State
  | 0, s => s
  | f + 1, s =>
    match s.gs.heldDb with
    | [] => s
    | (c, st, u) :: rest =>
      match s.judgeDoorbell c st u with
      | some s' =>
        let s' : State := { s' with gs := { s'.gs with heldDb := rest } }
        let s' := s'.set (GS_TRD.held c st) 0
        drainDoorbells f (if rest = [] then s'.emit (.trdReady true) else s')
      | none => s.set (GS_TRD.held c st) 1

/-- The held doorbells judged again. -/
def State.redoDoorbells (s : State) : State := drainDoorbells (s.gs.heldDb.length + 1) s

/-- Every COLLECTIVE and NORM carried on. -/
def State.pumpAll (s : State) : State :=
  (s.jobs.filter fun j => j.isCommand && j.isGs).foldl (fun s j => let (s, j) := s.pump j; s.setJob j) s

/-- Whether every down result that a collective waits for is in (R259): what is left of it are its own writes. -/
def State.gsAnswered (s : State) (j : Job) : Bool :=
  j.isGs && j.gs.next == j.gsTiles && (match j.gs.down with
      | some (_, bad) => !bad
      | none => false)
    && j.gs.tiles.all fun x => x.res.isSome || !s.needsRes j x

/-- The lowest gcn among a context's running collectives (R247). -/
def State.lowestGcn (s : State) (j : Job) : Bool :=
  s.jobs.all fun x => !(x.cmdOf j.ctx && x.isGs) || x.ending.isSome || x.id == j.id || !newer 32 j.gcn x.gcn

/-- Whether a slot of a tile's slice is free for a command (R247). -/
def State.slotFree (s : State) (j : Job) (t : Nat) : Bool :=
  let per := s.get (GS_SLOT_CFG.per_slice j.ctx)
  let used := s.slotsUsed j.ctx (t % 20)
  if s.lowestGcn j then used < per else used + s.get (GS_SLOT_CFG.reserve j.ctx) < per

/-- Whether a command may take the slot of its next tile (R247, R259): a free one of its slice, in ascending gcn. It gives
way to a running collective of lower gcn whose own next tile could take a slot now or waits for one of the same slice. -/
def State.admits (s : State) (j : Job) : Bool :=
  s.slotFree j j.gs.next && s.jobs.all fun x =>
    !(x.cmdOf j.ctx && x.isGs && x.ending.isNone && newer 32 j.gcn x.gcn && !s.stopped x && x.gs.next < x.gsTiles
        && (x.gs.nsOf (x.gs.next / 256)).isSome)
      || !(s.slotFree x x.gs.next || x.gs.next % 20 == j.gs.next % 20)

/-- Whether a collective waits for a slot or a credit (R249). -/
def State.gsWaits (s : State) (j : Job) : Bool :=
  j.ending.isNone &&
    ((j.gs.next < j.gsTiles && (j.gs.nsOf (j.gs.next / 256)).isSome && !s.admits j)
      || j.gs.tiles.any fun x => x.held && x.own && !x.acked && !s.credited j x.t x.tr)

/-- GS_SLOT_STAT brought up to date (R249). -/
def State.syncGs (s : State) : State :=
  (List.range 4).foldl (fun s c =>
    let js := s.jobs.filter fun j => j.cmdOf c && j.isGs
    if js = [] ∧ s.get (GS_SLOT_STAT.waiting c) = 0 ∧ s.get (GS_SLOT_STAT.in_use c) = 0 then s
    else (s.syncSlots c).set (GS_SLOT_STAT.waiting c) (js.filter s.gsWaits).length) s

end Sys2Proof.Machine
end

