-- ==== Sys2Proof/Machine/Drain.lean ====
section
/-! DEFINITION. Transmission (R14, R335, R340, R360): which waiting message goes next, on which link, and what it takes
of the link's credits. A link holds the credits its partner has given it; message credits and 64-byte data credits are
both needed. -/

namespace Sys2Proof.Machine

/-- The order of grant of R14 at the fabric port: control messages, collective traffic, deltas, recovery fetches, then
bulk copies and the rest. R14 names votes, halt notices, fences and epoch changes as control messages; the places of the
types that it does not name are the model's: FORM, FENCE_ACK, JOB_BCAST and REPORT with the control messages, the answers
to deltas and the stable notices with the deltas, FETCH_DATA with the recovery fetches, and an audit's FETCH, GEN_NOTICE,
GEN_ACK and DROP with the bulk copies (DESIGN CHOICE, notes/assumptions/64.md). -/
def txRank (m : Msg) : Nat :=
  let t := m.typ
  if msgClass t = 3 ∨ t = 0x39 ∨ t = 0x15 then 0
  else if msgClass t = 2 then 1
  else if t = 0x10 ∨ t = 0x11 ∨ t = 0x12 ∨ t = 0x16 ∨ t = 0x17 then 2
  else if t = 0x14 ∨ (t = 0x13 ∧ m.sgen / 16 % 2 = 1) then 3
  else 4

/-- The physical lane that carries a logical lane: the ACTIVE one, or while that is DOWN the next logical lane's
(R335). -/
def State.laneFor (s : State) : Nat → Nat → Option Nat
  | 0, _ => none
  | f + 1, l =>
    match (List.range 18).find? fun p => s.get (FB_LANE.state p) == 0 && s.get (FB_LANE.logical p) == l % 16 with
    | some p => some p
    | none => s.laneFor f (l + 1)

/-- The link a message leaves on: FAB for a destination in FB_GFAB, else a state lane, d mod 16 for ordered traffic
(R338, R340). -/
def State.linkFor (s : State) (m : Msg) : Option Nat :=
  if s.is FB_GFAB.valid ∧ s.get FB_GFAB.lo ≤ m.dst ∧ m.dst ≤ s.get FB_GFAB.hi then some 18
  else s.laneFor 16 (m.dst % 16)

/-- The credit key of a link and class. -/
def crKey (link cls : Nat) : Nat := link * 4 + cls

/-- Whether an ordered message to a destination is held back: after a map rebuild moved its lane, until every earlier
ordered message to it, of whatever context, is acknowledged (R341). -/
def State.orderHeld (s : State) (m : Msg) : Bool :=
  m.ord == 1 && s.fab.held.any fun o => o.dst == m.dst && s.fab.outs.contains o

/-- Whether a message can go now. -/
def State.canSend (s : State) (m : Msg) : Bool :=
  match s.linkFor m with
  | none => false
  | some l =>
    1 ≤ Tbl.at s.fab.msgCr 0 (crKey l (msgClass m.typ)) &&
      cdiv m.size 64 ≤ Tbl.at s.fab.datCr 0 (crKey l (msgClass m.typ)) && !s.orderHeld m

/-- Whether a message must stay behind one ahead of it in line: the ordered messages of one context to one destination
leave in issue order (R340). -/
def staysBehind (ahead : List Msg) (m : Msg) : Bool :=
  m.ord == 1 && ahead.any fun x => x.ord == 1 && x.ctx == m.ctx && x.dst == m.dst

/-- The first of the best-ranked messages that can go; `ahead` holds the messages that stand before in line. -/
def pickTx (s : State) (ahead : List Msg) : List Msg → Option Msg → Option Msg
  | [], best => best
  | m :: t, best =>
    let next := ahead ++ [m]
    if s.canSend m ∧ ¬ staysBehind ahead m then
      match best with
      | some b => pickTx s next t (if txRank m < txRank b then some m else some b)
      | none => pickTx s next t (some m)
    else pickTx s next t best

/-- A list without the first copy of a message. -/
def dropMsg : List Msg → Msg → List Msg
  | [], _ => []
  | x :: t, m => if x = m then t else x :: dropMsg t m

/-- One transmission of the fabric port, if any message can go: its bytes leave on its link and its credits are spent
(R360). -/
def State.transmit (s : State) : State :=
  match pickTx s [] s.fab.txq none with
  | none => s
  | some m =>
    match s.linkFor m with
    | none => s
    | some l =>
      let k := crKey l (msgClass m.typ)
      let f := s.fab
      let s := s.setFab { f with
        txq := dropMsg f.txq m, msgCr := Tbl.put f.msgCr 0 k (Tbl.at f.msgCr 0 k - 1),
        datCr := Tbl.put f.datCr 0 k (Tbl.at f.datCr 0 k - cdiv m.size 64) }
      (s.emit (.tx l m.encode)).countPort 0 (if m.typ = 0x10 then 4096 else 0)

end Sys2Proof.Machine
end

