-- ==== Sys2Proof/Machine/FabUnit.lean ====
section
/-! DEFINITION. The units of PUT and GET (R354 to R358): the engine a descriptor takes (R355), the requests it splits into
and their places (R356). Unit 0 takes the engine; unit 1 + u is request u. -/

namespace Sys2Proof.Machine

/-- The remote byte offset of a bulk copy (R353). -/
def Job.remoteOff (j : Job) : Nat := if j.opcode = opPUT then j.arg 40 6 else j.arg 32 6
/-- The local byte offset of a bulk copy (R353). -/
def Job.localOff (j : Job) : Nat := if j.opcode = opPUT then j.arg 32 6 else j.arg 40 6

/-- How many requests a range of the remote offset splits into (R356). -/
def reqCount (r n : Nat) : Nat := cdiv (r + n) 4096 - r / 4096

/-- Request u of a range: its offset in the range and its length (R356). -/
def reqAt (r n u : Nat) : Nat × Nat :=
  let a := Nat.max r ((r / 4096 + u) * 4096)
  let b := Nat.min (r + n) ((r / 4096 + u + 1) * 4096)
  (a - r, b - a)

/-- The engine of a context's mask with the fewest descriptors and room for one more, the lower number on a tie
(R355). -/
def State.pickEngine (s : State) (c : Nat) : Option Nat :=
  (List.range 4).foldl (fun best e =>
    if nbits (s.get (GL_CTX_CFG.engines c)) e 1 = 1 ∧ s.get (FB_ENG.running e) < 16 then
      match best with
      | some b => if s.get (FB_ENG.running e) < s.get (FB_ENG.running b) then some e else some b
      | none => some e
    else best) none

/-- Whether an engine's 512 places are all taken (R356). -/
def State.engineFull (s : State) (e : Nat) : Bool := 512 ≤ s.get (FB_ENG.outstanding e)

/-- How many units a bulk copy has. -/
def State.unitsFab (_s : State) (j : Job) : Nat := 1 + reqCount j.remoteOff (j.arg 48 5)

/-- What a unit of a bulk copy reads, and what it waits for. -/
def State.planFab (s : State) (j : Job) (u : Nat) : Plan :=
  if u = 0 then { wait := (s.pickEngine j.ctx).isNone }
  else
    let q := reqAt j.remoteOff (j.arg 48 5) (u - 1)
    let r := j.arg 24 1 % 64
    { reads := if j.opcode = opPUT then [⟨r, if (s.rgn r).banked then j.sel else 0, false, j.localOff + q.1, q.2⟩] else [],
      wait := s.engineFull j.engine }

/-- A request of a bulk copy sent and kept among the outstanding ones (R339, R356); with no path to its destination the
command ends with LINK_FAILED (R132). -/
def State.sendReq (s : State) (j : Job) (q : Nat × Nat) (typ : Nat) (body : List Byte) : State × Job :=
  let t := s.fab.nextTag
  let dst := j.arg 26 2
  if (s.linkFor (s.common j.ctx typ dst t [])).isNone then
    (s, { j with ending := some (stLINKFAILED, none) })
  else
  let s := (s.chargeFor j.cls j.ctx).send (s.common j.ctx typ dst t body)
  let o : FabOut := { tag := t, typ := typ, dst := dst, ctx := j.ctx, job := j.id, lo := q.1, n := q.2, at_ := s.now,
                      eng := j.engine }
  let s := s.setFab { s.fab with outs := s.fab.outs ++ [o], nextTag := (t + 1) % 2 ^ 32 }
  (s.wrapInc (FB_ENG.outstanding j.engine) 1, { j with pos := q.1 + q.2 })

/-- A unit of a bulk copy done. -/
def State.exeFab (s : State) (j : Job) (u : Nat) : State × Job :=
  if u = 0 then
    match s.pickEngine j.ctx with
    | some e => ((s.wrapInc (FB_ENG.running e) 1).set (FB_ENG.ctx e) j.ctx, { j with engine := e })
    | none => (s, j)
  else
    let q := reqAt j.remoteOff (j.arg 48 5) (u - 1)
    let addr := leBytes 1 (j.arg 25 1 % 64) ++ leBytes 1 0 ++ leBytes 6 (j.remoteOff + q.1)
    if j.opcode = opPUT then
      s.sendReq j q 0x01 (addr ++ (s.planFab j u).reads.flatMap fun p => s.readSpan j p)
    else s.sendReq j q 0x03 (addr ++ leBytes 2 q.2 ++ leBytes 2 0)

end Sys2Proof.Machine
end

