-- ==== Sys2Proof/Machine/RecUnit.lean ====
section
/-! DEFINITION. The units and stages of chapter 12's work: DRN requests (R518), drains and manifests (R394 to R399),
imports (R409), the job descriptor (R403 to R406), rebuilds (R381, R383), decodes for a rebuilding member (R382) and
binds (R387). -/

namespace Sys2Proof.Machine

/-- The bytes of stack memory that one DRN request carries: a multiple of 64 and of every element size, at most 1 MiB
(R518). -/
def drnChunk : Nat := 786432

/-- The object a command names (R109, R396, R402, R408). -/
def Job.object (j : Job) : Nat := if j.opcode = opSTABLELOAD then j.arg 40 8 else j.arg 32 8

/-- Whether 256 DRN requests are outstanding (R518). -/
def State.drnFull (s : State) : Bool := 256 ≤ s.rec_.drns.length

/-- A DRN request (R518): its header, its data padded to a multiple of 64, and its place among the outstanding ones
(DEDUCED, notes/assumptions/29.md). -/
def State.drnSend (s : State) (j : Job) (write : Bool) (off n : Nat) (data : List Byte) : State × Job :=
  let t := freeTag (s.rec_.drns.foldl (fun l r => setAdd l r.tag) []) 0
  let len := roundUp n 64
  let header := leBytes 1 (if write then 2 else 1) ++ leBytes 1 j.ctx ++ leBytes 2 t ++ leBytes 4 len
    ++ leBytes 8 j.object ++ leBytes 8 off ++ leBytes 8 0
  let s := s.emit (.drn header (if write then padTo len data else []))
  (s.setRec { s.rec_ with drns := s.rec_.drns ++ [⟨t, j.id, j.ctx, write, n⟩] }, { j with hold := .drn })

/-- The digest of consecutive elements from (t, p) on (R54, R395). -/
def elemDigest (t es : Nat) : Nat → List (List Byte) → Nat
  | _, [] => 0
  | p, w :: ws => add64 (digestTerm t p (leNat w)) (elemDigest t es (p + 1) ws)

/-- The digest of a part of a shard (R395): elements of a region from byte `at_` of the shard's element bytes, or its
scales. -/
def shardPart (t p es : Nat) (sc : Bool) (at_ : Nat) (bytes : List Byte) : Nat :=
  if sc then elemDigest (t ||| 0x800000) 4 (p / 128 + at_ / 4) (chunks 4 bytes)
  else elemDigest t es (p + at_ / es) (chunks es bytes)

/-- The part of a shard digested into the work's first accumulator; its tensor id is the second. -/
def State.addDigest (s : State) (j : Job) (r : Nat) (sc : Bool) (at_ : Nat) (bytes : List Byte) : Job :=
  if j.opcode = opSTABLELOAD then j
  else
    let d := shardPart (j.acc.getD 1 0) (j.arg 50 5) (s.rgn r).esize sc at_ bytes
    { j with acc := setAt j.acc 0 (add64 (j.acc.getD 0 0) d) }

/-- A rebuild ends FAILED with a status (R383): its fetches are forgotten and its writes stop. -/
def State.rebuildFail (s : State) (c status : Nat) : State :=
  let mine := fun (j : Job) => j.owner == .rebuild c
  let ids := (s.jobs.filter mine).map (·.id)
  let cut := fun (j : Job) => if mine j then { j with ending := some (status, some 0), segs := [] } else j
  let s : State := { s with jobs := (s.jobs.filter fun j => !(mine j && j.out == 0)).map cut }
  let s := s.setFab { s.fab with outs := s.fab.outs.filter fun o => !ids.contains o.job }
  if s.get (TM_REB_STAT.state c) = 1 then
    ((s.set (TM_REB_STAT.state c) 3).set (TM_REB_STAT.status c) status).set (TM_REB_CTL.start c) 0
  else s

/-- The positions of a stripe value that a decode uses (R290, R291): the k lowest whose member is present, has not rejoined
since the slot was coded (R385), and that nothing has erased. -/
def State.decodeSet (s : State) (c stripe : Nat) (er : List Nat) : List Nat :=
  let v := (s.tmAt c).vals
  let t := stripeOf stripe
  let gone := if imageOf stripe = 0 then [] else (s.stbAt (imageOf stripe - 1)).gone
  ((List.range v.n).filter fun q =>
    v.present (v.memberAt t q) && !gone.contains (v.memberAt t q) && !er.contains q).take v.k

/-- The own position of a stripe value. -/
def State.ownPos (s : State) (c stripe : Nat) : Nat :=
  let v := (s.tmAt c).vals
  v.posOf (stripeOf stripe) v.index

/-- The positions that a decode for a rebuilding member still lacks; its slots list the erased ones, its frags hold
the fragments at hand by position. -/
def State.decodeMissing (s : State) (j : Job) (m : Msg) : List Nat :=
  (s.decodeSet m.ctx m.stripe j.slots).filter fun q => (Tbl.find j.frags q).isNone

/-- One go at a decode (R382): the own fragment is at hand; what is missing is fetched; a whole set is decoded and
answered; with fewer than k positions the stripe is lost. -/
def State.decodeGo (s : State) (j : Job) (m : Msg) : State × Job :=
  let c := m.ctx
  let v := (s.tmAt c).vals
  let t := stripeOf m.stripe
  let set := s.decodeSet c m.stripe j.slots
  let need := s.decodeMissing j m
  if set.length < v.k then (s, { j with ending := some (stMEMLOST, some 0), segs := [], frags := [] })
  else if need = [] then
    match decodeFrag 4096 v.k (set.map fun q => (q, Tbl.at j.frags [] q)) (v.posOf t m.member) with
    | some data =>
      (s.fieldBusy.send (s.fragReply m 0x14 j.sel j.stage data), { j with frags := [] })
    | none => (s, { j with ending := some (stMEMLOST, some 0), segs := [], frags := [] })
  else
    let ask := need.filter fun q => !s.fab.outs.any fun o =>
      o.job == j.id && o.stripe == m.stripe && o.tag == v.memberAt t q
    (ask.foldl (fun s q => s.sendFetch c j.id m.stripe (v.memberAt t q) true) s, { j with hold := .fabric })

/-- How many units a segment of chapter 12 has. -/
def State.unitsRec (s : State) (j : Job) (g : Seg) : Nat :=
  match g with
  | .rebuild => s.stripes j.ctx 0
  | .decodeFor | .recordRead | .drnPut _ _ | .drnGet _ _ => 1
  | .drnDump _ _ _ _ n _ => cdiv n drnChunk
  | .drnLoad _ _ _ _ n _ => 2 * cdiv n drnChunk
  | _ => 0

/-- The bytes of chunk i of n. -/
def chunkLen (n i : Nat) : Nat := Nat.min drnChunk (n - i * drnChunk)

/-- Whether a drain writes its object (R396). -/
def Job.writer (j : Job) : Bool := j.arg 24 1 / 2 % 2 == 1

/-- What a unit of chapter 12 reads and writes. -/
def State.planRec (s : State) (j : Job) (g : Seg) (u : Nat) : Plan :=
  match g with
  | .rebuild =>
    { wait := decide (Nat.min 512 (Nat.max 1 (s.get (TM_REB_CFG.max_out j.ctx))) ≤
        (s.fab.outs.filter fun o => o.job == j.id).length) }
  | .decodeFor =>
    match j.delta with
    | some m =>
      if (s.decodeMissing j m).contains (s.ownPos m.ctx m.stripe) then
        { reads := (s.memberSpans m.ctx m.stripe (s.tmAt m.ctx).vals.index j.sel).map (·.1) }
      else {}
    | none => {}
  | .recordRead => { reads := [⟨s.get (CM_CFG.rec_ j.ctx), j.sel, false, 0, 128⟩] }
  | .drnDump r k sc lo n _ =>
    { reads := [⟨r, k, sc, lo + u * drnChunk, chunkLen n u⟩], wait := j.writer && s.drnFull }
  | .drnLoad r k sc lo n _ =>
    if u % 2 = 0 then { wait := s.drnFull }
    else { writes := [(⟨r, k, sc, lo + u / 2 * drnChunk, chunkLen n (u / 2)⟩, wkFor j)] }
  | .drnPut _ _ | .drnGet _ _ => { wait := s.drnFull }
  | _ => {}

/-- A unit of chapter 12 done once its reads are in. -/
def State.exeRec (s : State) (j : Job) (g : Seg) (u : Nat) : State × Job :=
  let p := s.planRec j g u
  match g with
  | .rebuild =>
    let l := (s.tmAt j.ctx).vals.presentList
    (s.sendFetch j.ctx j.id u (l.getD (u % l.length) 0) true, j)
  | .decodeFor =>
    match j.delta with
    | some m =>
      let own := s.ownPos m.ctx m.stripe
      let j := if (s.decodeMissing j m).contains own then
          { j with frags := Tbl.ins j.frags own (s.readFrag j (s.memberSpans m.ctx m.stripe (s.tmAt m.ctx).vals.index j.sel)) }
        else j
      s.decodeGo j m
    | none => (s, j)
  | .recordRead => (s, { j with buf := p.reads.flatMap fun q => s.readSpan j q })
  | .drnDump r _ sc _ n off =>
    let bytes := p.reads.flatMap fun q => s.readSpan j q
    let j := s.addDigest j r sc (u * drnChunk) bytes
    if j.writer then s.drnSend j true (off + u * drnChunk) (chunkLen n u) bytes else (s, j)
  | .drnLoad r _ sc _ n off =>
    if u % 2 = 0 then s.drnSend { j with buf := [] } false (off + u / 2 * drnChunk) (chunkLen n (u / 2)) []
    else
      match p.writes with
      | [(b, k)] =>
        let bytes := padTo b.n j.buf
        s.writeSpan (s.addDigest { j with buf := [] } r sc (u / 2 * drnChunk) bytes) b bytes k
      | _ => (s, j)
  | .drnPut off bs => s.drnSend j true off bs.length bs
  | .drnGet off n => s.drnSend j false off n []
  | _ => (s, j)

/-- How far a unit of chapter 12 moves the fault offset (R90). -/
def advanceRec (g : Seg) (u : Nat) : Nat :=
  match g with
  | .drnDump _ _ sc _ n _ => if sc then 0 else chunkLen n u
  | .drnLoad _ _ sc _ n _ => if sc ∨ u % 2 = 0 then 0 else chunkLen n (u / 2)
  | _ => 0

/-- The bytes of a shard: its elements, then the scales of a K8 region (R394). -/
def State.shardLen (s : State) (r n : Nat) : Nat :=
  n * (s.rgn r).esize + if (s.rgn r).fmt = fmtK8 then 4 * cdiv n 128 else 0

/-- The job id that drained objects carry: the one in force, 0 with no team in force (R304, R394, R399). -/
def State.jobIdOf (s : State) (c : Nat) : Nat := if s.team c = tmOFF then 0 else (s.tmAt c).vals.jobId

/-- Byte 6 of a header or manifest: drain or export (R394, R398). -/
def Job.drainKind (j : Job) : Nat := if j.opcode = opEXPORT then 1 else 0

/-- A shard object's header (R394). -/
def State.shardHeader (s : State) (j : Job) : List Byte :=
  let r := j.arg 25 1 % 64
  let g := s.rgn r
  let b := leBytes 4 0x50475348 ++ leBytes 2 2 ++ leBytes 1 j.drainKind ++ leBytes 1 g.fmt
    ++ leBytes 4 (s.jobIdOf j.ctx) ++ leBytes 3 (j.arg 28 3) ++ leBytes 1 g.kind ++ leBytes 8 (j.arg 56 8)
    ++ leBytes 5 (j.arg 50 5) ++ leBytes 3 0 ++ leBytes 5 (j.arg 45 5) ++ leBytes 3 0 ++ leBytes 8 (j.acc.getD 0 0)
    ++ leBytes 2 s.self ++ leBytes 4 s.coord.word ++ leBytes 1 r ++ leBytes 1 0
  b ++ leBytes 4 (crc32c b) ++ leBytes 4 0

/-- A context's drain log. -/
def State.logOf (s : State) (c : Nat) : List LogEnt := Tbl.at s.rec_.logs [] c
/-- A context's drain log replaced, DR_STAT.log_used with it. -/
def State.setLog (s : State) (c : Nat) (l : List LogEnt) : State :=
  (s.setRec { s.rec_ with logs := Tbl.put s.rec_.logs [] c l }).set (DR_STAT.log_used c) l.length

/-- Bytes counted in DR_CNT: written to DRN, or logged as written elsewhere, in MiB. -/
def State.drnCount (s : State) (c n : Nat) (elsewhere : Bool) : State :=
  let k := 2 * c + b2n elsewhere
  let t := Tbl.at s.rec_.drnBytes 0 k + n
  let s := s.setRec { s.rec_ with drnBytes := Tbl.put s.rec_.drnBytes 0 k t }
  s.set (if elsewhere then DR_CNT.elsewhere c else DR_CNT.written c) (t / 2 ^ 20)

/-- A shard command's entry in the log (R398), while the log is of its step and has room. -/
def State.logShard (s : State) (j : Job) : State :=
  let c := j.ctx
  let r := j.arg 25 1 % 64
  let len := 64 + s.shardLen r (j.arg 45 5)
  let s := if j.writer then s else s.drnCount c len true
  if s.get (DR_LOG_STEP.step c) ≠ j.arg 56 8 ∨ 256 ≤ (s.logOf c).length then s
  else
    s.setLog c (s.logOf c ++ [⟨j.object, j.arg 28 3, (s.rgn r).fmt, j.writer, r, j.arg 50 5, j.arg 45 5, j.acc.getD 0 0,
      len⟩])

/-- An entry of a manifest (R399). -/
def LogEnt.bytes (e : LogEnt) : List Byte :=
  leBytes 8 e.obj ++ leBytes 3 e.tensor ++ leBytes 1 e.fmt ++ leBytes 1 (b2n e.written) ++ leBytes 1 e.region ++ leBytes 2 0
    ++ leBytes 5 e.p ++ leBytes 3 0 ++ leBytes 5 e.count ++ leBytes 3 0 ++ leBytes 8 e.digest ++ leBytes 8 e.length

/-- A manifest (R399) over a record. -/
def State.manifest (s : State) (j : Job) (record : List Byte) : List Byte :=
  let c := j.ctx
  let l := s.logOf c
  let b := leBytes 4 0x50474D46 ++ leBytes 2 2 ++ leBytes 1 j.drainKind ++ leBytes 1 0 ++ leBytes 4 (s.jobIdOf c)
    ++ leBytes 4 l.length ++ leBytes 8 (j.arg 56 8) ++ leBytes 4 s.coord.word ++ leBytes 2 s.self ++ leBytes 2 0
    ++ leBytes 8 (if s.team c = tmOFF then 0 else s.get (TM_SHAPEF.digest c)) ++ leBytes 24 0 ++ padTo 128 record
    ++ l.flatMap LogEnt.bytes
  b ++ leBytes 8 (wordDigest 0xFFFFFD 0 (chunks 8 b)) ++ leBytes 8 0

/-- A drain or export that has no memory work left (R398). -/
def State.drainStage (s : State) (j : Job) : State × Option Job :=
  if j.arg 24 1 % 2 = 1 then
    if j.stage = 0 then
      let m := s.manifest j j.buf
      let a := (m.length - 16) / 64 * 64
      (s, some { j with stage := 1, value := (s.logOf j.ctx).length, buf := [],
                        segs := [.drnPut 0 (m.take a), .drnPut a (m.drop a)] })
    else (s.finishCmd j, none)
  else if j.stage = 0 ∧ j.writer then (s, some { j with stage := 1, segs := [.drnPut 0 (s.shardHeader j)] })
  else ((s.logShard j).finishCmd j, none)

/-- R305 for a record's bytes. -/
def recVerifies (r : List Byte) : Bool := recDigest r == leAt r 120 8

/-- R52 for a record's bytes: cursor and binding digest recomputed (R50, R51). -/
def recBinds (r : List Byte) : Bool :=
  let step := leAt r 8 8
  let seed := leAt r 24 8
  let base := leAt r 32 8
  let stride := leAt r 40 8
  leAt r 16 8 == cursorOf base stride step && leAt r 48 8 == bindOf seed base stride step

/-- A context comes to hold the step of a record (R387, R409). -/
def State.bindTo (s : State) (c : Nat) (r : List Byte) : State :=
  let s := s.set (CM_STEP.committed c) (leAt r 8 8)
  let s := ((s.set (CM_SEED.seed c) (leAt r 24 8)).set (CM_CBASE.base c) (leAt r 32 8)).set (CM_CSTRIDE.cstride c)
    (leAt r 40 8)
  (s.set (DR_STAT.bound c) 1).openStep c

/-- The record of a manifest with the context's own job id, shape and epochs (R409: foreign). -/
def State.foreignRec (s : State) (c : Nat) (r : List Byte) : List Byte :=
  let b := r.take 4 ++ leBytes 4 (s.get (TM_ID.job_id c)) ++ (r.drop 8).take 52 ++ leBytes 2 (s.get (TM_ID.epoch c))
    ++ leBytes 2 (s.get (CM_EPOCH.epoch c)) ++ leBytes 8 (s.shape c (s.staged c)) ++ (r.drop 72).take 48
  b ++ leBytes 8 (recDigest b)

/-- A manifest's trailer verifies (R399). -/
def manifestOk (m : List Byte) : Bool :=
  let n := 192 + 48 * leAt m 12 4
  wordDigest 0xFFFFFD 0 (chunks 8 (m.take n)) == leAt m n 8

/-- An import that has no work left at hand (R409). -/
def State.importStage (s : State) (j : Job) : State × Option Job :=
  let c := j.ctx
  let r := j.arg 25 1 % 64
  let n := j.arg 45 5
  let g := s.rgn r
  let fail := fun (st : Nat) => (s.endCmd j st, (none : Option Job))
  if j.arg 24 1 % 2 = 0 then
    if j.stage = 0 then
      let h := padTo 64 j.buf
      if crc32c (h.take 56) ≠ leAt h 56 4 ∨ leAt h 7 1 ≠ g.fmt ∨ leAt h 16 8 ≠ j.arg 56 8 ∨ 0x800000 ≤ leAt h 12 3
          ∨ leAt h 24 5 ≠ j.arg 50 5 ∨ leAt h 32 5 ≠ n then fail stSTOREERROR
      else
        let k := if g.banked then s.active c else 0
        let f := j.arg 40 5
        let scales := if g.fmt = fmtK8 then [.drnLoad r k true (f / 128 * 4) (4 * cdiv n 128) (64 + n * g.esize)] else []
        let segs := .drnLoad r k false (f * g.esize) (n * g.esize) 64 :: scales
        (s, some { j with stage := 1, buf := [], acc := [0, leAt h 12 3, leAt h 40 8], segs := segs })
    else if j.acc.getD 0 0 = j.acc.getD 2 0 then (s.finishCmd j, none)
    else fail stSTOREERROR
  else
    match j.stage with
    | 0 =>
      let e := leAt j.buf 12 4
      if e = 0 ∨ 256 < e then fail stSTOREERROR
      else (s, some { j with stage := 1, segs := [.drnGet 64 (144 + 48 * e)] })
    | 1 =>
      let m := j.buf
      let rec_ := padTo 128 ((m.drop 64).take 128)
      if ¬ manifestOk m ∨ ¬ recVerifies rec_ ∨ leAt m 16 8 ≠ j.arg 56 8 ∨ leAt rec_ 8 8 ≠ j.arg 56 8 ∨ ¬ s.recOk c then
        fail stSTOREERROR
      else if ¬ recBinds rec_ ∨ (j.arg 24 1 / 2 % 2 = 0 ∧ (leAt rec_ 4 4 ≠ s.get (TM_ID.job_id c)
          ∨ leAt rec_ 64 8 ≠ s.shape c (s.staged c))) then fail stBINDING
      else
        let b := if j.arg 24 1 / 2 % 2 = 1 then s.foreignRec c rec_ else rec_
        (s, some { j with stage := 2, buf := b, segs := [.put (s.get (CM_CFG.rec_ c)) (s.active c) false 0 b] })
    | _ => ((s.bindTo c j.buf).finishCmd j, none)

/-- The check of a whole descriptor (R403): its length, job id and sum. -/
def descOk (jobId : Nat) (d : List Byte) : Bool :=
  let n := leAt d 8 4
  16 ≤ n && n ≤ 262144 && n ≤ d.length && leAt d 12 4 == jobId
    && wordDigest 0xFFFFFC 2 (chunks 8 ((d.take n).drop 16)) == leAt d 0 8

/-- The parts of a descriptor as JOB_BCAST bodies (R348, R403). -/
def descParts (jobId : Nat) (d : List Byte) : List (List Byte) :=
  let ps := chunks 4096 d
  ps.zipIdx.map fun (b, i) => leBytes 4 jobId ++ leBytes 2 i ++ leBytes 2 ps.length ++ leBytes 8 0 ++ b

/-- Every part of a descriptor sent to the near-tree children and to the off root (R404). -/
def State.sendDesc (s : State) (c g : Nat) (d : List Byte) (jobId : Nat) : State :=
  let t := s.tree c g
  (descParts jobId d).foldl (fun s b =>
    let one := fun (s : State) (tr i : Nat) => s.send { s.common c 0x3A (s.rankDev c g i) 0 b with bit2 := tr }
    let s := (t.children 0).foldl (fun s i => one s 0 i) s
    if t.n ≤ 1 then s else one s 1 (t.n - 1)) s

/-- Whether a descriptor part of a context still waits for transmission. -/
def State.descWaits (s : State) (c : Nat) : Bool := s.fab.txq.any fun m => m.typ == 0x3A && m.ctx == c

/-- The descriptor that a RECEIVE's parts make, once it holds all of them (R406). -/
def Job.descOf (j : Job) : Option (List Byte) :=
  let n := j.acc.getD 1 0
  if n ≠ 0 ∧ (List.range n).all fun i => (Tbl.find j.got i).isSome then
    some ((List.range n).flatMap fun i => Tbl.at j.got [] i)
  else none

/-- A descriptor that a RECEIVE has accepted is written to its region (R406); one that does not fit ends with
STORE_ERROR. -/
def State.keepDesc (s : State) (j : Job) (d : List Byte) (value : Nat) : State × Option Job :=
  let r := j.arg 26 1 % 64
  let d := d.take (leAt d 8 4)
  if (s.rgn r).count < d.length then (s.endCmd j stSTOREERROR, none)
  else (s, some { j with stage := 4, hold := .run, value := value, buf := [], got := [], segs := [.put r 0 false 0 d] })

/-- A JOB_LOAD that has no work left at hand (R404, R406): stage 0 waits for parts, 1 has the object's first bytes, 2
the whole of it, 3 waits for its parts to leave, 4 has written the region. -/
def State.jobStage (s : State) (j : Job) : State × Option Job :=
  let send := j.arg 24 1 % 4 = 0
  let jobId := j.arg 28 4
  match j.stage with
  | 0 =>
    match j.descOf with
    | some d =>
      if descOk jobId d then s.keepDesc j d 0
      else (s, some { j with stage := 1, hold := .run, got := [], buf := [], segs := [.drnGet 0 64] })
    | none => (s, some { j with hold := .parts })
  | 1 =>
    let n := leAt j.buf 8 4
    if n < 16 ∨ 262144 < n then (s.endCmd j stSTOREERROR, none)
    else (s, some { j with stage := 2, segs := if 64 < n then [.drnGet 64 (n - 64)] else [] })
  | 2 =>
    if ¬ descOk jobId j.buf then (s.endCmd j stSTOREERROR, none)
    else if send then
      (s.sendDesc j.ctx (j.arg 25 1 % 16) (j.buf.take (leAt j.buf 8 4)) jobId, some { j with stage := 3, buf := [], hold := .fabric })
    else s.keepDesc j j.buf 1
  | 3 => if s.descWaits j.ctx then (s, some { j with hold := .fabric }) else (s.finishCmd j, none)
  | _ => (s.finishCmd j, none)

/-- The status a record read for a bind to a step gives, none where the bind may go on (R387). -/
def State.bindBad (s : State) (c : Nat) (r : List Byte) (step : Nat) : Option Nat :=
  if ¬ recVerifies r ∨ leAt r 0 2 ≠ 2 ∨ leAt r 8 8 ≠ step then some stBADFIELD
  else if ¬ recBinds r then some stBINDING
  else if s.team c ≠ tmOFF ∧ (leAt r 4 4 ≠ (s.tmAt c).vals.jobId ∨ leAt r 64 8 ≠ s.get (TM_SHAPEF.digest c)) then
    some stBINDING
  else none

/-- A bind ends with a status (R387). -/
def State.bindEnd (s : State) (c status : Nat) : State := (s.set (DR_BIND.status c) status).set (DR_BIND.go c) 0

/-- A bind that has no memory work left (R387, R388): the record is checked; every banked region is copied where the
named bank is not the active one; then the context holds the step. -/
def State.bindStage (s : State) (j : Job) (c : Nat) : State × Option Job :=
  if j.stage = 0 then
    match s.bindBad c j.buf (j.acc.getD 0 0) with
    | some st => ((s.bindEnd c st).delJob j.id, none)
    | none =>
      let k := j.sel
      let a := s.active c
      let rs := (List.range 64).filter fun r => (s.rgn r).valid && (s.rgn r).banked && (s.rgn r).ctx == c
      (s, some { j with stage := 1, segs := if k = a then [] else rs.map fun r => .bankCopy r k a })
  else
    (((s.bindTo c j.buf).set (DR_STAT.prev_intact c) 0).bindEnd c stOK |>.delJob j.id, none)

/-- Whether a rebuild has fetched and written every stripe (R383). -/
def State.rebuilt (s : State) (c : Nat) (id : Nat) : Bool :=
  !(s.fab.outs.any fun o => o.job == id) && !(s.jobs.any fun j => j.owner == .rebuild c && j.id ≠ id)

/-- A rebuild's work that has no memory work left: a written stripe is counted; the fetcher ends DONE with the last
(R383). -/
def State.rebuildStage (s : State) (j : Job) (c : Nat) : State × Option Job :=
  if j.stage = 1 then ((s.wrapInc (TM_REB_PROG.stripes c) 1).delJob j.id, none)
  else if s.rebuilt c j.id then
    (((s.set (TM_REB_STAT.state c) 2).set (TM_REB_CTL.start c) 0).delJob j.id, none)
  else (s, some { j with hold := .fabric })

end Sys2Proof.Machine
end

