-- ==== Sys2Proof/Machine/Engine.lean ====
section
/-! DEFINITION. The driver of running work: what holds a unit back (R68, R81, R324), which granules it still needs,
when it runs, what happens when its reads fail (R76, R77), and what ends it. -/

namespace Sys2Proof.Machine

/-- The commands whose reads of a banked region stay bound to the bank they started with (R324). -/
def boundOps : List Nat := [opREGIONCOPY, opSTABLELOAD, opCOLLECTIVE, opNORM, opGET, opPUT, opDRAIN, opEXPORT]

/-- What has gone out of the block to other devices and to storage: a stopped piece of work adds nothing to it (R144). -/
def State.traffic (s : State) : Nat × Nat × Nat := (s.fab.txq.length, s.fab.nextTag, s.rec_.drns.length)

/-- Whether work still has to copy a whole bank of a region (R69). -/
def Job.copiesBank (j : Job) (r k : Nat) : Bool :=
  j.ending.isNone && j.segs.any fun g => match g with
    | .bankCopy r' _ k' => r' == r && k' == k
    | _ => false

/-- Whether two spans meet in a row. -/
def State.rowsMeet (s : State) (a b : Span) : Bool :=
  a.r == b.r && a.k == b.k && a.sc == b.sc && (rowsOf (s.pieces a)).any fun x => (rowsOf (s.pieces b)).contains x

/-- How many units a segment has, over every chapter's units. -/
def State.unitsAll (s : State) (j : Job) (g : Seg) : Nat :=
  match g with
  | .putReqs | .getReqs => s.unitsFab j
  | .rebuild | .decodeFor | .recordRead | .drnDump _ _ _ _ _ _ | .drnPut _ _ | .drnGet _ _ | .drnLoad _ _ _ _ _ _ =>
    s.unitsRec j g
  | .update | .precond _ => s.unitsUpd j g
  | .tile _ | .tileB _ | .tileW _ | .norm _ => s.unitsGs j g
  | .scrub => j.arg 40 8
  | g => s.units j g

/-- What a unit reads and writes, over every chapter's units. -/
def State.planAll (s : State) (j : Job) (g : Seg) (u : Nat) : Plan :=
  match g with
  | .putReqs | .getReqs => s.planFab j u
  | .rebuild | .decodeFor | .recordRead | .drnDump _ _ _ _ _ _ | .drnPut _ _ | .drnGet _ _ | .drnLoad _ _ _ _ _ _ =>
    s.planRec j g u
  | .update | .precond _ => s.planUpd j g u
  | .tile _ | .tileB _ | .tileW _ | .norm _ => s.planGs j g u
  | .scrub => s.planScrub j u
  | g => s.plan j g u

/-- A unit done, over every chapter's units. -/
def State.exeAll (s : State) (j : Job) (g : Seg) (u : Nat) : State × Job :=
  match g with
  | .putReqs | .getReqs => s.exeFab j u
  | .rebuild | .decodeFor | .recordRead | .drnDump _ _ _ _ _ _ | .drnPut _ _ | .drnGet _ _ | .drnLoad _ _ _ _ _ _ =>
    s.exeRec j g u
  | .update | .precond _ => s.exeUpd j g u
  | .tile _ | .tileB _ | .tileW _ | .norm _ => s.exeGs j g u
  | .scrub => s.exeScrub j u
  | g => s.exe j g u

/-- The spans that a running piece of work has still to read. -/
def State.toRead (s : State) (j : Job) : List Span :=
  let all := fun (g : Seg) (from_ : Nat) =>
    (List.range (s.unitsAll j g - from_)).flatMap fun u => (s.planAll j g (from_ + u)).reads
  match j.segs with
  | [] => []
  | g :: t => all g (j.unit + b2n j.exed) ++ t.flatMap fun h => all h 0

/-- Whether two spans meet in an element block. -/
def State.blocksMeet (s : State) (a b : Span) : Bool :=
  let w := (s.rgn a.r).area a.sc
  a.r == b.r && a.k == b.k && a.sc == b.sc && a.n ≠ 0 && b.n ≠ 0
    && a.lo / w < cdiv (b.lo + b.n) w && b.lo / w < cdiv (a.lo + a.n) w

/-- Whether a write to a bank must wait: for reads accepted before the halt (R68), for a command that has still
to read that block in the bank it started with (R324), or for the whole copy that precedes the interval's writes (R69). -/
def State.bankWaits (s : State) (j : Job) (p : Span) : Bool :=
  (s.rgn p.r).banked &&
    (s.jobs.any (fun x => x.id ≠ j.id && x.copiesBank p.r p.k) || (s.mem.reqs.any fun e => e.2.pre && e.2.region == p.r && e.2.bank == p.k)
      || s.jobs.any fun x => x.id ≠ j.id && boundOps.contains x.opcode && x.sel ≠ s.active x.ctx && x.sel == p.k
            && x.refs.contains p.r && x.ending.isNone
            && (x.isGs || (s.toRead x).any fun q => s.blocksMeet q p))

/-- Whether the reads and writes of a row belong together: an inner-coded row (R81), one whose changes form deltas (R275),
and one of a parity share or stable parity region (R281). -/
def State.rowGuarded (s : State) (r : Nat) : Bool :=
  (s.rgn r).inner || s.forms r || (s.rgn r).kind == 7 || s.isSpar r

/-- Whether a granule of a stack holds bytes of a row's block. -/
def Rgn.rowHolds (g : Rgn) (k : Nat) (sc : Bool) (row granule : Nat) : Bool :=
  let a := g.start k sc + row * g.area sc
  granule * 256 < a + g.area sc && a < granule * 256 + 256

/-- Whether another piece of work has requests out for such a row that this one would write: never interleaved
(DEDUCED, notes/assumptions/22.md). -/
def State.rowBusy (s : State) (j : Job) (p : Span) : Bool :=
  s.rowGuarded p.r && s.jobs.any fun x => x.id ≠ j.id && 0 < x.out &&
    (s.mem.reqs.any (fun e => e.2.job == x.id && e.2.write && e.2.region == p.r && e.2.bank == p.k
        && (rowsOf (s.pieces p)).any fun row => (s.rgn p.r).rowHolds p.k p.sc row e.2.granule)
      || (!x.exed && x.ending.isNone && match x.segs with
          | [] => false
          | g :: _ => (s.planAll x g x.unit).writes.any fun w => s.rowsMeet w.1 p))

/-- What a planned unit needs before it runs. -/
def State.needPlan (s : State) (j : Job) (p : Plan) : Need :=
  let n := p.reads.foldl (fun n q => n.add (s.needRead j q)) { wait := p.wait, lost := p.lost : Need }
  let n := p.subs.foldl (fun n q => n.add (s.needSub j q.1 q.2)) n
  p.writes.foldl (fun n w =>
    (n.add (s.needStep j w.1 w.2)).add { wait := s.bankWaits j w.1 || s.rowBusy j w.1 }) n

/-- The span of a plan under which a granule is read: the first one (for the region and bank of the request). -/
def Plan.span (p : Plan) : Span :=
  match p.reads, p.writes with
  | a :: _, _ => a
  | [], (b, _) :: _ => b
  | [], [] => ⟨64, 0, false, 0, 0⟩

/-- Whether every port has room for a unit's requests (R501). -/
def State.portsFree (s : State) : Bool := s.mem.reqs.length < 3900

/-- The lost bit of every region a plan touches where a granule is lost (R76, R77). -/
def State.losePlan (s : State) (j : Job) (p : Plan) : State :=
  let s := if p.lost then s.lose (j.arg 24 1 % 64) else s
  let s := p.reads.foldl (fun s q => if (s.needRead j q).lost then s.lose q.r else s) s
  let s := p.subs.foldl (fun s q => if (s.needSub j q.1 q.2).lost then s.lose q.1.r else s) s
  p.writes.foldl (fun s w => if (s.needStep j w.1 w.2).lost then s.lose w.1.r else s) s

/-- Every region of a plan of which a read is served by reconstruction (R75). -/
def State.markPlan (s : State) (j : Job) (p : Plan) : State :=
  let m := fun (t : State) (r : Nat) (n : Need) => if n.degraded then t.markDegraded r else t
  let t := p.reads.foldl (fun t q => m t q.r (s.needRead j q)) s
  let t := p.subs.foldl (fun t q => m t q.1.r (s.needSub j q.1 q.2)) t
  p.writes.foldl (fun t w => m t w.1.r (s.needStep j w.1 w.2)) t

/-- A piece of work whose reads or writes have failed (R76, R77, R281, R292). -/
def State.failJob (s : State) (j : Job) (status : Nat) : State :=
  match j.owner with
  | .cmd c _ _ =>
    if j.opcode = opSTEPEND then (s.setJob { j with segs := [], hold := .vote }).failInterval c status
    else s.endCmd j status
  | .delta m => (s.dropReq j m status).failInterval m.ctx status
  | .fetch m => s.dropReq j m status
  | .serve m => s.dropReq j m status
  | .inbound ids =>
    (ids.foldl (fun s id =>
      match s.fab.reqs.find? fun r => r.id == id with
      | some r => (s.drop r.msg status).freeReq id
      | none => s) s).delJob j.id
  | .bind c => (s.bindEnd c status).delJob j.id
  | .rebuild c => (s.rebuildFail c status).delJob j.id
  | _ => s.delJob j.id

/-- The stripe under way of an audit skipped (R296). -/
def Job.skipStripe (j : Job) : Job := { j.bump 2 1 with unit := j.unit + 1, exed := false, got := [], bad := [], frags := [], hold := .run }

/-- Whether the work at hand is an audit's. -/
def Seg.isAudit : Seg → Bool
  | .audit _ _ _ => true
  | _ => false

/-- Whether the work at hand is a decode's. -/
def Seg.isDecode : Seg → Bool
  | .decodeFor => true
  | _ => false

/-- Whether a unit of background work issues fabric or DRN requests, or holds the yoke, beside its memory (R143). -/
def Seg.charged : Seg → Bool
  | .audit _ _ _ | .drnDump _ _ _ _ _ _ | .drnPut _ _ | .drnGet _ _ | .drnLoad _ _ _ _ _ _ | .precond _ => true
  | _ => false

/-- A decode whose own fragment cannot be read goes on without it (R290). -/
def State.eraseOwn (s : State) (j : Job) : Job :=
  match j.delta with
  | some m => { j with slots := setAdd j.slots (s.ownPos m.ctx m.stripe), got := [], bad := [] }
  | none => j

/-- The done notices of every other member of a slot's coding are held (R287). -/
def State.allDone (s : State) (c slot : Nat) : Bool :=
  let v := (s.tmAt c).vals
  v.presentList.all fun i => i == v.index || (s.stbAt slot).done.contains (16 * c + i)

/-- A stable notice to every other present member (R287). -/
def State.stbNotice (s : State) (j : Job) (slot typ : Nat) : State :=
  let c := j.ctx
  let v := (s.tmAt c).vals
  (v.presentList.filter fun i => i ≠ v.index).foldl (fun s i =>
    (s.chargeFor j.cls c).send (s.frag c typ i 0 ((1 + slot) * 2 ^ 43) 0 false [])) s

/-- Whether a piece of work still has requests to other devices outstanding. -/
def State.waitsFabric (s : State) (j : Job) : Bool := s.fab.outs.any fun o => o.job == j.id

/-- One stage of a slot's coding (R287 steps 2 to 5), from a stage that counts them: the next state and whether the
coding is complete. -/
def State.codeStage (s : State) (j : Job) (slot : Nat) : State × Job × Bool :=
  let c := j.ctx
  let pf := s.get (TM_STB.pfrags slot)
  match j.stage with
  | 1 => (s, { j with stage := 2,
                      segs := [.zero (s.get (TM_CFG.spar c)) 0 (s.get (TM_STB.offset slot) * 4096) (4096 * pf)] }, false)
  | 2 => (s.stbNotice j slot 0x16, { j with stage := 3, segs := [.codeSlot slot] }, false)
  | 3 =>
    if s.waitsFabric j then (s, { j with hold := .coding }, false)
    else (s.stbNotice j slot 0x17, { j with stage := 4, hold := .coding }, false)
  | _ => (s, { j with hold := .coding }, s.allDone c slot)

/-- Stack memory held by an image on this device, parities included (GL_STB_BYTES): its regions on the 20 stacks and
its parity fragments. -/
def State.slotBytes (s : State) (slot : Nat) : Nat :=
  ((s.slotRgns slot).map fun r => 20 * (s.rgn r).bankBytes).sum + 4096 * s.get (TM_STB.pfrags slot)

/-- A slot becomes RESIDENT (R83). -/
def State.slotResident (s : State) (slot : Nat) : State :=
  (s.set (GL_STB_SLOT.state slot) sbRESIDENT).set (GL_STB_BYTES.bytes slot) (s.slotBytes slot)

/-- A region of a slot is team-coded. -/
def State.slotCoded (s : State) (slot : Nat) : Bool := (s.slotRgns slot).any fun r => (s.rgn r).team

/-- What a STABLE_LOAD does when its memory work is done (R83, R287). -/
def State.loadStage (s : State) (j : Job) : State × Option Job :=
  let slot := j.arg 24 1 % 16
  if j.stage = 0 then
    let s := s.set (GL_STB_SLOT.state slot) sbCODING
    if s.slotCoded slot then (s, some { j with stage := 1 })
    else ((s.slotResident slot).finishCmd j, none)
  else
    let (s, j, fin) := s.codeStage j slot
    if fin then ((((s.slotResident slot).set (TM_STB.coded slot) 1).setStb slot {}).finishCmd j, none) else (s, some j)

/-- A PARITY_AUDIT's completion (R298). -/
def State.auditEnd (s : State) (j : Job) : State :=
  let a := fun i => j.acc.getD i 0
  if a 1 = 0 then
    s.complete j (if j.degraded then stOKDEGRADED else stOK)
      (Nat.min (2 ^ 32 - 1) (a 0) + Nat.min 0xFFFF (a 2) * 2 ^ 32) 0
  else
    let low := a 4
    let s := s.set (TM_AUD.last_member j.ctx) low
    let s := if low < 0x10 then s.observe ((s.tmAt j.ctx).vals.dev low) 5 else s
    s.complete j stAUDITMISMATCH (low + Nat.min 255 (a 1) * 256 + (a 3 - 1) * 2 ^ 16) 0

/-- A PUT or GET whose requests are all issued: it completes when none is outstanding (R358). -/
def State.copyEnd (s : State) (j : Job) : State × Option Job :=
  if s.waitsFabric j then (s, some { j with hold := .fabric })
  else (s.finishCmd { j with value := j.arg 48 5 }, none)

/-- Rows of a mend list with one row taken out (R81). -/
def unlist (l : List MendEnt) (r row : Nat) : List MendEnt :=
  l.flatMap fun e =>
    if e.region == r && e.first ≤ row && row < e.first + e.count then
      (if e.first < row then [{ e with count := row - e.first }] else [])
        ++ (if row + 1 < e.first + e.count then [⟨r, row + 1, e.first + e.count - row - 1⟩] else [])
    else [e]

/-- A row mended: off the list; the channel is ONLINE once its list is empty (R73, R81). -/
def State.mended (s : State) (n j r row : Nat) : State :=
  let k := chKey n j
  let l := Tbl.at s.mem.mend [] k
  let l' := unlist l r row
  let s := s.setMem { s.mem with mend := Tbl.put s.mem.mend [] k l' }
  let s := s.set (SL_MEND.mend_used n) (s.get (SL_MEND.mend_used n) + l'.length - l.length)
  if l' = [] ∧ ¬ s.mem.mendFull.contains k ∧ s.chan n j = chMENDING then
    (s.setChan n j chONLINE).emit (.dirty n j false)
  else s

/-- One granule update of a PUT_DATA is accepted (R357, R362): the message is acknowledged with its last. -/
def State.partDone (s : State) (id : Nat) : State :=
  match s.fab.reqs.find? fun r => r.id == id with
  | some r =>
    if r.todo = [] ∧ r.open_ ≤ 1 then (s.send (s.reply r.msg 0x02 [])).freeReq id
    else s.setFab { s.fab with reqs := s.fab.reqs.map fun x => if x.id == id then { x with open_ := x.open_ - 1 } else x }
  | none => s

/-- Whether an earlier message of the same source and context that meets a condition still stands in the REQ buffer
(R342). -/
def earlierReq (l : List InReq) (q : InReq) (f : Nat → Bool) : Bool :=
  l.any fun r => r.id < q.id && r.msg.src == q.msg.src && r.msg.ctx == q.msg.ctx && f r.msg.typ

/-- A queued delta judged (R280, R283): one of the next step waits while a halt is armed; one that R279 or R280 refuses is
answered with a drop, which R280's count counts; any other is applied (R281). -/
def State.serveDelta (s : State) (q : InReq) : State :=
  let c := q.msg.ctx
  if s.teamMsgOk q.msg ∧ s.deltaEarly q.msg then s
  else if ¬ s.teamMsgOk q.msg then (s.drop q.msg stREMOTEDROPPED).freeReq q.id
  else if s.deltaBad q.msg then ((s.drop q.msg stREMOTEDROPPED).freeReq q.id).satInc (TM_HSTAT.dropped c) 1
  else
    let s := s.setFab { s.fab with reqs := s.fab.reqs.map fun x => if x.id == q.id then { x with busy := true } else x }
    s.addJob { id := 0, owner := .delta q.msg, ctx := c, segs := [.apply], acc := [q.id] }

/-- A queued GET_REQ or GEN_NOTICE served once every earlier ordered message it waits for is dealt with (R342, R357,
R363): a GET_REQ waits for PUT_DATA writes and notices, a notice for every ordered message. -/
def State.serveReq (s : State) (q : InReq) : State :=
  if q.busy then s
  else if q.msg.typ = 0x03 ∧ ¬ earlierReq s.fab.reqs q (fun t => t == 0x01 || t == 0x05) then
    let s := s.setFab { s.fab with reqs := s.fab.reqs.map fun x => if x.id == q.id then { x with busy := true } else x }
    s.addJob { id := 0, owner := .serve q.msg, ctx := q.msg.ctx, segs := [.answerGet], acc := [q.id],
               sel := s.active q.msg.ctx }
  else if q.msg.typ = 0x05 ∧ ¬ earlierReq s.fab.reqs q msgOrdered then
    (s.send (s.reply q.msg 0x06 (padTo 4 (q.msg.body.take 2)))).freeReq q.id
  else if q.msg.typ = 0x10 then s.serveDelta q
  else s

/-- A dissolve that waited for the halt or abort of a voted STEP_END (R299). -/
def State.settleDissolve (s : State) (c : Nat) : State :=
  if (s.tmAt c).dissolvePend ∧ (s.cmAt c).own.isNone ∧ s.phase c ≠ phARMED ∧ (s.cmAt c).abortPend.isNone then s.dissolve c
  else s

/-- Every queued request that can be served. -/
def State.serveReqs (s : State) : State := s.fab.reqs.foldl (fun s q => s.serveReq q) s

/-- What a piece of work does when it has no memory work left: it ends, goes on to a next stage, or waits. -/
def State.finish (s : State) (j : Job) : State × Option Job :=
  match j.owner with
  | .cmd _ _ _ =>
    if j.opcode = opSTABLELOAD then s.loadStage j
    else if j.opcode = opSTEPEND then
      (s, some (if j.hold == .vote then j else { j with hold := .prepare }))
    else if j.opcode = opUPDATE then (s.finishCmd { j with value := j.updValue }, none)
    else if j.opcode = opPRECOND then (s.refreshEnd j, none)
    else if j.opcode = opAUDIT then (s.auditEnd j, none)
    else if j.isGs then s.gsStage j
    else if j.opcode = opSCRUB then (s.finishCmd { j with value := j.scrubValue }, none)
    else if j.opcode = opPUT ∨ j.opcode = opGET then s.copyEnd j
    else if j.opcode = opDRAIN ∨ j.opcode = opEXPORT then s.drainStage j
    else if j.opcode = opIMPORT then s.importStage j
    else if j.opcode = opJOBLOAD then s.jobStage j
    else if j.opcode = opSTABLEEVICT then
      if s.get (GL_STB_SLOT.state (j.arg 24 1 % 16)) = sbEMPTY then (s.finishCmd j, none)
      else (s, some { j with hold := .evict })
    else if j.hold == .run then (s.finishCmd j, none)
    else (s, some j)
  | .delta m =>
    let s := j.acc.foldl (fun s id => s.freeReq id) s
    let s := (s.send (s.fragReply m 0x11 m.bit2 m.step [])).wrapInc (TM_HSTAT.applied m.ctx) 1
    (s.delJob j.id, none)
  | .fetch _ => ((j.acc.foldl (fun s id => s.freeReq id) s).delJob j.id, none)
  | .serve _ => ((j.acc.foldl (fun s id => s.freeReq id) s).delJob j.id, none)
  | .inbound ids => ((ids.foldl (fun s id => s.partDone id) s).delJob j.id, none)
  | .getData => (s.delJob j.id, none)
  | .mend n c r row => ((s.mended n c r row).delJob j.id, none)
  | .recode slot =>
    let (s, j, fin) := s.codeStage j slot
    if fin then (((s.set (TM_STB.stale slot) 0).setStb slot {}).delJob j.id, none) else (s, some j)
  | .bind c => s.bindStage j c
  | .rebuild c => s.rebuildStage j c

/-- Whether the fragments that a piece of work holds are deltas on their way (R275), not those of an audit. -/
def Job.formsDeltas (j : Job) : Bool := j.isCommand && j.opcode ≠ opAUDIT

/-- A piece of work that was ended early and whose last request has been acknowledged (R123, R534). A command of a
WEDGED context posts no result and keeps what it holds until a purge (R129, R370). -/
def State.ended (s : State) (j : Job) (st : Nat × Option Nat) : State :=
  match j.owner with
  | .cmd c _ _ =>
    if s.ctxState c = ctxWEDGED then s.setJob j
    else
      match st.2 with
      | some v => s.complete j st.1 v (if j.opcode = opSTEPEND then 0 else j.offFlag st.1)
      | none => s.complete j st.1 (s.endValue j st.1) (j.offFlag st.1)
  | .delta m => (s.dropReq j m st.1).satInc (TM_HSTAT.dropped m.ctx) (if st.1 = stREMOTEDROPPED ∧ s.teamMsgOk m then 1 else 0)
  | .fetch m => s.dropReq j m st.1
  | .serve m => s.dropReq j m st.1
  | _ => s.delJob j.id

/-- Whether the work at hand is the requests of a bulk copy. -/
def Seg.isReqs : Seg → Bool
  | .putReqs | .getReqs => true
  | _ => false

/-- A running piece of work carried on as far as it goes without another event. What it has read is read again when it
had to wait before it could use it: another piece of work may have written there
(DESIGN CHOICE, notes/assumptions/11.md). A request of a bulk copy waits for its engine's turn, `turn` (R355). -/
def runJob : Nat → Bool → State → Job → State
  | 0, _, s, j => s.setJob j
  | f + 1, turn, s, j =>
    if j.out ≠ 0 then s.setJob j
    else
      match j.ending with
      | some st => s.ended j st
      | none =>
        match j.segs with
        | [] =>
          match (if j.formsDeltas ∧ s.inPass j.ctx then j.frags else []) with
          | (fr, d) :: _ =>
            if s.stopped j ∨ s.bufferFull j.ctx fr then s.setJob j
            else
              let (s, j) := s.flushDelta j fr d
              runJob f turn s j
          | [] =>
            let r := s.finish { j with frags := [] }
            if s.stopped j ∧ r.1.traffic ≠ s.traffic then s.setJob j
            else
              match r with
              | (s, none) => s
              | (s, some j') => if j'.segs = [] ∧ j'.stage = j.stage ∧ j'.ending.isNone then s.setJob j' else runJob f turn s j'
        | g :: rest =>
          if j.hold ≠ .run ∨ (j.exed ∧ s.stopped j) then s.setJob j
          else if s.stopped j then s.setJob { j with got := [] }
          else if j.exed then
            runJob f turn s { j.reached j.adv with unit := j.unit + 1, exed := false, adv := 0, got := [], bad := [] }
          else if s.unitsAll j g ≤ j.unit then runJob f turn s { j with segs := rest, unit := 0 }
          else
            let p := s.planAll j g j.unit
            let n := s.needPlan j p
            if n.lost then
              let s := s.losePlan j p
              if g.isAudit then runJob f turn s j.skipStripe
              else if g.isDecode then runJob f turn s (s.eraseOwn j)
              else s.failJob j stMEMLOST
            else if n.wait ∨ ¬ s.portsFree then s.setJob { j with got := [] }
            else if n.miss ≠ [] then
              let s := n.miss.foldl (fun s k => s.issueRead j p.span k) s
              let s := if n.degraded then s.markPlan j p else s
              s.setJob { j with out := n.miss.length, degraded := j.degraded || n.degraded }
            else if g.isReqs ∧ 1 ≤ j.unit ∧ ¬ turn then s.setJob j
            else
              let s := if g.charged then s.chargeFor j.cls j.ctx else s
              let adv := s.advanceBy j g j.unit + advanceRec g j.unit + s.advanceUpd j g j.unit
              let (s, j) := s.exeAll j g j.unit
              runJob f false s { j with exed := true, adv := adv, readDone := j.readDone + (p.reads.map fun q => q.n).sum }

/-- The fuel of a run: enough for every unit that needs no memory, and the stages. -/
def State.fuel (s : State) (j : Job) : Nat :=
  3 * ((j.segs.map fun g => s.unitsAll j g + 1).sum + 30) + s.jobs.length + 40 * j.gs.tiles.length

/-- The place of a piece of work in the orders of R14, for whatever resource its next unit needs: a recovery's decode
whose fragments are in goes first on the yoke; commit-path work, deltas applied at a holder and recovery work follow at
the memory ports and coding units; then audits, other background work, and the one-time coding of stable images. -/
def Job.grant (j : Job) : Nat :=
  let coding := (j.opcode == opSTABLELOAD && j.isCommand && 1 ≤ j.stage)
  match j.owner with
  | .fetch m =>
    if m.rcv then (if j.out = 0 ∧ (j.segs.headD .apply).isDecode then 0 else 3) else 4
  | .rebuild _ => if j.out = 0 ∧ (j.segs.headD .apply).isDecode then 0 else 3
  | .bind _ => 3
  | .delta _ => 2
  | .recode _ => 6
  | _ => if 1 ≤ j.cls then 1 else if coding then 6 else if j.opcode = opAUDIT then 4 else 5

/-- The running pieces of work in the order of their grants, the oldest first within one rank (R14, R15). -/
def State.grantOrder (s : State) : List Nat :=
  (List.range 7).flatMap fun g => (s.jobs.filter fun j => j.grant == g).map (·.id)

/-- Pieces of work carried on, one after another: each stops where it waits for memory or another party, which is the
boundary of R15, and none is abandoned. -/
def kickIds : List Nat → State → State
  | [], s => s
  | id :: t, s =>
    match s.job id with
    | some j => kickIds t (runJob (s.fuel j) false s j)
    | none => kickIds t s

/-- Whether a descriptor could issue its next request now: the bytes it sends are at hand, and its engine has a place
(R355, R356). -/
def State.canIssue (s : State) (j : Job) : Bool :=
  match j.segs with
  | g :: _ =>
    g.isReqs && 1 ≤ j.unit && j.out == 0 && !j.exed && j.ending.isNone && j.hold == .run && !s.stopped j
      && j.unit < s.unitsAll j g &&
        (let n := s.needPlan j (s.planAll j g j.unit)
         !n.wait && !n.lost && n.miss == [])
  | [] => false

/-- One turn of an engine (R355): the descriptor after the one served last, in rising order and around, issues one
request. -/
def State.engineTurn (s : State) (e : Nat) : State :=
  let l := s.jobs.filter fun j => j.isCommand && j.engine == e && s.canIssue j
  match (l.filter fun j => Tbl.at s.fab.turns 0 e < j.id) ++ l with
  | j :: _ => runJob (s.fuel j) true (s.setFab { s.fab with turns := Tbl.put s.fab.turns 0 e j.id }) j
  | [] => s

/-- The four engines' turns, round after round until no descriptor can issue: an engine has 512 places (R356). -/
def engineRounds : Nat → State → State
  | 0, s => s
  | n + 1, s =>
    if s.jobs.any fun j => j.isCommand && j.engine < 4 && s.canIssue j then
      engineRounds n ((List.range 4).foldl State.engineTurn s)
    else s

/-- Every running piece of work carried on, in the order of R14; bulk copies issue their requests last, in turn (R355). -/
def State.kick (s : State) : State := engineRounds 2048 (kickIds s.grantOrder s)

/-- Whether a pre-empting context of higher prio has a ready command at a start point (R124)
(DEDUCED, notes/assumptions/19.md). -/
def State.preempting (s : State) (c : Nat) : Bool :=
  (List.range 4).any fun d => s.get (GL_CTX_CFG.prio c) < s.get (GL_CTX_CFG.prio d) && s.is (GL_CTX_CFG.preempt d)
    && (List.range 16).any fun q => s.hasHead d q && s.waitsMet d (s.command (s.headKey d q))

/-- The time since which a context that pre-emption holds, or will hold after its halt, has had no pre-empting command
above it (R124, R126). -/
def State.syncPre (s : State) (c : Nat) : State :=
  let x := s.cxAt c
  if ¬ (x.preHeld ∨ x.deferPre) then s
  else if s.preempting c then s.setCx c { x with preIdle := none }
  else if x.preIdle.isNone then s.setCx c { x with preIdle := some s.now }
  else s

/-- Whether a region's range on a stack holds a granule of a channel. -/
def State.holdsChan (s : State) (g : Rgn) (j : Nat) : Bool :=
  s.nch ≤ g.extent / 256 || (List.range (g.extent / 256)).any fun i => (g.base / 256 + i) % s.nch == j

/-- Whether some granule in an inner-coded region's range is erased under R74, or a poison entry names the region. -/
def State.anyErased (s : State) (r : Nat) : Bool :=
  let g := s.rgn r
  s.integ.poison.any (fun p => p.region == r) || (List.range 20).any fun x =>
    s.is (SL_MEND.port_down x) || (List.range s.nch).any fun j =>
      ((s.chan x j == chOUT || s.chan x j == chFAILED) && s.holdsChan g j)
        || (s.chan x j == chMENDING && ((s.mem.mendFull.contains (chKey x j) && s.holdsChan g j)
              || (Tbl.at s.mem.mend [] (chKey x j)).any fun e => e.region == r))

/-- GL_RGN_STAT.degraded falls once no read of the region needs reconstruction. -/
def State.syncDegraded (s : State) : State :=
  (List.range 64).foldl (fun s r =>
    if s.is (GL_RGN_STAT.degraded r) ∧ ¬ s.anyErased r then s.set (GL_RGN_STAT.degraded r) 0 else s) s

/-- The end of a meaning that may unblock work: due aborts and no votes take place (R312, R534), running work goes on,
pre-emption's clock and the last condition's end are noted (R124, R480). -/
def State.after (s : State) : State :=
  let s := ((List.range 4).foldl (fun s c => s.settleDissolve c) s.settle).redoDoorbells.pumpAll.kick.serveReqs.kick.serveReqs.kick.settle
  ((List.range 4).foldl (fun s c => s.syncPre c) s).syncGs.settleColl.syncDegraded.emcyEnd

/-- The end of a meaning that may unblock work. -/
def fin (s : State) : Res := .next s.after

end Sys2Proof.Machine
end

