-- ==== Sys2Proof/Machine/Begin.lean ====
section
/-! DEFINITION. The start of a command (R101, R113, R144, R148, R531): when the command at a queue's start point may
start, the checks every command takes first, and what the opcodes' own checks are built from (R84, R103, R104). -/

namespace Sys2Proof.Machine

/-- The tick planner lets a command start (R139, R141, R144, R148). -/
def State.planned (s : State) (c : Nat) (b : List Byte) : Bool :=
  1 ≤ leAt b 19 1 % 4 || s.get (TK_CFG.enable c) == 0 ||
    (s.get (TK_ALLOW.allow c) ≠ 0 && (levelsOf (leAt b 0 1) b).all fun l => !s.saturated l)

/-- An activation waits, so a committing STEP_END is held at its start point (R495). -/
def State.heldByFirmware (s : State) (b : List Byte) : Bool :=
  s.fwHold && leAt b 0 1 == opSTEPEND && leAt b 24 1 % 2 == 1

/-- The command at the start point would start now, its waits apart (R113). -/
def State.mayStart (s : State) (c q : Nat) : Bool :=
  let b := s.command (s.headKey c q)
  s.hasHead c q && s.ctxState c == ctxRUN && s.orderMet c q b

/-- The command at the start point starts now (R101). -/
def State.starts (s : State) (c q : Nat) : Bool :=
  let b := s.command (s.headKey c q)
  s.mayStart c q && s.waitsMet c b && !s.depFailed c b && s.planned c b && !s.heldByFirmware b

/-- Checks 1 to 3 of R531. -/
def State.firstChecks (s : State) (j : Job) : List (Bool × Nat) :=
  let b := fun n => leAt j.entry n 1
  [ (!opcodes.contains j.opcode, stBADOPCODE),
    (b 1 / 4 ≠ 0 || b 16 / 32 % 4 ≠ 0 || b 17 / 32 % 4 ≠ 0 || b 18 / 32 % 4 ≠ 0 || b 19 / 4 ≠ 0 || b 19 % 4 == 3,
      stBADFIELD),
    (j.cls == 2 && (s.ent j.key).foreign, stCLASS) ]

/-- Whether any byte of a range of the command is not zero: reserved operand bytes (check 4 of R531). -/
def Job.nonzero (j : Job) (lo n : Nat) : Bool := j.arg lo n ≠ 0

/-- The command's memory bytes exceed its context's limit (R104). -/
def State.tooLarge (s : State) (j : Job) (bytes : Nat) : Bool :=
  s.get (GL_CTX_LIM.max_bytes j.ctx) ≠ 0 && s.get (GL_CTX_LIM.max_bytes j.ctx) < bytes

/-- A command names a region of a slot that is not RESIDENT (R84). -/
def State.badSlot (s : State) (r : Nat) : Bool :=
  let g := s.rgn r
  g.valid && g.kind == 9 && s.get (GL_STB_SLOT.state g.slot) ≠ sbRESIDENT

/-- An object id names no known tier (R393). -/
def badTier (obj : Nat) : Bool := 2 ≤ obj / 2 ^ 60

/-- A command that reads a region may: valid and owned by the context, or RESIDENT (R108, R237). -/
def State.readable (s : State) (c r : Nat) : Bool :=
  let g := s.rgn r
  (g.valid && g.kind ≠ 9 && g.ctx == c) || s.resident r

/-- The slots of the regions a command names. -/
def State.slotsOf (s : State) (rs : List Nat) : List Nat :=
  rs.foldl (fun l r => if (s.rgn r).valid ∧ (s.rgn r).kind = 9 then setAdd l (s.rgn r).slot else l) []

/-- The bank a command writes in a region: the inactive one where banked (R67). -/
def State.writeBank (s : State) (r : Nat) : Nat := if (s.rgn r).banked then 1 - s.active (s.rgn r).ctx else 0

/-- A first write of the interval that does not cover a banked region copies the whole bank first (R69). -/
def State.prologue (s : State) (r : Nat) (whole : Bool) : List Seg :=
  let g := s.rgn r
  let m := s.cmAt g.ctx
  if g.banked ∧ ¬ whole ∧ ¬ m.copied.contains r ∧ Tbl.at m.writeRegions [] (areaKey r false) = [] then
    [.bankCopy r (s.active g.ctx) (1 - s.active g.ctx)]
  else []

/-- A region noted as copied in the interval (R69). -/
def State.noteCopied (s : State) (r : Nat) : State :=
  let c := (s.rgn r).ctx
  s.setCm c { s.cmAt c with copied := setAdd (s.cmAt c).copied r }

/-- The start of the command at a start point (R531): DEP_FAILED, the first checks, then the opcode's own start. -/
def State.begin (s : State) (c q : Nat) (go : State → Job → State) : State :=
  let j := s.candidate c q
  if s.mayStart c q ∧ s.depFailed c j.entry then s.refuse j stDEPFAILED
  else if s.starts c q then s.startOr j (s.firstChecks j) (go s j)
  else s.syncBlocked c q

/-- The start of the command at a start point when its opcode is the row's. -/
def State.beginOp (s : State) (c q op : Nat) (go : State → Job → State) : State :=
  if s.hasHead c q ∧ (s.candidate c q).opcode = op then s.begin c q go else s

end Sys2Proof.Machine
end

