-- ==== Sys2Proof/Machine/QueueRows.lean ====
section
/-! DEFINITION. The commands of chapter 04: its opcodes (R106 to R110), doorbells, timeouts, slots and latches (R99,
R116 to R120), and the fast path (R114). -/

namespace Sys2Proof.Machine

/-- What refuses a command, in order: NOP's start (R106): it completes with OK once it starts. -/
def State.checkNop (_s : State) (j : Job) : List (Bool × Nat) :=
  [(j.nonzero 24 40, stBADFIELD)]

/-- What a command that is not refused does: NOP's start (R106): it completes with OK once it starts. -/
def State.runNop (s : State) (j : Job) : State :=
  s.instant j 0

/-- NOP's start (R106): it completes with OK once it starts. -/
def State.startNop (s : State) (j : Job) : State := s.startOr j (s.checkNop j) (s.runNop j)

/-- What refuses a command, in order: WAIT_HALL's start (R107): it runs until hall time reaches T, or completes at once when T has been reached. -/
def State.checkWaitHall (_s : State) (j : Job) : List (Bool × Nat) :=
  [(j.nonzero 32 32, stBADFIELD)]

/-- What a command that is not refused does: WAIT_HALL's start (R107): it runs until hall time reaches T, or completes at once when T has been reached. -/
def State.runWaitHall (s : State) (j : Job) : State :=
  if j.arg 24 8 ≤ s.now then s.instant j 0 else s.launch { j with hold := .hall (j.arg 24 8) }

/-- WAIT_HALL's start (R107): it runs until hall time reaches T, or completes at once when T has been reached. -/
def State.startWaitHall (s : State) (j : Job) : State := s.startOr j (s.checkWaitHall j) (s.runWaitHall j)

/-- The scale bytes of a K8 region that element blocks [lo, hi) take. -/
def scaleBytes (lo n : Nat) : Nat × Nat := (lo / 128 * 4, cdiv n 128 * 4)

/-- Whether the coverage list of a banked region's group is not empty (R187). -/
def State.covered (s : State) (r : Nat) : Bool :=
  let g := s.rgn r
  g.banked && (Tbl.at (s.cmAt g.ctx).cover [] g.group ≠ [] || Tbl.at (s.cmAt g.ctx).coverR [] g.group ≠ [])

/-- What refuses a command, in order: REGION_COPY's start (R108). -/
def State.checkRegionCopy (s : State) (j : Job) : List (Bool × Nat) :=
  let c := j.ctx
  let sr := j.arg 24 1 % 64
  let dr := j.arg 25 1 % 64
  let sf := j.arg 32 8
  let df := j.arg 40 8
  let n := j.arg 48 8
  let a := s.rgn sr
  let d := s.rgn dr
  let k8 := a.fmt == fmtK8
  let es := d.esize
  [ (64 ≤ j.arg 24 1 || 64 ≤ j.arg 25 1 || j.nonzero 26 6 || j.nonzero 56 8, stBADFIELD),
    (s.badSlot sr || (d.valid && d.kind == 9), stSTABLE),
    (!s.readable c sr || !(d.valid && d.ctx == c && [1, 2, 3, 4, 5, 8, 10].contains d.kind) || s.isSpar dr, stREGION),
    (a.fmt ≠ d.fmt || a.count < sf + n || d.count < df + n || s.covered dr
      || (k8 && (sf % 128 ≠ 0 || df % 128 ≠ 0 || (n % 128 ≠ 0 && !(sf + n == a.count && df + n == d.count)))),
      stBADFIELD),
    (s.tooLarge j (2 * n * es + if k8 then 8 * cdiv n 128 else 0), stTOOLARGE) ]

/-- What a command that is not refused does: REGION_COPY's start (R108). -/
def State.runRegionCopy (s : State) (j : Job) : State :=
  let sr := j.arg 24 1 % 64
  let dr := j.arg 25 1 % 64
  let sf := j.arg 32 8
  let df := j.arg 40 8
  let n := j.arg 48 8
  let a := s.rgn sr
  let d := s.rgn dr
  let k8 := a.fmt == fmtK8
  let es := d.esize
  let whole := df == 0 && n == d.count
  let segs :=
    (if n = 0 then [] else s.prologue dr whole)
      ++ [.copyBytes sr (s.readBank sr) false (sf * es) dr (s.writeBank dr) (df * es) (n * es)]
      ++ (if k8 then
            [.copyBytes sr (s.readBank sr) true (scaleBytes sf n).1 dr (s.writeBank dr) (scaleBytes df n).1
              (scaleBytes df n).2]
          else [])
  let s' := if n = 0 ∨ s.prologue dr whole = [] then s else s.noteCopied dr
  s'.launch { j with segs := segs, refs := [sr, dr], slots := s.slotsOf [sr], stage := s.get (CM_STAT.cseq j.ctx) }

/-- REGION_COPY's start (R108). -/
def State.startRegionCopy (s : State) (j : Job) : State := s.startOr j (s.checkRegionCopy j) (s.runRegionCopy j)

/-- The copies that place a source's bytes into a slot's regions, in ascending region number (R109). -/
def State.slotCopies (s : State) (src sb : Nat) : List Nat → Nat → List Seg
  | [], _ => []
  | r :: t, off =>
    let n := (s.rgn r).bytes false
    .copyBytes src sb false off r 0 0 n :: s.slotCopies src sb t (off + n)

/-- The parity fragments of a slot under a context's team (R286). -/
def State.pfragsOf (s : State) (c slot : Nat) : Nat :=
  let v := (s.tmAt c).vals
  cdiv (s.imageSize (s.slotRgns slot)) (4096 * v.k) * v.r

/-- A slot's parity range in the stable parity region (R286): first byte and end. -/
def State.parityRange (s : State) (c slot : Nat) : Nat × Nat :=
  let o := s.get (TM_STB.offset slot) * 4096
  (o, o + 4096 * s.pfragsOf c slot)

/-- The reads that place a storage object's bytes into a slot's regions, in ascending region number (R109, R393). -/
def State.slotReads (s : State) : List Nat → Nat → List Seg
  | [], _ => []
  | r :: t, off =>
    let n := (s.rgn r).bytes false
    .drnLoad r 0 false 0 n off :: s.slotReads t (off + n)

/-- Whether a slot holds team parity of a context, or is forming it (R285, R287). -/
def State.slotParity (s : State) (c m : Nat) : Bool :=
  s.get (TM_STB.pfrags m) ≠ 0 && s.get (TM_STB.ctx m) == c
    && (s.is (TM_STB.coded m) || s.get (GL_STB_SLOT.state m) == sbCODING)

/-- R285: why a STABLE_LOAD of a slot is refused, beyond R109's own checks. -/
def State.slotTeamBad (s : State) (c slot : Nat) : Bool :=
  let rs := s.slotRgns slot
  let coded := rs.any fun r => (s.rgn r).team
  let p := s.parityRange c slot
  let sp := s.rgn (s.get (TM_CFG.spar c))
  rs.any (fun r => (s.rgn r).team ≠ coded) ||
    (coded && (s.team c ≠ tmPROTECTED || !(s.tmAt c).vals.sparEn
      || !(sp.valid && sp.kind == 10 && sp.ctx == c) || sp.count < p.2
      || (List.range 16).any fun m => m ≠ slot && s.slotParity c m &&
          (let q := s.get (TM_STB.offset m) * 4096
           p.1 < q + 4096 * s.get (TM_STB.pfrags m) && q < p.2)))

/-- What refuses a command, in order: STABLE_LOAD's start (R109): the slot enters LOADING; a DRN source is read object part by object part. -/
def State.checkStableLoad (s : State) (j : Job) : List (Bool × Nat) :=
  let c := j.ctx
  let slot := j.arg 24 1 % 16
  let kind := j.arg 32 1
  let src := j.arg 33 1 % 64
  let len := j.arg 48 8
  let rs := s.slotRgns slot
  [ (16 ≤ j.arg 24 1 || j.nonzero 25 3 || 2 ≤ kind || 64 ≤ j.arg 33 1 || j.nonzero 34 6 || j.nonzero 56 8
      || (kind == 1 && badTier (j.arg 40 8)), stBADFIELD),
    (s.get (GL_STB_SLOT.state slot) ≠ sbEMPTY || (kind == 0 && s.badSlot src), stSTABLE),
    (kind == 0 && !s.readable c src, stREGION),
    (len ≠ (rs.map fun r => (s.rgn r).bytes false).sum || s.slotTeamBad c slot
      || (kind == 0 && (s.rgn src).bytes false < j.arg 40 8 + len), stBADFIELD),
    (s.tooLarge j (if kind = 0 then 2 * len else len), stTOOLARGE) ]

/-- What a command that is not refused does: STABLE_LOAD's start (R109): the slot enters LOADING; a DRN source is read object part by object part. -/
def State.runStableLoad (s : State) (j : Job) : State :=
  let c := j.ctx
  let slot := j.arg 24 1 % 16
  let kind := j.arg 32 1
  let src := j.arg 33 1 % 64
  let rs := s.slotRgns slot
  let coded := s.slotCoded slot
  let s := (s.set (GL_STB_SLOT.state slot) sbLOADING).set (GL_STB_SLOT.tag slot) (j.arg 28 4)
  let s := if coded then (s.set (TM_STB.pfrags slot) (s.pfragsOf c slot)).set (TM_STB.ctx slot) c
    else s
  s.launch { j with
    segs := if kind = 0 then s.slotCopies src (s.readBank src) rs (j.arg 40 8) else s.slotReads rs 0,
    refs := rs ++ if kind = 0 then [src] else [], slots := if kind = 0 then s.slotsOf [src] else [] }

/-- STABLE_LOAD's start (R109): the slot enters LOADING; a DRN source is read object part by object part. -/
def State.startStableLoad (s : State) (j : Job) : State := s.startOr j (s.checkStableLoad j) (s.runStableLoad j)

/-- What refuses a command, in order: STABLE_EVICT's start (R110). -/
def State.checkStableEvict (s : State) (j : Job) : List (Bool × Nat) :=
  let slot := j.arg 24 1 % 16
  let st := s.get (GL_STB_SLOT.state slot)
  [ (16 ≤ j.arg 24 1 || j.nonzero 25 39, stBADFIELD),
    (!(st == sbEMPTY || st == sbRESIDENT), stSTABLE) ]

/-- What a command that is not refused does: STABLE_EVICT's start (R110). -/
def State.runStableEvict (s : State) (j : Job) : State :=
  let slot := j.arg 24 1 % 16
  let st := s.get (GL_STB_SLOT.state slot)
  if st = sbEMPTY then s.instant j 0
  else
    let s := s.set (GL_STB_SLOT.state slot) sbEVICTING
    if s.get (GL_STB_SLOT.refs slot) = 0 then
      ((s.slotRgns slot).foldl (fun s r => s.freeRgn r) (s.emptySlot slot false)).instant j 0
    else s.launch { j with hold := .evict }

/-- STABLE_EVICT's start (R110). -/
def State.startStableEvict (s : State) (j : Job) : State := s.startOr j (s.checkStableEvict j) (s.runStableEvict j)

/-- NOP at its start point (R106). -/
def execNop (c : Ctx) (q : Que) (s : State) : Res := fin (s.beginOp c q opNOP State.startNop)
/-- WAIT_HALL at its start point (R107). -/
def execWaitHall (c : Ctx) (q : Que) (s : State) : Res := fin (s.beginOp c q opWAITHALL State.startWaitHall)
/-- REGION_COPY at its start point (R108). -/
def execRegionCopy (c : Ctx) (q : Que) (s : State) : Res := fin (s.beginOp c q opREGIONCOPY State.startRegionCopy)
/-- STABLE_LOAD at its start point (R109). -/
def execStableLoad (c : Ctx) (q : Que) (s : State) : Res := fin (s.beginOp c q opSTABLELOAD State.startStableLoad)
/-- STABLE_EVICT at its start point (R110). -/
def execStableEvict (c : Ctx) (q : Que) (s : State) : Res := fin (s.beginOp c q opSTABLEEVICT State.startStableEvict)

/-- Hall time reaches T of a running WAIT_HALL, which completes with OK (R107). -/
def execHallWaitDone (c : Ctx) (q : Que) (e : Ent) (s : State) : Res :=
  match s.cmdJob c q e with
  | some j =>
    match j.hold with
    | .hall t => if t ≤ s.now then fin (s.finishCmd j) else .next s
    | _ => .next s
  | none => .next s

/-- The entries from the tail up to t − 1, modulo 64 (R99). -/
def doorbellEntries (tail t : Nat) : List Nat := (List.range ((t + 64 - tail) % 64)).map fun i => (tail + i) % 64

/-- A doorbell ignored: ovf is set on the queue and the context (R99). -/
def State.doorbellOvf (s : State) (c q : Nat) : State := (s.set (GL_Q_STAT.ovf c q) 1).set (GL_CTX_STAT.ovf c) 1

/-- A doorbell write of a tail (R99): it submits the entries up to the new tail, or is ignored whole. -/
def State.doorbell (s : State) (c q t : Nat) : State :=
  let tail := s.get (GL_Q_STAT.tail c q)
  let es := doorbellEntries tail t
  if es = [] then s
  else if ¬ s.live c ∨ (es.any fun e => (s.ent (entryKey c q e)).phase ≠ .released)
      ∨ s.get (GL_Q_STAT.free c q) ≤ es.length then s.doorbellOvf c q
  else
    let empty := !s.hasHead c q
    let s := es.foldl (fun s e =>
      s.setEnt (entryKey c q e) { s.ent (entryKey c q e) with phase := .submitted }) s
    let s := (s.set (GL_Q_STAT.tail c q) t).dec (GL_Q_STAT.free c q) es.length
    let s := if empty then s.stampHead c q else s
    s.syncBlocked c q

/-- DOORBELL (R99). -/
def execDoorbell (c : Ctx) (q : Que) (tail : Fin 64) (s : State) : Res := fin (s.doorbell c q tail)

/-- A completed result slot released (R119): its entry is free and counts anew for R103. -/
def State.release (s : State) (c q e : Nat) : State :=
  let k := entryKey c q e
  let x := s.ent k
  if x.phase = .done then
    (s.setEnt k { prev := x.seq }).wrapInc (GL_Q_STAT.free c q) 1
  else s

/-- RESULT_SLOT_RELEASE (R119). -/
def execResultSlotRelease (c : Ctx) (q : Que) (e : Ent) (s : State) : Res := .next (s.release c q e)

/-- The 16 bytes a slot reads as (R115, R116). -/
def State.slotBytes16 (s : State) (k : Nat) : List Byte :=
  let x := s.ent k
  if x.phase = .done then
    leBytes 2 x.seq ++ leBytes 1 x.status ++ leBytes 1 x.flags ++ leBytes 4 x.tag ++ leBytes 8 x.value
  else leBytes 2 x.prev ++ leBytes 1 stNOTREADY ++ leBytes 13 0

/-- The bytes of a slot that a requester's latch holds, by byte number (R118). -/
def State.slotLatch (s : State) (req k : Nat) : List (Nat × Byte) :=
  match Tbl.find s.latches req with
  | some (.slot k' bs) => if k' = k then bs else []
  | _ => []

/-- One byte of a slot as a requester reads it: from its latch where that holds it (R118). -/
def slotByte (latched : List (Nat × Byte)) (now : List Byte) (i : Nat) : Byte :=
  match latched.find? fun p => p.1 == i with
  | some p => p.2
  | none => now.getD i 0#8

/-- A read of n bytes of a slot from byte b by a requester (R118): what the latch holds of it comes from the latch and
leaves it; a 64-bit read of bytes 0 to 7 and a 32-bit read of bytes 0 to 3 load the latch with the bytes after. -/
def State.slotRead (s : State) (req k b n : Nat) : State × Nat :=
  let now := s.slotBytes16 k
  let loads := b = 0
  let held := if loads then [] else s.slotLatch req k
  let v := leNat ((List.range n).map fun i => slotByte held now (b + i))
  let rest :=
    if loads then (List.range (16 - n)).map fun i => (n + i, now.getD (n + i) 0#8)
    else held.filter fun p => !(b ≤ p.1 && p.1 < b + n)
  let touched := loads || held ≠ []
  let l := if ¬ touched then s.latches else if rest = [] then Tbl.del s.latches req
    else Tbl.ins s.latches req (.slot k rest)
  ({ s with latches := l }, v)

/-- SLOT_READ_LATCH: a read of a result slot by a requester (R118); it must be aligned (R10). -/
def execSlotReadLatch (req : Nat) (c : Ctx) (q : Que) (e : Ent) (byte : Fin 16) (wide : Bool) (s : State) : Res :=
  let n := if wide then 8 else 4
  if byte.val % n ≠ 0 then .next (s.emit (.ctlRead req 0))
  else
    let (s, v) := s.slotRead req (entryKey c q e) byte n
    .next (s.emit (.ctlRead req v))

/-- FAST_INCREMENT: a write of GL_FAST (R114). -/
def execFastIncrement (c : Ctx) (evt : Fin 32) (add : W32) (s : State) : Res :=
  fin (s.wrapInc (GL_EVT.value c evt) add.toNat)

/-- A command's timer has reached its timeout (R120), read on the context's run clock. -/
def State.timedOut (s : State) (c stamp : Nat) (b : List Byte) : Bool := stamp + s.timeoutOf c b ≤ s.runClock c

/-- A running command ended by its timer (R120, R123): a committing STEP_END not yet voted fails the interval (R91) and votes
no (R312); one that has voted leaves the transaction running (R313). -/
def State.timeoutJob (s : State) (j : Job) : State :=
  if j.opcode = opSTEPEND ∧ s.phase j.ctx = phPREPARE then
    let s := s.setCm j.ctx { s.cmAt j.ctx with endStatus := some ((s.cmAt j.ctx).endStatus.getD stTIMEOUT) }
    (s.failInterval j.ctx stTIMEOUT).endCmd j stTIMEOUT
  else s.endCmd j stTIMEOUT

/-- COMMAND_TIMEOUT (R120): the command of an entry, waiting at its start point or running. A command whose
acknowledgements are all in completes with its own status first (R122), and so does a collective whose down results are
in (R259). -/
def execCommandTimeout (c : Ctx) (q : Que) (e : Ent) (s : State) : Res :=
  match s.cmdJob c q e with
  | some j =>
    if j.ending.isNone ∧ s.live c ∧ s.timedOut c j.stamp j.entry ∧ ¬ s.gsAnswered j then fin (s.timeoutJob j) else .next s
  | none =>
    if s.hasHead c q ∧ s.headOf c q = e.val ∧ s.live c
        ∧ s.timedOut c (s.stampOf c q) (s.command (s.headKey c q)) then
      let j := s.candidate c q
      fin ((s.post c j.key stTIMEOUT 0 0).advance c q)
    else .next s

end Sys2Proof.Machine
end

