-- ==== Sys2Proof/Machine/Context.lean ====
section
/-! DEFINITION. The commands of chapter 04 on contexts: start (R93, R94), hold and resume (R92, R126), pre-emption
(R124), teardown (R128, R129, R532) and purge (R370, R371). -/

namespace Sys2Proof.Machine

/-- The checks of a start write: R93, R244, R416 and R522. -/
def State.startOk (s : State) (c : Nat) : Bool :=
  let ways := s.get (GL_CTX_CFG.ways c)
  let per := s.get (GS_SLOT_CFG.per_slice c)
  let res := s.get (GS_SLOT_CFG.reserve c)
  ways ≠ 0
    && ((List.range 4).all fun d => d == c || s.ctxState d == 0 || s.get (GL_CTX_CFG.ways d) &&& ways == 0)
    && s.get (GL_CTX_CFG.engines c) ≠ 0
    && ((List.range 4).map fun d => if d = c ∨ s.live d then s.get (GL_CTX_CFG.mem_share d) else 0).sum ≤ 100
    && per ≤ 128 * popcount 8 ways && 1 ≤ res && res ≤ per
    && s.is DG_FILL.done && !s.is DG_FILL.fail

/-- One queue emptied and its slots released (R94). -/
def State.clearQueue (s : State) (c q : Nat) : State :=
  let s := (((s.set (GL_Q_STAT.head c q) 0).set (GL_Q_STAT.tail c q) 0).set (GL_Q_STAT.free c q) 64).set
    (GL_Q_STAT.blocked c q) 0
  let s := { s with qstamp := Tbl.put s.qstamp 0 (c * 16 + q) 0, qhall := Tbl.put s.qhall 0 (c * 16 + q) 0 }
  (List.range 64).foldl (fun s e => s.setEnt (entryKey c q e) {}) s

/-- What entry to RUN from OFF sets (R94, R386). -/
def State.enterRun (s : State) (c : Nat) : State :=
  let s := (List.range 16).foldl (fun s q => s.clearQueue c q) s
  let s := (List.range 32).foldl (fun s e => (s.set (GL_EVT.value c e) 0).set (GL_EVT.poison c e) 0) s
  (((s.setCx c {}).set (GS_SLOT_STAT.peak c) 0).set (DR_STAT.bound c) 0).set (GL_CTX_STAT.state c) ctxRUN

/-- A start write (R92, R93): in a state other than OFF it has no effect. -/
def State.ctxStart (s : State) (c : Nat) : State :=
  if s.ctxState c ≠ 0 then s
  else if s.startOk c then s.enterRun c
  else s.set (GL_CTX_STAT.cfg_err c) 1

/-- CONTEXT_START (R93). -/
def execContextStart (c : Ctx) (s : State) : Res := fin (s.ctxStart c)

/-- A hold write (R92, R126): in the commit window it waits for the halt or abort. -/
def State.ctxHold (s : State) (c : Nat) : State :=
  let x := s.cxAt c
  if s.ctxState c = ctxRUN then
    if s.window c then s.setCx c { x with deferHost := true }
    else
      let s := s.enterHeld c
      s.setCx c { s.cxAt c with hostHeld := true }
  else if s.ctxState c = ctxHELD then s.setCx c { x with hostHeld := true }
  else s

/-- CONTEXT_HOLD (R92). -/
def execContextHold (c : Ctx) (s : State) : Res := fin (s.ctxHold c)

/-- A resume write (R92, R126): it voids a waiting hold, and a context that pre-emption holds stays HELD. -/
def State.ctxResume (s : State) (c : Nat) : State :=
  let x := s.cxAt c
  if s.ctxState c = ctxHELD then
    if x.preHeld then s.setCx c { x with hostHeld := false } else s.leaveHeld c
  else if s.ctxState c = ctxRUN then s.setCx c { x with deferHost := false }
  else s

/-- CONTEXT_RESUME (R92). -/
def execContextResume (c : Ctx) (s : State) : Res := fin (s.ctxResume c)

/-- One context held by pre-emption (R124, R126). -/
def State.preHold (s : State) (d : Nat) : State :=
  if s.window d then s.setCx d { s.cxAt d with deferPre := true, preIdle := none }
  else
    let s := s.enterHeld d
    s.setCx d { s.cxAt d with preHeld := true, preIdle := none }

/-- Whether a pre-empting context has a command at a start point whose waits are satisfied, in whatever state the context
is (R124). -/
def State.hasReady (s : State) (c : Nat) : Bool :=
  s.is (GL_CTX_CFG.preempt c) &&
    (List.range 16).any fun q => s.hasHead c q && s.waitsMet c (s.command (s.headKey c q))

/-- PREEMPT_HOLD (R124, R127): context c's ready command holds every context of lower prio that is in RUN. -/
def execPreemptHold (c : Ctx) (s : State) : Res :=
  if s.hasReady c then
    fin ((List.range 4).foldl (fun s d =>
      if s.get (GL_CTX_CFG.prio d) < s.get (GL_CTX_CFG.prio c) ∧ s.ctxState d = ctxRUN then s.preHold d else s) s)
  else .next s

/-- Whether the pre-emption over a context has ended: 15,625 hall cycles without a pre-empting command (R124)
(DEDUCED, notes/assumptions/19.md). -/
def State.preOver (s : State) (c : Nat) : Bool :=
  match (s.cxAt c).preIdle with
  | some t => decide (t + 15625 ≤ s.now)
  | none => false

/-- PREEMPT_RELEASE (R124): 15,625 hall cycles have passed without a pre-empting command over context c, which returns
to RUN unless host software also holds it (R131); a pre-emption that still waits for a halt is void (R126). -/
def execPreemptRelease (c : Ctx) (s : State) : Res :=
  let x := s.cxAt c
  if ¬ s.preOver c then .next s
  else if x.preHeld then
    fin (if x.hostHeld then s.setCx c { x with preHeld := false, preIdle := none } else s.leaveHeld c)
  else if x.deferPre then fin (s.setCx c { x with deferPre := false, preIdle := none })
  else .next s

/-- DEFERRED_HOLD (R126): the hold or pre-emption that waited takes effect after the halt or abort; a pre-emption that
has ended by then is void. -/
def execDeferredHold (c : Ctx) (s : State) : Res :=
  let x := s.cxAt c
  let pre := x.deferPre && !s.preOver c
  if s.window c ∨ s.ctxState c ≠ ctxRUN ∨ ¬ (x.deferHost ∨ x.deferPre) then .next s
  else if x.deferHost ∨ pre then
    let s := s.enterHeld c
    fin (s.setCx c { s.cxAt c with hostHeld := x.deferHost, preHeld := pre, deferHost := false, deferPre := false,
                                   preIdle := if pre then x.preIdle else none })
  else fin (s.setCx c { x with deferPre := false, preIdle := none })

/-- Every submitted command of a queue that has not started completes with TEARDOWN (step 2 of R128), the oldest
first. -/
def endQueue : Nat → State → Nat → Nat → State
  | 0, s, _, _ => s
  | n + 1, s, c, q =>
    if s.hasHead c q then endQueue n (s.refuse (s.candidate c q) stTEARDOWN) c q else s

/-- The engines' work for a context stops at a teardown: requests it serves are dropped, a rebuild or bind fails. -/
def State.stopEngine (s : State) (j : Job) (c : Nat) : State :=
  match j.owner with
  | .cmd _ _ _ => if j.ending.isNone then s.endCmd j stTEARDOWN else s
  | .delta _ => s
  | .rebuild _ => s.rebuildFail c stTEARDOWN
  | .bind _ => (s.bindEnd c stTEARDOWN).setJob { j with ending := some (stTEARDOWN, some 0), segs := [] }
  | .mend _ _ _ _ => s
  | .inbound _ => s
  | _ => s.setJob { j with ending := some (stREMOTEDROPPED, some 0), segs := [] }

/-- Inbound copies of a context that have not begun are answered with a drop, as messages that arrive from now on are
(R128 step 1, R349). -/
def State.dropQueued (s : State) (c : Nat) : State :=
  (s.fab.reqs.filter fun r => r.msg.ctx == c && !r.busy).foldl
    (fun s r => (s.drop r.msg stREMOTEDROPPED).freeReq r.id) s

/-- A teardown write (R128 steps 1 to 3): the no vote of a prepare leaves first (R327). -/
def State.teardown (s : State) (c : Nat) : State :=
  if ¬ s.live c then s
  else
    let s := if s.phase c = phPREPARE ∧ (s.cmAt c).own.isNone then
        ((s.setCm c { s.cmAt c with endStatus := some ((s.cmAt c).endStatus.getD stTEARDOWN) }).failInterval c stTEARDOWN).settleVote c
      else s
    let gen := s.get (GL_CTX_STAT.gen c)
    let s := s.set (GL_CTX_STAT.state c) ctxTEARING
    let s := s.set (GL_CTX_STAT.gen c) (gen + 1)
    let s := s.setCx c { s.cxAt c with tdAt := s.now, oldGen := gen, tdNotice := [], tdNoticed := false }
    let s := (List.range 16).foldl (fun s q => endQueue 64 s c q) s
    let s := (s.jobs.filter fun j => j.ctx == c).foldl (fun s j => s.stopEngine j c) s
    s.dropQueued c

/-- TEARDOWN (R128). -/
def execTeardown (c : Ctx) (s : State) : Res := fin (s.teardown c)

/-- The commands of a context that still lack a memory acknowledgement. -/
def State.stuck (s : State) (c : Nat) : List Job := s.jobs.filter fun j => j.cmdOf c && j.out ≠ 0

/-- The ports whose acknowledgements a list of work lacks, as DG_WEDGE's bits (R372). -/
def State.portsOf (s : State) (js : List Job) : Nat :=
  ((List.range 20).map fun n =>
    if s.mem.reqs.any fun e => e.1 / 4096 == n && js.any fun j => j.id == e.2.job then 2 ^ n else 0).sum

/-- The generation notices of step 5: one to each destination with unacknowledged requests (R363), outstanding until it is
acknowledged; no piece of work has number 0. -/
def State.sendNotices (s : State) (c : Nat) : State :=
  let dests := (s.fab.outs.filter fun o => o.ctx == c).foldl (fun l o => setAdd l o.dst) []
  let x := s.cxAt c
  let body := leBytes 1 x.oldGen ++ leBytes 1 (s.get (GL_CTX_STAT.gen c)) ++ leBytes 2 0
  let s := dests.foldl (fun s d => s.send (s.common c 0x05 d 0 body)) s
  let s := s.setFab { s.fab with outs := s.fab.outs ++ dests.map fun d =>
    { tag := 0, typ := 0x05, dst := d, ctx := c, job := 0, at_ := s.now } }
  s.setCx c { s.cxAt c with tdAt := s.now, tdNotice := dests, tdNoticed := true }

/-- A context goes WEDGED (R129, R372) (DEDUCED, notes/assumptions/20.md). -/
def State.wedge (s : State) (c : Nat) (js : List Job) : State :=
  let ports := s.portsOf js
  let s := (s.set (GL_CTX_STAT.state c) ctxWEDGED).set (DG_WEDGE.ports c) ports
  ((s.observe s.self 6).irq 17).emcy 0xFF11 (leBytes 1 c ++ leBytes 4 ports)

/-- TEARDOWN_TIMEOUT (R128 step 5, R129): td_timeout has passed since the teardown write. -/
def execTeardownTimeout (c : Ctx) (s : State) : Res :=
  let x := s.cxAt c
  if s.ctxState c ≠ ctxTEARING ∨ x.tdNoticed ∨ s.now < x.tdAt + s.get (GL_CTX_TMO.td_timeout c) then .next s
  else
    let js := s.stuck c
    if js ≠ [] then fin (s.wedge c js)
    else if s.fab.outs.any fun o => o.ctx == c.val then fin (s.sendNotices c)
    else .next s

/-- A context's outstanding fabric requests forgotten: no reply to them counts any more, and their engines' places are
free (R356). -/
def State.forgetOuts (s : State) (c : Nat) : State :=
  let gone := s.fab.outs.filter fun o => o.ctx == c
  let s := s.setFab { s.fab with outs := s.fab.outs.filter fun o => o.ctx ≠ c }
  gone.foldl (fun s o => if o.eng < 4 then s.dec (FB_ENG.outstanding o.eng) 1 else s) s

/-- Whether a piece of work is a mend. -/
def Job.isMend (j : Job) : Bool :=
  match j.owner with
  | .mend _ _ _ _ => true
  | _ => false

/-- What a context still serves for another device is answered with a drop, and its places in the buffers are free
(R349, R359). -/
def State.dropServed (s : State) (j : Job) : State :=
  match j.owner with
  | .delta m => s.dropReq j m stREMOTEDROPPED
  | .fetch m => s.dropReq j m stREMOTEDROPPED
  | .serve m => s.dropReq j m stREMOTEDROPPED
  | .inbound ids => ids.foldl (fun s id =>
      match s.fab.reqs.find? fun r => r.id == id with
      | some r => (s.drop r.msg stREMOTEDROPPED).freeReq id
      | none => s) s
  | _ => j.gs.early.foldl State.done s

/-- TEARDOWN_NOTICE_TIMEOUT (R128 step 5): destinations that have not acknowledged the notice count as failed. -/
def execTeardownNoticeTimeout (c : Ctx) (s : State) : Res :=
  let x := s.cxAt c
  if s.ctxState c ≠ ctxTEARING ∨ ¬ x.tdNoticed ∨ x.tdNotice = []
      ∨ s.now < x.tdAt + s.get (GL_CTX_TMO.td_timeout c) then .next s
  else
    let s := x.tdNotice.foldl (fun s d => s.observe d 1) s
    fin (s.setCx c { s.cxAt c with tdNotice := [] })

/-- What a torn-down context leaves behind in its commit and team state (R532): the team dissolved, and an undecided
interval discarded on this device alone as an abort would. A FENCED context's interval marks, own vote and current step go
too, which R532 does not say (DEDUCED, notes/assumptions/20.md). A flip that is armed keeps its lateness (R155). -/
def State.settleDown (s : State) (c : Nat) : State :=
  let s := s.dissolve c
  let open_ := s.phase c = phPREPARE ∨ s.phase c = phVOTED ∨ s.phase c = phINDOUBT
  let s := if open_ then
      (((s.restoreWins c).set (CM_STAT.phase c) phOPEN).set (DR_STAT.prev_intact c) 0).satInc (CM_CNT.aborts c) 1
    else s
  let s := s.clearInterval c
  let s := s.setCm c { s.cmAt c with fence := none }
  s.set (CM_CUR.cur c) (s.get (CM_STEP.committed c) + 1)

/-- Whether a teardown has nothing left to wait for (R128 steps 3 to 6). -/
def State.tornDown (s : State) (c : Nat) : Bool :=
  let x := s.cxAt c
  s.ctxState c == ctxTEARING && !(s.jobs.any fun j => j.ctx == c && (j.cmdOf c || j.out ≠ 0)) && s.phase c ≠ phARMED
    && ((x.tdNoticed && x.tdNotice == []) || !(s.fab.outs.any fun o => o.ctx == c))

/-- The context's work is forgotten, mends apart, and the context is OFF. -/
def State.turnOff (s : State) (c : Nat) : State :=
  let s := (s.jobs.filter fun j => j.ctx == c).foldl State.dropServed s
  let s := s.settleDown c
  let s := { s with jobs := s.jobs.filter fun j => !(j.ctx == c) || j.isMend }
  let s := s.forgetOuts c
  ((s.setCx c {}).set (GL_CTX_STAT.state c) 0).set (GL_CTX_STAT.running c) 0

/-- TEARDOWN_COMPLETE (R128 step 6, R532). -/
def execTeardownComplete (c : Ctx) (s : State) : Res := if s.tornDown c then fin ((s.turnOff c).irq c) else .next s

/-- The references that a WEDGED context's commands still hold are dropped (R370). -/
def State.dropRefs (s : State) (c : Nat) : State :=
  (s.jobs.filter fun j => j.cmdOf c).foldl (fun s j =>
    let s := j.refs.foldl (fun s r => s.unhold r) s
    let s := j.slots.foldl (fun s n => s.unholdSlot n) s
    if j.engine < 4 then s.dec (FB_ENG.running j.engine) 1 else s) s

/-- A purge of one context (R370, R371): only while WEDGED. Mends go on, and so do their memory requests. -/
def State.purge (s : State) (c : Nat) : State :=
  if s.ctxState c = ctxWEDGED then
    let ids := (s.jobs.filter fun j => j.ctx == c && !j.isMend).map (·.id)
    let s := s.dropRefs c
    let s := s.setMem { s.mem with reqs := s.mem.reqs.filter fun e => !ids.contains e.2.job }
    s.turnOff c
  else s

/-- CONTEXT_PURGE (R370). -/
def execContextPurge (c : Ctx) (s : State) : Res := fin (s.purge c)

end Sys2Proof.Machine
end

