-- ==== Sys2Proof/Machine/Recv.lean ====
section
/-! DEFINITION. Receiving (R346, R349, R378, R492): the checks that every message meets, in the order of R349, what a
reply answers, and the buffers it leaves (R359, R360). -/

namespace Sys2Proof.Machine

/-- What the checks of R349 make of a message: accepted, dropped silently and counted in a field, dropped silently, or
answered with a drop of a status. -/
inductive Verdict where
  | accept
  | counted (l : Loc)
  | quiet
  | refuse (status : Nat)
  deriving DecidableEq, Repr

/-- The first of two verdicts that is not an acceptance. -/
def Verdict.or (a b : Verdict) : Verdict :=
  match a with
  | .accept => b
  | _ => a

/-- Whether a type is a request: one of class REQ (R347). -/
def isRequest (t : Nat) : Bool := msgTypes.contains t && msgClass t == 0
/-- Whether a type is a reply: one of class RSP, or the C_ACK that answers a C_PART (R347). -/
def isReply (t : Nat) : Bool := msgTypes.contains t && (msgClass t == 1 || t == 0x26)
/-- FORM, STB_READY and STB_DONE take no reply. -/
def noReply (t : Nat) : Bool := t == 0x15 || t == 0x16 || t == 0x17

/-- The request type that a reply answers: a drop names it in its body (R348). -/
def Msg.answers (m : Msg) : Nat :=
  if m.typ = 0x02 then 0x01
  else if m.typ = 0x04 then 0x03
  else if m.typ = 0x06 then 0x05
  else if m.typ = 0x11 then 0x10
  else if m.typ = 0x14 then 0x13
  else if m.typ = 0x07 ∨ m.typ = 0x12 then m.at_ 1 1
  else 0

/-- Whether an outstanding request is one that a reply answers: same type, source and context, and the tag, or for team
traffic the stripe (R349). -/
def FabOut.meets (o : FabOut) (m : Msg) : Bool :=
  o.typ == m.answers && o.dst == m.src && o.ctx == m.ctx &&
    (if isTeamType m.typ then o.stripe == m.stripe else o.tag == m.tag)

/-- The outstanding request that a reply answers: the oldest whose bank and step the reply copies (R348), else the
oldest. -/
def State.asked (s : State) (m : Msg) : Option FabOut :=
  (s.fab.outs.find? fun o => o.meets m && o.bank == m.bit2 && o.step == m.step).or (s.fab.outs.find? fun o => o.meets m)

/-- Whether a C_ACK answers partials of a running collective that no C_ACK has answered yet (R245, R349). -/
def State.answersPart (s : State) (m : Msg) : Bool :=
  m.typ == 0x26 && s.jobs.any fun j => j.cmdOf m.ctx && j.isGs && j.ending.isNone && j.gcn == m.tag
    && j.gs.tiles.any fun x => x.sent && !x.acked && m.at_ 0 6 ≤ x.t && x.t < m.at_ 0 6 + m.at_ 8 2

/-- Version checks (R346, R492). -/
def State.versionCheck (s : State) (m : Msg) : Verdict :=
  let top := s.get FB_CFG.ver_max
  if m.ver = 1 ∧ 7 < m.typ then .counted FB_DROP.version
  else if m.ver = top ∨ m.ver + 1 = top then .accept
  else if isRequest m.typ ∧ ¬ noReply m.typ then .refuse stVERSION
  else .counted FB_DROP.version

/-- The reply row of R349. -/
def State.replyCheck (s : State) (m : Msg) : Verdict :=
  if isReply m.typ ∧ ¬ (m.gen = s.get (GL_CTX_STAT.gen m.ctx) ∧ ((s.asked m).isSome ∨ s.answersPart m)) then
    .counted FB_DROP.stale
  else .accept

/-- The fence row of R349 (R364). -/
def State.fenceCheck (s : State) (m : Msg) : Verdict :=
  if m.typ = 0x38 ∧ ¬ s.managers.contains m.src then .counted FB_DROP.stale else .accept

/-- The context row of R349. -/
def State.ctxCheck (s : State) (m : Msg) : Verdict :=
  if isRequest m.typ ∧ ¬ s.live m.ctx then (if noReply m.typ then .quiet else .refuse stREMOTEDROPPED) else .accept

/-- The team row of R349: R279, but for a FORM that R533 keeps. No reply is ever answered. -/
def State.teamCheck (s : State) (m : Msg) : Verdict :=
  let keeps := m.typ = 0x15 ∧ (s.team m.ctx = tmOFF ∨ s.team m.ctx = tmFORMING)
  if isTeamType m.typ ∧ ¬ keeps ∧ ¬ s.teamMsgOk m then
    (if noReply m.typ ∨ isReply m.typ then .quiet else .refuse stREMOTEDROPPED)
  else .accept

/-- Whether a device is a present member of a context's team as TM_MEMBER names it. -/
def State.teamMember (s : State) (c d : Nat) : Bool :=
  s.team c ≠ tmOFF && (List.range 16).any fun i => s.get (TM_MEMBER.mstate c i) == 1 && s.get (TM_MEMBER.devid c i) == d

/-- The epoch row of R349, and the absent sources of R378. -/
def State.copyCheck (s : State) (m : Msg) : Verdict :=
  if (m.typ = 0x01 ∨ m.typ = 0x03) ∧ ((s.teamMember m.ctx m.src ∧ m.epoch ≠ s.get (TM_STAT.epoch m.ctx))
      ∨ s.removedSrc m.ctx m.src) then .refuse stREMOTEDROPPED
  else if ((0x20 ≤ m.typ ∧ m.typ ≤ 0x29) ∨ (0x30 ≤ m.typ ∧ m.typ ≤ 0x33)) ∧ s.removedSrc m.ctx m.src then .quiet
  else .accept

/-- The region row of R349. -/
def State.regionCheck (s : State) (m : Msg) : Verdict :=
  let r := m.at_ 0 1 % 64
  let g := s.rgn r
  if m.typ = 0x01 then
    (if g.valid ∧ (g.kind = 8 ∨ g.kind = 10) ∧ g.ctx = m.ctx ∧ m.at_ 2 6 + (m.body.length - 8) ≤ g.bytes false then
      .accept
    else .refuse stREGION)
  else if m.typ = 0x03 then
    (if s.readable m.ctx r ∧ m.at_ 2 6 + m.at_ 8 2 ≤ g.bytes false then .accept else .refuse stREGION)
  else .accept

/-- The checks of R349 after the trailer, in order. -/
def State.verdict (s : State) (m : Msg) : Verdict :=
  (if m.dst = s.self then .accept else Verdict.counted FB_STAT.misroute).or
    ((s.versionCheck m).or ((s.replyCheck m).or ((s.fenceCheck m).or ((s.ctxCheck m).or ((s.teamCheck m).or
      ((s.copyCheck m).or (s.regionCheck m)))))))

/-- A message leaves its buffer: its credits return (R360) (DESIGN CHOICE, notes/assumptions/14.md). -/
def State.leave (s : State) (bytes : List Byte) : State :=
  s.emit (.credit 19 (msgClass (leAt bytes 0 1)) false 1 (cdiv bytes.length 64))

/-- A message that arrives (R349): checked, and given to its meaning when accepted. -/
def State.receive (s : State) (bytes : List Byte) (go : State → Msg → State) : State :=
  match parseMsg bytes with
  | none => (s.satInc FB_STAT.crc_err 1).leave bytes
  | some m =>
    match s.verdict m with
    | .accept => go s m
    | .counted l => (s.satInc l 1).leave bytes
    | .quiet => s.leave bytes
    | .refuse st => (s.drop m st).leave bytes

/-- A message row: the bytes must carry a message of the row's type (R347). -/
def receiveAs (typ : Nat) (bytes : List Byte) (s : State) (go : State → Msg → State) : Res :=
  if leAt bytes 0 1 = typ then fin (s.receive bytes go) else .fault .illFormed

/-- A request of class REQ held in its buffer (R359). -/
def State.keepReq (s : State) (m : Msg) (busy : Bool) : State × Nat :=
  let id := s.fab.nextId
  let s := s.setFab { s.fab with reqs := s.fab.reqs ++ [{ id := id, msg := m, busy := busy }], nextId := id + 1 }
  let s := s.wrapInc FB_INQ.req_used 1
  (s.set FB_INQ.req_peak (Nat.max (s.get FB_INQ.req_peak) (s.get FB_INQ.req_used)), id)

/-- The first copy of an outstanding request taken out of the list. -/
def dropOut : List FabOut → FabOut → List FabOut
  | [], _ => []
  | x :: t, o => if x = o then t else x :: dropOut t o

/-- An outstanding request answered: it leaves its engine's places (R356). -/
def State.endOut (s : State) (o : FabOut) : State :=
  let s := s.setFab { s.fab with outs := dropOut s.fab.outs o }
  if o.eng < 4 then s.dec (FB_ENG.outstanding o.eng) 1 else s

end Sys2Proof.Machine
end

