-- ==== Sys2Proof/Machine/CommitRows.lean ====
section
/-! DEFINITION. The rows of chapter 10: STEP_END and its prepare (R307 to R312), votes, notices and queries (R315 to
R322, R328), the flip (R323), timers (R317, R328, R366), resolve, epochs and fences (R329 to R332, R364). -/

namespace Sys2Proof.Machine

/-- The checks of R308 that BAD_FIELD answers. -/
def State.stepEndBad (s : State) (j : Job) : Bool :=
  let c := j.ctx
  let commit := j.arg 24 1 % 2
  let step := j.arg 32 8
  let p := s.phase c
  step ≠ s.get (CM_CUR.cur c)
    || (commit == 1 && step ≠ s.get (CM_OPEN.open_ c)) || (commit == 0 && step == s.get (CM_OPEN.open_ c))
    || j.cls == 0 || s.jobs.any (fun x => x.cmdOf c && x.opcode == opSTEPEND)
    || (phPREPARE ≤ p && p ≤ phINDOUBT)
    || (commit == 1 && (!s.is (GS_GRP_CFG.valid c (s.cmGroup c)) || !s.recOk c))

/-- A running PRECOND_REFRESH at the beginning of its step's prepare (R201): one that is not paused finishes the weight
block whose products it has issued; beyond that it issues nothing and completes with OK
(DEDUCED, notes/assumptions/43.md). -/
def State.stopRefresh (s : State) (j : Job) : Job :=
  let issued := j.unit % 2 == 1 || j.exed
  let fin := j.unit % 2 == 1 && j.exed
  if issued ∧ ¬ s.stopped j then { j with segs := [.precond (2 * (j.unit / 2 + 1))] }
  else { j with segs := [], pos := j.pos + b2n fin, paused := false, exed := false, got := [] }

/-- Every running PRECOND_REFRESH of a context at the beginning of prepare (R201). -/
def State.stopRefreshes (s : State) (c : Nat) : State :=
  { s with jobs := s.jobs.map fun x =>
      if x.cmdOf c && x.opcode == opPRECOND && x.ending.isNone && x.segs ≠ [] then s.stopRefresh x else x }

/-- Prepare begins (P1 of R310): the job words are sampled and the command waits for the interval's writers. -/
def State.prepare (s : State) (j : Job) : State :=
  let c := j.ctx
  let s := s.set (CM_STAT.phase c) phPREPARE
  let s := s.setCm c { s.cmAt c with
    own := none, endStatus := none, prepared := true, users := (List.range 4).map fun u => s.get (CM_USER.user c u) }
  (s.launch { j with hold := .prepare }).stopRefreshes c

/-- What refuses a command, in order: STEP_END's start (R308 to R310). -/
def State.checkStepEnd (s : State) (j : Job) : List (Bool × Nat) :=
  let c := j.ctx
  [ (2 ≤ j.arg 24 1 || j.nonzero 25 7 || j.nonzero 40 24, stBADFIELD),
    (s.phase c == phFENCED, stFENCED),
    (s.stepEndBad j, stBADFIELD) ]

/-- What a command that is not refused does: STEP_END's start (R308 to R310). -/
def State.runStepEnd (s : State) (j : Job) : State :=
  let c := j.ctx
  if j.arg 24 1 % 2 = 0 then
    let s := s.wrapInc (CM_CUR.cur c) 1
    s.instant j (s.get (CM_CUR.cur c))
  else s.prepare j

/-- STEP_END's start (R308 to R310). -/
def State.startStepEnd (s : State) (j : Job) : State := s.startOr j (s.checkStepEnd j) (s.runStepEnd j)

/-- STEP_END at its start point (R307). -/
def execStepEnd (c : Ctx) (q : Que) (s : State) : Res := fin (s.beginOp c q opSTEPEND State.startStepEnd)

/-- The maximal runs of element blocks below n that no interval covers. -/
def gaps : List (Nat × Nat) → Nat → Nat → List (Nat × Nat)
  | [], lo, n => if lo < n then [(lo, n)] else []
  | (a, b) :: t, lo, n => (if lo < Nat.min a n then [(lo, Nat.min a n)] else []) ++ gaps t (Nat.max lo b) n

/-- P3's copies of one banked region (R69, R162, R200): none where the interval copied it whole, the whole bank where it
left the region unwritten, else the element blocks that no command covered. -/
def State.copiesOf (s : State) (c r : Nat) : List Seg :=
  let g := s.rgn r
  let m := s.cmAt c
  let l := Tbl.at m.writeRegions [] (areaKey r false)
  if m.copied.contains r then []
  else if l = [] then [.bankCopy r (s.active c) (1 - s.active c)]
  else
    ((gaps l 0 g.blocks).map fun p =>
      .rangeCopy r (s.active c) (1 - s.active c) false (g.bsize * p.1) (Nat.min (g.bsize * p.2) (g.bytes false)))
    ++ if g.fmt = fmtK8 then
        (gaps (Tbl.at m.writeRegions [] (areaKey r true)) 0 g.blocks).map fun p =>
          .rangeCopy r (s.active c) (1 - s.active c) true (4 * p.1) (4 * p.2)
      else []

/-- The banked regions of a context that P3 copies: its parity share apart, whose fragments R282 copies. -/
def State.copyRgns (s : State) (c : Nat) : List Nat :=
  (List.range 64).filter fun r =>
    let g := s.rgn r
    g.valid && g.banked && g.ctx == c && !(s.team c ≠ tmOFF && s.get (TM_CFG.share c) == r)

/-- The work of P3 to P5 (R274, R278, R282, R304, R310). -/
def State.prepareSegs (s : State) (c : Nat) : List Seg :=
  let full := s.team c == tmENCODING
  let coded := full || s.team c == tmPROTECTED || s.team c == tmDEGRADED
  (s.copyRgns c).flatMap (s.copiesOf c)
    ++ (if coded then [.parityCopy full] else [])
    ++ [.put (s.get (CM_CFG.rec_ c)) (1 - s.active c) false 0 (s.stepRecord c)]
    ++ (if full then [.sweep true] else if coded ∧ s.get (CM_STAT.stride c) ≠ 1 then [.sweep false] else [])

/-- The end of P2 (R310): no command of the context that writes a banked region or the parity share is running. -/
def State.writersDone (s : State) (c : Nat) : State :=
  match s.stepEndJob c with
  | some j =>
    if s.phase c = phPREPARE ∧ j.stage = 0 ∧ j.hold = .prepare ∧ ¬ s.jobs.any (fun x => x.cmdOf c && s.writesBank x) then
      let s := if s.team c = tmENCODING then s.setTm c { s.tmAt c with fullRan := true } else s
      s.setJob { j with stage := 1, hold := .run, segs := s.prepareSegs c }
    else s
  | none => s

/-- PREPARE_WRITERS_DONE (R310, P2 to P5). -/
def execPrepareWritersDone (c : Ctx) (s : State) : Res := fin (s.writersDone c)

/-- P6 of R310: the writes of the interval are accepted and its deltas are acknowledged. -/
def State.intervalQuiet (s : State) (c : Nat) : Bool :=
  !(s.mem.reqs.any fun e => e.2.write && (s.rgn e.2.region).ctx == c && e.2.job ≠ 0)
    && !s.fab.outs.any (s.openDelta c)

/-- P7 of R310 once P6 is met. -/
def State.voteNow (s : State) (c : Nat) : State :=
  match s.stepEndJob c with
  | some j =>
    if s.phase c = phPREPARE ∧ j.stage = 1 ∧ j.hold = .prepare ∧ j.segs = [] ∧ j.out = 0 ∧ s.intervalQuiet c
        ∧ (s.cmAt c).abortPend.isNone then
      s.castVote c
    else s
  | none => s

/-- VOTE_CAST (R310, P6 and P7). -/
def execVoteCast (c : Ctx) (s : State) : Res := fin (s.voteNow c)

/-- The tree in which a vote counts: the tree its bit names where its sender is a child there, 2 for the off root's
direct path to the near root (R317), none where R321 drops it. -/
def State.votePlace (s : State) (m : Msg) : Option (Nat × Nat) :=
  let c := m.ctx
  let t := s.cmTree c
  match s.rankOfDev c (s.cmGroup c) m.src (t.children m.bit2) with
  | some i => some (m.bit2, i)
  | none =>
    if m.bit2 = 1 ∧ t.isRoot 0 ∧ 1 < t.n ∧ s.cmDev c (t.n - 1) = m.src then some (2, t.n - 1) else none

/-- An accepted vote (R315 to R317, R321): kept in the place of an earlier one of the same child, and acted on. -/
def State.takeVote (s : State) (m : Msg) : State :=
  let c := m.ctx
  let v := voteOf m
  let s := s.done m
  if ¬ s.cmCurrent c v.epoch v.cseq ∨ (s.cmAt c).abortPend.isSome then s.cmStale c
  else
    match s.votePlace m with
    | none => s.cmStale c
    | some (tr, i) =>
      let k := s.cmAt c
      let l := k.votes.filter fun x => !(x.1 == tr && x.2.1 == i)
      (s.setCm c { k with votes := l ++ [(tr, i, v)] }).pushVotes c

/-- VOTE (R316). -/
def execVote (bytes : List Byte) (s : State) : Res := receiveAs 0x30 bytes s State.takeVote

/-- A notice that a HALT message carries (R348). -/
def haltOf (m : Msg) : Notice := ⟨m.at_ 4 4, true, m.at_ 8 8, m.at_ 16 8, 0, 0, m.at_ 0 2⟩
/-- A notice that a CM_ABORT message carries (R348). -/
def abortOf (m : Msg) : Notice := ⟨m.at_ 4 4, false, 0, 0, m.at_ 2 2, m.at_ 8 1, m.at_ 0 2⟩

/-- A conflicting notice dropped (R319, R321). -/
def State.conflict (s : State) (c : Nat) : State := s.satInc (CM_DIAG.conflict c) 1

/-- An accepted halt notice (R152, R154, R318, R319, R321): the first is kept, forwarded in its tree and armed; a copy
with the same H is forwarded in its own tree; another H is dropped. A member whose abort waits for deltas (R534) holds the
contrary decision (DEDUCED, notes/assumptions/26.md). -/
def State.takeHalt (s : State) (m : Msg) : State :=
  let c := m.ctx
  let n := haltOf m
  let s := s.done m
  if ¬ s.live c then s else
  if ¬ s.cmCurrent c n.epoch n.cseq then s.cmStale c
  else if s.phase c = phOPEN ∨ s.phase c = phPREPARE ∨ (s.cmAt c).abortPend.isSome then s.conflict c
  else
    match s.decided c with
    | some k =>
      if ¬ k.halt then s.conflict c
      else if k.h = n.h then s.forward c m.bit2 n
      else s.satInc (CM_DIAG.h_mismatch c) 1
    | none =>
      let s := (s.keepNotice c n).forward c m.bit2 n
      if s.phase c = phVOTED ∨ s.phase c = phINDOUBT then s.armHalt c n.h else s

/-- HALT (R318). -/
def execHalt (bytes : List Byte) (s : State) : Res := receiveAs 0x31 bytes s State.takeHalt

/-- An accepted abort notice (R319 to R321): kept, forwarded once in its tree and performed; none while ARMED or where
the halt notice of its cseq is held. A context that is torn down or off takes no notice (R532). -/
def State.takeAbort (s : State) (m : Msg) : State :=
  let c := m.ctx
  let n := abortOf m
  let s := s.done m
  if ¬ s.live c then s else
  if ¬ s.cmCurrent c n.epoch n.cseq then s.cmStale c
  else if (match s.decided c with
      | some k => k.halt
      | none => false) then s.conflict c
  else if s.phase c = phARMED ∨ (s.cmAt c).abortPend.isSome then s
  else ((s.keepNotice c n).forward c m.bit2 n).abort c n.reason n.rank

/-- CM_ABORT (R320). -/
def execCmAbort (bytes : List Byte) (s : State) : Res := receiveAs 0x32 bytes s State.takeAbort

/-- A decision query (R322): a root that keeps the notice of its cseq resends it to the asking member alone. -/
def State.takeQuery (s : State) (m : Msg) : State :=
  let c := m.ctx
  let t := s.cmTree c
  let s := s.done m
  match s.noticeOf c (m.at_ 4 4) with
  | some n => if t.isRoot 0 ∨ t.isRoot 1 then s.cmSend c n.typ (if t.isRoot 0 then 0 else 1) m.src n.body else s
  | none => s

/-- QUERY (R322). -/
def execQuery (bytes : List Byte) (s : State) : Res := receiveAs 0x33 bytes s State.takeQuery

/-- FLIP (R323): the armed instant is reached. -/
def execFlip (c : Ctx) (s : State) : Res :=
  if s.phase c = phARMED ∧ s.get (CM_HALT.h c) ≤ s.now then fin (s.flip c) else .next s

/-- Whether a context's transaction still waits for its notice, its own vote given. -/
def State.undecided (s : State) (c : Nat) : Bool :=
  (s.decided c).isNone && (s.cmAt c).own.isSome && (s.cmAt c).abortPend.isNone

/-- VOTE_TIMEOUT (R317): the near root holds no decision vote_tmo after its own vote. -/
def execVoteTimeout (c : Ctx) (s : State) : Res :=
  let m := s.cmAt c
  if (s.cmTree c).isRoot 0 ∧ s.undecided c ∧ s.phase c ≠ phARMED
      ∧ m.votedAt + s.get (CM_TMO.vote_tmo c) ≤ s.now then
    fin (s.conclude c ⟨s.get (CM_STAT.cseq c), false, 0, 0, 0xFFFF, stTIMEOUT, s.get (CM_EPOCH.epoch c)⟩)
  else .next s

/-- A decision query to a root, unless the member is that root (R328). -/
def State.sendQuery (s : State) (c tr i : Nat) : State :=
  if i = (s.cmTree c).me then s
  else s.cmSend c 0x33 tr (s.cmDev c i)
    (leBytes 2 (s.get (CM_EPOCH.epoch c)) ++ leBytes 2 0 ++ leBytes 4 (s.get (CM_STAT.cseq c)))

/-- DECISION_QUERY_TIMEOUT (R328): neither notice is held query_tmo after the vote. -/
def execDecisionQueryTimeout (c : Ctx) (s : State) : Res :=
  let m := s.cmAt c
  if s.phase c = phVOTED ∧ s.undecided c ∧ m.queryAt.isNone ∧ m.votedAt + s.get (CM_TMO.query_tmo c) ≤ s.now then
    let s := s.setCm c { m with queryAt := some s.now }
    let t := s.cmTree c
    let s := s.sendQuery c 0 0
    let s := if t.n ≤ 1 then s else s.sendQuery c 1 (t.n - 1)
    fin (s.satInc (CM_DIAG.queries c) 1)
  else .next s

/-- IN_DOUBT_TIMEOUT (R328): neither notice is held query_tmo after the query. -/
def execInDoubtTimeout (c : Ctx) (s : State) : Res :=
  match (s.cmAt c).queryAt with
  | some t =>
    if s.phase c = phVOTED ∧ s.undecided c ∧ t + s.get (CM_TMO.query_tmo c) ≤ s.now then
      let s := (s.set (CM_STAT.phase c) phINDOUBT).satInc (CM_CNT.in_doubt c) 1
      fin ((s.irq (8 + c)).emcy 0xFF14 (leBytes 1 c ++ leBytes 4 (s.get (CM_STAT.cseq c))))
    else .next s
  | none => .next s

/-- NOVOTE_TIMEOUT (R366): a child's vote has not arrived query_tmo after the member's own, observed once a child and
transaction. -/
def execNovoteTimeout (c : Ctx) (off : Bool) (child : Nat) (s : State) : Res :=
  let m := s.cmAt c
  let tr := b2n off
  if m.own.isSome ∧ ((s.cmTree c).children tr).contains child ∧ ¬ m.noVoteSeen.contains (tr, child)
      ∧ ¬ m.votes.any (fun v => v.1 == tr && v.2.1 == child)
      ∧ m.votedAt + s.get (CM_TMO.query_tmo c) ≤ s.now then
    let s := s.setCm c { m with noVoteSeen := m.noVoteSeen ++ [(tr, child)] }
    fin (s.observe (s.cmDev c child) 3)
  else .next s

/-- Whether a resolve write acts: VOTED or IN_DOUBT, or a voted member that a fence made FENCED (R329, R332). -/
def State.resolvable (s : State) (c : Nat) : Bool :=
  (s.cmAt c).abortPend.isNone &&
    (s.phase c == phVOTED || s.phase c == phINDOUBT || (s.phase c == phFENCED && (s.cmAt c).own.isSome))

/-- The effects of a resolve write (R329). -/
def State.resolve (s : State) (c : Nat) : State :=
  let a := s.get (CM_RESOLVE.action c)
  if s.phase c = phARMED then s
  else if ¬ s.resolvable c ∨ s.get (CM_RESOLVE.cseq c) ≠ s.get (CM_STAT.cseq c) ∨ (a ≠ 1 ∧ a ≠ 2) then
    s.set (CM_STAT.cfg_err c) 1
  else if a = 1 then
    let s := if s.phase c = phFENCED then
        s.setCm c { s.cmAt c with fence := some (s.get (CM_EPOCH.fence_epoch c)) }
      else s
    s.arm c (s.now + s.get TK_HT_CFG.arm_min) none
  else s.abort c stPEERLOST 0xFFFF

/-- RESOLVE: a write of 1 to CM_CTL.resolve (R329). -/
def execResolve (c : Ctx) (s : State) : Res := fin (s.resolve c)

/-- APPLY_EPOCH: a write of 1 to CM_CTL.apply_epoch (R331); while one waits a further one has no effect (R6). -/
def State.applyEpoch (s : State) (c : Nat) : State :=
  if (s.cmAt c).epochPend.isSome then s
  else if newer 16 (s.get (CM_EPOCH.staged c)) (s.get (CM_EPOCH.epoch c)) then
    s.setCm c { s.cmAt c with epochPend := some (s.get (CM_EPOCH.staged c)) }
  else s.set (CM_STAT.cfg_err c) 1

/-- APPLY_EPOCH (R331). -/
def execApplyEpoch (c : Ctx) (s : State) : Res := fin (s.applyEpoch c)

/-- COMMIT_EPOCH_EFFECT (R331): the epoch comes into force at a request boundary, or after the halt or abort of a
STEP_END that has passed P7, and fails the open interval; the spec names no status for that failure, so it is a free one
of R132's codes of commands that fail (DESIGN CHOICE, notes/assumptions/25.md). -/
def execCommitEpochEffect (c : Ctx) (s : State) : Res :=
  match (s.cmAt c).epochPend with
  | some e =>
    if (s.cmAt c).own.isSome ∨ s.phase c = phARMED ∨ (s.cmAt c).abortPend.isSome then .next s
    else
      let s := (s.set (CM_EPOCH.epoch c) e).setCm c { s.cmAt c with epochPend := none }
      let (s, r) := s.fresh 8
      fin (s.failInterval c (faultCodes.getD (r % faultCodes.length) stINTERNAL))
  | none => .next s

/-- The answer to a fence (R348, R364). -/
def State.fenceAck (s : State) (m : Msg) : State :=
  let c := m.ctx
  s.send (s.reply m 0x39
    (leBytes 2 (s.get (CM_EPOCH.epoch c)) ++ leBytes 1 (s.phase c) ++ leBytes 1 (s.active c)
      ++ leBytes 4 (s.get (CM_STAT.cseq c)) ++ leBytes 8 (s.get (CM_STEP.committed c)) ++ leBytes 8 (s.get (CM_HALT.h c))))

/-- An accepted fence (R332, R364): one whose epoch is not newer changes nothing; every one is answered. -/
def State.takeFence (s : State) (m : Msg) : State :=
  let s := s.done m
  let e := m.at_ 0 2
  let s := if newer 16 e (s.get (CM_EPOCH.epoch m.ctx)) then s.fence m.ctx e else s
  s.fenceAck m

/-- FENCE (R332). -/
def execFence (bytes : List Byte) (s : State) : Res := receiveAs 0x38 bytes s State.takeFence

/-- The end of a fence (R332): its epoch comes into force and the phase is OPEN; what the member holds of the fenced
transaction is over. Outside FENCED the write is ignored and sets cfg_err (DEDUCED, notes/assumptions/26.md). -/
def State.unfence (s : State) (c : Nat) : State :=
  if s.phase c = phFENCED then
    let s := (s.set (CM_EPOCH.epoch c) (s.get (CM_EPOCH.fence_epoch c))).set (CM_STAT.phase c) phOPEN
    s.setCm c { s.cmAt c with own := none, votes := [], sentUp := [], queryAt := none, noVoteSeen := [], endStatus := none }
  else s.set (CM_STAT.cfg_err c) 1

/-- UNFENCE: a write of 1 to CM_CTL.unfence (R332). -/
def execUnfence (c : Ctx) (s : State) : Res := fin (s.unfence c)

/-- FENCE_ACK: a reply to a request that the block never sends, so no outstanding request matches it (R349). -/
def execFenceAck (bytes : List Byte) (s : State) : Res := receiveAs 0x39 bytes s fun s m => s.done m

end Sys2Proof.Machine
end

