-- ==== Sys2Proof/Machine/FabricRows.lean ====
section
/-! DEFINITION. The rows of chapter 11: PUT and GET (R353 to R358), the inbound copies (R349, R357, R362), generation
notices (R363), drops (R352), credits (R516), the lanes and their map (R334 to R341), and messages of unknown type
(R347). -/

namespace Sys2Proof.Machine

/-- Whether a device is a current team member (R87): an index of the values in force that is present. An absent or
rebuilding index is outside, which R87 does not say (DEDUCED, notes/assumptions/64.md). -/
def State.inTeam (s : State) (c d : Nat) : Bool :=
  let v := (s.tmAt c).vals
  s.team c ≠ tmOFF && v.presentList.any fun i => v.dev i == d

/-- One window covers a copy (R86, R87). -/
def State.windowOk (s : State) (c w : Nat) (put : Bool) (dev r lo n : Nat) : Bool :=
  s.is (GL_WIN_DST.valid c w) && (if put then s.is (GL_WIN_DST.put c w) else s.is (GL_WIN_DST.get c w))
    && s.get (GL_WIN_DST.region c w) == r
    && s.get (GL_WIN_DST.dev_first c w) ≤ dev && dev ≤ s.get (GL_WIN_DST.dev_last c w)
    && (!s.is (GL_WIN_DST.team_only c w) || s.inTeam c dev)
    && s.get (GL_WIN_OFF.off c w) ≤ lo && lo + n ≤ s.get (GL_WIN_LIM.lim c w)

/-- What refuses a command, in order: The start of a PUT or GET (R354). -/
def State.checkCopy (s : State) (j : Job) : List (Bool × Nat) :=
  let c := j.ctx
  let put := j.opcode == opPUT
  let r := j.arg 24 1 % 64
  let g := s.rgn r
  let n := j.arg 48 5
  [ (64 ≤ j.arg 24 1 || 64 ≤ j.arg 25 1 || j.nonzero 28 4 || j.nonzero 38 2 || j.nonzero 46 2 || j.nonzero 53 11,
      stBADFIELD),
    (if put then s.badSlot r else g.valid && g.kind == 9, stSTABLE),
    (!put && (!(g.valid && (g.kind == 8 || g.kind == 10) && g.ctx == c) || s.isSpar r), stREGION),
    (!((!put || s.readable c r)
      && (List.range 64).any fun w => s.windowOk c w put (j.arg 26 2) (j.arg 25 1 % 64) j.remoteOff n), stWINDOW),
    (n == 0 || n % 64 ≠ 0 || j.localOff % 64 ≠ 0 || j.remoteOff % 64 ≠ 0 || g.bytes false < j.localOff + n, stBADFIELD),
    (s.tooLarge j n, stTOOLARGE) ]

/-- What a command that is not refused does: The start of a PUT or GET (R354). -/
def State.runCopy (s : State) (j : Job) : State :=
  let put := j.opcode == opPUT
  let r := j.arg 24 1 % 64
  s.launch { j with segs := [if put then .putReqs else .getReqs], refs := [r], slots := s.slotsOf [r] }

/-- The start of a PUT or GET (R354). -/
def State.startCopy (s : State) (j : Job) : State := s.startOr j (s.checkCopy j) (s.runCopy j)

/-- PUT at its start point (R353). -/
def execPut (c : Ctx) (q : Que) (s : State) : Res := fin (s.beginOp c q opPUT State.startCopy)
/-- GET at its start point (R353). -/
def execGet (c : Ctx) (q : Que) (s : State) : Res := fin (s.beginOp c q opGET State.startCopy)

/-- The region that a PUT_DATA or GET_REQ names. -/
def Msg.region (m : Msg) : Nat := m.at_ 0 1 % 64

/-- The parts of a PUT_DATA: granule, logical byte and bytes (R362). -/
def State.putParts (s : State) (m : Msg) : List (Nat × Nat × List Byte) :=
  let data := m.body.drop 8
  let lo := m.at_ 2 6
  let us := (s.pieces ⟨m.region, 0, false, lo, data.length⟩).flatMap Piece.subs
  (us.foldl (fun (l, pos) u => (l ++ [(gKey u.x u.gr, lo + pos, slice data pos u.n)], pos + u.n)) ([], 0)).1

/-- An accepted PUT_DATA is queued (R357, R359). -/
def State.takePut (s : State) (m : Msg) : State :=
  let (s, id) := s.keepReq m false
  let keys := (s.putParts m).foldl (fun l p => setAdd l p.1) []
  if keys = [] then (s.send (s.reply m 0x02 [])).freeReq id
  else s.setFab { s.fab with reqs := s.fab.reqs.map fun r => if r.id == id then { r with todo := keys } else r }

/-- PUT_DATA (R349, R357). -/
def execPutData (bytes : List Byte) (s : State) : Res := receiveAs 0x01 bytes s State.takePut

/-- Bytes laid over a table of bytes; a later message overwrites an earlier one (R362). -/
def layBytes (t : Tbl Byte) : Nat → List Byte → Tbl Byte
  | _, [] => t
  | a, b :: bs => layBytes (Tbl.ins t a b) (a + 1) bs

/-- A table of bytes as runs of consecutive ones. -/
def runsOf (t : Tbl Byte) : List (Nat × List Byte) :=
  t.foldr (fun p l => match l with
    | (a, bs) :: rest => if p.1 + 1 = a then (p.1, p.2 :: bs) :: rest else (p.1, [p.2]) :: l
    | [] => [(p.1, [p.2])]) []

/-- Whether a queued PUT_DATA may join an update of a granule that takes others: every earlier ordered message of its source
and context is written or answered, or is a PUT_DATA whose last granule this update takes (R342, R362). -/
def joinsUpdate (l taken : List InReq) (key : Nat) (q : InReq) : Bool :=
  l.all fun r => !(r.id < q.id && r.msg.src == q.msg.src && r.msg.ctx == q.msg.ctx
      && (r.msg.typ == 0x01 || r.msg.typ == 0x03 || r.msg.typ == 0x05))
    || (taken.any (fun x => x.id == r.id) && r.todo == [key] && r.open_ == 0)

/-- The queued PUT_DATA that one update of a granule takes: at most 128, in queue order, each source's in arrival order
(R342, R362). -/
def State.takers (s : State) (key : Nat) : List InReq :=
  (s.fab.reqs.foldl (fun l q =>
    if q.msg.typ = 0x01 ∧ q.todo.contains key ∧ l.length < 128 ∧ joinsUpdate s.fab.reqs l key q then l ++ [q] else l) [])

/-- One granule update (R362): the bytes of its messages, the later over the earlier, written in one read-modify-write. -/
def State.granuleUpdate (s : State) (key : Nat) : State :=
  let bad := (s.takers key).filter fun q => s.regionCheck q.msg ≠ .accept
  let s := bad.foldl (fun s q => (s.drop q.msg stREGION).freeReq q.id) s
  match s.takers key with
  | [] => s
  | q :: qs =>
    let l := q :: qs
    let t := l.foldl (fun t q => ((s.putParts q.msg).filter fun p => p.1 == key).foldl (fun t p => layBytes t p.2.1 p.2.2) t)
      ([] : Tbl Byte)
    let ids := l.map (·.id)
    let s := s.setFab { s.fab with
      reqs := s.fab.reqs.map (fun r => if ids.contains r.id then
        { r with todo := r.todo.filter (· ≠ key), open_ := r.open_ + 1, busy := true } else r),
      combined := s.fab.combined + if 1 < ids.length then 1 else 0 }
    let s := s.set FB_INQ.combined (s.fab.combined / 1024)
    s.addJob { id := 0, owner := .inbound ids, ctx := q.msg.ctx, value := key, segs := [.granule q.msg.region (runsOf t)] }

/-- The granule updates in flight. -/
def State.inFlight (s : State) : List Job :=
  s.jobs.filter fun j => match j.owner with
    | .inbound _ => true
    | _ => false

/-- INBOUND_GRANULE_UPDATE (R362): at most 32 in flight, each on a different granule. -/
def execInboundGranuleUpdate (n : Slice) (granule : Nat) (s : State) : Res :=
  let key := gKey n granule
  if 32 ≤ s.inFlight.length ∨ s.inFlight.any (fun j => j.value == key) ∨ s.mem.resetHigh then .next s
  else fin (s.granuleUpdate key)

/-- Bytes of an engine acknowledged (FB_ENG.bytes, in KiB). -/
def State.engDone (s : State) (e n : Nat) : State :=
  if e < 4 then
    let t := Tbl.at s.fab.engBytes 0 e + n
    (s.setFab { s.fab with engBytes := Tbl.put s.fab.engBytes 0 e t }).set (FB_ENG.bytes e) (t / 1024)
  else s

/-- PUT_ACK (R356, R357): the request leaves its place. -/
def State.takePutAck (s : State) (m : Msg) : State :=
  let s := s.done m
  match s.asked m with
  | some o => (s.endOut o).engDone o.eng o.n
  | none => s

/-- PUT_ACK (R349, R357). -/
def execPutAck (bytes : List Byte) (s : State) : Res := receiveAs 0x02 bytes s State.takePutAck

/-- An accepted GET_REQ is queued; it is served once the earlier PUT_DATA of its source and context are written (R342,
R357). -/
def State.takeGet (s : State) (m : Msg) : State := (s.keepReq m false).1

/-- GET_REQ (R349, R357). -/
def execGetReq (bytes : List Byte) (s : State) : Res := receiveAs 0x03 bytes s State.takeGet

/-- An accepted GET_DATA (R356): its data is written at the request's place in the local destination. -/
def State.takeGetData (s : State) (m : Msg) : State :=
  let s := s.done m
  match s.asked m with
  | some o =>
    let s := (s.endOut o).engDone o.eng o.n
    match s.job o.job with
    | some j =>
      if j.ending.isSome then s
      else s.setJob { j with hold := .run,
                             segs := j.segs ++ [.put (j.arg 24 1 % 64) 0 false (j.localOff + o.lo) (m.body.take o.n)] }
    | none => s
  | none => s

/-- GET_DATA (R349, R357). -/
def execGetData (bytes : List Byte) (s : State) : Res := receiveAs 0x04 bytes s State.takeGetData

/-- GEN_NOTICE (R363): it stands in the ordered class behind its source's earlier messages. -/
def execGenNotice (bytes : List Byte) (s : State) : Res := receiveAs 0x05 bytes s fun s m => (s.keepReq m false).1

/-- An accepted GEN_ACK: its destination no longer counts for the teardown (R128, R363). -/
def State.takeGenAck (s : State) (m : Msg) : State :=
  let x := s.cxAt m.ctx
  let s := (s.done m).setCx m.ctx { x with tdNotice := x.tdNotice.filter (· ≠ m.src) }
  match s.asked m with
  | some o => s.endOut o
  | none => s

/-- GEN_ACK (R363). -/
def execGenAck (bytes : List Byte) (s : State) : Res := receiveAs 0x06 bytes s State.takeGenAck

/-- An accepted DROP (R352): the command of its request ends with the carried status. -/
def State.takeDrop (s : State) (m : Msg) : State :=
  let s := s.done m
  match s.asked m with
  | some o =>
    let s := match s.job o.job with
      | some j => if j.ending.isSome then s else s.endCmd j (m.at_ 0 1)
      | none => s
    s.endOut o
  | none => s

/-- DROP (R352). -/
def execDrop (bytes : List Byte) (s : State) : Res := receiveAs 0x07 bytes s State.takeDrop

/-- UNKNOWN_MESSAGE_TYPE (R347, R492): a message of an unlisted type is dropped silently and counted. -/
def execUnknownMessageType (bytes : List Byte) (s : State) : Res :=
  if unknownType bytes then fin (s.receive bytes fun s m => (s.done m).satInc FB_STAT.drop_other 1)
  else .fault .illFormed

/-- CREDIT_WORD (R360, R516): credits of a class on a link added, or its count replaced. -/
def execCreditWord (link : Fin 19) (bytes : List Byte) (s : State) : Res :=
  let b := leAt bytes 0 1
  let mode := leAt bytes 1 1
  if b / 4 ≠ 0x30 ∨ 2 ≤ mode then .fault .illFormed
  else
    let k := crKey link (b % 4)
    let f := s.fab
    let base := fun (t : Tbl Nat) => if mode = 1 then 0 else Tbl.at t 0 k
    .next (s.setFab { f with msgCr := Tbl.put f.msgCr 0 k (base f.msgCr + leAt bytes 2 2),
                             datCr := Tbl.put f.datCr 0 k (base f.datCr + leAt bytes 4 4) })

/-- LANE_DOWN (R334): the PHY of a lane reports down. The lane's downs reaching the threshold make it a suspect
(R436). -/
def execLaneDown (p : Fin 18) (s : State) : Res :=
  let s := s.setFab { s.fab with laneDn := setAdd s.fab.laneDn p }
  if s.lane p = lnACTIVE ∨ s.lane p = lnSPARE then
    let s := ((s.set (FB_LANE.state p) lnDOWN).satInc (FB_LANE.downs p) 1).irq 20
    let s := s.setFab { s.fab with rebuildPend := true }
    let s := if s.get (FB_LANE.downs p) = s.get DG_SUS_CFG.lane_thresh then s.suspect s.self else s
    fin s.syncLanes
  else fin s

/-- LANE_UP (R334, R517): the PHY of a lane reports up. A SPARE lane carries nothing. -/
def execLaneUp (p : Fin 18) (s : State) : Res :=
  let s := s.setFab { s.fab with laneDn := s.fab.laneDn.filter (· ≠ p.val) }
  let out := nbits (s.get FB_LANE_CTL.out) p 1 == 1
  let s := if (s.lane p = lnDOWN ∨ s.lane p = lnOUT) ∧ ¬ out then
      ((s.set (FB_LANE.state p) lnSPARE).set (FB_LANE.mapped p) 0).set (FB_LANE.logical p) 0
    else s
  fin (s.creditWords p)

/-- LANE_MAP_APPLY: a write of FB_LANE_CTL (R336). -/
def execLaneMapApply (v : W64) (s : State) : Res :=
  let s := s.set FB_LANE_CTL.out (fget v 0 18)
  fin (if fget v 63 1 = 1 then (s.set FB_LANE_CTL.apply 1).setFab { s.fab with rebuildPend := true } else s)

/-- The physical lanes of logical lanes 0 to 15 after a rebuild: the lanes that stay ACTIVE, then SPARE ones, each in
ascending order (R336). -/
def State.laneOrder (s : State) : List Nat :=
  ((List.range 18).filter (fun p => s.lane p == lnACTIVE) ++ (List.range 18).filter (fun p => s.lane p == lnSPARE)).take 16

/-- The first step of a rebuild (R334, R336): lanes that are DOWN or mapped out are OUT; one no longer mapped out whose
PHY is up is SPARE. -/
def State.lanesOut (s : State) : State :=
  (List.range 18).foldl (fun s p =>
    let out := nbits (s.get FB_LANE_CTL.out) p 1 == 1
    if s.lane p = lnOUT then
      (if ¬ out ∧ ¬ s.fab.laneDn.contains p then s.set (FB_LANE.state p) lnSPARE else s)
    else if s.lane p = lnDOWN ∨ out then
      ((s.set (FB_LANE.state p) lnOUT).set (FB_LANE.mapped p) 0).set (FB_LANE.logical p) 0
    else s) s

/-- The physical lane that carries a logical lane itself. -/
def State.physOf (s : State) (l : Nat) : Option Nat :=
  (List.range 18).find? fun p => s.lane p == lnACTIVE && s.get (FB_LANE.logical p) == l

/-- Outstanding ordered requests that have left the port. -/
def State.sentOrdered (s : State) : List FabOut :=
  s.fab.outs.filter fun o =>
    msgOrdered o.typ && !(s.fab.txq.any fun m => m.typ == o.typ && m.dst == o.dst && m.ctx == o.ctx && m.tag == o.tag)

/-- A map rebuild (R336, R341). -/
def State.laneRebuild (s : State) : State :=
  let old := (List.range 16).map s.physOf
  let s := s.lanesOut
  let order := s.laneOrder
  let s := order.zipIdx.foldl (fun s (p, l) =>
    ((s.set (FB_LANE.state p) lnACTIVE).set (FB_LANE.mapped p) 1).set (FB_LANE.logical p) l) s
  let moved := (List.range 16).filter fun l => (old.getD l none).isSome && old.getD l none ≠ order[l]?
  let s := s.set FB_LANE_CTL.apply 0
  let s := s.setFab { s.fab with rebuildPend := false, rebuildDue := false,
                                 held := s.sentOrdered.filter fun o => moved.contains (o.dst % 16) }
  s.syncLanes

/-- LANE_MAP_REBUILD (R336): a rebuild that waits takes place at a tick boundary of an enabled context, or at once where
none is enabled. -/
def execLaneMapRebuild (s : State) : Res :=
  if s.fab.rebuildPend ∧ (s.fab.rebuildDue ∨ ¬ s.anyTicks) then
    fin s.laneRebuild
  else .next s

/-- INQ_PEAK_CLEAR: a write of 1 to FB_INQ_CTL.peak_clr. -/
def execInqPeakClear (s : State) : Res := .next (s.set FB_INQ.req_peak (s.get FB_INQ.req_used))

end Sys2Proof.Machine
end

