-- ==== Sys2Proof/Machine/UpdateRows.lean ====
section
/-! DEFINITION. The starts of UPDATE and PRECOND_REFRESH: operands and refusals (R157 to R163, R198 to R200, R209, R531),
scalars and the norm guard (R166, R169, R170), and coverage lists (R161, R200). -/

namespace Sys2Proof.Machine

/-- The segment that a schedule of a context uses for a step (R166): the greatest start, the highest number of equals. -/
def State.segFor (s : State) (c d step : Nat) : Option Nat :=
  (List.range 16).foldl (fun best i =>
    if s.is (GL_SCHED_SEG.valid c d i) ∧ s.get (GL_SCHED_SEG.start c d i) ≤ step then
      match best with
      | some b => if s.get (GL_SCHED_SEG.start c d b) ≤ s.get (GL_SCHED_SEG.start c d i) then some i else some b
      | none => some i
    else best) none

/-- A segment as the scalar stage samples it. -/
def State.segAt (s : State) (c d i : Nat) : SchedSeg :=
  { start := s.get (GL_SCHED_SEG.start c d i), kind := s.get (GL_SCHED_SEG.kind c d i),
    len := s.get (GL_SCHED_LEN.len c d i), a := kw (s.get (GL_SCHED_LR.lr_a c d i)), b := kw (s.get (GL_SCHED_LR.lr_b c d i)) }

/-- The rule descriptor, norm register, norm_en, step, first and count of an UPDATE (R157). -/
def Job.rule (j : Job) : Nat := j.arg 24 1 % 16
def Job.normReg (j : Job) : Nat := j.arg 25 1 % 8
def Job.normEn (j : Job) : Bool := decide (128 ≤ j.arg 25 1)
def Job.step (j : Job) : Nat := j.arg 40 8
def Job.first (j : Job) : Nat := j.arg 48 8
def Job.count (j : Job) : Nat := j.arg 56 8

/-- t of R169, modulo 2^64. -/
def State.updT (s : State) (j : Job) : Nat := (j.step + 2 ^ 64 + 1 - s.get (GL_RULE_T0.t0 j.ctx j.rule)) % 2 ^ 64

/-- The norm scalars of an UPDATE with norm_en (R169). -/
def State.updNorm (s : State) (j : Job) : Num × Bool × Num :=
  let c := j.ctx
  let d := j.rule
  let inv := kw (s.get (GL_RULE_SCALE.inv_scale c d))
  if j.normEn then
    normScalars (ieeeNum fB64 (s.get (GL_NORM_VAL.n2 c j.normReg))) inv (kw (s.get (GL_RULE_LIM.norm_max c d)))
      (kw (s.get (GL_RULE_CLIP.clip_norm c d)))
  else (Num.zero, false, inv)

/-- What the pass uses of the descriptor and the scalars (R169, R179, R188). -/
def State.updPar (s : State) (j : Job) : UpdPar :=
  let c := j.ctx
  let d := j.rule
  let step := j.step
  let sched := s.get (GL_RULE_CTL.sched c d)
  let rate := match s.segFor c sched step with
    | some i => (s.segAt c sched i).rate step
    | none => Num.zero
  let b1 := s.get (GL_RULE_BETA.beta1 c d)
  let b2 := s.get (GL_RULE_BETA.beta2 c d)
  let t := s.updT j
  let word := fun x => kRound fK32 x
  { kind := s.get (GL_RULE_CTL.kind c d), decay := s.get (GL_RULE_CTL.decay c d),
    elemAct := s.get (GL_RULE_CTL.elem_act c d),
    accum := (step - s.get (GL_RULE_T0.t0 c d)) % s.get (GL_RULE_CTL.accum_stride c d) == 0,
    beta1 := b1, beta2 := b2, eps := s.get (GL_RULE_EPS.eps c d), lambda := s.get (GL_RULE_EPS.lambda c d),
    clipElem := s.get (GL_RULE_CLIP.clip_elem c d), elemMax := s.get (GL_RULE_SCALE.elem_max c d),
    betaF := s.get (GL_RULE_LIM.beta_f c d), eta := word (rate.mul (kw (s.get (GL_RULE_LR.lr_mult c d)))),
    c := word (s.updNorm j).2.2, ob1 := word (Num.one.sub (kw b1)), ob2 := word (Num.one.sub (kw b2)),
    bc1 := word (biasOf (kw b1) t), bc2 := word (biasOf (kw b2) t) }

/-- The rule kind a command's descriptor has. -/
def State.ruleKind (s : State) (j : Job) : Nat := s.get (GL_RULE_CTL.kind j.ctx j.rule)

/-- The operands that a rule kind uses (R158): written ones with the kind of region each must name. -/
def State.updWritten (s : State) (j : Job) : List (Nat × Nat) :=
  [(j.hi, 1), (j.lo, 2)] ++ (if 1 ≤ s.ruleKind j ∧ s.ruleKind j ≤ 3 then [(j.mom, 3)] else [])
    ++ (if s.ruleKind j = 2 ∨ s.ruleKind j = 3 then [(j.vel, 3)] else []) ++ (if s.ruleKind j = 3 then [(j.fac, 4)] else [])

/-- The operands that a rule kind uses and does not write. -/
def State.updRead (s : State) (j : Job) : List Nat := [j.grad] ++ if s.ruleKind j = 3 then [j.root] else []

/-- A moment operand that breaks its row of R158, region kind and ownership apart. -/
def State.momBad (s : State) (g : Rgn) (r : Nat) : Bool :=
  let m := s.rgn r
  !m.valid || m.group ≠ g.group || !(m.fmt == 2 || (m.fmt == fmtK8 && Config.fusedK8))

/-- A factor or root operand that breaks its row of R158, region kind and ownership apart. -/
def State.facBad (s : State) (g : Rgn) (r : Nat) : Bool :=
  let m := s.rgn r
  !m.valid || m.kind ≠ 4 || m.fmt ≠ 2 || m.count ≠ 32768 * cdiv g.count 16384

/-- The failures of R158's table that BAD_FIELD answers. -/
def State.updRegionBad (s : State) (j : Job) : Bool :=
  let g := s.rgn j.hi
  let l := s.rgn j.lo
  let gr := s.rgn j.grad
  let k := s.ruleKind j
  !g.valid || g.fmt ≠ 0 || !l.valid || l.fmt ≠ 1 || l.group ≠ g.group
    || !gr.valid || gr.kind ≠ 8 || !(gr.fmt == 0 || gr.fmt == 2) || gr.group ≠ g.group
    || (if 1 ≤ k ∧ k ≤ 3 then s.momBad g j.mom else j.arg 29 1 ≠ 0)
    || (if k = 2 ∨ k = 3 then s.momBad g j.vel || j.vel == j.mom else j.arg 30 1 ≠ 0)
    || (if k = 3 then s.facBad g j.fac || s.facBad g j.root || j.root == j.fac else j.arg 31 1 ≠ 0 || j.arg 32 1 ≠ 0)

/-- R159. -/
def State.updRangeBad (s : State) (j : Job) : Bool :=
  let n := (s.rgn j.hi).count
  let q := if s.ruleKind j = 3 then 16384 else 128
  j.count == 0 || n < j.first + j.count || j.first % q ≠ 0 || (j.count % q ≠ 0 && j.first + j.count ≠ n)

/-- R160: the open step, and its prepare not begun; a fence does not undo that it has begun (R310, R332). -/
def State.stepBad (s : State) (j : Job) : Bool :=
  j.step ≠ s.get (CM_OPEN.open_ j.ctx) || s.window j.ctx || (s.cmAt j.ctx).prepared

/-- The descriptor, schedule and norm refusals of R166, R169 and R188. -/
def State.updRuleBad (s : State) (j : Job) : Bool :=
  let c := j.ctx
  let d := j.rule
  !s.is (GL_RULE_CTL.valid c d) || (s.segFor c (s.get (GL_RULE_CTL.sched c d)) j.step).isNone
    || j.step < s.get (GL_RULE_T0.t0 c d) || s.updT j == 0
    || (!j.normEn && (!(kw (s.get (GL_RULE_CLIP.clip_norm c d))).isZero || s.get (GL_RULE_CTL.norm_act c d) ≠ 0))
    || (j.normEn && (!s.is (GL_NORM_TAG.valid c j.normReg) || s.get (GL_NORM_TAG.step c j.normReg) ≠ j.step % 2 ^ 48))

/-- The read bytes of an UPDATE in hundredths of a byte an element, as the table of R186 gives them (R163). -/
def State.updCost (s : State) (j : Job) : Nat :=
  let k := s.ruleKind j
  let mom := fun r => if (s.rgn r).fmt = fmtK8 then 103 else 400
  700 + (if (s.rgn j.grad).fmt = 2 then 200 else 0) + (if 1 ≤ k then mom j.mom else 0) + (if 2 ≤ k then mom j.vel else 0)
    + (if k = 3 then 1600 else 0)

/-- A coverage list that cannot take a range (R161, R200). -/
def coverBad (l : List (Nat × Nat)) (lo n : Nat) : Bool := ivMeets l lo (lo + n) || 16 < (ivAdd l lo (lo + n)).length

/-- A writer that does not count has written no banked region of a group in the interval: for UPDATE (R161) the UPDATEs of
the group itself do not count, for a refresh (R200) UPDATEs and refreshes (DEDUCED, notes/assumptions/42.md). -/
def State.groupWritten (s : State) (c g : Nat) (mine : Writer → Bool) : Bool :=
  let m := s.cmAt c
  ((m.others.filter fun w => !mine w.2).map (·.1) ++ m.copied).any fun r =>
    (s.rgn r).valid && (s.rgn r).group == g && (s.rgn r).banked

/-- An UPDATE that the norm guard ends before any write (R170): its range leaves the list again, and nothing is
written. -/
def State.normEnd (s : State) (j : Job) (gn : Num) : State :=
  let act := s.get (GL_RULE_CTL.norm_act j.ctx j.rule)
  let s := if act = 1 then s.satInc (GL_UPD_STAT.skipped j.ctx) 1 else s.satInc (GL_UPD_STAT.refused j.ctx) 1
  ((s.post j.ctx j.key (if act = 1 then stGUARDSKIPPED else stGUARDREFUSED) 0 (ieeeRound fB64 gn)).tickDone j).advance
    j.ctx j.queue

/-- An UPDATE runs: its range is recorded and its pass begins (R161, R169). -/
def State.updRun (s : State) (j : Job) : State :=
  let c := j.ctx
  let g := (s.rgn j.hi).group
  let m := s.cmAt c
  let s := s.setCm c { m with cover := Tbl.ins m.cover g (ivAdd (Tbl.at m.cover [] g) j.first (j.first + j.count)) }
  let refs := ((s.updWritten j).map (·.1) ++ s.updRead j).foldl setAdd []
  s.launch { j with upd := s.updPar j, segs := [.update], refs := refs, acc := [0, 0, 0, 0], stage := s.get (CM_STAT.cseq c) }

/-- What refuses a command, in order: UPDATE's start (R157 to R170). -/
def State.checkUpdate (s : State) (j : Job) : List (Bool × Nat) :=
  let c := j.ctx
  let b := fun n => j.arg n 1
  let used := (s.updWritten j).map (·.1) ++ s.updRead j
  [ (16 ≤ b 24 || b 25 / 8 % 16 ≠ 0 || [26, 27, 28, 29, 30, 31, 32].any (fun n => 64 ≤ b n) || j.nonzero 33 7, stBADFIELD),
    (used.any fun r => (s.rgn r).valid && (s.rgn r).kind == 9, stSTABLE),
    ((s.updWritten j).any fun p => (s.rgn p.1).valid && ((s.rgn p.1).kind ≠ p.2 || (s.rgn p.1).ctx ≠ c), stREGION),
    (s.ruleKind j == 3 && s.is YK_STAT.failed, stINTERNAL),
    (s.updRegionBad j || s.updRangeBad j || s.stepBad j || s.updRuleBad j, stBADFIELD),
    (s.get (GL_CTX_LIM.max_bytes c) ≠ 0 && 100 * s.get (GL_CTX_LIM.max_bytes c) < j.count * s.updCost j, stTOOLARGE),
    (coverBad (Tbl.at (s.cmAt c).cover [] (s.rgn j.hi).group) j.first j.count
      || s.groupWritten c (s.rgn j.hi).group (· == .update (s.rgn j.hi).group), stBADFIELD) ]

/-- What a command that is not refused does: UPDATE's start (R157 to R170). -/
def State.runUpdate (s : State) (j : Job) : State :=
  let c := j.ctx
  let n := s.updNorm j
  if n.2.1 ∧ s.get (GL_RULE_CTL.norm_act c j.rule) ≠ 0 then s.normEnd j n.1 else s.updRun j

/-- UPDATE's start (R157 to R170). -/
def State.startUpdate (s : State) (j : Job) : State := s.startOr j (s.checkUpdate j) (s.runUpdate j)

/-- UPDATE at its start point. -/
def execUpdate (c : Ctx) (q : Que) (s : State) : Res := fin (s.beginOp c q opUPDATE State.startUpdate)

/-- The failures of R199 that BAD_FIELD answers. -/
def State.refreshBad (s : State) (j : Job) : Bool :=
  let f := s.rgn j.rfac
  let r := s.rgn j.rroot
  let word := fun n => let x := kw (j.arg n 4); x.isNan || x.isNeg
  !f.valid || f.kind ≠ 4 || f.fmt ≠ 2 || !r.valid || r.fmt ≠ 2 || j.rfac == j.rroot || f.count ≠ r.count
    || f.count % 32768 ≠ 0 || j.count == 0 || f.count / 32768 < j.first + j.count || j.arg 26 1 % 16 == 0
    || word 28 || word 32 || s.stepBad j

/-- A refresh runs: its range is recorded (R200). -/
def State.refreshRun (s : State) (j : Job) : State :=
  let c := j.ctx
  let g := (s.rgn j.rroot).group
  let m := s.cmAt c
  let s := s.setCm c { m with coverR := Tbl.ins m.coverR g (ivAdd (Tbl.at m.coverR [] g) j.first (j.first + j.count)) }
  s.launch { j with segs := [.precond (2 * j.count)], refs := [j.rfac, j.rroot].foldl setAdd [], acc := [0, 0, 0, 0],
                    stage := s.get (CM_STAT.cseq c) }

/-- What refuses a command, in order: PRECOND_REFRESH's start (R198 to R200). -/
def State.checkPrecond (s : State) (j : Job) : List (Bool × Nat) :=
  let c := j.ctx
  let r := s.rgn j.rroot
  [ (64 ≤ j.arg 24 1 || 64 ≤ j.arg 25 1 || j.arg 26 1 / 16 % 8 ≠ 0 || j.nonzero 27 1 || j.nonzero 36 4, stBADFIELD),
    ([j.rfac, j.rroot].any fun x => (s.rgn x).valid && (s.rgn x).kind == 9, stSTABLE),
    (r.valid && (r.kind ≠ 4 || r.ctx ≠ c), stREGION),
    (s.is YK_STAT.failed, stINTERNAL),
    (s.refreshBad j, stBADFIELD),
    (s.tooLarge j (j.count * 262144), stTOOLARGE),
    (coverBad (Tbl.at (s.cmAt c).coverR [] r.group) j.first j.count || s.groupWritten c r.group (· ≠ .other), stBADFIELD) ]

/-- What a command that is not refused does: PRECOND_REFRESH's start (R198 to R200). -/
def State.runPrecond (s : State) (j : Job) : State :=
  s.refreshRun j

/-- PRECOND_REFRESH's start (R198 to R200). -/
def State.startPrecond (s : State) (j : Job) : State := s.startOr j (s.checkPrecond j) (s.runPrecond j)

/-- PRECOND_REFRESH at its start point. -/
def execPrecondRefresh (c : Ctx) (q : Que) (s : State) : Res := fin (s.beginOp c q opPRECOND State.startPrecond)

end Sys2Proof.Machine
end

