-- ==== Sys2Proof/Machine/TeamRows.lean ====
section
/-! DEFINITION. The rows of chapter 09: formation (R266, R533), applies and dissolves (R267 to R269), deltas and their
answers (R280 to R283), fetches (R292), the parity audit (R294 to R298), and the coding of stable slots (R287, R289). -/

namespace Sys2Proof.Machine

/-- The checks of R266, but for every index being present. -/
def State.joinOk (s : State) (c : Nat) : Bool :=
  let v := s.staged c
  let d := s.get (TM_CFG.dbuf c)
  v.ok && v.dev v.index == s.self && s.shareOk c v && 2 ≤ d && d ≤ 64 && s.sparOk c && s.touchFits c v
    && 4 * d + s.get (GS_SLOT_CFG.per_slice c) ≤ 128 * popcount 8 (s.get (GL_CTX_CFG.ways c))

/-- The checks of a form write (R266). -/
def State.formOk (s : State) (c : Nat) : Bool := s.joinOk c && (s.staged c).allPresent

/-- The team back in OFF with form_err set (R266). -/
def State.formFail (s : State) (c : Nat) : State := (s.dissolve c).set (TM_STAT.form_err c) 1

/-- Whether a notice is judged at all: from the device named for its index (R266), and not of an older epoch in the hall
cycle of the form write (R299). -/
def State.judged (s : State) (c i : Nat) (f : FormNote) : Bool :=
  let v := (s.tmAt c).vals
  i < v.n && i ≠ v.index && v.dev i == f.src && !(newer 16 v.epoch f.epoch && f.at_ == (s.tmAt c).formAt)

/-- Whether a notice agrees with the values in force (R266). -/
def State.agrees (s : State) (c : Nat) (f : FormNote) : Bool :=
  let v := (s.tmAt c).vals
  f.team == v.teamId && f.job == v.jobId && f.epoch == v.epoch && f.digest == s.get (TM_SHAPEF.digest c)

/-- Every kept notice judged while FORMING (R266, R533): a difference ends the formation, agreement of every other index
completes it. -/
def State.judge (s : State) (c : Nat) : State :=
  let t := s.tmAt c
  if t.forms.any fun e => s.judged c e.1 e.2 && !s.agrees c e.2 then s.formFail c
  else if (List.range t.vals.n).all fun i => i == t.vals.index ||
      (match Tbl.find t.forms i with
       | some f => s.judged c i f && s.agrees c f
       | none => false) then
    ((s.set (TM_STAT.state c) tmENCODING).setTm c { t with forms := [] }).announceTeam c
  else s

/-- The formation notice to every other member (R266). -/
def State.sendForms (s : State) (c : Nat) : State :=
  let v := (s.tmAt c).vals
  (List.range v.n).foldl (fun s i =>
    if i = v.index then s
    else s.send (s.frag c 0x15 i 0 0 0 false (leBytes 8 (s.get (TM_SHAPEF.digest c))))) s

/-- A form write (R266). -/
def State.form (s : State) (c : Nat) : State :=
  if s.team c ≠ tmOFF ∨ s.get (TM_CFG.mode c) = 0 then s
  else if ¬ s.formOk c then s.set (TM_STAT.form_err c) 1
  else
    let s := s.setTm c { s.tmAt c with vals := s.staged c, formAt := s.now, pending := none, touch := [], fullRan := false }
    let s := (s.set (TM_STAT.state c) tmFORMING).syncTeam c
    (s.sendForms c).judge c

/-- TEAM_FORM: a write of 1 to TM_CTL.form (R266). -/
def execTeamForm (c : Ctx) (s : State) : Res := fin (s.form c)

/-- FORMATION_TIMEOUT (R266): dflt hall cycles have passed without agreement. -/
def execFormationTimeout (c : Ctx) (s : State) : Res :=
  if s.team c = tmFORMING ∧ (s.tmAt c).formAt + s.get (GL_CTX_TMO.dflt c) ≤ s.now then fin (s.formFail c)
  else .next s

/-- An accepted FORM (R266, R533): kept while the team is OFF or FORMING, and judged while FORMING. -/
def State.takeForm (s : State) (m : Msg) : State :=
  let c := m.ctx
  let s := s.done m
  let t := s.tmAt c
  let f : FormNote := ⟨m.src, m.team, m.tag, m.epoch, m.at_ 0 8, s.now⟩
  if ¬ (s.team c = tmOFF ∨ s.team c = tmFORMING) ∨ m.gen ≠ s.get (GL_CTX_STAT.gen c) then s
  else if s.team c = tmOFF then s.setTm c { t with forms := Tbl.ins t.forms m.member f }
  else if s.judged c m.member f then (s.setTm c { t with forms := Tbl.ins t.forms m.member f }).judge c
  else s

/-- FORM (R266). -/
def execForm (bytes : List Byte) (s : State) : Res := receiveAs 0x15 bytes s State.takeForm

/-- The checks of an apply write (R267). -/
def State.applyOk (s : State) (c : Nat) : Bool :=
  let v := s.staged c
  let o := (s.tmAt c).vals
  newer 16 v.epoch o.epoch && v.ok && v.mstate v.index ≠ 0 && v.dev v.index == s.self && v.jobId == o.jobId
    && (!layoutChange o v || (s.shareOk c v && s.touchFits c v && v.allPresent))

/-- An apply write (R267): checked, and its values copied; while one is pending a further write has no effect. -/
def State.teamApply (s : State) (c : Nat) : State :=
  if (s.tmAt c).pending.isSome then s
  else if s.team c = tmOFF ∨ s.team c = tmFORMING ∨ ¬ s.applyOk c then s.set (TM_STAT.cfg_err c) 1
  else (s.setTm c { s.tmAt c with pending := some (s.staged c) }).set (TM_CTL.apply c) 1

/-- TEAM_APPLY: a write of 1 to TM_CTL.apply (R267). -/
def execTeamApply (c : Ctx) (s : State) : Res := fin (s.teamApply c)

/-- The regions that a running command of a context writes: those of an UPDATE by the rule kind it started with (R158), a
refresh's factor and root (R198), the destination of a copy, load or import. A STEP_END's copies are the commit engine's
(DEDUCED, notes/assumptions/26.md). -/
def State.writtenRgns (_s : State) (j : Job) : List Nat :=
  let k := j.upd.kind
  if j.opcode = opUPDATE then
    [j.hi, j.lo] ++ (if 1 ≤ k ∧ k ≤ 3 then [j.mom] else []) ++ (if k = 2 ∨ k = 3 then [j.vel] else [])
      ++ if k = 3 then [j.fac] else []
  else if j.opcode = opPRECOND then [j.rroot]
  else if j.opcode = opREGIONCOPY then [j.arg 25 1 % 64]
  else []

/-- The commands that an apply ends with PEER_LOST: writers of a team region, audits, and loads in CODING (R269), and
collectives (R257). -/
def State.applyEnds (s : State) (c : Nat) (j : Job) : Bool :=
  j.cmdOf c && j.ending.isNone &&
    (j.opcode == opAUDIT || j.isGs || (j.opcode == opSTABLELOAD && 1 ≤ j.stage)
      || (s.writtenRgns j).any fun r => (s.rgn r).team)

/-- The members whose index a substitution marks present again (R384, R385). -/
def rejoined (old new : TeamVals) : List Nat :=
  (List.range new.n).filter fun i => new.mstate i == 1 && old.mstate i ≠ 1

/-- The values of an apply come into force (R268, R269, R289). The positions of a member that a substitution brings back
count as erased in every coded slot (R385). -/
def State.takeApply (s : State) (c : Nat) (v : TeamVals) : State :=
  let t := s.tmAt c
  let state := teamNext (s.team c) t.vals v
  let slots := s.codedSlots c
  let lay := layoutChange t.vals v
  let s := s.failInterval c stPEERLOST
  let s := (s.jobs.filter (s.applyEnds c)).foldl (fun s j => s.endCmd j stPEERLOST) s
  let s := (s.cutTeamWork c).rebuildFail c stPEERLOST
  let s : State := { s with jobs := s.jobs.filter fun j => !j.recodes c }
  let s := s.setTm c { t with vals := v, pending := none, touch := [], fullRan := false }
  let s := (((s.set (TM_STAT.state c) state).set (TM_CTL.apply c) 0).syncTeam c).announceTeam c
  let s := if lay then slots.foldl (fun s n => s.set (TM_STB.stale n) 1) s else s
  (List.range 16).foldl (fun s n =>
    let b := s.stbAt n
    s.setStb n ⟨b.ready.filter (fun i => i / 16 ≠ c), b.done.filter (fun i => i / 16 ≠ c),
      if slots.contains n ∧ ¬ lay then (rejoined t.vals v).foldl setAdd b.gone else b.gone⟩) s

/-- TEAM_APPLY_EFFECT (R269): a pending apply takes effect, after the halt or abort of a STEP_END that has voted. -/
def execTeamApplyEffect (c : Ctx) (s : State) : Res :=
  match (s.tmAt c).pending with
  | some v =>
    if (s.cmAt c).own.isSome ∨ s.phase c = phARMED ∨ (s.cmAt c).abortPend.isSome then .next s
    else fin (s.takeApply c v)
  | none => .next s

/-- A dissolve write (R265, R299). -/
def State.teamDissolve (s : State) (c : Nat) : State :=
  if s.team c = tmOFF then s
  else if (s.cmAt c).own.isSome ∨ s.phase c = phARMED ∨ (s.cmAt c).abortPend.isSome then
    s.setTm c { s.tmAt c with dissolvePend := true }
  else s.dissolve c

/-- TEAM_DISSOLVE: a write of 1 to TM_CTL.dissolve (R265). -/
def execTeamDissolve (c : Ctx) (s : State) : Res := fin (s.teamDissolve c)

/-- An accepted DELTA (R280, R281, R283): it stands in the REQ buffer until it is judged and applied; one that has to
wait for the flip is counted. -/
def State.takeDelta (s : State) (m : Msg) : State :=
  let early := s.deltaEarly m
  let s := (s.keepReq m false).1
  if early then s.satInc (TM_HSTAT.held m.ctx) 1 else s

/-- DELTA (R280, R281). -/
def execDelta (bytes : List Byte) (s : State) : Res := receiveAs 0x10 bytes s State.takeDelta

/-- An accepted FRAG_ACK: its delta is acknowledged (R276, R310 P6). -/
def State.takeFragAck (s : State) (m : Msg) : State :=
  let s := s.done m
  match s.asked m with
  | some o => s.endOut o
  | none => s

/-- FRAG_ACK (R281). -/
def execFragAck (bytes : List Byte) (s : State) : Res := receiveAs 0x11 bytes s State.takeFragAck

/-- What a drop reply does to the work that asked (R280, R290, R296, R352): a delta of the open interval fails it; a
contribution ends its STABLE_LOAD or its recode; an audit skips the stripe, a decode counts the position as erased, a
rebuild ends (R290, R383). -/
def State.dropWork (s : State) (o : FabOut) (status : Nat) : State :=
  if o.typ = 0x10 ∧ o.stripe < 2 ^ 43 then
    (if o.cseq = s.get (CM_STAT.cseq o.ctx) then s.failInterval o.ctx status else s)
  else
    match s.job o.job with
    | some j =>
      if j.ending.isSome then s
      else if o.typ = 0x10 then
        match j.owner with
        | .cmd _ _ _ => s.endCmd j status
        | _ => s.setJob { j with ending := some (status, some 0), segs := [] }
      else if j.opcode = opAUDIT then s.setJob j.skipStripe
      else
        match j.owner with
        | .fetch m =>
          let q := (s.tmAt m.ctx).vals.posOf (stripeOf m.stripe) o.tag
          s.setJob { j with slots := setAdd j.slots q, hold := .run, exed := false, got := [], bad := [] }
        | .rebuild c =>
          if status = stMEMLOST then (s.satInc (TM_REB_STAT.lost c) 1).rebuildFail c stMEMLOST
          else s.rebuildFail c stPEERLOST
        | _ => s
    | none => s

/-- Fetches of a stripe that are still out for a piece of work are forgotten once the stripe is given up. -/
def State.forgetFetches (s : State) (j stripe : Nat) : State :=
  s.setFab { s.fab with outs := s.fab.outs.filter fun o => !(o.typ == 0x13 && o.job == j && o.stripe == stripe) }

/-- An accepted FRAG_DROP (R280, R352, R366). -/
def State.takeFragDrop (s : State) (m : Msg) : State :=
  let s := s.done m
  match s.asked m with
  | some o =>
    let s := if m.at_ 0 1 = stREMOTEDROPPED then s.observe m.src 4 else s
    let s := (s.endOut o).dropWork o (m.at_ 0 1)
    match s.job o.job with
    | some j => if j.opcode = opAUDIT then s.forgetFetches o.job o.stripe else s
    | none => s
  | none => s

/-- FRAG_DROP (R280, R352). -/
def execFragDrop (bytes : List Byte) (s : State) : Res := receiveAs 0x12 bytes s State.takeFragDrop

/-- An accepted FETCH (R292): refused while FORMING, and for a slot that holds no team parity here, as on a member that has
rejoined (R385; MEM_LOST counts the position as erased, DEDUCED, notes/assumptions/24.md); else the fragment is read and returned, as recovery or background
work by its rcv bit; a present member serves one from a rebuilding member by decode (R382)
(DEDUCED, notes/assumptions/24.md). -/
def State.takeFetch (s : State) (m : Msg) : State :=
  let n := imageOf m.stripe - 1
  if s.team m.ctx = tmFORMING then (s.drop m stREMOTEDROPPED).done m
  else if imageOf m.stripe ≠ 0 ∧ ¬ (n < 16 ∧ s.slotParity m.ctx n) then (s.drop m stMEMLOST).done m
  else
    let (s, id) := s.keepReq m true
    let v := (s.tmAt m.ctx).vals
    let decode := v.mstate m.member == 2 && v.present v.index
    s.addJob { id := 0, owner := .fetch m, ctx := m.ctx, cls := if m.rcv then 2 else 0, sel := s.active m.ctx,
               stage := s.get (CM_STEP.committed m.ctx), segs := [if decode then .decodeFor else .answerFetch], acc := [id] }

/-- FETCH (R292). -/
def execFetch (bytes : List Byte) (s : State) : Res := receiveAs 0x13 bytes s State.takeFetch

/-- The syndromes of a stripe whose fragments are at hand by member (R296). -/
def syndromes (v : TeamVals) (t : Nat) (frags : Tbl (List Byte)) : List (List Byte) :=
  let at_ := fun q => Tbl.at frags [] (v.memberAt t q)
  (List.range v.r).map fun j =>
    xorBytes (at_ (v.k + j)) (gfSum 4096 ((List.range v.k).map fun q => ((genRow v.k (v.k + j)).getD q 0, at_ q)))

/-- Whether data position q explains a stripe's syndromes (R297). -/
def explains (v : TeamVals) (ss : List (List Byte)) (q : Nat) : Bool :=
  let s0 := ss.headD []
  ss.zipIdx.all fun (sj, j) => sj == gfScale ((genRow v.k (v.k + j)).getD q 0) s0

/-- The member that a mismatching stripe locates (R297), 0xFF where it locates none. -/
def located (v : TeamVals) (t : Nat) (ss : List (List Byte)) : Nat :=
  let bad := (ss.zipIdx.filter fun p => !allZero p.1).map (·.2)
  if v.r < 2 then 0xFF
  else
    match bad with
    | [j] => v.memberAt t (v.k + j)
    | _ =>
      match (List.range v.k).find? (explains v ss) with
      | some q => v.memberAt t q
      | none => 0xFF

/-- Two located members put together over an audit (R298). -/
def mergeLocated (first : Bool) (a b : Nat) : Nat :=
  if first then b else if a = 0xFF ∨ b = 0xFF then 0xFF else if a = b then a else 0xFE

/-- A whole stripe audited (R296 step 4, R297, R298). -/
def State.auditStripe (s : State) (j : Job) (stripe : Nat) : State × Job :=
  let c := j.ctx
  let v := (s.tmAt c).vals
  let t := stripeOf stripe
  let ss := syndromes v t j.frags
  let j := { j.bump 0 1 with frags := [], hold := .run, value := 0 }
  let s := s.wrapInc (TM_AUD.audited c) 1
  if ss.all allZero then (s, j)
  else
    let first := j.acc.getD 1 0 = 0
    let low := mergeLocated first (j.acc.getD 4 0) (located v t ss)
    let acc := setAt (j.bump 1 1).acc 3 (if first then stripe + 1 else j.acc.getD 3 0)
    (s.satInc (TM_AUD.mismatches c) 1, { j with acc := setAt acc 4 low })

/-- A fragment fetched for an audit (R296): once all are in, the stripe is audited, fetched again where a step differs
or a halt occurred, at most twice, or skipped. A job's value holds the repeats so far, and 16 where a step differed. -/
def State.auditData (s : State) (j : Job) (m : Msg) (i stripe : Nat) : State :=
  let c := j.ctx
  let v := (s.tmAt c).vals
  let off := m.step ≠ j.stage % 2 ^ 32
  let j := { j with frags := Tbl.ins j.frags i (padTo 4096 m.body), value := if off ∧ j.value < 16 then j.value + 16 else j.value }
  if j.frags.length < v.n then s.setJob j
  else if 16 ≤ j.value ∨ s.get (CM_STEP.committed c) ≠ j.stage ∨ s.active c ≠ j.sel then
    if j.value % 16 < 2 then
      s.setJob { j with value := j.value % 16 + 1, frags := [], got := [], exed := false, hold := .run }
    else s.setJob { j.skipStripe with value := 0 }
  else
    let (s, j) := s.auditStripe j stripe
    s.setJob j

/-- An accepted FETCH_DATA for an audit. -/
def State.fetchedAudit (s : State) (o : FabOut) (m : Msg) : State :=
  match s.job o.job with
  | some j => if j.opcode = opAUDIT ∧ j.ending.isNone then s.auditData j m o.tag o.stripe else s
  | none => s

/-- What refuses a command, in order: PARITY_AUDIT's start (R294, R295). -/
def State.checkAudit (s : State) (j : Job) : List (Bool × Nat) :=
  let c := j.ctx
  let image := j.arg 24 1 % 32
  let n := (s.tmAt c).vals.n
  let first := j.arg 32 8
  let count := j.arg 40 8
  let slot := image - 1
  [ (32 ≤ j.arg 24 1 || j.arg 25 1 / 16 % 8 ≠ 0 || j.nonzero 26 6 || j.nonzero 48 16, stBADFIELD),
    (!(s.team c == tmPROTECTED || s.team c == tmDEGRADED)
      || (image ≠ 0 && !(slot < 16 && s.get (GL_STB_SLOT.state slot) == sbRESIDENT && s.is (TM_STB.coded slot)
            && !s.is (TM_STB.stale slot) && s.get (TM_STB.ctx slot) == c))
      || count == 0 || s.stripes c image < first + count
      || (128 ≤ j.arg 25 1 && n ≤ j.arg 25 1 % 16), stBADFIELD),
    (s.tooLarge j (4096 * count), stTOOLARGE) ]

/-- What a command that is not refused does: PARITY_AUDIT's start (R294, R295). -/
def State.runAudit (s : State) (j : Job) : State :=
  let c := j.ctx
  let image := j.arg 24 1 % 32
  let first := j.arg 32 8
  let count := j.arg 40 8
  s.launch { j with segs := [.audit image first count], acc := List.replicate 5 0,
                    refs := s.imageOfCtx c image ++ [s.get (if image = 0 then TM_CFG.share c else TM_CFG.spar c)] }

/-- PARITY_AUDIT's start (R294, R295). -/
def State.startAudit (s : State) (j : Job) : State := s.startOr j (s.checkAudit j) (s.runAudit j)

/-- PARITY_AUDIT at its start point (R294). -/
def execParityAudit (c : Ctx) (q : Que) (s : State) : Res := fin (s.beginOp c q opAUDIT State.startAudit)

/-- An accepted stable notice (R287), held for its slot and member. -/
def State.takeNotice (s : State) (m : Msg) : State :=
  let s := s.done m
  let image := imageOf m.stripe
  let n := image - 1
  let b := s.stbAt n
  let i := 16 * m.ctx + m.member
  if image = 0 ∨ 16 ≤ n then s
  else if m.typ = 0x16 then s.setStb n { b with ready := setAdd b.ready i }
  else s.setStb n { b with done := setAdd b.done i }

/-- STB_READY (R287). -/
def execStbReady (bytes : List Byte) (s : State) : Res := receiveAs 0x16 bytes s State.takeNotice
/-- STB_DONE (R287). -/
def execStbDone (bytes : List Byte) (s : State) : Res := receiveAs 0x17 bytes s State.takeNotice

/-- Whether a slot's recode is under way. -/
def State.recoding (s : State) (n : Nat) : Bool :=
  s.jobs.any fun j => match j.owner with
    | .recode m => m == n
    | _ => false

/-- STABLE_RECODE (R289): a stale slot is recoded under the new layout as background work of the loading context, once
the team is PROTECTED and the slot's parity range fits. -/
def execStableRecode (slot : Fin 16) (s : State) : Res :=
  let c := s.get (TM_STB.ctx slot)
  let v := (s.tmAt c).vals
  let pf := cdiv (s.imageSize (s.slotRgns slot)) (4096 * v.k) * v.r
  if s.is (TM_STB.stale slot) ∧ s.is (TM_STB.coded slot) ∧ s.team c = tmPROTECTED ∧ ¬ s.recoding slot
      ∧ s.get (TM_STB.offset slot) * 4096 + 4096 * pf ≤ (s.rgn (s.get (TM_CFG.spar c))).count then
    fin ((s.set (TM_STB.pfrags slot) pf).addJob { id := 0, owner := .recode slot, ctx := c, cls := 0, stage := 1 })
  else .next s

end Sys2Proof.Machine
end

