-- ==== Sys2Proof/Machine/RecoverRows.lean ====
section
/-! DEFINITION. The rows of chapter 12: reports (R366 to R368), the watchdog, resets and collections (R369 to R374), the
fill's end (R415, R416, R511), rebuild and join (R380 to R384), binds (R387), drains, imports and the job descriptor
(R393 to R409). -/

namespace Sys2Proof.Machine

/-- The kinds a shard may be drained from or imported into (R397, R409). -/
def shardKind (k : Nat) : Bool := (1 ≤ k && k ≤ 8) || k == 10

/-- What refuses a command, in order: DRAIN's and EXPORT's start (R397, R398). -/
def State.checkDrain (s : State) (j : Job) : List (Bool × Nat) :=
  let c := j.ctx
  let man := j.arg 24 1 % 2 == 1
  let r := j.arg 25 1 % 64
  let g := s.rgn r
  let f := j.arg 40 5
  let n := j.arg 45 5
  let step := j.arg 56 8
  let log := s.logOf c
  let own := s.get (DR_LOG_STEP.step c) == step
  [ (4 ≤ j.arg 24 1 || 64 ≤ j.arg 25 1 || j.nonzero 26 2 || j.nonzero 31 1 || j.nonzero 55 1
      || badTier j.object, stBADFIELD),
    (!man && s.badSlot r, stSTABLE),
    (step ≠ s.get (CM_STEP.committed c)
      || (!man && (!(g.valid && g.ctx == c && shardKind g.kind) || g.count < f + n
            || (g.fmt == fmtK8 && (f % 128 ≠ 0 || n % 128 ≠ 0)) || (own && 256 ≤ log.length)))
      || (man && (r ≠ 0 || j.arg 28 3 ≠ 0 || f ≠ 0 || n ≠ 0 || j.arg 50 5 ≠ 0 || log.isEmpty || !own || !s.recOk c)),
      stBADFIELD),
    (s.tooLarge j (n * g.esize), stTOOLARGE) ]

/-- What a command that is not refused does: DRAIN's and EXPORT's start (R397, R398). -/
def State.runDrain (s : State) (j : Job) : State :=
  let c := j.ctx
  let man := j.arg 24 1 % 2 == 1
  let r := j.arg 25 1 % 64
  let g := s.rgn r
  let f := j.arg 40 5
  let n := j.arg 45 5
  let step := j.arg 56 8
  let own := s.get (DR_LOG_STEP.step c) == step
  let k := if g.banked then s.active c else 0
  let fresh := !man && !own
  let s' := if fresh then (s.setLog c []).set (DR_LOG_STEP.step c) step else s
  let dumps := .drnDump r k false (f * g.esize) (n * g.esize) 64 ::
    if g.fmt = fmtK8 then [.drnDump r k true (f / 128 * 4) (4 * cdiv n 128) (64 + n * g.esize)] else []
  if man then s.launch { j with segs := [.recordRead], refs := [s.get (CM_CFG.rec_ c)] }
  else s'.launch { j with segs := dumps, refs := [r], acc := [0, j.arg 28 3] }

/-- DRAIN's and EXPORT's start (R397, R398). -/
def State.startDrain (s : State) (j : Job) : State := s.startOr j (s.checkDrain j) (s.runDrain j)

/-- DRAIN at its start point (R396). -/
def execDrain (c : Ctx) (q : Que) (s : State) : Res := fin (s.beginOp c q opDRAIN State.startDrain)
/-- EXPORT at its start point (R396). -/
def execExportCmd (c : Ctx) (q : Que) (s : State) : Res := fin (s.beginOp c q opEXPORT State.startDrain)

/-- What refuses a command, in order: IMPORT's start (R409). -/
def State.checkImport (s : State) (j : Job) : List (Bool × Nat) :=
  let c := j.ctx
  let record := j.arg 24 1 % 2 == 1
  let r := j.arg 25 1 % 64
  let g := s.rgn r
  let f := j.arg 40 5
  let n := j.arg 45 5
  [ (4 ≤ j.arg 24 1 || 64 ≤ j.arg 25 1 || j.nonzero 26 6 || j.nonzero 55 1 || badTier j.object, stBADFIELD),
    (!record && g.valid && g.kind == 9, stSTABLE),
    (s.is (DR_STAT.bound c) || s.team c ≠ tmOFF
      || (record && (r ≠ 0 || j.nonzero 40 15))
      || (!record && (!(g.valid && g.ctx == c && shardKind g.kind) || g.count < f + n
            || (g.fmt == fmtK8 && (f % 128 ≠ 0 || n % 128 ≠ 0)))), stBADFIELD),
    (s.tooLarge j (if record then 128 else s.shardLen r n), stTOOLARGE) ]

/-- What a command that is not refused does: IMPORT's start (R409). -/
def State.runImport (s : State) (j : Job) : State :=
  let c := j.ctx
  let record := j.arg 24 1 % 2 == 1
  let r := j.arg 25 1 % 64
  s.launch { j with segs := [.drnGet 0 64], refs := [if record then s.get (CM_CFG.rec_ c) else r] }

/-- IMPORT's start (R409). -/
def State.startImport (s : State) (j : Job) : State := s.startOr j (s.checkImport j) (s.runImport j)

/-- IMPORT at its start point (R408). -/
def execImportCmd (c : Ctx) (q : Que) (s : State) : Res := fin (s.beginOp c q opIMPORT State.startImport)

/-- CARRY (R407): the source's group, box and substitution fields and FB_TGEN, every valid bit as it was. -/
def State.carry (s : State) (d c : Nat) : State :=
  let copy := fun (s : State) (f : Nat → Loc) => s.set (f c) (s.get (f d))
  let s := (List.range 16).foldl (fun s g =>
    let s := copy (copy s (GS_GRP_CFG.axes · g)) (GS_GRP_CFG.fan · g)
    let s := copy (copy s (GS_GRP_CFG.queue · g)) (GS_GRP_CFG.split_fixed · g)
    let s := copy (copy (copy (copy s (GS_GRP_BOX.lo0 · g)) (GS_GRP_BOX.lo1 · g)) (GS_GRP_BOX.lo2 · g)) (GS_GRP_BOX.lo3 · g)
    copy (copy (copy (copy s (GS_GRP_BOX.hi0 · g)) (GS_GRP_BOX.hi1 · g)) (GS_GRP_BOX.hi2 · g)) (GS_GRP_BOX.hi3 · g)) s
  let s := (List.range 64).foldl (fun s i =>
    copy (copy (copy s (GS_SUBST.coord · i)) (GS_SUBST.devid · i)) (GS_SUBST.absent · i)) s
  (List.range 16).foldl (fun s i => copy s (FB_TGEN.gen · i)) s

/-- What refuses a command, in order: JOB_LOAD's start (R402, R404, R406, R407). -/
def State.checkJobLoad (s : State) (j : Job) : List (Bool × Nat) :=
  let c := j.ctx
  let mode := j.arg 24 1 % 4
  let g := j.arg 25 1 % 16
  let d := j.arg 25 1 / 16 % 4
  let r := j.arg 26 1 % 64
  let a := s.rgn r
  [ (4 ≤ j.arg 24 1 || mode == 3 || 64 ≤ j.arg 25 1 || 64 ≤ j.arg 26 1 || j.nonzero 27 1 || j.nonzero 44 20
      || (mode ≠ 2 && badTier j.object), stBADFIELD),
    (mode == 1 && a.valid && a.kind == 9, stSTABLE),
    (mode == 1 && (!(a.valid && a.kind == 10 && a.fmt == fmtBYTE && a.ctx == c) || s.isSpar r), stREGION),
    ((mode == 0 && !(s.is (GS_GRP_CFG.valid c g) && s.get (GS_GRP_STAT.rank c g) == 0))
      || (mode == 1 && !s.is (GS_GRP_CFG.valid c g))
      || (mode == 2 && (s.ctxState d ≠ 0 || (List.range 16).any fun g => s.is (GS_GRP_CFG.valid c g))), stBADFIELD) ]

/-- What a command that is not refused does: JOB_LOAD's start (R402, R404, R406, R407). -/
def State.runJobLoad (s : State) (j : Job) : State :=
  let c := j.ctx
  let mode := j.arg 24 1 % 4
  let d := j.arg 25 1 / 16 % 4
  let r := j.arg 26 1 % 64
  let wait := if j.arg 40 4 = 0 then s.get (GL_CTX_TMO.dflt c) / 2 else j.arg 40 4
  if mode = 2 then (s.carry d c).instant j 0
  else if mode = 0 then s.launch { j with stage := 1, segs := [.drnGet 0 64] }
  else s.launch { j with hold := .parts, refs := [r], acc := [s.now + wait, 0] ++ List.replicate 64 0 }

/-- JOB_LOAD's start (R402, R404, R406, R407). -/
def State.startJobLoad (s : State) (j : Job) : State := s.startOr j (s.checkJobLoad j) (s.runJobLoad j)

/-- JOB_LOAD at its start point (R402). -/
def execJobLoad (c : Ctx) (q : Que) (s : State) : Res := fin (s.beginOp c q opJOBLOAD State.startJobLoad)

/-- Whether a JOB_LOAD is a RECEIVE that waits for parts. -/
def Job.receiving (j : Job) : Bool := j.isCommand && j.opcode == opJOBLOAD && j.hold == .parts && j.ending.isNone

/-- BROADCAST_WAIT_EXPIRY (R406): a RECEIVE that still lacks parts reads the object. -/
def execBroadcastWaitExpiry (c : Ctx) (q : Que) (e : Ent) (s : State) : Res :=
  match s.cmdJob c q e with
  | some j =>
    if j.receiving ∧ j.acc.getD 0 0 ≤ s.now then
      fin (s.setJob { j with stage := 1, hold := .run, got := [], buf := [], segs := [.drnGet 0 64] })
    else .next s
  | none => .next s

/-- The group in whose tree a descriptor part travels: JOB_BCAST names none, so it is the lowest valid group in which
the source is this member's parent in the part's tree, or rank 0 for the off root
(DEDUCED, notes/assumptions/30.md). -/
def State.bcastGroup (s : State) (c tr src : Nat) : Option Nat :=
  (List.range 16).find? fun g =>
    let t := s.tree c g
    s.is (GS_GRP_CFG.valid c g) &&
      match t.parent tr with
      | some p => s.rankDev c g p == src
      | none => tr == 1 && 1 < t.n && s.rankDev c g 0 == src

/-- A descriptor part kept by a RECEIVE (R406): the first copy of each part, and of copies from both trees in one hall
cycle the near-tree one (R412); from its third word on the accumulator holds one more than the hall cycle in which the
kept copy of a part came from the off tree. -/
def Job.keepPart (j : Job) (m : Msg) (now : Nat) : Job :=
  if j.receiving ∧ j.ctx = m.ctx ∧ j.arg 28 4 = m.at_ 0 4 then
    let n := if j.acc.getD 1 0 = 0 then m.at_ 6 2 else j.acc.getD 1 0
    let i := m.at_ 4 2
    let j := { j with acc := setAt j.acc 1 n }
    if (Tbl.find j.got i).isNone ∨ (m.bit2 = 0 ∧ j.acc.getD (2 + i) 0 = now + 1) then
      { j with acc := setAt j.acc (2 + i) (if m.bit2 = 0 then 0 else now + 1), got := Tbl.ins j.got i (m.body.drop 16) }
    else j
  else j

/-- An accepted descriptor part (R405, R406). -/
def State.takeBcast (s : State) (m : Msg) : State :=
  let c := m.ctx
  let s := s.done m
  let s := match s.bcastGroup c m.bit2 m.src with
    | some g => ((s.tree c g).children m.bit2).foldl (fun (s : State) i =>
        s.send { s.common c 0x3A (s.rankDev c g i) 0 (m.body.take 8 ++ leBytes 8 0 ++ m.body.drop 16) with bit2 := m.bit2 }) s
    | none => s
  { s with jobs := s.jobs.map fun (j : Job) => j.keepPart m s.now }

/-- JOB_BCAST (R405). -/
def execJobBcast (bytes : List Byte) (s : State) : Res := receiveAs 0x3A bytes s State.takeBcast

/-- The inbound report entry of a subject and kind. -/
def State.rinFind (s : State) (subject kind : Nat) : Option Nat :=
  (List.range 256).find? fun i =>
    s.is (DG_RIN_ID.valid i) && s.get (DG_RIN_ID.subject i) == subject && s.get (DG_RIN_ID.kind i) == kind

/-- A REPORT merged into the inbound table (R368). -/
def State.mergeReport (s : State) (m : Msg) : State :=
  let subject := m.at_ 0 2
  let kind := m.at_ 2 1
  let n := m.at_ 4 4
  let t := m.at_ 8 8
  if ¬ s.is DG_REP_CFG.accept then s
  else
    match s.rinFind subject kind with
    | some i =>
      let s := (s.satInc (DG_RIN_ID.msgs i) 1).satInc (DG_RIN_CNT.count i) n
      s.set (DG_RIN_T.first i) (Nat.min (s.get (DG_RIN_T.first i)) t)
    | none =>
      match (List.range 256).find? fun i => !s.is (DG_RIN_ID.valid i) with
      | some i =>
        let s := ((s.set (DG_RIN_ID.subject i) subject).set (DG_RIN_ID.kind i) kind).set (DG_RIN_ID.msgs i) 1
        let s := ((s.set (DG_RIN_ID.valid i) 1).set (DG_RIN_CNT.count i) n).set (DG_RIN_T.first i) t
        (s.wrapInc DG_RIN_STAT.entries 1).irq 16
      | none => s.satInc DG_RIN_STAT.overflow 1

/-- An accepted REPORT (R368): it waits in its buffer while the sequencer restarts (R412). -/
def State.takeReport (s : State) (m : Msg) : State :=
  if s.rec_.seqDown ∨ s.rec_.seqStop then s.setRec { s.rec_ with waiting := s.rec_.waiting ++ [m] } else (s.mergeReport m).done m

/-- REPORT (R368). -/
def execReport (bytes : List Byte) (s : State) : Res := receiveAs 0x3B bytes s State.takeReport

/-- REPORT_WINDOW_END (R367): DG_REP_CFG.window has passed since the entry's window started. -/
def execReportWindowEnd (subject : W16) (kind : Byte) (s : State) : Res :=
  match repFind s.rec_.reps subject.toNat kind.toNat with
  | some e => if e.wstart + s.get DG_REP_CFG.window ≤ s.now then fin (s.closeRep e) else .next s
  | none => .next s

/-- REPORT_RELEASE: a write of DG_RIN_REL (R368). -/
def execReportRelease (i : Fin 256) (s : State) : Res :=
  if s.is (DG_RIN_ID.valid i) then
    let s := ((s.set (DG_RIN_ID.subject i) 0).set (DG_RIN_ID.kind i) 0).set (DG_RIN_ID.msgs i) 0
    let s := ((s.set (DG_RIN_ID.valid i) 0).set (DG_RIN_CNT.count i) 0).set (DG_RIN_T.first i) 0
    .next (s.dec DG_RIN_STAT.entries 1)
  else .next s

/-- WATCHDOG_KICK: a write of 1 to DG_WDT.kick (R369). -/
def execWatchdogKick (s : State) : Res := .next (s.setRec { s.rec_ with kickAt := s.now })

/-- WATCHDOG_EXPIRY (R369): a period has passed without a kick; within esc of the last watchdog restart the block reset
follows in place of a restart. -/
def execWatchdogExpiry (s : State) : Res :=
  let k := s.rec_
  if k.coll.isSome ∨ k.seqDown ∨ ¬ s.is DG_FILL.done ∨ s.now < k.kickAt + 2 * s.get DG_WDT.period then .next s
  else
    match k.restartAt with
    | some t =>
      if s.now ≤ t + s.get DG_WDT.esc then fin (s.startColl 4 .block) else fin (s.startColl 1 .seq)
    | none => fin (s.startColl 1 .seq)

/-- SEQUENCER_RESTART: a write of 1 to DG_RST_CTL.seq (R370). -/
def execSequencerRestart (s : State) : Res :=
  if s.rec_.seqDown ∨ s.is DG_RST_CTL.seq then .next s else fin ((s.set DG_RST_CTL.seq 1).startColl 2 .seq)

/-- BLOCK_RESET: a write of 1 to DG_RST_CTL.block (R370). -/
def execBlockReset (s : State) : Res :=
  if s.is DG_RST_CTL.block then .next s else fin ((s.set DG_RST_CTL.block 1).startColl 2 .block)

/-- COLLECTION_END (R373): the record's writes are acknowledged, or 15,625 hall cycles have passed since the collection
started. -/
def execCollectionEnd (s : State) : Res :=
  match s.rec_.coll with
  | some k =>
    if ¬ k.waiting ∧ (s.is DG_COLL_SUM.complete ∨ k.start + 15625 ≤ s.now) then fin (s.afterColl k)
    else .next s
  | none => .next s

/-- A channel whose copy is stale enters MENDING with its list full (R511). -/
def State.staleChan (s : State) (n j : Nat) : State :=
  let k := chKey n j
  let s := s.setMem { s.mem with mendFull := setAdd s.mem.mendFull k }
  ((s.set (SL_MEND.mend_full n) 1).setChan n j chMENDING).emit (.dirty n j true)

/-- Channels that had failed before a PG_RST_N are ONLINE unless they are still faulty (R73). -/
def State.healChans (s : State) : State :=
  (s.hardFaults.foldl (fun s k => s.setChan (k / 32) (k % 32) chONLINE) s).setMem { s.mem with faults := [] }

/-- FILL_DONE (R415, R416, R504, R511, R523): the fill and its checker tests end; `bad` is the macro of a checker that
failed, `stale` and `failed` the channels whose MPnn_CHSTALE and MPnn_CHFAIL are 1. -/
def execFillDone (bad : Option W16) (stale failed : List (Slice × Chan)) (s : State) : Res :=
  if s.is DG_FILL.done ∨ s.rstLow then .next s
  else
    let s := s.set DG_FILL.done 1
    let s := match bad with
      | some m => (((s.set DG_FILL.fail 1).set DG_FILL.macro m.toNat).irq 17).emcy 0xFF13
          (leBytes 1 0xFF ++ leBytes 2 m.toNat)
      | none => s
    let s := if s.get GL_RST_STAT.cause = 0 then s.healChans else s
    let s := s.setMem { s.mem with resetHigh := false,
                                   faults := failed.foldl (fun l p => setAdd l (chKey p.1 p.2)) s.mem.faults }
    let s := s.emit (.memRst false)
    let s := failed.foldl (fun s p => s.setChan p.1 p.2 chFAILED) s
    let s := (stale.filter fun p => !failed.contains p).foldl (fun s p => s.staleChan p.1 p.2) s
    let s := (List.range 64).foldl (fun s r => s.rtu r) s
    fin (s.setRec { s.rec_ with kickAt := s.now })

/-- REBUILD_JOIN: a write of 1 to TM_REB_CTL.join (R380). -/
def State.rebuildJoin (s : State) (c : Nat) : State :=
  let v := s.staged c
  let own := v.mstate v.index
  let bound := s.is (DR_STAT.bound c)
  if s.ctxState c ≠ ctxRUN ∨ s.team c ≠ tmOFF then s
  else if s.joinOk c ∧ ((own = 2 ∧ ¬ bound) ∨ (own = 1 ∧ bound)) then
    let s := s.setTm c { vals := v }
    ((s.set (TM_STAT.state c) (teamNext tmPROTECTED v v)).syncTeam c).announceTeam c
  else s.set (TM_STAT.form_err c) 1

/-- REBUILD_JOIN (R380). -/
def execRebuildJoin (c : Ctx) (s : State) : Res := fin (s.rebuildJoin c)

/-- A write of 1 to TM_REB_CTL.start (R381): the fetcher of a rebuild. While bound is 1 no rebuild writes take place
(R386), and the write has no effect. -/
def State.rebuildStart (s : State) (c : Nat) : State :=
  let v := (s.tmAt c).vals
  if s.team c = tmOFF ∨ v.mstate v.index ≠ 2 ∨ s.get (TM_REB_STAT.state c) = 1 ∨ s.is (DR_STAT.bound c) then s
  else
    let s := ((s.set (TM_REB_STAT.state c) 1).set (TM_REB_STAT.status c) 0).set (TM_REB_STAT.lost c) 0
    let s := (s.set (TM_REB_STAT.step c) 0).set (TM_REB_PROG.stripes c) 0
    let s := (s.set (TM_REB_CTL.start c) 1).setRec { s.rec_ with rebStep := Tbl.del s.rec_.rebStep c }
    if v.presentList = [] then s.rebuildFail c stPEERLOST
    else s.addJob { id := 0, owner := .rebuild c, ctx := c, cls := 2, segs := [.rebuild] }

/-- REBUILD_START (R381). -/
def execRebuildStart (c : Ctx) (s : State) : Res := fin (s.rebuildStart c)

/-- REBUILD_ABANDON: a write of 1 to TM_REB_CTL.abandon ends a running rebuild as FAILED with TEARDOWN. -/
def execRebuildAbandon (c : Ctx) (s : State) : Res :=
  if s.get (TM_REB_STAT.state c) = 1 then fin (s.rebuildFail c stTEARDOWN) else .next s

/-- The write of one rebuilt fragment (R383). -/
def State.rebuildWrite (s : State) (c : Nat) (m : Msg) : State :=
  let ps := s.memberSpans c m.stripe (s.tmAt c).vals.index (s.active c)
  s.addJob { id := 0, owner := .rebuild c, ctx := c, cls := 2, stage := 1,
             segs := ps.map fun p => .put p.1.r p.1.k p.1.sc p.1.lo (padTo p.1.n (m.body.drop p.2)) }

/-- A fragment that a rebuild fetched (R383): written into the active bank at the own position's place; a step other
than the first ends the rebuild. -/
def State.rebuildData (s : State) (c : Nat) (m : Msg) : State :=
  match Tbl.find s.rec_.rebStep c with
  | some st => if st = m.step then s.rebuildWrite c m else s.rebuildFail c stPEERLOST
  | none =>
    let s := (s.setRec { s.rec_ with rebStep := Tbl.ins s.rec_.rebStep c m.step }).set (TM_REB_STAT.step c) m.step
    s.rebuildWrite c m

/-- A fragment that a decode for a rebuilding member fetched (R290, R382): one of another step counts as erased. -/
def State.decodeData (s : State) (j : Job) (m : Msg) (i : Nat) : State :=
  let q := (s.tmAt m.ctx).vals.posOf (stripeOf m.stripe) i
  let j := if m.step = j.stage % 2 ^ 32 then
      { j with frags := Tbl.ins j.frags q (padTo 4096 m.body) }
    else { j with slots := setAdd j.slots q }
  s.setJob { j with hold := .run, exed := false, got := [], bad := [] }

/-- An accepted FETCH_DATA: it goes to the audit, rebuild or decode that asked. -/
def State.takeFetchData (s : State) (m : Msg) : State :=
  let s := s.done m
  match s.asked m with
  | some o =>
    let s := s.endOut o
    match s.job o.job with
    | some j =>
      if j.ending.isSome then s
      else
        match j.owner with
        | .rebuild c => s.rebuildData c m
        | .fetch _ => s.decodeData j m o.tag
        | _ => s.fetchedAudit o m
    | none => s
  | none => s

/-- FETCH_DATA (R383). -/
def execFetchData (bytes : List Byte) (s : State) : Res := receiveAs 0x14 bytes s State.takeFetchData

/-- BIND: a write of DR_BIND (R387); the bind under way keeps the bank and the step that it started with. -/
def State.bind (s : State) (c : Nat) (v : W64) : State :=
  let s := s.set (DR_BIND.bank c) (fget v 0 1)
  if fget v 8 1 = 0 ∨ s.is (DR_BIND.go c) then s
  else if s.is (DR_STAT.bound c) ∨ s.jobs.any (fun j => j.cmdOf c) ∨ s.get (TM_REB_STAT.state c) = 1 ∨ ¬ s.recOk c then
    s.set (DR_BIND.status c) stBADFIELD
  else (s.set (DR_BIND.go c) 1).addJob {
      id := 0, owner := .bind c, ctx := c, cls := 2, segs := [.bindRead], sel := s.get (DR_BIND.bank c),
      acc := [s.get (DR_BIND_STEP.step c)] }

/-- BIND (R387). -/
def execBind (c : Ctx) (v : W64) (s : State) : Res := fin (s.bind c v)

/-- CLEAR_LOG: a write of 1 to DR_CTL.clear_log. -/
def execClearLog (c : Ctx) (s : State) : Res := .next (s.setLog c [])

/-- DRN_RESPONSE (R518): the response to an outstanding request, its data joined to what the command has; a nonzero
status ends the command with STORE_ERROR. One that answers no outstanding request changes nothing. -/
def execDrnResponse (header data : List Byte) (s : State) : Res :=
  match s.rec_.drns.find? fun r => r.tag == leAt header 2 2 with
  | none => .next s
  | some r =>
    let s := s.setRec { s.rec_ with drns := s.rec_.drns.filter fun x => x.tag ≠ r.tag }
    let status := leAt header 1 1
    match s.job r.job with
    | none => fin s
    | some j =>
      if j.ending.isSome then fin s
      else if status ≠ 0 then fin (s.endCmd j stSTOREERROR)
      else
        let s := if r.write then s.drnCount r.ctx (roundUp r.len 64) false else s
        fin (s.setJob { j with hold := .run, buf := if r.write then j.buf else j.buf ++ padTo r.len data })

end Sys2Proof.Machine
end

