-- ==== Sys2Proof/Machine/EdgeRows.lean ====
section
/-! DEFINITION. The rows of chapter 16 outside memory and the fabric: PG_RST_N (R521, R524), the die temperature (R514) and
the test wrapper (R526 to R528). -/

namespace Sys2Proof.Machine

/-- PG_RST_N_ASSERT (R12, R524): every port stops at once, with no armed flip and no collection; the meter goes on
(DEDUCED, notes/assumptions/36.md). -/
def execPgRstAssert (s : State) : Res :=
  if s.rstLow then .next s
  else
    let t := (s.resetTo meterOff 0).set MT_STAT.live 0
    .next { t with rstLow := true, wir := s.wir }

/-- PG_RST_N_RELEASE (R415, R517, R521, R523): the fuses are read, the fill begins, and credits are sent. -/
def execPgRstRelease (s : State) : Res :=
  if s.rstLow then .next ({ s with rstLow := false } : State).creditAll else .next s

/-- The larger of two 16-bit two's-complement codes. -/
def codeMax (a b : Nat) : Nat := if sext 16 a < sext 16 b then b else a

/-- A code in the windows that run (R433): the largest since their period began. -/
def State.codeWins (s : State) (code : Nat) : State :=
  (List.range 64).foldl (fun s i =>
    if s.is (DG_DWIN_CFG.enable (i / 16) (i % 16)) then
      s.setWin i { s.winAt i with tsRun := codeMax (s.winAt i).tsRun code }
    else s) s

/-- TS_CODE (R514): the latest code, and the highest one. -/
def execTsCode (code : W16) (s : State) : Res :=
  let s := (s.set GL_TS.code code.toNat).set GL_TS.stale 0
  let s := s.set GL_TS.max (codeMax (s.get GL_TS.max) code.toNat)
  .next ({ s with tsAt := s.now }.codeWins code.toNat)

/-- TS_STALE (R514): 10 ms without a code. -/
def execTsStale (s : State) : Res := if s.tsAt + 1562500 ≤ s.now then .next (s.set GL_TS.stale 1) else .next s

/-- TS_MAX_CLEAR: a write of 1 to GL_TS.max_clr. -/
def execTsMaxClear (s : State) : Res := .next (s.set GL_TS.max 0x8000)

/-- The WIR's instruction for a code: a reserved code acts as WS_BYPASS (R526). -/
def wirOf (code : Nat) : Nat := if [0x01, 0x02, 0x03, 0x08, 0x0A].contains code then code else 0

/-- What the wrapper selects (R526, R528): its instruction, and whether the WBR cells of MT_TX and MT_RX and the meter's
scan segment are in its path, which they are not while the meter's sealed bit is blown. -/
def State.driveWrapper (s : State) : State := s.emit (.wrapper s.wir (!s.meter.sealed))

/-- The wrapper leaves a test instruction (R527, R529): a block reset without a collection, unless PG_RST_N governs
(DEDUCED, notes/assumptions/36.md). -/
def State.leaveTest (s : State) : State :=
  if s.wir = 0 then s
  else if s.rstLow then ({ s with wir := 0 } : State).driveWrapper
  else (({ s with wir := 0 } : State).blockReset 2).driveWrapper

/-- WIR_UPDATE (R527): ignored while a context is not OFF; leaving a test instruction resets the block. -/
def execWirUpdate (code : Byte) (s : State) : Res :=
  let n := wirOf code.toNat
  if n = s.wir ∨ (n ≠ 0 ∧ (List.range 4).any fun c => s.ctxState c ≠ 0) then .next s
  else if n = 0 then .next s.leaveTest
  else .next ({ s.leaveTest with wir := n } : State).driveWrapper

/-- TEST_EXIT (R527): the WIR leaves a test instruction, or WRSTN rises after one. -/
def execTestExit (s : State) : Res := .next s.leaveTest

/-- What a march test reports (R526, R528): the first failing macro; a sealed meter's SRAM is not tested. -/
def State.marchResult (s : State) (bad : Option W16) : Option Nat :=
  (bad.filter fun m => !(s.meter.sealed && Config.meterMacro m)).map (·.toNat)

/-- MBIST (R526, R528): the march test's result, with the first failing macro; only under its instruction. -/
def execMbist (bad : Option W16) (s : State) : Res :=
  if s.wir = 0x08 then .next (s.emit (.mbist (s.marchResult bad))) else .next s

/-- The value of a fuse bit (R12): the bits that registers and capabilities show. -/
def fuseBit : Config.FuseBit → Bool
  | .serial i => Config.fusedSerial.getLsbD i
  | .rev i => Config.fusedRev.getLsbD i
  | .k8 => Config.fusedK8
  | .row i => (Config.fusedRowOut (i / 64)).getLsbD (i % 64)
  | .col i => (Config.fusedColOut (i / 64)).getLsbD (i % 64)
  | .core n i => (Config.fusedCoreOut n).getLsbD i
  | .other i => Config.fuseOther i

/-- The 4,096 bits that FUSE_READ shifts out (R526), in an order that the spec leaves open
(DESIGN CHOICE, notes/assumptions/2.md). -/
def fuseBits : List Bool := (List.range 4096).map fun i => fuseBit (Config.fusePlace i)

/-- FUSE_READ (R12, R526): the block fuses shifted out; only under its instruction. -/
def execFuseRead (s : State) : Res :=
  if s.wir = 0x0A then .next (s.emit (.wdr fuseBits)) else .next s

end Sys2Proof.Machine
end

