-- ==== Sys2Proof/Machine/Sha.lean ====
section
/-! DEFINITION. SHA-256 (FIPS 180-4), which the meter's records use (R458, R459). -/

namespace Sys2Proof.Machine

/-- The round constants: the first 32 bits of the fractions of the cube roots of the first 64 primes. -/
def shaK : List (BitVec 32) :=
  [0x428A2F98#32, 0x71374491#32, 0xB5C0FBCF#32, 0xE9B5DBA5#32, 0x3956C25B#32, 0x59F111F1#32, 0x923F82A4#32, 0xAB1C5ED5#32]
  ++ [0xD807AA98#32, 0x12835B01#32, 0x243185BE#32, 0x550C7DC3#32, 0x72BE5D74#32, 0x80DEB1FE#32, 0x9BDC06A7#32, 0xC19BF174#32]
  ++ [0xE49B69C1#32, 0xEFBE4786#32, 0x0FC19DC6#32, 0x240CA1CC#32, 0x2DE92C6F#32, 0x4A7484AA#32, 0x5CB0A9DC#32, 0x76F988DA#32]
  ++ [0x983E5152#32, 0xA831C66D#32, 0xB00327C8#32, 0xBF597FC7#32, 0xC6E00BF3#32, 0xD5A79147#32, 0x06CA6351#32, 0x14292967#32]
  ++ [0x27B70A85#32, 0x2E1B2138#32, 0x4D2C6DFC#32, 0x53380D13#32, 0x650A7354#32, 0x766A0ABB#32, 0x81C2C92E#32, 0x92722C85#32]
  ++ [0xA2BFE8A1#32, 0xA81A664B#32, 0xC24B8B70#32, 0xC76C51A3#32, 0xD192E819#32, 0xD6990624#32, 0xF40E3585#32, 0x106AA070#32]
  ++ [0x19A4C116#32, 0x1E376C08#32, 0x2748774C#32, 0x34B0BCB5#32, 0x391C0CB3#32, 0x4ED8AA4A#32, 0x5B9CCA4F#32, 0x682E6FF3#32]
  ++ [0x748F82EE#32, 0x78A5636F#32, 0x84C87814#32, 0x8CC70208#32, 0x90BEFFFA#32, 0xA4506CEB#32, 0xBEF9A3F7#32, 0xC67178F2#32]

/-- The initial hash value: the first 32 bits of the fractions of the square roots of the first 8 primes. -/
def shaH0 : List (BitVec 32) :=
  [0x6A09E667#32, 0xBB67AE85#32, 0x3C6EF372#32, 0xA54FF53A#32, 0x510E527F#32, 0x9B05688C#32, 0x1F83D9AB#32, 0x5BE0CD19#32]

/-- The message padded to a multiple of 64 bytes: 0x80, zeros, and the length in bits, most significant byte first. -/
def shaPad (m : List Byte) : List Byte :=
  m ++ [0x80#8] ++ List.replicate ((119 - m.length % 64) % 64) 0#8 ++ (leBytes 8 (8 * m.length)).reverse

/-- A big-endian word of 4 bytes. -/
def beWord (b : List Byte) : BitVec 32 := BitVec.ofNat 32 (leNat b.reverse)
/-- The 4 big-endian bytes of a word. -/
def beBytes (w : BitVec 32) : List Byte := (leBytes 4 w.toNat).reverse

/-- The functions of FIPS 180-4 section 4.1.2. -/
def shaS0 (x : BitVec 32) : BitVec 32 := x.rotateRight 2 ^^^ x.rotateRight 13 ^^^ x.rotateRight 22
def shaS1 (x : BitVec 32) : BitVec 32 := x.rotateRight 6 ^^^ x.rotateRight 11 ^^^ x.rotateRight 25
def shaG0 (x : BitVec 32) : BitVec 32 := x.rotateRight 7 ^^^ x.rotateRight 18 ^^^ x >>> 3
def shaG1 (x : BitVec 32) : BitVec 32 := x.rotateRight 17 ^^^ x.rotateRight 19 ^^^ x >>> 10
def shaCh (x y z : BitVec 32) : BitVec 32 := (x &&& y) ^^^ (~~~x &&& z)
def shaMaj (x y z : BitVec 32) : BitVec 32 := (x &&& y) ^^^ (x &&& z) ^^^ (y &&& z)

/-- The message schedule, newest word first: n more words. -/
def shaSchedule : Nat → List (BitVec 32) → List (BitVec 32)
  | 0, w => w
  | n + 1, w => shaSchedule n ((shaG1 (w.getD 1 0) + w.getD 6 0 + shaG0 (w.getD 14 0) + w.getD 15 0) :: w)

/-- One round on the eight working variables. -/
def shaRound (v : List (BitVec 32)) (kw : BitVec 32 × BitVec 32) : List (BitVec 32) :=
  match v with
  | [a, b, c, d, e, f, g, h] =>
    let t1 := h + shaS1 e + shaCh e f g + kw.1 + kw.2
    [t1 + shaS0 a + shaMaj a b c, a, b, c, d + t1, e, f, g]
  | v => v

/-- One block compressed into the hash value. -/
def shaBlock (h : List (BitVec 32)) (block : List Byte) : List (BitVec 32) :=
  let w := (shaSchedule 48 ((chunks 4 block).map beWord).reverse).reverse
  List.zipWith (· + ·) h ((List.zip shaK w).foldl shaRound h)

/-- The SHA-256 digest of a list of bytes. -/
def sha256 (m : List Byte) : List Byte := ((chunks 64 (shaPad m)).foldl shaBlock shaH0).flatMap beBytes

end Sys2Proof.Machine
end

