-- ==== Sys2Proof/Machine/Meter.lean ====
section
/-! DEFINITION. The meter domain's operations (chapter 14): fuses and burns (R456, R460), start-up (R444, R464), records
and their hash chain (R458, R459), its channel's frames (R467, R468) and the mirror port (R470). -/

namespace Sys2Proof.Machine

/-- The state with the meter replaced. -/
def State.setMeter (s : State) (m : MeterS) : State := { s with meter := m }

/-- Fuses blown: a row's value (R455, R460). -/
def FuseRow.value (f : FuseRow) : Nat := f.top - f.bad.length
/-- The lowest unblown fuse of n that has not failed since power-up. -/
def FuseRow.next (f : FuseRow) (n : Nat) : Option Nat :=
  match f.bad.find? fun x => !f.tried.contains x with
  | some x => some x
  | none => if f.top < n then some f.top else none
/-- A fuse read back blown. -/
def FuseRow.blow (f : FuseRow) (x : Nat) : FuseRow :=
  if x = f.top then { f with top := x + 1 } else { f with bad := f.bad.filter fun y => y ≠ x }
/-- A fuse left unblown after three attempts (R456). -/
def FuseRow.skip (f : FuseRow) (x : Nat) : FuseRow :=
  if x = f.top then { f with top := x + 1, bad := f.bad ++ [x], tried := setAdd f.tried x }
  else { f with tried := setAdd f.tried x }

/-- The odometer's fuses (R455) and the segment counter's (R460). -/
def odoFuses : Nat := 32768
def segFuses : Nat := 4096
/-- One unit of the odometer, 18,000,000,000 mJ, in the accumulator's units (R455). -/
def odoUnit : Nat := 18000000000 * 2 ^ 32

/-- The calibration in force: the highest-numbered programmed bank (R451). -/
def MeterS.cal (m : MeterS) : List Int := m.banks.getLast?.getD []
/-- The record period in seconds (R458): 1 by default. -/
def MeterS.period (m : MeterS) : Nat := (m.cal.getD 6 1).toNat
/-- The node-id in force (R450). -/
def MeterS.nodeId (m : MeterS) : Nat := m.node.getD Config.meterNode.toNat
/-- The fine total in millijoules (R446). -/
def MeterS.fine (m : MeterS) : Nat := m.acc / 2 ^ 32
/-- Bit of a fault: EMCY 0xFF01 + n is bit n (0x5000 sub 2). -/
def MeterS.faulty (m : MeterS) (n : Nat) : Bool := nbits m.faults n 1 == 1

/-- A frame of the meter node on its channel (R467), while its NMT state and power let it send. -/
def State.meterFrame (s : State) (base : Nat) (data : List Byte) : State :=
  if s.meter.powered ∧ s.meter.nmt ≠ 0 then s.emit (.can 1 (base + s.meter.nodeId) data) else s

/-- An EMCY of the meter node (R468): error register bit 7 while any of its faults is set, no payload; not sent while
stopped (R476). In FAULT it is sent before any boot-up (R464). -/
def State.meterEmcy (s : State) (code : Nat) : State :=
  let m := s.meter
  if m.nmt = 3 then s
  else s.emit (.can 1 (0x080 + m.nodeId) (leBytes 2 code ++ leBytes 1 (if m.faults = 0 then 0 else 0x80) ++ leBytes 5 0))

/-- A meter fault set, with its EMCY when it was not set (R468). -/
def State.meterFault (s : State) (n : Nat) : State :=
  if s.meter.faulty n then s
  else (s.setMeter { s.meter with faults := s.meter.faults + 2 ^ n }).meterEmcy (0xFF01 + n)

/-- A meter fault cleared; code 0x0000 when it was the last (R468). -/
def State.meterClear (s : State) (n : Nat) : State :=
  if s.meter.faulty n then
    let s := s.setMeter { s.meter with faults := s.meter.faults - 2 ^ n }
    if s.meter.faults = 0 then s.meterEmcy 0 else s
  else s

/-- The mirror port's delivery (R441, R470); a change of the faults raises the meter vector (R525). -/
def State.mirror (s : State) : State :=
  let m := s.meter
  if ¬ m.powered then s
  else
    let s := if s.get MT_STAT.faults = m.faults then s else s.irq 25
    let s := ((s.set MT_STAT.state m.state).set MT_STAT.faults m.faults).set MT_STAT.live 1
    let s := ((s.set MT_ODO.odo m.odo.value).set MT_ODO.segment m.seg.value).set MT_FINE.fine m.fine
    let s := s.set MT_LIVE.power (Config.meterMean (15625 * m.recent.sum) (m.recent.length * 2 ^ 32))
    let s := (s.set MT_LIVE.volt m.volt).set MT_LIVE.curr m.curr
    let s := (s.set MT_REC.seq (leAt m.record 4 4)).set MT_REC.flags (leAt m.record 3 1)
    let s := (List.range 4).foldl (fun s i => s.set (MT_HASH.hash i) (leAt m.record (96 + 8 * i) 8)) s
    (s.set MT_ROM.checksum m.rom).set MT_ROM.version Config.meterRomVersion.toNat

/-- The segment seed (R459); the bank's number counts from 1, 0 for none. -/
def MeterS.seed (m : MeterS) : List Byte :=
  sha256 (leBytes 8 Config.meterSerial.toNat ++ leBytes 4 m.sealId ++ leBytes 4 m.sealDate ++ leBytes 2 m.seg.value
    ++ leBytes 4 m.odo.value ++ leBytes 4 m.rom ++ leBytes 1 m.banks.length ++ List.replicate 37 0#8)

/-- The flags of a record (R458). -/
def MeterS.flags (m : MeterS) (p : PeriodS) : Nat :=
  b2n (m.seq == 0) + 2 * b2n p.ovl + 4 * b2n p.tb + 8 * b2n (m.faulty 2) + 16 * b2n p.idle + 32 * b2n (!m.sealed)
    + 64 * b2n (m.faulty 4) + 128 * b2n (m.faulty 5)

/-- Bytes 0 to 95 of a record (R458). -/
def MeterS.recordHead (m : MeterS) (r : RecordS) : List Byte :=
  leBytes 2 1 ++ leBytes 1 m.nodeId ++ leBytes 1 (m.flags r.per) ++ leBytes 4 m.seq ++ leBytes 2 m.seg.value
    ++ leBytes 2 m.period ++ leBytes 4 m.odo.value ++ leBytes 8 (r.acc / 2 ^ 32)
    ++ leBytes 4 (Nat.min 0xFFFFFFFF (r.per.e / 2 ^ 32)) ++ leBytes 2 (Config.meterMean r.per.v r.per.n)
    ++ leBytes 2 (Config.meterMean r.per.i r.per.n) ++ leBytes 8 r.samples ++ leBytes 8 r.steps ++ leBytes 8 r.coded
    ++ leBytes 8 r.ht ++ m.prev

/-- A record formed, hashed and published (R458, R461): TPDOs 1 and 2 are due. -/
def MeterS.publish (m : MeterS) (r : RecordS) : MeterS :=
  let head := m.recordHead r
  let hash := sha256 head
  { m with record := head ++ hash, prev := hash, seq := (m.seq + 1) % 2 ^ 32, wait := none,
           due := setAdd (setAdd m.due 0) 1 }

/-- The content of a meter TPDO (R467). -/
def State.meterTpdoData (s : State) (k : Nat) : List Byte :=
  let m := s.meter
  if k = 0 then m.record.take 64
  else if k = 1 then m.record.drop 64
  else if k = 2 then
    leBytes 4 (s.get MT_LIVE.power) ++ leBytes 2 (s.get MT_LIVE.volt) ++ leBytes 2 (s.get MT_LIVE.curr) ++ leBytes 2 m.faults
  else leBytes 4 m.odo.value ++ leBytes 8 m.fine ++ leBytes 2 m.seg.value

/-- A meter TPDO sent, while the node is operational (R467, R476). -/
def State.meterSend (s : State) (k : Nat) : State :=
  if s.meter.nmt = 2 then s.meterFrame (0x180 + 0x100 * k) (s.meterTpdoData k) else s

/-- A burn started on a row's next fuse (R456, R460). -/
def State.startBurn (s : State) (seg : Bool) (fuse : Nat) : State :=
  (s.setMeter { s.meter with burn := some (seg, fuse, 1) }).emit (.burn (b2n seg) fuse)

/-- The start-up's end (R444, R459, R460): the segment seed, the boot-up message, and the first sample may come. -/
def State.meterBoot (s : State) : State :=
  let m := s.meter
  let s := s.setMeter { m with
    state := if m.sealed then 2 else 1, prev := m.seed, nmt := 1, burn := none }
  (s.meterFrame 0x700 [0#8]).mirror

/-- The segment counter is full (R460). -/
def State.segFull (s : State) : State := (s.meterFault 5).meterBoot

/-- The odometer burn that the fine total asks for (R454, R456, R457). -/
def State.odoCheck (s : State) : State :=
  let m := s.meter
  if m.state ≠ 2 ∨ m.burn.isSome ∨ m.acc < odoUnit then s
  else
    match m.odo.next odoFuses with
    | some f => s.startBurn false f
    | none => s.meterFault 4

/-- A start-up (R444, R464): SRAM begins anew; a ROM that does not match its reference puts the meter in FAULT; a sealed
meter burns a segment fuse first. -/
def State.meterStart (s : State) (romCrc : Nat) : State :=
  let m := s.meter
  let s := s.setMeter { powered := true, banks := m.banks, node := m.node, sealed := m.sealed, sealId := m.sealId,
                        sealDate := m.sealDate, odo := { m.odo with tried := [] }, seg := { m.seg with tried := [] },
                        rom := romCrc }
  if romCrc ≠ Config.meterRomRef.toNat then ((s.setMeter { s.meter with state := 3 }).meterFault 0).mirror
  else if ¬ m.sealed then s.meterBoot
  else
    match s.meter.seg.next segFuses with
    | some f => s.startBurn true f
    | none => s.segFull

/-- A fuse whose burn was cut off by a loss of power: its blown state alone decides (R471), and the spec does not say
which it is (DESIGN CHOICE, notes/assumptions/62.md). -/
def State.cutBurn (s : State) : State :=
  match s.meter.burn with
  | some (seg, f, _) =>
    let (s, b) := s.fresh 1
    if b = 1 then
      if seg then s.setMeter { s.meter with seg := s.meter.seg.blow f } else s.setMeter { s.meter with odo := s.meter.odo.blow f }
    else s
  | none => s

/-- The meter's state while it has no power: only its fuses remain. -/
def MeterS.fusesOnly (m : MeterS) : MeterS :=
  { banks := m.banks, node := m.node, sealed := m.sealed, sealId := m.sealId, sealDate := m.sealDate,
    odo := { m.odo with tried := [] }, seg := { m.seg with tried := [] } }

/-- A USDO answer on the meter's channel (R467): an abort code, or 0. -/
def State.meterReply (s : State) (index sub abort : Nat) : State :=
  if s.meter.powered ∧ (s.meter.nmt = 1 ∨ s.meter.nmt = 2) then s.emit (.usdo 1 index sub abort []) else s

/-- A write over the meter's channel to a staging or calibration object (R451 to R453): refused once sealed. -/
def State.meterWrite (s : State) (index sub : Nat) (go : State) : State :=
  if ¬ s.meter.powered ∨ ¬ (s.meter.nmt = 1 ∨ s.meter.nmt = 2) then s
  else if s.meter.sealed then s.meterReply index sub 0x06010002
  else go

end Sys2Proof.Machine
end

