-- ==== Sys2Proof/Machine/Dict.lean ====
section
/-! DEFINITION. The object dictionary (R479, R482, R483), the tack list (R487 to R490), the contents of the management
TPDOs (R481), and what a firmware image must be (R493, R494). -/

namespace Sys2Proof.Machine

/-- The access codes of R482; CONST reads as RO does. -/
inductive DAcc where
  | ro | rw | rwl | wol
  deriving DecidableEq, Repr

/-- One subindex of an object: its access and its present bytes. -/
structure DSub where
  sub : Nat
  acc : DAcc
  data : List Byte
  deriving DecidableEq, Repr

/-- A read-only subindex of n bytes. -/
def dro (sub n v : Nat) : DSub := ⟨sub, .ro, leBytes n v⟩
/-- A record with its sub 0 (R482). -/
def drec (l : List DSub) : List DSub := dro 0 1 (l.getLast?.elim 0 (·.sub)) :: l
/-- An object with sub 0 alone. -/
def dvar (acc : DAcc) (data : List Byte) : List DSub := [⟨0, acc, data⟩]

/-- Decimal digits of a number, in ASCII. -/
def decimalAux : Nat → Nat → List Byte
  | 0, _ => []
  | f + 1, n => (if n < 10 then [] else decimalAux f (n / 10)) ++ leBytes 1 (48 + n % 10)
/-- Decimal digits of a number below 65,536, in ASCII. -/
def decimal (n : Nat) : List Byte := decimalAux 5 n

/-- Whether an image runs (R494). -/
def State.fwRuns (s : State) : Bool := s.mgmt.fwImg.isSome
/-- Whether the sequencer serves requests: an image runs, and it neither restarts (R370) nor has stopped (R413). -/
def State.serving (s : State) : Bool := s.fwRuns && !s.rec_.seqDown && !s.rec_.seqStop

/-- The version string of the running image (0x100A). -/
def State.fwString (s : State) : List Byte :=
  let v := s.get GL_FW_VER.running
  if s.fwRuns then decimal (v / 2 ^ 24) ++ leBytes 1 46 ++ decimal (v / 2 ^ 16 % 256) ++ leBytes 1 46 ++ decimal (v % 65536)
  else []

/-- The tack list in walk order (R489): id, version, present, body (DEDUCED, notes/assumptions/38.md). -/
def State.tackList (s : State) : List (Nat × Nat × Bool × List Nat) :=
  [ (0x0001, 2, true, [0x02, 0x00, 20, 40, 4, 16, 64]),
    (0x0002, 1, true, [0x1F]),
    (0x0010, 1, Config.fusedK8, []),
    (0x0011, 1, !s.is YK_STAT.failed, [15, 255]),
    (0x0012, 1, true, [130, 130]),
    (0x0020, 1, true, [15, 4, 16, 1]),
    (0x0021, 1, true, [18, 2]),
    (0x0030, 1, true, [56, 128, 16, 0xFF, 0x03]),
    (0x0040, 2, true, [18, 16, 4, 2, 0x00, 0x02]),
    (0x0050, 1, s.is MT_STAT.live, [s.meter.nodeId]),
    (0x0060, 1, true, []),
    (0x0070, 1, true, [4, 0]) ]

/-- The 16 bytes of tack-list entry i (R487): the entries stand one after another from GL_CAP_HEAD. -/
def State.tackEntry (s : State) (i : Nat) : List Byte :=
  match s.tackList[i]? with
  | some (id, ver, here, body) =>
    leBytes 2 id ++ leBytes 1 ver ++ leBytes 1 (b2n here) ++ leBytes 2 (if i + 1 < 12 then 0x81 + i else 0)
      ++ padTo 10 (body.map fun b => BitVec.ofNat 8 b)
  | none => []

/-- The word that a read inside the tack list finds: its offset counted from 0x800 (R487). -/
def State.tackWord (s : State) (off : Nat) : Nat := leAt (s.tackEntry (off / 16)) (off % 16) 8

/-- The subindices of the meter's objects that the dictionary mirrors (R469). -/
def State.dictMeter (s : State) (index : Nat) : Option (List DSub) :=
  let m := s.meter
  if index = 0x5000 then some (drec [dro 1 1 (s.get MT_STAT.state), dro 2 2 (s.get MT_STAT.faults)])
  else if index = 0x5001 then some (drec [dro 1 4 (s.get MT_ODO.odo), dro 2 4 5000, dro 3 2 m.failed])
  else if index = 0x5002 then some (dvar .ro (leBytes 8 (s.get MT_FINE.fine)))
  else if index = 0x5003 then
    some (drec [dro 1 4 (s.get MT_LIVE.power), dro 2 2 (s.get MT_LIVE.volt), dro 3 2 (s.get MT_LIVE.curr)])
  else if index = 0x5004 then some (dvar .ro (leBytes 2 (s.get MT_ODO.segment)))
  else if index = 0x5005 then some (dvar .ro m.record)
  else if index = 0x5006 then some (dvar .ro (m.record.drop 96))
  else if index = 0x5008 then some (drec [dro 1 8 m.steps, dro 2 8 m.coded])
  else if index = 0x5010 then some (drec [dro 1 4 (s.get MT_ROM.version), dro 2 4 (s.get MT_ROM.checksum)])
  else if index = 0x5011 then some (drec [dro 1 8 Config.meterSerial.toNat, dro 2 1 m.nodeId])
  else if index = 0x5020 then some (drec [dro 1 1 (b2n m.sealed), dro 2 4 m.sealId, dro 3 4 m.sealDate])
  else if index = 0x5021 then
    let c := fun i => m.cal.getD i 0
    some (drec [dro 1 4 (twos 32 (c 0)), dro 2 4 (twos 32 (c 1)), dro 3 4 (twos 32 (c 2)), dro 4 4 (twos 32 (c 3)),
      dro 5 2 (twos 16 (c 4)), dro 6 4 (twos 32 (c 5)), dro 7 1 m.period])
  else none

/-- The communication objects 0x1000 to 0x1FFF (R482). -/
def State.dictComm (s : State) (index : Nat) : Option (List DSub) :=
  let k := index % 16
  if index = 0x1000 then some (dvar .ro (leBytes 4 0))
  else if index = 0x1001 then some (dvar .ro (leBytes 1 s.errorReg))
  else if index = 0x1008 then some (dvar .ro [0x50#8, 0x47#8, 0x4C#8, 0x2D#8, 0x32#8])
  else if index = 0x100A then some (dvar .ro s.fwString)
  else if index = 0x1015 then some (dvar .rw (leBytes 2 s.mgmt.inhibit))
  else if index = 0x1017 then some (dvar .rw (leBytes 2 s.mgmt.hbTime))
  else if index = 0x1018 then
    some (drec [dro 1 4 Config.fusedVendor.toNat, dro 2 4 2, dro 3 4 (s.get GL_ID.rev), dro 4 4 (s.get GL_ID.serial)])
  else if index / 4 = 0x600 then
    some (drec [dro 1 4 (0x180 + 0x100 * k + s.get GL_MG_CFG.node), dro 2 1 0xFE,
      ⟨5, .rw, leBytes 2 (s.mgmt.timers.getD k 0)⟩])
  else if index / 4 = 0x680 then
    some (drec ((List.range ([16, 9, 8, 3].getD k 0)).map fun i => dro (i + 1) 4 (Config.tpdoMap k i).toNat))
  else none

/-- The block's own objects from 0x2000 on, without the meter's (R482). -/
def State.dictBlock (s : State) (index : Nat) : Option (List DSub) :=
  let c := index % 16
  if index = 0x2000 then some (drec [dro 1 2 (s.get GL_ID.designation), dro 2 2 (s.get GL_TS.code)])
  else if index = 0x2001 then
    some (drec [dro 1 4 (s.get GL_FW_VER.running), dro 2 4 (s.get GL_FW_VER.staged), dro 3 1 (s.get GL_FW_LVL.level),
      dro 4 1 (s.get GL_FW_LVL.run_lo), dro 5 1 (s.get GL_FW_LVL.run_hi), dro 6 1 (s.get FB_CFG.ver_send)])
  else if index = 0x2010 then
    some (drec [dro 1 2 (s.get GL_FW_STAT.state + 8 * s.get GL_FW_STAT.status), ⟨2, .wol, leBytes 1 0⟩])
  else if index = 0x2011 then some (dvar .rwl (leBytes 1 s.mgmt.rstAction))
  else if 0x2020 ≤ index ∧ index < 0x2024 then
    some (drec [dro 1 1 (s.ctxState c), dro 2 1 (s.get (GL_CTX_STAT.gen c)), dro 3 2 (s.get (GL_CTX_STAT.timeouts c))])
  else if 0x3000 ≤ index ∧ index < 0x3014 then
    let n := index - 0x3000
    some (drec [dro 1 8 (s.get (SL_CHAN_STATE.chan n)), dro 2 1 (s.get (SL_CORE_OUT.active n)),
      dro 3 1 (s.get (SL_MEND.port_down n))])
  else if 0x4000 ≤ index ∧ index < 0x4004 then
    some (drec [dro 1 1 (s.team c), dro 2 2 (s.get (TM_STAT.epoch c)), dro 3 1 (s.phase c),
      dro 4 8 (s.get (CM_STEP.committed c)), dro 5 4 (s.get (CM_STAT.cseq c)), dro 6 2 (s.get (CM_EPOCH.epoch c)),
      dro 7 4 (s.get (CM_CNT.commits c))])
  else if index = 0x6000 then some (dvar .ro (leBytes 1 12))
  else if 0x6001 ≤ index ∧ index < 0x600D then some (dvar .ro (s.tackEntry (index - 0x6001)))
  else if index = 0x7000 then some (drec [dro 1 8 (s.regWord DG_FILL.done.off)])
  else if index = 0x7001 then some (drec ((List.range 8).map fun k => dro (k + 1) 4 (s.get (DG_PAR.errors k))))
  else if index = 0x7002 then some (drec [dro 1 1 (s.get FB_STAT.m), dro 2 2 (s.get FB_STAT.crc_err)])
  else if index = 0x7003 then
    some (drec [dro 1 1 (s.get YK_STAT.rows), dro 2 1 (s.get YK_STAT.cols), dro 3 1 (s.get YK_STAT.failed)])
  else if index = 0x7004 then some (dvar .ro (leBytes 8 (s.regWord DG_COLL_SUM.reason.off)))
  else if 0x7010 ≤ index ∧ index < 0x7110 then
    let i := index - 0x7010
    some (drec [dro 1 2 (s.get (DG_RIN_ID.subject i)), dro 2 1 (s.get (DG_RIN_ID.kind i)),
      dro 3 2 (s.get (DG_RIN_ID.msgs i)), dro 4 4 (s.get (DG_RIN_CNT.count i)), dro 5 8 (s.get (DG_RIN_T.first i))])
  else none

/-- The subindices of an object (R482). -/
def State.dictSubs (s : State) (index : Nat) : Option (List DSub) :=
  if index < 0x2000 then s.dictComm index
  else if 0x5000 ≤ index ∧ index < 0x6000 then s.dictMeter index
  else s.dictBlock index

/-- An object's subindex, or the abort code of R479. -/
def State.dictFind (s : State) (index sub : Nat) : Nat ⊕ DSub :=
  match s.dictSubs index with
  | none => .inl 0x06020000
  | some l =>
    match l.find? fun d => d.sub == sub with
    | some d => .inr d
    | none => .inl 0x06090011

/-- A read of an object (R479, R482): its bytes as the named registers read, or an abort code. -/
def State.dictRead (s : State) (index sub : Nat) : Nat ⊕ List Byte :=
  match s.view.dictFind index sub with
  | .inl a => .inl a
  | .inr d => if d.acc = .wol then .inl 0x06010001 else .inr d.data

/-- Whether an object has no fixed length: the strings whose length its type does not give. -/
def dictString (index : Nat) : Bool := index == 0x1008 || index == 0x100A

/-- Why a write of n bytes is refused before its value is looked at (R479): 0 where it is not. -/
def State.dictGuard (s : State) (index sub n : Nat) (mailbox : Bool) : Nat :=
  match s.dictFind index sub with
  | .inl a => a
  | .inr d =>
    if d.acc = .ro ∨ (d.acc ≠ .rw ∧ ¬ mailbox) then 0x06010002
    else if d.data.length ≠ n then 0x06070010
    else 0

/-- The activation of a staged image asked for (R495). -/
def State.fwActivate (s : State) : State :=
  if s.get GL_FW_STAT.state = 3 then
    ((s.set GL_FW_STAT.state 4).set GL_FW_CTL.activate 1).setMgmt { s.mgmt with holdStep := true }
  else s

/-- A write of an object (R479, R482, R483): the abort code, 0 on success, and the state. -/
def State.dictWrite (s : State) (index sub : Nat) (data : List Byte) (mailbox : Bool) : Nat × State :=
  let g := s.dictGuard index sub data.length mailbox
  let v := leNat data
  if g ≠ 0 then (g, s)
  else if index = 0x1015 then (0, s.setMgmt { s.mgmt with inhibit := v })
  else if index = 0x1017 then (0, s.setMgmt { s.mgmt with hbTime := v, hbAt := s.now })
  else if index = 0x2010 then
    if 1 < v then (0x06090030, s)
    else if v = 1 ∧ s.get GL_FW_STAT.state ≠ 3 then (0x08000022, s)
    else (0, if v = 1 then s.fwActivate else s)
  else if index = 0x2011 then
    if 1 < v then (0x06090030, s) else (0, s.setMgmt { s.mgmt with rstAction := v })
  else if 60000 < v then (0x06090030, s)
  else
    (0, s.setMgmt { s.mgmt with timers := setAt s.mgmt.timers (index % 4) v, tpdoAt := setAt s.mgmt.tpdoAt (index % 4) s.now })

/-- The content of a management TPDO (R481). -/
def State.tpdoData (s : State) (k : Nat) : List Byte :=
  if k = 0 then
    (List.range 4).flatMap fun c =>
      leBytes 1 (s.ctxState c) ++ leBytes 1 (s.team c) ++ leBytes 1 (s.phase c) ++ leBytes 4 (s.get (CM_STEP.committed c))
  else if k = 1 then
    leBytes 1 s.errorReg ++ leBytes 2 (s.get GL_TS.code) ++ leBytes 1 (s.get FB_STAT.m) ++ leBytes 2 (s.get FB_STAT.crc_err)
      ++ leBytes 1 (s.get YK_STAT.rows) ++ leBytes 1 (s.get YK_STAT.cols) ++ leBytes 1 (s.get YK_STAT.failed)
      ++ leBytes 1 (s.get DG_FILL.done + 2 * s.get DG_FILL.fail)
      ++ leBytes 4 (Nat.min 0xFFFFFFFF ((List.range 8).map fun k => s.get (DG_PAR.errors k)).sum)
  else if k = 2 then
    (List.range 4).flatMap fun c => leBytes 1 (s.get (TK_STAT.alarm c)) ++ leBytes 4 (s.get (TK_DEBT.debt c))
  else leBytes 4 (s.get MT_ODO.odo) ++ leBytes 8 (s.get MT_FINE.fine) ++ leBytes 4 (s.get MT_LIVE.power)

/-- An image's length in bytes as its header gives it (R493). -/
def imgLength (image : List Byte) : Nat := leAt image 12 4
/-- The digest over an image's words but word 2 (R493). -/
def imgDigest (image : List Byte) : Nat :=
  let ws := chunks 8 (padTo (imgLength image) image)
  add64 (wordDigest 0xFFFFFA 0 (ws.take 2)) (wordDigest 0xFFFFFA 3 (ws.drop 3))

/-- Whether an image can be read at a place: a valid region of kind 10 and fmt byte that holds it (R493, R496). -/
def State.imgPlace (s : State) (at_ : Nat × Nat) (image : List Byte) : Bool :=
  let g := s.rgn at_.1
  g.valid && g.kind == 10 && g.fmt == fmtBYTE && at_.2 + imgLength image ≤ g.bytes false

/-- The length rule and the digest of an image (R493). -/
def imgSound (image : List Byte) : Bool :=
  64 ≤ imgLength image && imgLength image ≤ 786432 && imgLength image % 64 == 0 && leAt image 16 8 == imgDigest image

/-- The status of an image's check (R494). -/
def State.imgStatus (s : State) (at_ : Nat × Nat) (image : List Byte) : Nat :=
  if ¬ s.imgPlace at_ image ∨ leAt image 0 4 ≠ 0x50474657 ∨ leAt image 10 2 ≠ 2 ∨ ¬ imgSound image then stBADFIELD
  else if s.fwRuns ∧ ¬ (leAt image 8 1 ≤ s.get GL_FW_LVL.level ∧ s.get GL_FW_LVL.level ≤ leAt image 9 1) then stVERSION
  else stOK

/-- The point that R495 gives for an activation: no context is in its commit window and no class 2 command runs. -/
def State.fwPoint (s : State) : Bool :=
  (List.range 4).all (fun c => !s.window c) && !(s.jobs.any fun j => j.isCommand && j.cls == 2)

/-- Nothing staged any more (DEDUCED, notes/assumptions/37.md). -/
def State.fwUnstage (s : State) : State :=
  let s := ((s.set GL_FW_VER.staged 0).set GL_FW_LVL.stg_lo 0).set GL_FW_LVL.stg_hi 0
  s.setMgmt { s.mgmt with fwStg := none }

/-- RUNNING while an image runs, NONE otherwise (GL_FW_STAT). -/
def State.fwRest (s : State) : Nat := if s.fwRuns then 1 else 0

end Sys2Proof.Machine
end

