-- ==== Sys2Proof/Machine/MgmtRows.lean ====
section
/-! DEFINITION. The rows of chapter 15: the management bus (R472 to R481), the dictionary over the bus and the mailbox
(R478 to R486), and the sequencer's firmware (R493 to R499). -/

namespace Sys2Proof.Machine

/-- The node goes on the bus: boot-up, and pre-operational (R475, R477). -/
def State.busJoin (s : State) : State :=
  let s := s.set GL_MG_STAT.nmt 1
  let s := s.setMgmt { s.mgmt with hbAt := s.now, session := none }
  s.canSend0 0x700 [0#8]

/-- The node leaves the bus: MG_TX stays recessive (R474). -/
def State.busLeave (s : State) : State :=
  ((s.set GL_MG_STAT.nmt 0).setMgmt { s.mgmt with session := none, hbDue := false }).emit (.canOff 0)

/-- MG_CFG_WRITE (R473, R474, R530): node and bit rates change only while bus_on is 0; bus_on is refused while node is 0.
The node is on the bus while bus_on is 1 and an image runs (R477, R496). -/
def execMgCfgWrite (v : W64) (s : State) : Res :=
  let f := fun (l : Loc) => fget v l.lo l.w
  let on := s.is GL_MG_CFG.bus_on
  let fields := [GL_MG_CFG.node, GL_MG_CFG.nrate, GL_MG_CFG.drate, GL_MG_CFG.brs]
  let s1 : State :=
    if on then (if fields.any fun l => s.get l ≠ f l then s.set GL_MG_STAT.cfg_err 1 else s)
    else fields.foldl (fun s l => s.set l (f l)) s
  if f GL_MG_CFG.bus_on = 0 then .next (if on then (s1.set GL_MG_CFG.bus_on 0).busLeave else s1)
  else if on then .next s1
  else if s1.get GL_MG_CFG.node = 0 then .next (s1.set GL_MG_STAT.cfg_err 1)
  else
    let s2 := s1.set GL_MG_CFG.bus_on 1
    .next (if s2.fwRuns then s2.busJoin else s2)

/-- The communication objects at their defaults, boot-up, pre-operational (R477). -/
def State.nmtCommReset (s : State) : State :=
  let s := s.setMgmt { s.mgmt with
    inhibit := 1000, hbTime := 1000, timers := [100, 1000, 1000, 1000], emcyAt := [], hbDue := false }
  s.busJoin

/-- A change of the NMT state by a command received on the bus (R476). -/
def State.nmtGo (s : State) (n : Nat) : State := if s.onBus then s.canReceived.set GL_MG_STAT.nmt n else s

/-- NMT_START (R476, R481): operational; the TPDO timers begin. -/
def execNmtStart (s : State) : Res :=
  if s.onBus ∧ s.get GL_MG_STAT.nmt ≠ 2 then
    .next ((s.setMgmt { s.mgmt with tpdoAt := List.replicate 4 s.now }).nmtGo 2)
  else .next (s.nmtGo 2)

/-- NMT_STOP (R476). -/
def execNmtStop (s : State) : Res := .next (s.nmtGo 3)

/-- NMT_PREOPERATIONAL (R476). -/
def execNmtPreoperational (s : State) : Res := .next (s.nmtGo 1)

/-- NMT_RESET_COMMUNICATION (R477). -/
def execNmtResetCommunication (s : State) : Res := if s.onBus then .next s.canReceived.nmtCommReset else .next s

/-- NMT_RESET_NODE (R477, R499): the action that 0x2011 names; during an activation the block reset follows it. -/
def execNmtResetNode (s : State) : Res :=
  if ¬ s.onBus then .next s
  else if s.mgmt.rstAction = 1 then .next s.canReceived.nmtCommReset
  else if s.get GL_FW_STAT.state = 5 then .next (s.canReceived.setMgmt { s.canReceived.mgmt with restart := true })
  else fin (s.canReceived.startColl 3 .block)

/-- An answer of the USDO server (R478) (DESIGN CHOICE, notes/assumptions/33.md). -/
def State.usdoReply (s : State) (index sub abort : Nat) (data : List Byte) : State := s.emit (.usdo 0 index sub abort data)

/-- A read opened over the bus (R478): up to 56 bytes at once; a longer object opens a session and answers its length. -/
def State.usdoRead (s : State) (index sub : Nat) : State :=
  match s.dictRead index sub with
  | .inl a => s.usdoReply index sub a []
  | .inr d =>
    if d.length ≤ 56 then s.usdoReply index sub 0 d
    else
      let s := s.setMgmt { s.mgmt with session := some ⟨index, sub, false, d.length, d, s.now⟩ }
      s.usdoReply index sub 0 (leBytes 4 d.length)

/-- A write over the bus (R478, R483). -/
def State.usdoWrite (s : State) (index sub : Nat) (data : List Byte) : State :=
  let (a, s) := s.dictWrite index sub data false
  s.usdoReply index sub a []

/-- A segmented write opened over the bus (R478). -/
def State.usdoBegin (s : State) (index sub n : Nat) : State :=
  let a := s.dictGuard index sub n false
  if a ≠ 0 then s.usdoReply index sub a []
  else (s.setMgmt { s.mgmt with session := some ⟨index, sub, true, n, [], s.now⟩ }).usdoReply index sub 0 []

/-- A segment received (R478, R486): the object is written when the last has arrived. -/
def State.usdoSegIn (s : State) (x : Session) (data : List Byte) (last : Bool) : State :=
  let d := x.data ++ data
  if ¬ last then (s.setMgmt { s.mgmt with session := some { x with data := d, at_ := s.now } }).usdoReply x.index x.sub 0 []
  else
    let s := s.setMgmt { s.mgmt with session := none }
    if d.length ≠ x.total then s.usdoReply x.index x.sub 0x06070010 [] else s.usdoWrite x.index x.sub d

/-- A segment asked for (R478): the next 56 bytes; the session ends with the last. -/
def State.usdoSegOut (s : State) (x : Session) : State :=
  let rest := x.data.drop 56
  let s := s.setMgmt { s.mgmt with session := if rest = [] then none else some { x with data := rest, at_ := s.now } }
  s.usdoReply x.index x.sub 0 (x.data.take 56)

/-- A request to initiate a transfer: refused while a session is open (R478). -/
def State.usdoInit (s : State) (index sub : Nat) (go : State) : State :=
  if s.mgmt.session.isSome then s.usdoReply index sub 0x08000020 [] else go

/-- USDO_REQUEST (R475, R476, R478, R479): served in pre-operational and operational while the sequencer serves; a segment
that belongs to no session is ignored. -/
def execUsdoRequest (r : UsdoRequest) (s : State) : Res :=
  if ¬ s.onBus then .next s
  else
    let s := s.canReceived
    if ¬ s.emcySent ∨ ¬ s.serving then .next s
    else
      match r, s.mgmt.session with
      | .read i b, _ => .next (s.usdoInit i.toNat b.toNat (s.usdoRead i.toNat b.toNat))
      | .beginRead i b, _ => .next (s.usdoInit i.toNat b.toNat (s.usdoRead i.toNat b.toNat))
      | .write i b d, _ => .next (s.usdoInit i.toNat b.toNat (s.usdoWrite i.toNat b.toNat d))
      | .beginWrite i b n, _ => .next (s.usdoInit i.toNat b.toNat (s.usdoBegin i.toNat b.toNat n))
      | .segmentIn d l, some x => .next (if x.write then s.usdoSegIn x d l else s)
      | .segmentOut, some x => .next (if x.write then s else s.usdoSegOut x)
      | .segmentIn _ _, none => .next s
      | .segmentOut, none => .next s

/-- USDO_SESSION_TIMEOUT (R478, R479). -/
def execUsdoSessionTimeout (s : State) : Res :=
  match s.mgmt.session with
  | some x =>
    if x.at_ + 156250000 ≤ s.now ∧ s.serving then
      .next ((s.setMgmt { s.mgmt with session := none }).usdoReply x.index x.sub 0x05040000 [])
    else .next s
  | none => .next s

/-- The heartbeat message (R476) (DEDUCED, notes/assumptions/35.md). -/
def State.heartbeatFrame (s : State) : State :=
  let n := s.get GL_MG_STAT.nmt
  s.canSend0 0x700 [if n = 1 then 0x7F#8 else if n = 2 then 0x05#8 else 0x04#8]

/-- HEARTBEAT (R475, R476, R499): due once each 0x1017 period; during a sequencer restart it is sent when that ends. -/
def execHeartbeat (s : State) : Res :=
  let m := s.mgmt
  if s.onBus ∧ m.hbTime ≠ 0 ∧ m.hbAt + 156250 * m.hbTime ≤ s.now then
    let s := s.setMgmt { m with hbAt := s.now, hbDue := !s.serving }
    .next (if s.mgmt.hbDue then s else s.heartbeatFrame)
  else .next s

/-- TPDO (R476, R481): sent once per period of its event timer while the node is operational. -/
def execTpdo (k : Fin 4) (s : State) : Res :=
  let m := s.mgmt
  let t := m.timers.getD k 0
  if s.onBus ∧ s.serving ∧ s.get GL_MG_STAT.nmt = 2 ∧ t ≠ 0 ∧ m.tpdoAt.getD k 0 + 156250 * t ≤ s.now then
    let s := s.setMgmt { m with tpdoAt := setAt m.tpdoAt k s.now }
    .next (s.canSend0 (0x180 + 0x100 * k) (s.view.tpdoData k))
  else .next s

/-- BUS_ERROR (R472): ISO 11898-1's counters; above 127 the node is error passive, at 256 transmit errors it is bus-off
(PRESUMED, notes/assumptions/31.md). -/
def execBusError (kind : CanError) (s : State) : Res :=
  if ¬ s.onBus then .next s
  else
    match kind with
    | .receive => .next (s.satInc GL_MG_STAT.recv_err 1).syncPassive
    | .transmit =>
      let n := s.get GL_MG_STAT.tec + 8
      let s := (s.satInc GL_MG_STAT.tec 8).syncPassive
      .next (if 255 < n then s.set GL_MG_STAT.bus_off 1 else s)

/-- BUS_OFF_RECOVERY (R472). -/
def execBusOffRecovery (s : State) : Res :=
  if s.is GL_MG_STAT.bus_off then
    .next (((s.set GL_MG_STAT.bus_off 0).set GL_MG_STAT.tec 0).set GL_MG_STAT.recv_err 0).syncPassive
  else .next s

/-- A mailbox access ends (R484, R485): GL_MBX_STAT and the mailbox's interrupt cause. -/
def State.mbxEnd (s : State) (abort len : Nat) : State :=
  let s := ((s.set GL_MBX_STAT.busy 0).set GL_MBX_REQ.go 0).set GL_MBX_STAT.done 1
  ((s.set GL_MBX_STAT.abort abort).set GL_MBX_STAT.length len).irq 23

/-- MAILBOX_REQUEST (R484, R485): a write of GL_MBX_REQ; ignored while busy, and aborted at once while no image runs. -/
def execMailboxRequest (v : W64) (s : State) : Res :=
  if s.is GL_MBX_STAT.busy then .next (s.set GL_MBX_STAT.ovf 1)
  else
    let s := [GL_MBX_REQ.index, GL_MBX_REQ.sub, GL_MBX_REQ.op, GL_MBX_REQ.length, GL_MBX_REQ.offset].foldl
      (fun (s : State) l => s.set l (fget v l.lo l.w)) s
    if fget v 63 1 = 0 then .next s
    else if ¬ s.fwRuns then .next (s.mbxEnd 0x08000022 0)
    else .next ((s.set GL_MBX_REQ.go 1).set GL_MBX_STAT.busy 1)

/-- The 64 bytes of GL_MBX_DATA (DEDUCED, notes/assumptions/34.md). -/
def State.mbxData (s : State) : List Byte := (List.range 8).flatMap fun i => leBytes 8 (s.get (GL_MBX_DATA.data i))
/-- Bytes placed at GL_MBX_DATA byte 0 onward (R484). -/
def State.mbxPut (s : State) (d : List Byte) : State :=
  let all := d ++ s.mbxData.drop d.length
  (List.range 8).foldl (fun s i => s.set (GL_MBX_DATA.data i) (leAt all (8 * i) 8)) s

/-- A mailbox read (R484): a longer object through the offset's window; a string as far as it goes. -/
def State.mbxRead (s : State) (index sub len off : Nat) : State :=
  match s.dictRead index sub with
  | .inl a => s.mbxEnd a 0
  | .inr d =>
    if dictString index then (s.mbxPut (d.take len)).mbxEnd 0 (Nat.min len d.length)
    else if 64 < d.length then
      if off + len ≤ d.length then (s.mbxPut ((d.drop off).take len)).mbxEnd 0 len else s.mbxEnd 0x06070010 0
    else if d.length = len then (s.mbxPut d).mbxEnd 0 len
    else s.mbxEnd 0x06070010 0

/-- MAILBOX_COMPLETE (R484, R485, R486): the sequencer performs the access with mailbox rights. -/
def execMailboxComplete (s : State) : Res :=
  if ¬ s.is GL_MBX_STAT.busy ∨ ¬ s.serving then
    .next (if s.is GL_MBX_STAT.busy ∧ ¬ s.fwRuns then s.mbxEnd 0x08000022 0 else s)
  else
    let index := s.get GL_MBX_REQ.index
    let sub := s.get GL_MBX_REQ.sub
    let len := s.get GL_MBX_REQ.length
    let open_ : Bool := match s.mgmt.session with
      | some x => x.index == index && x.sub == sub
      | none => false
    if open_ then fin (s.mbxEnd 0x08000020 0)
    else if len = 0 ∨ 64 < len then fin (s.mbxEnd 0x06070010 0)
    else if s.get GL_MBX_REQ.op = 1 then fin (s.mbxRead index sub len (s.get GL_MBX_REQ.offset))
    else if s.get GL_MBX_REQ.op = 2 then
      let (a, s) := s.dictWrite index sub (s.mbxData.take len) true
      fin (s.mbxEnd a 0)
    else fin (s.mbxEnd 0x06090030 0)

/-- FIRMWARE_STAGE (R494): the check of the image that GL_FW_SRC names starts. -/
def execFirmwareStage (s : State) : Res :=
  let st := s.get GL_FW_STAT.state
  if st = 2 ∨ 4 ≤ st then .next s
  else
    let s := (s.set GL_FW_STAT.state 2).set GL_FW_CTL.stage 1
    .next (s.setMgmt { s.mgmt with fwPrev := st, fwChk := (s.get GL_FW_SRC.region, 4096 * s.get GL_FW_SRC.offset) })

/-- FIRMWARE_CHECK_DONE (R494, R525). -/
def execFirmwareCheckDone (image : List Byte) (s : State) : Res :=
  if s.get GL_FW_STAT.state ≠ 2 then .next s
  else
    let st := s.imgStatus s.mgmt.fwChk image
    let s := ((s.set GL_FW_CTL.stage 0).set GL_FW_STAT.status st).irq 24
    if st ≠ stOK then .next (s.set GL_FW_STAT.state s.mgmt.fwPrev)
    else
      let s := (s.set GL_FW_STAT.state 3).set GL_FW_VER.staged (leAt image 4 4)
      let s := (s.set GL_FW_LVL.stg_lo (leAt image 8 1)).set GL_FW_LVL.stg_hi (leAt image 9 1)
      .next (s.setMgmt { s.mgmt with fwStg := some s.mgmt.fwChk })

/-- FIRMWARE_ACTIVATE (R495): from then on committing STEP_ENDs wait. -/
def execFirmwareActivate (s : State) : Res := .next s.fwActivate

/-- FIRMWARE_ACTIVATION (R495, R480): at the point, the image is read again; a failed recheck leaves the running image. -/
def execFirmwareActivation (image : List Byte) (s : State) : Res :=
  if s.get GL_FW_STAT.state ≠ 4 ∨ s.rec_.seqDown ∨ s.rec_.coll.isSome ∨ ¬ (¬ s.fwRuns ∨ s.fwPoint) then .next s
  else
    let at_ := s.mgmt.fwStg.getD (0, 0)
    if s.imgPlace at_ image ∧ imgSound image then
      let s := s.set GL_FW_STAT.state 5
      fin ((s.setMgmt { s.mgmt with fwImg := some at_, fwFirst := !s.fwRuns }).seqRestart false)
    else
      let s := (((s.set GL_FW_STAT.state s.fwRest).set GL_FW_STAT.status stBADFIELD).irq 24).fwUnstage
      fin (s.fwRelease.emcy 0xFF19 (leBytes 1 0xFF ++ leBytes 1 stBADFIELD))

/-- FIRMWARE_CANCEL (R495): held STEP_ENDs may start. -/
def execFirmwareCancel (s : State) : Res :=
  if s.get GL_FW_STAT.state = 3 ∨ s.get GL_FW_STAT.state = 4 then
    fin (s.set GL_FW_STAT.state s.fwRest).fwUnstage.fwRelease
  else .next s

/-- LEVEL_APPLY (R497): a write of GL_FW_LVL; an apply of a level outside the running image's range is ignored. -/
def execLevelApply (v : W64) (s : State) : Res :=
  let s := s.set GL_FW_LVL.staged (fget v 8 8)
  let l := s.get GL_FW_LVL.staged
  if fget v 63 1 = 0 ∨ s.is GL_FW_LVL.apply then .next s
  else if s.fwRuns ∧ s.get GL_FW_LVL.run_lo ≤ l ∧ l ≤ s.get GL_FW_LVL.run_hi then
    .next ((s.set GL_FW_LVL.apply 1).setMgmt { s.mgmt with levelPend := some l })
  else .next (s.set GL_FW_STAT.status stVERSION)

/-- LEVEL_APPLY_EFFECT (R497, R499): the level comes into force at the point that R495 gives. -/
def execLevelApplyEffect (s : State) : Res :=
  match s.mgmt.levelPend with
  | some l =>
    if s.fwPoint then
      let s := ((s.set GL_FW_LVL.level l).set GL_FW_LVL.apply 0).set GL_FW_STAT.status stOK
      .next (s.setMgmt { s.mgmt with levelPend := none })
    else .next s
  | none => .next s

/-- The end of an activation (R495): the staged image runs, and the first one after a reset sets the level. -/
def State.fwBegin (s : State) : State :=
  let s := s.set GL_FW_VER.running (s.get GL_FW_VER.staged)
  let s := (s.set GL_FW_LVL.run_lo (s.get GL_FW_LVL.stg_lo)).set GL_FW_LVL.run_hi (s.get GL_FW_LVL.stg_hi)
  let s := if s.mgmt.fwFirst then s.set GL_FW_LVL.level (s.get GL_FW_LVL.run_hi) else s
  let s := ((s.set GL_FW_STAT.state 1).set GL_FW_STAT.status stOK).irq 24
  let s := s.fwUnstage.fwRelease
  if s.is GL_MG_CFG.bus_on ∧ s.get GL_MG_STAT.nmt = 0 then s.busJoin else s

/-- No image runs any more (R496): the node leaves the bus. -/
def State.fwGone (s : State) : State :=
  let s := (((s.set GL_FW_VER.running 0).set GL_FW_LVL.run_lo 0).set GL_FW_LVL.run_hi 0).set GL_FW_STAT.status stBADFIELD
  let s := if s.get GL_FW_STAT.state = 1 then s.set GL_FW_STAT.state 0 else s
  let m := s.mgmt
  let s := s.setMgmt { m with fwImg := none, fwPrev := if m.fwPrev = 1 then 0 else m.fwPrev }
  if s.get GL_MG_STAT.nmt = 0 then s else s.busLeave

/-- The running image reloaded and rechecked (R496). -/
def State.fwReload (s : State) (image : List Byte) : State :=
  match s.mgmt.fwImg with
  | some at_ => if s.imgPlace at_ image ∧ imgSound image then s.set GL_FW_STAT.status stOK else s.fwGone
  | none => s

/-- SEQUENCER_RESTART_DONE (R370, R412, R495, R496, R499): the sequencer runs again; REPORTs that waited, a due heartbeat
and an NMT reset that waited follow. -/
def execSequencerRestartDone (image : List Byte) (s : State) : Res :=
  if ¬ s.rec_.seqDown then .next s
  else
    let ws := s.rec_.waiting
    let s := (s.setRec { s.rec_ with seqDown := false, kickAt := s.now, waiting := [] }).set DG_RST_CTL.seq 0
    let s := if s.get GL_FW_STAT.state = 5 then s.fwBegin else s.fwReload image
    let s := ws.foldl (fun s m => (s.mergeReport m).done m) s
    let s := if s.mgmt.hbDue then (s.setMgmt { s.mgmt with hbDue := false }).heartbeatFrame else s
    if s.mgmt.restart then fin ((s.setMgmt { s.mgmt with restart := false }).startColl 3 .block)
    else fin s

end Sys2Proof.Machine
end

