-- ==== Sys2Proof/Machine/GsRows.lean ====
section
/-! DEFINITION. The rows of chapter 08: the starts of COLLECTIVE and NORM (R235 to R239, R246, R251 to R253), tile-ready
doorbells (R240, R243, R512), groups (R216), slots (R247), and the messages of a collective (R224, R225, R245, R248,
R250, R256). -/

namespace Sys2Proof.Machine

/-- Whether the gcn of a command is refused (R246). -/
def State.gcnBad (s : State) (j : Job) : Bool :=
  match (s.cxAt j.ctx).gcn with
  | some h => !newer 32 j.gcn h
  | none => false

/-- Group checks that COLLECTIVE and NORM share (R218, R237). -/
def State.groupBad (s : State) (j : Job) : Bool :=
  !s.is (GS_GRP_CFG.valid j.ctx j.gsGroup) || s.get (GS_GRP_CFG.queue j.ctx j.gsGroup) ≠ j.queue
    || s.get (GS_SLOT_CFG.per_slice j.ctx) == 0

/-- Bytes that the bad ranges and formats of R237 concern, for an op that has a source and a destination. -/
def State.collRangeBad (s : State) (j : Job) : Bool :=
  let src := s.rgn j.gsSrc
  let dst := s.rgn j.gsDst
  let t := s.gsTree j
  let out := if j.gsOp = 2 then j.gsCount / t.n else j.gsCount
  !gsFmt src.fmt || !gsFmt dst.fmt
    || (1 < j.nloc && j.cstride < j.gsCount) || src.count < j.srcFirst + (j.nloc - 1) * j.cstride + j.gsCount
    || (!(j.gsOp == 1 && j.gsRoot ≠ t.me) && dst.count < j.dstFirst + out)
    || j.gsCount == 0 || (j.gsOp == 2 && j.gsCount % (64 * t.n) ≠ 0)

/-- The trd conditions of R242. -/
def State.trdBad (s : State) (j : Job) : Bool :=
  j.trd && (j.gsCount % (64 * 2 ^ (j.arg 25 1 / 16)) ≠ 0
    || s.jobs.any fun x => x.cmdOf j.ctx && x.opcode == opCOLLECTIVE && x.trd && x.gsStream == j.gsStream)

/-- The BAD_FIELD checks of R237 other than the gcn. -/
def State.collBad (s : State) (j : Job) : Bool :=
  let arr := j.arg 24 1 / 32 % 2 == 1
  s.groupBad j || j.srcFirst % 64 ≠ 0 || j.dstFirst % 64 ≠ 0 || j.cstride % 64 ≠ 0
    || (if j.gsOp = 4 then j.gsCount ≠ 0 else s.collRangeBad j)
    || j.nloc == 0 || j.gsN == 0 || 16777216 ≤ j.gsN || j.gsN < j.nloc
    || (arr && (2 ≤ j.gsRed || s.is GS_GCFG.determinism))
    || (j.gsOp == 3 && (j.gsRed ≠ 0 || j.nloc ≠ 1)) || (s.gsTree j).n ≤ j.gsRoot || s.trdBad j

/-- The stack-memory bytes of a COLLECTIVE (R239). -/
def State.collBytes (s : State) (j : Job) : Nat :=
  let t := s.gsTree j
  let written := if j.gsOp = 4 ∨ (j.gsOp = 1 ∧ j.gsRoot ≠ t.me) then 0
    else if j.gsOp = 2 then j.gsCount / t.n else j.gsCount
  j.nloc * j.gsCount * (s.rgn j.gsSrc).esize * (if j.gsKind = .grid then 2 else 1) + written * (s.rgn j.gsDst).esize

/-- The stack-memory bytes of a NORM (R253). -/
def State.normBytes (s : State) (j : Job) : Nat :=
  (j.normRanges.map fun r => r.2.2 * (s.rgn r.1).esize).sum * (if j.normMode = 2 then 1 else 2)

/-- A COLLECTIVE or NORM starts: its gcn is the context's newest, and the first splits are known (R220, R246). -/
def State.gsLaunch (s : State) (j : Job) (refs : List Nat) : State :=
  let c := j.ctx
  let g := j.gsGroup
  let n := s.get GS_GCFG.ns_init
  let s := s.setCx c { s.cxAt c with gcn := some j.gcn }
  let s := (s.set (GS_GRP_GCN.last_gcn c g) j.gcn).wrapInc (GS_GRP_GCN.running c g) 1
  let fixed := s.is (GS_GRP_CFG.split_fixed c g)
  let gs : GsJob := { j.gs with fixed := fixed, size := (s.gsTree j).n, ns := if fixed then [(0, n)] else [(0, n), (1, n)] }
  s.launch { j with refs := refs.foldl setAdd [], slots := s.slotsOf refs, gs := gs }

/-- What refuses a command, in order: COLLECTIVE's start (R237). -/
def State.checkCollective (s : State) (j : Job) : List (Bool × Nat) :=
  let c := j.ctx
  let b := fun n => j.arg n 1
  let bar := j.gsOp == 4
  let recv := j.gsOp ≠ 1 || j.gsRoot == (s.gsTree j).me
  let d := s.rgn j.gsDst
  [ (5 ≤ b 24 % 8 || 128 ≤ b 24 || 64 ≤ b 26 || 64 ≤ b 27 || 64 ≤ b 37, stBADFIELD),
    (!bar && (s.badSlot j.gsSrc || (recv && d.valid && d.kind == 9)), stSTABLE),
    (!bar && (!s.readable c j.gsSrc || (recv && !(d.valid && (d.kind == 8 || d.kind == 10) && d.ctx == c))), stREGION),
    (s.collBad j, stBADFIELD),
    (s.tooLarge j (s.collBytes j), stTOOLARGE),
    (s.gcnBad j, stBADFIELD) ]

/-- What a command that is not refused does: COLLECTIVE's start (R237). -/
def State.runCollective (s : State) (j : Job) : State :=
  let bar := j.gsOp == 4
  let recv := j.gsOp ≠ 1 || j.gsRoot == (s.gsTree j).me
  s.gsLaunch j (if bar then [] else j.gsSrc :: if recv then [j.gsDst] else [])

/-- COLLECTIVE's start (R237). -/
def State.startCollective (s : State) (j : Job) : State := s.startOr j (s.checkCollective j) (s.runCollective j)

/-- COLLECTIVE at its start point (R235). -/
def execCollective (c : Ctx) (q : Que) (s : State) : Res := fin (s.beginOp c q opCOLLECTIVE State.startCollective)

/-- What refuses a command, in order: NORM's start (R253, R254). -/
def State.checkNorm (s : State) (j : Job) : List (Bool × Nat) :=
  let c := j.ctx
  let b := fun n => j.arg n 1
  let rs := j.normRanges
  let en := j.arg 24 1 / 4 % 2 == 1
  [ (j.normMode == 3 || 64 ≤ b 24 || 16 ≤ b 25 || b 26 / 64 % 2 == 1 || b 27 / 64 % 2 == 1 || j.nonzero 38 2
      || j.nonzero 60 4, stBADFIELD),
    (rs.any fun r => s.badSlot r.1, stSTABLE),
    (rs.any fun r => !s.readable c r.1, stREGION),
    (rs == [] || (rs.any fun r => !gsFmt (s.rgn r.1).fmt || (s.rgn r.1).count < r.2.1 + r.2.2)
      || (en && j.normMode ≠ 0) || j.gsN == 0 || s.groupBad j, stBADFIELD),
    (s.tooLarge j (s.normBytes j), stTOOLARGE),
    (s.gcnBad j, stBADFIELD) ]

/-- What a command that is not refused does: NORM's start (R253, R254). -/
def State.runNorm (s : State) (j : Job) : State :=
  let c := j.ctx
  let rs := j.normRanges
  let reg := j.arg 24 1 / 8 % 8
  let en := j.arg 24 1 / 4 % 2 == 1
  let s := if en then s.set (GL_NORM_TAG.valid c reg) 0 else s
  s.gsLaunch j (rs.map (·.1))

/-- NORM's start (R253, R254). -/
def State.startNorm (s : State) (j : Job) : State := s.startOr j (s.checkNorm j) (s.runNorm j)

/-- NORM at its start point (R251). -/
def execNorm (c : Ctx) (q : Que) (s : State) : Res := fin (s.beginOp c q opNORM State.startNorm)

/-- A tile admitted to its slot (R247, R248): the children of its tree are granted its credit. -/
def State.admitTile (s : State) (j : Job) (n : Nat) : State :=
  let t := j.gs.next
  let tr := j.gs.treeOf t
  let tree := s.gsTree j
  let s := s.countLate j.gs.lateAt
  let j := { j with gs := { j.gs with tiles := j.gs.tiles ++ [{ t := t, tr := tr }], next := t + 1, lateAt := none } }
  let s := (s.set (GS_GRP_STAT.ns j.ctx j.gsGroup) n).setJob j
  let s := s.gsSendAll j 0x25 tr t (leBytes 2 1 ++ leBytes 2 0) (tree.children tr)
  if n = 0 ∧ tree.me = 0 then (let (s, j) := fixSplits s j (t / 256); s.setJob j) else s

/-- The running collective that a message belongs to (R256). -/
def State.gsFind (s : State) (m : Msg) : Option Job :=
  s.jobs.find? fun j => j.cmdOf m.ctx && j.isGs && j.ending.isNone && j.gcn == m.tag && j.gsGroup == m.at_ 6 1 % 16

/-- The tile index of a message (R348). -/
def Msg.tile (m : Msg) : Nat := m.at_ 0 6
/-- The tree of a message of a collective (R343). -/
def Msg.tree (m : Msg) : Nat := m.bit2
/-- What follows the tile address. -/
def Msg.rest (m : Msg) : List Byte := m.body.drop 8

/-- A message without a credit (R250): counted; its tile's abort flag is set, and the collective ends with INTERNAL. -/
def State.overclaim (s : State) (j : Job) (t : Nat) : State :=
  (s.satInc GS_GSTAT.overclaim 1).endCmd
    { j with gs := { j.gs with tiles := j.gs.tiles.map fun x => if x.t = t then { x with abort := true } else x } } stINTERNAL

/-- The end of a collective by an abort notice or flag (R256): its status goes on in the forwarded notice. -/
def State.gsAbort (s : State) (j : Job) (status : Nat) : State :=
  s.endCmd { j with gs := { j.gs with abortSt := some status } } stPEERLOST

/-- An accepted message of a collective: dropped where no running command of its gcn is there (R349, R256). -/
def State.gsTake (go : State → Job → Msg → State) (s : State) (m : Msg) : State :=
  let s := s.done m
  match s.gsFind m with
  | some j => go s j m
  | none => s

/-- A message from the parent of a tree. -/
def State.fromParent (s : State) (j : Job) (m : Msg) (tr : Nat) : Bool :=
  match (s.gsTree j).parent tr with
  | some p => s.rankDev j.ctx j.gsGroup p == m.src
  | none => false

/-- The child that sent a message in a tree. -/
def State.fromChild (s : State) (j : Job) (m : Msg) (tr : Nat) : Option Nat :=
  s.rankOfDev j.ctx j.gsGroup m.src ((s.gsTree j).children tr)

/-- The flags of the record that a result begins with, where it has one (R348). -/
def Msg.resFlags (j : Job) (m : Msg) : Nat := if j.gsKind = .grid then 0 else leAt m.rest 2 1

/-- A result put into its tile's slot (R224, R236): kept, to be forwarded and, on a receiving member, written. Its record
goes on with reserved bits zero (R348). -/
def State.putRes (s : State) (j : Job) (x : GsTile) (m : Msg) : State :=
  let f := m.resFlags j
  let bs := if j.gsKind = .grid then m.rest else leBytes 2 (leAt m.rest 0 2) ++ leBytes 2 (f % 4) ++ m.rest.drop 4
  s.setJob (j.setTile { x with res := some bs, nf := if j.gsKind = .grid then x.nf else f % 2 == 1 })

/-- The result that came before its tile had a slot leaves its buffer for the slot (R359). -/
def State.takeEarly (s : State) (j : Job) (t : Nat) : State :=
  match j.gs.early.find? fun m => m.tile == t, j.tileAt t with
  | some m, some x =>
    let j := { j with gs := { j.gs with early := j.gs.early.filter fun y => y.tile ≠ t } }
    (s.done m).putRes j x m
  | _, _ => s

/-- SLOT_ADMIT (R247): the next tile of a running collective is admitted once it holds its block's split value (R222)
and a slot of its slice is free, in ascending gcn over the context's collectives. -/
def execSlotAdmit (c : Ctx) (gcn : W32) (tile : Nat) (s : State) : Res :=
  match s.jobs.find? fun j => j.cmdOf c && j.isGs && j.ending.isNone && j.gcn == gcn.toNat with
  | some j =>
    if j.gs.next = tile ∧ tile < j.gsTiles ∧ ¬ s.stopped j then
      match j.gs.nsOf (tile / 256) with
      | some n =>
        if s.admits j then
          let s := s.admitTile j n
          fin (match s.job j.id with
            | some j => s.takeEarly j tile
            | none => s)
        else .next s
      | none => .next (if j.gs.lateAt.isNone then s.setJob { j with gs := { j.gs with lateAt := some s.now } } else s)
    else .next s
  | none => .next s

/-- C_DESC (R225, R226): a child's record is compared and added; the root's answer is kept and forwarded. -/
def State.takeDesc (s : State) (j : Job) (m : Msg) : State :=
  let d := m.rest
  let tr := j.gs.treeOf 0
  if leAt d 1 1 / 64 % 2 = 1 then
    if s.fromParent j m tr ∧ j.gs.down.isNone then
      (s.gsSendAll j 0x20 tr 0 (descOn d) ((s.gsTree j).children tr)).setJob
        { j with gs := { j.gs with down := some (leAt d 20 6, decide (128 ≤ leAt d 1 1)) } }
    else s
  else
    match s.fromChild j m tr with
    | some i =>
      if j.gs.next = 0 ∨ j.gs.kids.contains i then s.overclaim j 0
      else
        s.setJob { j with gs := { j.gs with
          kids := setAdd j.gs.kids i, cnt := j.gs.cnt + leAt d 20 6,
          mism := j.gs.mism || decide (128 ≤ leAt d 1 1) || s.descDiffers j d } }
    | none => s.overclaim j 0

/-- C_DESC. -/
def execCDesc (bytes : List Byte) (s : State) : Res := receiveAs 0x20 bytes s (State.gsTake State.takeDesc)

/-- C_REC (R224): a child's record is combined. A record without a credit is dropped before its abort flag counts
(R349). -/
def State.takeRec (s : State) (j : Job) (m : Msg) : State :=
  let d := m.rest
  match s.fromChild j m m.tree, j.tileAt m.tile with
  | some i, some x =>
    if x.tr ≠ m.tree ∨ ¬ x.held ∨ x.recs.contains i then s.overclaim j m.tile
    else if leAt d 2 1 / 2 % 2 = 1 then s.gsAbort j stPEERLOST
    else
      s.setJob (j.setTile { x with
        recs := setAdd x.recs i, e := max x.e (sext 16 (leAt d 0 2)), nf := x.nf || leAt d 2 1 % 2 == 1 })
  | _, _ => s.overclaim j m.tile

/-- C_REC. -/
def execCRec (bytes : List Byte) (s : State) : Res := receiveAs 0x21 bytes s (State.gsTake State.takeRec)

/-- C_HDR (R224): the header is kept and forwarded, and the second read begins. -/
def State.takeHdr (s : State) (j : Job) (m : Msg) : State :=
  let d := m.rest
  match j.tileAt m.tile with
  | some x =>
    if x.tr = m.tree ∧ x.up ∧ x.hdr.isNone ∧ s.fromParent j m x.tr then
      if leAt d 2 1 / 2 % 2 = 1 then s.gsAbort j stPEERLOST
      else
        let nf := leAt d 2 1 % 2 == 1
        let e := sext 16 (leAt d 0 2)
        (s.gsSendAll j 0x22 x.tr x.t (recBytes e nf false) ((s.gsTree j).children x.tr)).setJob
          (j.setTile { x with hdr := some e, nf := nf })
    else s
  | none => s

/-- C_HDR. -/
def execCHdr (bytes : List Byte) (s : State) : Res := receiveAs 0x22 bytes s (State.gsTake State.takeHdr)

/-- C_PART (R224, R228, R231, R245): a child's partial is added and acknowledged, by a reply under R350. A partial
without a credit is dropped before its abort flag counts (R349). -/
def State.takePart (s : State) (j : Job) (m : Msg) : State :=
  let grid := decide (j.gsKind = .grid)
  let d := if grid then m.rest else m.rest.drop 4
  let flags := if grid then 0 else leAt m.rest 2 1
  match s.fromChild j m m.tree, j.tileAt m.tile with
  | some i, some x =>
    if x.tr ≠ m.tree ∨ ¬ x.held ∨ x.parts.contains i ∨ ¬ (s.upFrom j x).contains i then s.overclaim j m.tile
    else if flags / 2 % 2 = 1 then s.gsAbort j stPEERLOST
    else
      let w := s.laneBytes j
      let ls := wordsOf w (padTo (64 * w) d)
      let x := { x with parts := setAdd x.parts i }
      let x := if grid then { x with acc := addLanes x.acc (ls.map (sext (8 * w))) }
        else { x with
          e := max x.e (sext 16 (leAt m.rest 0 2)), nf := x.nf || flags % 2 == 1, vals := s.combineAll j x.vals ls }
      (s.gsAck j m x.tr i x.t).setJob (j.setTile x)
  | _, _ => s.overclaim j m.tile

/-- C_PART. -/
def execCPart (bytes : List Byte) (s : State) : Res := receiveAs 0x23 bytes s (State.gsTake State.takePart)

/-- C_RES (R224, R236): the result is put into its tile's slot. Where the tile has none yet, as on a member that sends
nothing for a BROADCAST's tile, it waits in its buffer, which it leaves for the slot (R359). -/
def State.takeRes (s : State) (m : Msg) : State :=
  match s.gsFind m with
  | some j =>
    match j.tileAt m.tile with
    | some x =>
      if x.tr = m.tree ∧ x.res.isNone ∧ s.fromParent j m x.tr then
        if m.resFlags j / 2 % 2 = 1 then (s.done m).gsAbort j stPEERLOST else (s.done m).putRes j x m
      else s.done m
    | none =>
      if j.gs.next ≤ m.tile ∧ m.tile < j.gsTiles ∧ j.gs.early.all (fun y => y.tile ≠ m.tile) ∧ s.fromParent j m m.tree then
        if m.resFlags j / 2 % 2 = 1 then (s.done m).gsAbort j stPEERLOST
        else s.setJob { j with gs := { j.gs with early := j.gs.early ++ [m] } }
      else s.done m
  | none => s.done m

/-- C_RES. -/
def execCRes (bytes : List Byte) (s : State) : Res := receiveAs 0x24 bytes s State.takeRes

/-- C_CREDIT (R248): the parent in a tree holds slots for a run of tiles, of which those on its tree are credited. -/
def State.takeCredit (s : State) (j : Job) (m : Msg) : State :=
  if s.fromParent j m m.tree then
    s.setJob { j with gs := { j.gs with
      cred := Tbl.put j.gs.cred [] m.tree (ivAdd (Tbl.at j.gs.cred [] m.tree) m.tile (m.tile + m.at_ 8 2)) } }
  else s

/-- C_CREDIT. -/
def execCCredit (bytes : List Byte) (s : State) : Res := receiveAs 0x25 bytes s (State.gsTake State.takeCredit)

/-- C_ACK (R245): the parent has the partials of a run of tiles, whose slots are released. -/
def State.takeAck (s : State) (j : Job) (m : Msg) : State :=
  if s.fromParent j m m.tree then
    s.setJob { j with gs := { j.gs with tiles := j.gs.tiles.map fun x =>
      if m.tile ≤ x.t ∧ x.t < m.tile + m.at_ 8 2 ∧ x.tr = m.tree ∧ x.sent then { x with acked := true } else x } }
  else s

/-- C_ACK. -/
def execCAck (bytes : List Byte) (s : State) : Res := receiveAs 0x26 bytes s (State.gsTake State.takeAck)

/-- C_SPLIT (R221): the first copy of a notice is kept and forwarded to the children of both trees. -/
def State.takeSplit (s : State) (j : Job) (m : Msg) : State :=
  let b := m.tile / 256
  let t := s.gsTree j
  if j.gs.fixed ∨ (Tbl.find j.gs.ns b).isSome then s
  else
    let s := [0, 1].foldl (fun s tr => s.gsSendAll j 0x27 tr m.tile (leBytes 2 (m.at_ 8 2) ++ leBytes 2 0) (t.children tr)) s
    let late := if j.gs.next / 256 = b then j.gs.lateAt else none
    (s.countLate late).setJob { j with gs := { j.gs with
      ns := Tbl.ins j.gs.ns b (m.at_ 8 2), lateAt := if late.isSome then none else j.gs.lateAt } }

/-- C_SPLIT. -/
def execCSplit (bytes : List Byte) (s : State) : Res := receiveAs 0x27 bytes s (State.gsTake State.takeSplit)

/-- C_SPLITREP (R223): the near root keeps the off root's time of a block. -/
def State.takeSplitrep (s : State) (j : Job) (m : Msg) : State :=
  if (s.gsTree j).me = 0 then
    s.setJob { j with gs := { j.gs with offAt := Tbl.ins j.gs.offAt (m.tile / 256) (m.at_ 8 8) } }
  else s

/-- C_SPLITREP. -/
def execCSplitrep (bytes : List Byte) (s : State) : Res := receiveAs 0x28 bytes s (State.gsTake State.takeSplitrep)

/-- C_ABORT (R256): the command ends with PEER_LOST, and the notice goes on. -/
def State.takeGsAbort (s : State) (j : Job) (m : Msg) : State := s.gsAbort j (m.at_ 8 1)

/-- C_ABORT. -/
def execCAbort (bytes : List Byte) (s : State) : Res := receiveAs 0x29 bytes s (State.gsTake State.takeGsAbort)

/-- TRD_DOORBELL (R240, R512): while an earlier doorbell is held back, a later one waits behind it. -/
def execTrdDoorbell (c : Ctx) (stream : Fin 64) (unit : W32) (s : State) : Res :=
  let s' : State := { s with gs := { s.gs with heldDb := s.gs.heldDb ++ [(c.val, stream.val, unit.toNat)] } }
  if s.gs.heldDb ≠ [] then .next s'
  else
    match s.judgeDoorbell c stream unit.toNat with
    | some t => fin t
    | none => .next ((s'.set (GS_TRD.held c stream) 1).emit (.trdReady false))

/-- TRD_WATERMARK_WRITE (R243): only while no running command of the context names the stream; a write made at another
time of the value that stands is no write (R530). A permitted one clears the window whatever its value. -/
def execTrdWatermarkWrite (c : Ctx) (stream : Fin 64) (wmark : W32) (s : State) : Res :=
  if s.jobs.any fun j => j.cmdOf c && j.opcode == opCOLLECTIVE && j.trd && j.gsStream == stream.val then
    .next (if wmark.toNat = s.get (GS_TRD.wmark c stream) then s else s.set GS_GSTAT.cfg_err 1)
  else fin (((s.set (GS_TRD.wmark c stream) wmark.toNat).setMarks c stream []).redoDoorbells)

/-- The checks of R216. -/
def State.groupOk (s : State) (c g : Nat) : Bool :=
  ((List.range 4).all fun a =>
      !s.axisOn c g a || (s.boxLo c g a ≤ s.boxHi c g a && s.boxHi c g a < s.axisSize a))
    && s.isMember c g s.coord && 1 ≤ s.groupSize c g && s.groupSize c g ≤ 65535
    && 2 ≤ s.get (GS_GRP_CFG.fan c g) && s.get (GS_GRP_CFG.fan c g) ≤ 16

/-- Whether a command of a group is running, or counts as running (R217). -/
def State.groupRuns (s : State) (c g : Nat) : Bool :=
  (s.jobs.any fun j => j.cmdOf c && j.isGs && j.gsGroup == g) || (s.get (CM_CFG.group c) == g && s.window c)

/-- The fields of GS_GRP_CFG but valid written (R217, R530): only while valid is 0; a write of the values they hold is
none. -/
def State.writeGroup (s : State) (c g : Nat) (v : Nat) : State :=
  let same := nbits v 0 4 == s.get (GS_GRP_CFG.axes c g) && nbits v 4 5 == s.get (GS_GRP_CFG.fan c g)
    && nbits v 9 4 == s.get (GS_GRP_CFG.queue c g) && nbits v 13 1 == s.get (GS_GRP_CFG.split_fixed c g)
  if same then s
  else if s.is (GS_GRP_CFG.valid c g) then s.set GS_GSTAT.cfg_err 1
  else
    (((s.set (GS_GRP_CFG.axes c g) (nbits v 0 4)).set (GS_GRP_CFG.fan c g) (nbits v 4 5)).set (GS_GRP_CFG.queue c g)
      (nbits v 9 4)).set (GS_GRP_CFG.split_fixed c g) (nbits v 13 1)

/-- What the block fills in for a group (R216): n, the device's rank and the two tree depths. -/
def State.fillGroup (s : State) (c g : Nat) : State :=
  let n := s.groupSize c g
  let d := treeDepth n (s.get (GS_GRP_CFG.fan c g))
  (((s.set (GS_GRP_STAT.n c g) n).set (GS_GRP_STAT.rank c g) (s.rankOf c g s.coord)).set
    (GS_GRP_STAT.depth_near c g) d).set (GS_GRP_STAT.depth_off c g) d

/-- The valid bit of a group written (R216, R217). -/
def State.validateGroup (s : State) (c g valid : Nat) : State :=
  if valid = s.get (GS_GRP_CFG.valid c g) then s
  else if valid = 0 then
    if s.groupRuns c g then s.set GS_GSTAT.cfg_err 1 else s.set (GS_GRP_CFG.valid c g) 0
  else if s.groupOk c g then (s.set (GS_GRP_CFG.valid c g) 1).fillGroup c g
  else s.set (GS_GRP_STAT.cfg_err c g) 1

/-- A substitution entry written (R213, R214): the context's valid groups of which the device is still a member have
their members, and with them n, the rank and the depths, anew (DEDUCED, notes/assumptions/40.md). -/
def State.substWrite (s : State) (c : Nat) : State :=
  (List.range 16).foldl (fun (s : State) g =>
    if s.is (GS_GRP_CFG.valid c g) ∧ s.groupOk c g then s.fillGroup c g else s) s

/-- GROUP_VALIDATE: a write of GS_GRP_CFG (R216, R217). -/
def execGroupValidate (c : Ctx) (g : Fin 16) (v : W64) (s : State) : Res :=
  fin ((s.writeGroup c g v.toNat).validateGroup c g (nbits v.toNat 63 1))

end Sys2Proof.Machine
end

