-- ==== Sys2Proof/Machine/IntegRows.lean ====
section
/-! DEFINITION. The rows of chapter 13: SCRUB (R417, R418), DIGEST_COMPARE (R428, R429), digest windows (R425), parity
errors (R413, R414) and sliver-core maps (R437). -/

namespace Sys2Proof.Machine

/-- What refuses a command, in order: SCRUB's start (R417, R418). -/
def State.checkScrub (s : State) (j : Job) : List (Bool × Nat) :=
  let r := j.scrubRgn
  let g := s.rgn r
  let first := j.arg 32 8
  let n := j.arg 40 8
  [ (128 ≤ j.arg 24 1 || j.nonzero 25 7 || j.nonzero 48 16, stBADFIELD),
    (s.badSlot r, stSTABLE),
    (g.valid && !s.readable j.ctx r, stREGION),
    (!g.valid || n == 0 || g.rows < first + n || (j.repair && !g.inner), stBADFIELD),
    (s.tooLarge j (n * (20 * g.bsize + if g.fmt = fmtK8 then 80 else 0)), stTOOLARGE) ]

/-- What a command that is not refused does: SCRUB's start (R417, R418). -/
def State.runScrub (s : State) (j : Job) : State :=
  let r := j.scrubRgn
  s.launch { j with segs := [.scrub], refs := [r], slots := s.slotsOf [r], acc := [0, 0, 0, 0, 0, 0] }

/-- SCRUB's start (R417, R418). -/
def State.startScrub (s : State) (j : Job) : State := s.startOr j (s.checkScrub j) (s.runScrub j)

/-- SCRUB at its start point (R417). -/
def execScrub (c : Ctx) (q : Que) (s : State) : Res := fin (s.beginOp c q opSCRUB State.startScrub)

/-- The refusals of R429 but for the gcn. -/
def State.digestBad (s : State) (j : Job) : Bool :=
  let c := j.ctx
  let w := j.digWin
  let n := (s.gsTree j).n
  !s.is (DG_DWIN_CFG.enable c w) || s.get (DG_DWIN_STEP.step c w) ≠ j.arg 32 8
    || (j.digBins && !s.is (DG_DWIN_CFG.bins c w)) || s.groupBad j || 1024 < n || (j.digBins && 64 < n)

/-- What refuses a command, in order: DIGEST_COMPARE's start (R429, R430): the captured digests are taken, with the codes and the tag of the capture
(R433, R439). -/
def State.checkDigest (s : State) (j : Job) : List (Bool × Nat) :=
  [ (32 ≤ j.arg 24 1 || 16 ≤ j.arg 25 1 || j.nonzero 26 2 || j.nonzero 40 24, stBADFIELD),
    (s.digestBad j, stBADFIELD),
    (s.gcnBad j, stBADFIELD) ]

/-- What a command that is not refused does: DIGEST_COMPARE's start (R429, R430): the captured digests are taken, with the codes and the tag of the capture
(R433, R439). -/
def State.runDigest (s : State) (j : Job) : State :=
  let c := j.ctx
  let w := j.digWin
  let x := s.winAt (16 * c + w)
  s.gsLaunch { j with
   acc := s.captured c w j.digBins,
   gs := { j.gs with samp := [w, x.tsCap, x.tsMax, x.tagCap, s.get (DG_DWIN_STEP.step c w)] } } []

/-- DIGEST_COMPARE's start (R429, R430): the captured digests are taken, with the codes and the tag of the capture
(R433, R439). -/
def State.startDigest (s : State) (j : Job) : State := s.startOr j (s.checkDigest j) (s.runDigest j)

/-- DIGEST_COMPARE at its start point (R428). -/
def execDigestCompare (c : Ctx) (q : Que) (s : State) : Res := fin (s.beginOp c q opDIGEST State.startDigest)

/-- A window's fields but enable and cfg_err as a word of DG_DWIN_CFG has them. -/
def winWord (v : Nat) : Nat := nbits v 0 46
/-- The same fields as the registers hold them. -/
def State.winFields (s : State) (c w : Nat) : Nat :=
  s.get (DG_DWIN_CFG.region c w) + s.get (DG_DWIN_CFG.lo c w) * 2 ^ 6 + s.get (DG_DWIN_CFG.pair c w) * 2 ^ 12
    + s.get (DG_DWIN_CFG.bins c w) * 2 ^ 13 + s.get (DG_DWIN_CFG.every c w) * 2 ^ 14 + s.get (DG_DWIN_CFG.t c w) * 2 ^ 22

/-- The fields of a window stored (R425). -/
def State.putWinFields (s : State) (c w v : Nat) : State :=
  let s := ((s.set (DG_DWIN_CFG.region c w) (nbits v 0 6)).set (DG_DWIN_CFG.lo c w) (nbits v 6 6)).set
    (DG_DWIN_CFG.pair c w) (nbits v 12 1)
  ((s.set (DG_DWIN_CFG.bins c w) (nbits v 13 1)).set (DG_DWIN_CFG.every c w) (nbits v 14 8)).set (DG_DWIN_CFG.t c w)
    (nbits v 22 24)

/-- The conditions of R425. -/
def State.dwinOk (s : State) (c w : Nat) : Bool :=
  let r := s.get (DG_DWIN_CFG.region c w)
  let g := s.rgn r
  let lo := s.rgn (s.get (DG_DWIN_CFG.lo c w))
  let n := s.get (DG_DWIN_COUNT.count c w)
  s.readable c r && s.get (DG_DWIN_FIRST.first c w) + n ≤ g.count && 1 ≤ n && 1 ≤ s.get (DG_DWIN_CFG.every c w)
    && (!s.is (DG_DWIN_CFG.pair c w) || (g.kind == 1 && lo.valid && lo.kind == 2 && lo.ctx == g.ctx && lo.group == g.group))

/-- A write of DG_DWIN_CFG (R425, R530): cfg_err is cleared by a 1; fields are stored while enable is 0; a written enable
is checked, and an enabled window begins with nothing accumulated. -/
def State.windowWrite (s : State) (c w v : Nat) : State :=
  let was := s.is (DG_DWIN_CFG.enable c w)
  let s := if nbits v 62 1 = 1 then s.set (DG_DWIN_CFG.cfg_err c w) 0 else s
  let s := if winWord v = s.winFields c w then s
    else if was then s.set (DG_DWIN_CFG.cfg_err c w) 1 else s.putWinFields c w v
  if nbits v 63 1 = 0 then s.set (DG_DWIN_CFG.enable c w) 0
  else if was then s
  else if s.dwinOk c w then
    (s.set (DG_DWIN_CFG.enable c w) 1).setWin (16 * c + w) { tsRun := s.get GL_TS.code }
  else s.set (DG_DWIN_CFG.cfg_err c w) 1

/-- DIGEST_WINDOW_ENABLE (R425). -/
def execDigestWindowEnable (c : Ctx) (w : Fin 16) (v : W64) (s : State) : Res := fin (s.windowWrite c w v.toNat)

/-- The command that read a bad byte ends with INTERNAL (R413, R439); its completion marks the interval where it writes an
inactive bank (R91). -/
def State.parityCommand (s : State) (c q e : Nat) : State :=
  match s.cmdJob c q e with
  | some j =>
    if j.ending.isSome then s.setJob { j with ending := some (stINTERNAL, none) } else s.endCmd j stINTERNAL
  | none => s

/-- An inbound report entry freed (R413). -/
def State.freeInbound (s : State) (i : Nat) : State :=
  if s.is (DG_RIN_ID.valid i) then
    let s := ((s.set (DG_RIN_ID.subject i) 0).set (DG_RIN_ID.kind i) 0).set (DG_RIN_ID.msgs i) 0
    (((s.set (DG_RIN_ID.valid i) 0).set (DG_RIN_CNT.count i) 0).set (DG_RIN_T.first i) 0).dec DG_RIN_STAT.entries 1
  else s

/-- The action of R413 on what a bad byte belonged to (DEDUCED, notes/assumptions/47.md); a decode table's entry is inverted
again as field work of the yoke (R205). -/
def State.parityAct (s : State) (site : ParitySite) : State :=
  match site with
  | .command c q e => s.parityCommand c q e
  | .message bytes => (s.satInc FB_STAT.crc_err 1).leave bytes
  | .decodeEntry => s.fieldBusy
  | .touchMap => (List.range 4).foldl (fun s c => if s.team c = tmOFF then s else s.failInterval c stINTERNAL) s
  | .mendList n j =>
    (s.setMem { s.mem with mendFull := setAdd s.mem.mendFull (chKey n j) }).set (SL_MEND.mend_full n) 1
  | .sequencer => s.setRec { s.rec_ with seqStop := true }
  | .reportEntry i =>
    match s.rec_.reps[i]? with
    | some e => s.setReps (s.rec_.reps.filter fun f => f ≠ e)
    | none => s
  | .inboundEntry i => s.freeInbound i
  | .unread => s

/-- PARITY_ERROR (R413, R414): counted for its SRAM row, with the error vector and emergency, and a suspect at each
multiple of par_thresh. -/
def execParityError (k : Fin 8) (macroId : W16) (site : ParitySite) (s : State) : Res :=
  let was := s.get (DG_PAR.errors k)
  let s := (s.satInc (DG_PAR.errors k) 1).set (DG_PAR.macro k) macroId.toNat
  let s := (s.irq 17).emcy 0xFF12 (leBytes 1 k.val ++ leBytes 2 macroId.toNat)
  let n := s.get DG_SUS_CFG.par_thresh
  let s := if n ≠ 0 ∧ s.get (DG_PAR.errors k) ≠ was ∧ s.get (DG_PAR.errors k) % n = 0 then s.suspect s.self else s
  fin (s.parityAct site)

/-- A write of SL_CORE_OUT (R437): the map is stored, and an apply waits for its point; apply reads 1 until then. -/
def execCoreMapApply (n : Slice) (v : W64) (s : State) : Res :=
  let s := s.set (SL_CORE_OUT.out n) (fget v 0 42)
  if fget v 63 1 = 1 then
    fin ((s.set (SL_CORE_OUT.apply n) 1).setYoke { s.yoke with corePend := setAdd s.yoke.corePend n.val })
  else .next s

/-- CORE_REMAP (R19, R437): at its point, the requested map gives the slice its active cores. -/
def execCoreRemap (n : Slice) (s : State) : Res :=
  let y := s.yoke
  if y.corePend.contains n.val ∧ (y.coreDue.contains n.val ∨ ¬ s.anyTicks) then
    let s := s.setYoke { y with
      corePend := y.corePend.filter fun x => x ≠ n.val, coreDue := y.coreDue.filter fun x => x ≠ n.val }
    let live := 42 - popcount 42 (s.get (SL_CORE_OUT.out n))
    fin ((s.set (SL_CORE_OUT.active n) (Nat.min 40 live)).set (SL_CORE_OUT.apply n) 0)
  else .next s

end Sys2Proof.Machine
end

