-- ==== Sys2Proof/Machine/StartRow.lean ====
section
/-! DEFINITION. COMMAND_START (R101, R113): the command at a queue's start point, whatever its opcode. -/

namespace Sys2Proof.Machine

/-- The start that an opcode gives a command (R105). -/
def State.startAny (s : State) (j : Job) : State :=
  let o := j.opcode
  if o = opNOP then s.startNop j
  else if o = opWAITHALL then s.startWaitHall j
  else if o = opREGIONCOPY then s.startRegionCopy j
  else if o = opSTABLELOAD then s.startStableLoad j
  else if o = opSTABLEEVICT then s.startStableEvict j
  else if o = opUPDATE then s.startUpdate j
  else if o = opPRECOND then s.startPrecond j
  else if o = opPUT then s.startCopy j
  else if o = opGET then s.startCopy j
  else if o = opCOLLECTIVE then s.startCollective j
  else if o = opNORM then s.startNorm j
  else if o = opSTEPEND then s.startStepEnd j
  else if o = opAUDIT then s.startAudit j
  else if o = opSCRUB then s.startScrub j
  else if o = opDIGEST then s.startDigest j
  else if o = opJOBLOAD then s.startJobLoad j
  else if o = opIMPORT then s.startImport j
  else s.startDrain j

/-- COMMAND_START (R101, R113): the command at a start point starts, or completes at once with DEP_FAILED. -/
def execCommandStart (c : Ctx) (q : Que) (s : State) : Res :=
  fin (if s.hasHead c q then s.begin c q State.startAny else s)

end Sys2Proof.Machine
end

