-- ==== Sys2Proof/Machine/MemRows.lean ====
section
/-! DEFINITION. The rows of the memory ports and channels (R73, R79 to R82, R502, R503, R509 to R511) and the region
table (R89). -/

namespace Sys2Proof.Machine

/-- The collect record's writes are all accepted (R373): the record is complete. -/
def State.collAcked (s : State) : State :=
  match s.rec_.coll with
  | some k =>
    if ¬ k.waiting ∧ ¬ s.mem.reqs.any fun e => e.2.job == 0 then s.set DG_COLL_SUM.complete 1 else s
  | none => s

/-- A request of a piece of work is answered: one fewer is outstanding. -/
def State.answered (s : State) (id : Nat) (f : Job → Job) : State :=
  match s.job id with
  | some j => s.setJob { f j with out := j.out - 1 }
  | none => s

/-- MEMORY_WRITE_ACCEPT (R502): ignored while MPnn_RST is high (R523). -/
def execMemoryWriteAccept (n : Slice) (tag : Fin 4096) (s : State) : Res :=
  let k := n.val * 4096 + tag.val
  if s.mem.resetHigh then .next s
  else
    match Tbl.find s.mem.reqs k with
    | some r =>
      if r.write then
        let s := s.setMem { s.mem with reqs := Tbl.del s.mem.reqs k }
        if r.job = 0 then fin s.collAcked else fin (s.answered r.job id)
      else .fault .noRequest
    | none => .fault .noRequest

/-- The 256 bytes of a granule's data lines. -/
def granuleBytes (data : BitVec 2048) : List Byte := leBytes 256 data.toNat

/-- MEMORY_READ_RESPONSE (R502, R503): ignored while MPnn_RST is high (R523). -/
def execMemoryReadResponse (n : Slice) (tag : Fin 4096) (err : Bool) (data : BitVec 2048) (s : State) : Res :=
  let k := n.val * 4096 + tag.val
  if s.mem.resetHigh then .next s
  else
    match Tbl.find s.mem.reqs k with
    | some r =>
      if r.write then .fault .noRequest
      else
        let s := s.setMem { s.mem with reqs := Tbl.del s.mem.reqs k }
        let key := gKey n.val r.granule
        fin (s.answered r.job fun j =>
          if err then { j with bad := setAdd j.bad key } else { j with got := Tbl.ins j.got key (granuleBytes data) })
    | none => .fault .noRequest

/-- A channel's bit of SL_RETRAIN.req. -/
def State.setReq (s : State) (n j : Nat) (b : Bool) : State :=
  let w := s.get (SL_RETRAIN.req n)
  s.set (SL_RETRAIN.req n) (w - nbits w j 1 * 2 ^ j + b2n b * 2 ^ j)

/-- RETRAIN_REQUEST (R509): MPnn_RTRQ is raised. -/
def execRetrainRequest (n : Slice) (j : Chan) (s : State) : Res := .next (s.setReq n j true)

/-- A retraining that asks: its request stands and its channel is in service. -/
def State.asks (s : State) (n j : Nat) : Bool :=
  nbits (s.get (SL_RETRAIN.req n)) j 1 == 1 && j < s.nch && s.chan n j == chONLINE

/-- Whether any channel of the device is OUT or MENDING (R79). -/
def State.anyOut (s : State) : Bool :=
  (List.range 20).any fun n => (List.range 32).any fun j => s.chan n j == chOUT || s.chan n j == chMENDING

/-- No request of a lower stack, or of a lower channel of the same stack, asks (R509). -/
def State.firstAsk (s : State) (n j : Nat) : Bool :=
  (List.range 20).all fun x => (List.range 32).all fun y =>
    !(x < n || (x == n && y < j)) || !s.asks x y

/-- RETRAIN_GRANT (R79, R150, R509, R511): with slack and no other channel OUT or MENDING, the first request is granted
and its channel enters OUT. -/
def execRetrainGrant (n : Slice) (j : Chan) (s : State) : Res :=
  if s.asks n j ∧ s.firstAsk n j ∧ ¬ s.anyOut ∧ s.slackValid then
    let k := chKey n j
    let m := s.mem
    let s := s.setMem { m with mend := Tbl.del m.mend k, mendFull := m.mendFull.filter (· ≠ k), grants := setAdd m.grants k }
    let s := (s.setChan n j chOUT).set (SL_RETRAIN.chan n) j
    let s := (s.set (SL_RETRAIN.granted n) 1).satInc (SL_RETRAIN.grants n) 1
    fin ((s.emit (.grant n j true)).emit (.dirty n j true))
  else .next s

/-- A held grant ends: RTGNT falls and the request with it. -/
def State.endGrant (s : State) (n j : Nat) : State :=
  let k := chKey n j
  if s.mem.grants.contains k then
    (((s.setMem { s.mem with grants := s.mem.grants.filter (· ≠ k) }).set (SL_RETRAIN.granted n) 0).setReq n j
      false).emit (.grant n j false)
  else s

/-- A MENDING channel with nothing listed is ONLINE (R73, R511). -/
def State.mendDone (s : State) (n j : Nat) : State :=
  let k := chKey n j
  if s.chan n j = chMENDING ∧ Tbl.at s.mem.mend [] k = [] ∧ ¬ s.mem.mendFull.contains k then
    (s.setChan n j chONLINE).emit (.dirty n j false)
  else s

/-- RETRAIN_DONE (R509): the granted channel enters MENDING. -/
def execRetrainDone (n : Slice) (j : Chan) (s : State) : Res :=
  if s.mem.grants.contains (chKey n j) ∧ s.chan n j = chOUT then
    fin (((s.endGrant n j).setChan n j chMENDING).mendDone n j)
  else .next s

/-- RETRAIN_FAIL (R509): the granted channel is FAILED. -/
def execRetrainFail (n : Slice) (j : Chan) (s : State) : Res :=
  if s.mem.grants.contains (chKey n j) ∧ s.chan n j = chOUT then fin ((s.endGrant n j).setChan n j chFAILED)
  else .next s

/-- CHANNEL_FAIL (R510): MPnn_CHFAIL is high and the channel is FAILED. -/
def execChannelFail (n : Slice) (j : Chan) (s : State) : Res :=
  let s := s.setMem { s.mem with faults := setAdd s.mem.faults (chKey n j) }
  fin ((s.endGrant n j).setChan n j chFAILED)

/-- MEMORY_PORT_STATE (R510): port_down follows MPnn_UP. -/
def execMemoryPortState (n : Slice) (up : Bool) (s : State) : Res := fin (s.setB (SL_MEND.port_down n) (!up))

/-- A full mend list written out: every row of every valid inner-coded region, its scale rows after its rows (R80). -/
def State.fullMend (s : State) : List MendEnt :=
  ((List.range 64).filter fun r => (s.rgn r).valid && (s.rgn r).inner).map fun r =>
    ⟨r, 0, if (s.rgn r).fmt = fmtK8 then 2 * (s.rgn r).rows else (s.rgn r).rows⟩

/-- A full list spelled out before it is mended; mend_full stands until it is cleared by a write (R6, R80). -/
def State.openMend (s : State) (n j : Nat) : State :=
  let k := chKey n j
  if s.mem.mendFull.contains k then
    let l := s.fullMend
    let s := s.setMem { s.mem with mend := Tbl.put s.mem.mend [] k l, mendFull := s.mem.mendFull.filter (· ≠ k) }
    s.set (SL_MEND.mend_used n) (((s.mem.mend.filter fun e => e.1 / 32 == n).map fun e => e.2.length).sum)
  else s

/-- MEND_ROW (R81): the first listed row of a MENDING channel is reconstructed and rewritten, as background work of the
context that owns the region (R143); a row of a region no longer valid has nothing to mend. -/
def execMendRow (n : Slice) (j : Chan) (s : State) : Res :=
  if s.chan n j ≠ chMENDING ∨ s.mem.resetHigh ∨ s.jobs.any (fun x => match x.owner with
      | .mend n' j' _ _ => n' == n.val && j' == j.val
      | _ => false) then .next s
  else
    let s := s.openMend n j
    match Tbl.at s.mem.mend [] (chKey n j) with
    | [] => fin (s.mendDone n j)
    | e :: _ =>
      if (s.rgn e.region).valid ∧ (s.rgn e.region).inner then
        fin (s.addJob { id := 0, owner := .mend n j e.region e.first, ctx := (s.rgn e.region).ctx, cls := 0,
                        segs := [.mend] })
      else fin (s.mended n j e.region e.first)

/-- Whether a team that is not OFF uses a region under its values in force: as its share, its stable parity region or
a region of its state image (R89). -/
def State.teamUses (s : State) (r : Nat) : Bool :=
  (List.range 4).any fun c => s.team c ≠ tmOFF &&
    (s.get (TM_CFG.share c) == r || ((s.tmAt c).vals.sparEn && s.get (TM_CFG.spar c) == r)
      || (s.imageRgns c).contains r)

/-- A write that clears a region's valid bit (R89): at once, or pending while references stand. -/
def State.clearRgn (s : State) (n : Nat) : State :=
  if s.teamUses n then s.set (GL_RGN_STAT.cfg_err n) 1
  else if s.get (GL_RGN_STAT.refs n) = 0 then s.freeRgn n
  else s.set (GL_RGN_STAT.free_pending n) 1

/-- A region's description after its own fields are written from a word; a record of the region is sent where its kind
or owning context changes (R504), unless the same write validates it and sends one then. -/
def State.putRgn (s : State) (n : Nat) (v : W64) : State :=
  let g := s.rgn n
  let s := ((s.set (GL_RGN_CFG.kind n) (fget v 0 4)).set (GL_RGN_CFG.fmt n) (fget v 4 3)).set (GL_RGN_CFG.layout n)
    (fget v 7 1)
  let s := ((s.set (GL_RGN_CFG.inner n) (fget v 8 1)).set (GL_RGN_CFG.team n) (fget v 9 1)).set (GL_RGN_CFG.ctx n)
    (fget v 10 2)
  let s := (s.set (GL_RGN_CFG.group n) (fget v 12 6)).set (GL_RGN_CFG.slot n) (fget v 18 4)
  let changed := (s.rgn n).kind ≠ g.kind ∨ (s.rgn n).ctx ≠ g.ctx
  if changed ∧ ¬ (fget v 63 1 = 1 ∧ s.rgnOk n (s.rgn n)) then s.rtu n else s

/-- Whether a word gives every guarded field of GL_RGN_CFG its present value (R530). -/
def State.sameRgn (s : State) (n : Nat) (v : W64) : Bool :=
  let g := s.rgn n
  fget v 0 4 == g.kind && fget v 4 3 == g.fmt && fget v 7 1 == b2n g.coded && fget v 8 1 == b2n g.inner
    && fget v 9 1 == b2n g.team && fget v 10 2 == g.ctx && fget v 12 6 == g.group && fget v 18 4 == g.slot

/-- A write of GL_RGN_CFG (R60, R63, R64, R71, R89, R530): fields are stored while valid is 0, then a written valid bit
validates the entry after its checks; while valid is 1 they keep their values, and a cleared valid bit frees it. -/
def State.rgnWrite (s : State) (n : Nat) (v : W64) : State :=
  let up := fget v 63 1 == 1
  if (s.rgn n).valid then
    let s := if s.sameRgn n v then s else s.set (GL_RGN_STAT.cfg_err n) 1
    if up then s else s.clearRgn n
  else
    let s := s.putRgn n v
    if ¬ up then s
    else if s.rgnOk n (s.rgn n) then
      let s := (s.set (GL_RGN_CFG.valid n) 1).set (GL_RGN_STAT.rows n) (s.rgn n).rows
      let s := ((s.set (GL_RGN_STAT.degraded n) 0).set (GL_RGN_STAT.free_pending n) 0).rtu n
      if s.team (s.rgn n).ctx = tmOFF then s else s.syncTeam (s.rgn n).ctx
    else s.set (GL_RGN_STAT.cfg_err n) 1

/-- REGION_CFG_WRITE (R89). -/
def execRegionCfgWrite (n : Fin 64) (v : W64) (s : State) : Res := fin (s.rgnWrite n v)

end Sys2Proof.Machine
end

