-- ==== Sys2Proof/Machine/TickRows.lean ====
section
/-! DEFINITION. The rows of chapter 05: hall time (R134 to R136, R513), ticks (R137, R138), the boundary with its debt,
alarm and allowance (R140 to R146), and the saturation window (R147 to R149). -/

namespace Sys2Proof.Machine

/-- TK_HT_STAT.skew_bound follows the quality of hall time (R136). -/
def State.syncSkew (s : State) : State :=
  s.set TK_HT_STAT.skew_bound (if s.fallback then s.get TK_HT_CFG.fb_skew else 3)

/-- The internal hall time that a presented count leads to, and whether jump is set (R134). -/
def takeCount (now count : Nat) : Nat × Bool :=
  let e := (now + 1) % 2 ^ 64
  if count = e then (e, false) else if e < count then (count, true) else (e, true)

/-- HT_STROBE (R134, R135): the count of one hall cycle; a strobe ends a loss. -/
def execHtStrobe (count : W64) (s : State) : Res :=
  let r := takeCount s.now count.toNat
  let s := (s.set TK_HT_NOW.now r.1).set TK_HT_STAT.lost 0
  let s := if r.2 then (s.set TK_HT_STAT.jump 1).irq 19 else s
  fin s.syncSkew

/-- HT_STROBE_LOST (R135): 16 hall cycles have passed without a strobe. -/
def execHtStrobeLost (s : State) : Res :=
  fin (((s.set TK_HT_STAT.lost 1).set TK_HT_STAT.lost_seen 1).irq 19).syncSkew

/-- HT_FREERUN_ADVANCE (R135): 432 core cycles of a loss. -/
def execHtFreerunAdvance (s : State) : Res :=
  if s.is TK_HT_STAT.lost then fin (s.set TK_HT_NOW.now (s.now + 25)) else .next s

/-- HT_FALLBACK_CHANGE (R136). -/
def execHtFallbackChange (flag : Bool) (s : State) : Res :=
  let s := s.setB TK_HT_STAT.fallback flag
  fin ((if flag then (s.set TK_HT_STAT.fb_seen 1).irq 19 else s).syncSkew)

/-- The first boundary after a hall time (R137): origin plus whole periods. -/
def firstBoundary (now origin period : Nat) : Nat := now + (period - (((now : Int) - origin) % period).toNat)

/-- The checks of R138 on what the registers hold. -/
def State.tickOk (s : State) (c : Nat) : Bool :=
  let p := s.get (TK_CFG.period c)
  15625 ≤ p && p ≤ 9375000000 && 1 ≤ s.get (TK_CP.cp c) && s.get (TK_CP.cp c) ≤ p && s.get (TK_CP.bg_floor c) ≤ 100

/-- Ticks turned off: no overrun or debt is kept, running commands belong to no tick, and nothing stays paused (R139). -/
def State.tickOff (s : State) (c : Nat) : State :=
  let s : State := { s with jobs := s.jobs.map fun j => if j.ctx == c then { j with paused := false, tick := none } else j }
  ((s.set (TK_CFG.enable c) 0).setTk c {}).showDebt c []

/-- Ticks turned on (R137): tick 0 is the one that the next boundary ends. TK_ALLOW keeps its value until that boundary
sets it (DESIGN CHOICE, notes/assumptions/49.md). -/
def State.tickOn (s : State) (c : Nat) : State :=
  let p := s.get (TK_CFG.period c)
  let b := firstBoundary s.now (s.get (TK_ORIGIN.origin c)) p
  let cp := s.get (TK_CP.cp c)
  ((s.set (TK_CFG.enable c) 1).set (TK_STAT.tick c) 0).setTk c
    { next := b, start := b - p, period := p, cp := cp, floor := s.get (TK_CP.bg_floor c), ends := [⟨0, b - p + cp, 0⟩] }

/-- A write of TK_CFG (R138): the period is stored; a written enable is checked, and a disable takes effect at the next
boundary. -/
def State.tickCfg (s : State) (c : Nat) (v : W64) : State :=
  let was := s.is (TK_CFG.enable c)
  let s := s.set (TK_CFG.period c) (fget v 0 34)
  if fget v 63 1 = 0 then (if was then s.setTk c { s.tkAt c with off := true } else s)
  else if ¬ s.tickOk c then (s.tickOff c).set (GL_CTX_STAT.cfg_err c) 1
  else if was then s.setTk c { s.tkAt c with off := false }
  else s.tickOn c

/-- TICK_ENABLE (R138). -/
def execTickEnable (c : Ctx) (v : W64) (s : State) : Res := fin (s.tickCfg c v)

/-- Repayment into debt entries, the oldest first (R145). -/
def payDebt : Nat → List DebtEnt → List DebtEnt
  | _, [] => []
  | n, d :: t =>
    let m := Nat.min n (d.size - d.paid)
    { d with paid := d.paid + m } :: payDebt (n - m) t

/-- The boundary that starts tick m (R138, R142, R145, R146). A cp above the period or a bg_floor above 100, written while
ticks were on, is taken as it stands, with no allowance or repayment below 0 (DESIGN CHOICE, notes/assumptions/49.md). -/
def State.tickStart (s : State) (c : Nat) : State :=
  let t := s.tkAt c
  let m := (s.get (TK_STAT.tick c) + 1) % 2 ^ 48
  let ds := (s.grown c).debts
  let late := ds.any fun d => d.tick + 9 ≤ m && d.paid < d.size
  let period := s.get (TK_CFG.period c)
  let cp := s.get (TK_CP.cp c)
  let fl := s.get (TK_CP.bg_floor c)
  let g := period - cp
  let debt := (ds.map fun d => d.size - d.paid).sum
  let repay := Nat.min debt (g - g * fl / 100)
  let ds := (payDebt repay ds).filter fun d => d.paid < d.size || s.tickBusy c d.tick
  let ends := ((s.grown c).ends.filter fun e => s.tickBusy c e.tick) ++ [⟨m, t.next + cp, 0⟩]
  let s := s.setTk c { next := t.next + period, start := t.next, period := period, cp := cp, floor := fl, debts := ds,
                       ends := ends, charged := t.charged }
  let s := ((s.set (TK_STAT.tick c) m).set (TK_ALLOW.allow c) (g - repay)).showDebt c ds
  let s : State := { s with jobs := s.jobs.map fun j => if j.ctx == c then { j with paused := false } else j }
  if late then
    ((s.set (TK_STAT.alarm c) 1).irq (12 + c)).emcy 0xFF10 (leBytes 1 c ++ leBytes 4 debt)
  else s

/-- A context's boundary: a tick starts, or a disable written before takes effect (R138); what waits for a boundary is due
(R207, R336, R437). -/
def State.boundary (s : State) (c : Nat) : State :=
  let s := if (s.tkAt c).off then s.tickOff c else s.tickStart c
  let s := s.setFab { s.fab with rebuildDue := s.fab.rebuildPend }
  s.setYoke { s.yoke with applyDue := s.yoke.applyPend, coreDue := s.yoke.corePend }

/-- TICK_BOUNDARY (R137, R145): the context's next boundary has been reached. -/
def execTickBoundary (c : Ctx) (s : State) : Res :=
  if s.is (TK_CFG.enable c) ∧ (s.tkAt c).next ≤ s.now then fin (s.boundary c) else .next s

/-- ALLOWANCE_EXHAUSTED (R144): with no allowance left, each running background command stops at its next request
boundary. -/
def execAllowanceExhausted (c : Ctx) (s : State) : Res :=
  if s.is (TK_CFG.enable c) ∧ s.get (TK_ALLOW.allow c) = 0 then
    .next { s with jobs := s.jobs.map fun j => if j.ctx == c.val && j.cls == 0 then { j with paused := true } else j }
  else .next s

/-- One level's bit of TK_GSTAT.sat: at least sat_pct percent of the window's cycles (R147). -/
def satBit (pct cycles level : Nat) : Nat := if pct * 1024 ≤ cycles * 100 then 2 ^ level else 0

/-- SATURATION_WINDOW_END (R147): in how many of the window's 1,024 hall cycles each level served or queued requests
other than the block's own background requests. -/
def execSaturationWindowEnd (mem lane fab drn yoke : Fin 1025) (s : State) : Res :=
  let p := s.get TK_GCFG.sat_pct
  fin (s.set TK_GSTAT.sat
    (satBit p mem 0 + satBit p lane 1 + satBit p fab 2 + satBit p drn 3 + satBit p yoke 4))

end Sys2Proof.Machine
end

