-- ==== Sys2Proof/Machine/YokeRows.lean ====
section
/-! DEFINITION. The yoke's rows (R205 to R211), but for PRECOND_REFRESH. -/

namespace Sys2Proof.Machine

/-- YOKE_MAP_APPLY: a write of 1 to YK_MAP_CTL.apply (R207); it reads 1 until the remap is done (R6). -/
def execYokeMapApply (s : State) : Res :=
  fin ((s.set YK_MAP_CTL.apply 1).setYoke { s.yoke with applyPend := true })

/-- The result of the check pattern (R210, R436, R525): a mismatch names the first PE and makes this device suspect. -/
def State.yokeResult (s : State) (mismatch : Option (Fin 130 × Fin 130)) : State :=
  let s := match mismatch with
    | none =>
      (((s.set YK_TEST.pass 1).set YK_TEST.fail 0).set YK_TEST.fail_row 0xFF).set YK_TEST.fail_col 0xFF
    | some (r, c) =>
      ((((s.set YK_TEST.pass 0).set YK_TEST.fail 1).set YK_TEST.fail_row r.val).set YK_TEST.fail_col c.val).suspect s.self
  s.irq 21

/-- The map in force becomes the requested one (R208, R209). -/
def State.yokeMap (s : State) : State :=
  let w := fun (f : Nat → Loc) i => BitVec.ofNat 64 (s.get (f i))
  let rows := usableCount 130 (w YK_ROWOUT.out 0) (w YK_ROWOUT.out 1) (w YK_ROWOUT.out 2)
  let cols := usableCount 130 (w YK_COLOUT.out 0) (w YK_COLOUT.out 1) (w YK_COLOUT.out 2)
  let deg := decide (rows < 128 ∨ cols < 128)
  let fail := decide (rows < 16 ∨ cols < 16)
  let same := s.is YK_STAT.degraded == deg && s.is YK_STAT.failed == fail
  let s := (((s.set YK_STAT.rows rows).set YK_STAT.cols cols).setB YK_STAT.degraded deg).setB YK_STAT.failed fail
  let s := (s.satInc YK_STAT.remaps 1).set YK_MAP_CTL.apply 0
  let s := if same then s else s.irq 21
  if ¬ same ∧ deg then s.emcy 0xFF17 ([0xFF, BitVec.ofNat 8 rows, BitVec.ofNat 8 cols, BitVec.ofNat 8 (b2n fail), 0]) else s

/-- YOKE_REMAP (R207 to R210): a requested map takes effect at its point, with the check pattern; `mismatch` is what the
pattern finds in the array. -/
def execYokeRemap (mismatch : Option (Fin 130 × Fin 130)) (s : State) : Res :=
  if s.remapDue then
    fin ((s.setYoke { s.yoke with applyPend := false, applyDue := false }).yokeMap.yokeResult mismatch)
  else .next s

/-- YOKE_TEST_START: a write of 1 to YK_TEST.start (R210). -/
def execYokeTestStart (s : State) : Res := fin ((s.set YK_TEST.start 1).setYoke { s.yoke with testPend := true })

/-- YOKE_CHECK_PATTERN (R210, R211): a requested check runs, after a remap that is due. -/
def execYokeCheckPattern (mismatch : Option (Fin 130 × Fin 130)) (s : State) : Res :=
  if s.yoke.testPend ∧ ¬ s.remapDue then
    fin (((s.setYoke { s.yoke with testPend := false }).set YK_TEST.start 0).yokeResult mismatch)
  else .next s

/-- DECODE_TABLE_COMPLETE (R205, R209). -/
def execDecodeTableComplete (s : State) : Res := fin s.tableDone

/-- BULK_DECODE (R204 to R206, R209, R211): the sequencer's request for the erased positions of an epoch's code, with the
surviving shards in ascending position; an epoch without a table is refused with PEER_LOST. -/
def execBulkDecode (_c : Ctx) (epoch : W16) (erased : List Nat) (shards : List (List Byte)) (s : State) : Res :=
  match s.tableOf epoch.toNat with
  | none => fin (s.setYoke { s.yoke with result := some (stPEERLOST, []) })
  | some t =>
    let k := s.get (YK_DTAB.k t)
    let r := s.get (YK_DTAB.r t)
    let er := erased.foldl setAdd []
    if er = [] ∨ r < er.length ∨ (er.any fun p => k + r ≤ p) ∨ shards.length ≠ k
        ∨ (shards.any fun d => d.length ≠ (shards.headD []).length) then .fault .illFormed
    else
      match bulkOf k (k + r) er shards with
      | some rows => fin (s.fieldBusy.setYoke { s.fieldBusy.yoke with result := some (stOK, rows) })
      | none => .fault .illFormed

end Sys2Proof.Machine
end

