-- ==== Sys2Proof/Machine/CtlRows.lean ====
section
/-! DEFINITION. CTL accesses by offset: REGISTER_WRITE under the access codes, guards and value limits of the register
tables (R6 to R10, R98, R100, R103, R119, R530), and HALF_READ_LATCH (R11). A write that starts an action or has a row of
its own takes that row's meaning. -/

namespace Sys2Proof.Machine

/-- CTL accesses reach the block (R521, R527). -/
def State.ctlOpen (s : State) : Bool := !s.rstLow && s.wir == 0

/-- The part of a 64-bit word that an access covers: its low bit and width. -/
def halfBits (high wide : Bool) : Nat × Nat := if wide then (0, 64) else if high then (32, 32) else (0, 32)

/-- A word with part of it replaced. -/
def mergeWord (old : Nat) (p : Nat × Nat) (v : Nat) : Nat :=
  old % 2 ^ p.1 + v % 2 ^ p.2 * 2 ^ p.1 + old / 2 ^ (p.1 + p.2) * 2 ^ (p.1 + p.2)

/-- A write inside a ring (R98, R100, R103): ignored from the entry's doorbell until its slot's release
(DEDUCED, notes/assumptions/15.md). -/
def State.ringWrite (s : State) (req off : Nat) (wide : Bool) (v : Nat) : State :=
  let o := off - 0x80000
  let k := o / 64
  let j := 8 * k + o % 64 / 8
  if (s.ent k).phase ≠ .released then s
  else
    let w := mergeWord (Tbl.at s.ring 0 j) (halfBits (o % 8 == 4) wide) v
    let s : State := { s with ring := Tbl.put s.ring 0 j w }
    if req = 0 then s else s.setEnt k { s.ent k with foreign := true }

/-- The word a write means: its own bits, and around them what the RW fields hold; nothing elsewhere. A 32-bit write of one
half of GL_FAST takes the other half's WO bits as 0: its high half adds to counter 0, its low half adds 0
(DESIGN CHOICE, notes/assumptions/16.md). -/
def State.writeWord (s : State) (d : RegDef) (is : List Nat) (off : Nat) (p : Nat × Nat) (v : Nat) : Nat :=
  mergeWord ((d.fields.map fun f => if f.acc = .rw then s.get (d.loc is off f) * 2 ^ f.lo else 0).sum) p v

/-- Whether a rule descriptor's K32 field is neither NaR nor negative (R189). -/
def nonNeg (v : Nat) : Bool := !(kw v).isNan && !((kw v).lt Num.zero)
/-- Whether a rule descriptor's K32 field lies in [0, 1), or in [0, 1] (R189). -/
def inUnit (v : Nat) (closed : Bool) : Bool :=
  nonNeg v && ((kw v).lt Num.one || (closed && !(Num.one.lt (kw v))))

/-- The checks of R189 on a rule descriptor. -/
def State.ruleOk (s : State) (c d : Nat) : Bool :=
  inUnit (s.get (GL_RULE_BETA.beta1 c d)) false && inUnit (s.get (GL_RULE_BETA.beta2 c d)) false
    && inUnit (s.get (GL_RULE_LIM.beta_f c d)) true
    && nonNeg (s.get (GL_RULE_EPS.eps c d)) && nonNeg (s.get (GL_RULE_EPS.lambda c d))
    && nonNeg (s.get (GL_RULE_CLIP.clip_norm c d)) && nonNeg (s.get (GL_RULE_CLIP.clip_elem c d))
    && nonNeg (s.get (GL_RULE_SCALE.elem_max c d)) && nonNeg (s.get (GL_RULE_LIM.norm_max c d))
    && nonNeg (s.get (GL_RULE_LR.lr_mult c d))
    && !(kw (s.get (GL_RULE_SCALE.inv_scale c d))).isNan && Num.zero.lt (kw (s.get (GL_RULE_SCALE.inv_scale c d)))
    && s.get (GL_RULE_CTL.kind c d) < 4 && s.get (GL_RULE_CTL.norm_act c d) < 3 && s.get (GL_RULE_CTL.elem_act c d) < 3
    && 1 ≤ s.get (GL_RULE_CTL.accum_stride c d)

/-- The checks of R189 on a schedule segment. -/
def State.segOk (s : State) (c d i : Nat) : Bool :=
  let k := s.get (GL_SCHED_SEG.kind c d i)
  k < 4 && (k == 0 || 1 ≤ s.get (GL_SCHED_LEN.len c d i)) && nonNeg (s.get (GL_SCHED_LR.lr_a c d i))
    && nonNeg (s.get (GL_SCHED_LR.lr_b c d i))

/-- The fields that a register does not take now, by their low bits, and the error bit of a write that would change one
(R530): regions (R89), contexts (R95, R244), rules (R188), groups (R217, R232), teams (TM_CFG, TM_STB), the commit's words
(R306) and digest windows (R425). -/
def State.guarded (s : State) (b : Nat) (i j k : Nat) : List Nat × Option Loc :=
  let all := List.range 64
  let on := fun (h : Bool) (l : List Nat) (e : Loc) => if h then (l, some e) else (([] : List Nat), none)
  let busy := s.ctxState i ≠ 0
  if b = (GL_RGN_LOC.base 0).off ∨ b = (GL_RGN_SIZE.count 0).off then on (s.rgn i).valid all (GL_RGN_STAT.cfg_err i)
  else if b = (GL_CTX_CFG.prio 0).off then on busy all (GL_CTX_STAT.cfg_err i)
  else if b = (GS_SLOT_CFG.per_slice 0).off then on busy [0] (GL_CTX_STAT.cfg_err i)
  else if (GL_RULE_CTL.kind 0 0).off ≤ b ∧ b ≤ (GL_RULE_LR.lr_mult 0 0).off then
    on (s.is (GL_RULE_CTL.valid i j)) ((List.range 62)) (GL_RULE_CTL.cfg_err i j)
  else if (GL_SCHED_SEG.start 0 0 0).off ≤ b ∧ b ≤ (GL_SCHED_LR.lr_a 0 0 0).off then
    on (s.is (GL_SCHED_SEG.valid i j k)) ((List.range 62)) (GL_SCHED_SEG.cfg_err i j k)
  else if b = GS_GCFG.determinism.off then
    on ((List.range 4).any fun c => s.ctxState c ≠ 0) [0] GS_GSTAT.cfg_err
  else if b = (GS_GRP_BOX.lo0 0 0).off then on (s.is (GS_GRP_CFG.valid i j)) all GS_GSTAT.cfg_err
  else if b = (GS_SUBST.coord 0 0).off then
    on (s.jobs.any fun x => x.cmdOf i && (x.opcode == opCOLLECTIVE || x.opcode == opNORM)) all GS_GSTAT.cfg_err
  else if b = (TM_CFG.mode 0).off then on (s.team i ≠ tmOFF) [13, 19, 26] (TM_STAT.cfg_err i)
  else if b = (TM_STB.offset 0).off then (if s.get (GL_STB_SLOT.state i) = sbEMPTY then [] else [12], none)
  else if b = (CM_CFG.group 0).off then on busy [0, 13] (CM_STAT.cfg_err i)
  else if b = (CM_STAT.phase 0).off ∨ b = (CM_STEP.committed 0).off ∨ b = (CM_SEED.seed 0).off ∨ b = (CM_CBASE.base 0).off
      ∨ b = (CM_CSTRIDE.cstride 0).off then on busy all (CM_STAT.cfg_err i)
  else if b = (DG_DWIN_FIRST.first 0 0).off ∨ b = (DG_DWIN_COUNT.count 0 0).off ∨ b = (DG_DWIN_P0.p0 0 0).off then
    on (s.is (DG_DWIN_CFG.enable i j)) all (DG_DWIN_CFG.cfg_err i j)
  else ([], none)

/-- Whether a field may hold a value at all (GL_MEMCFG, GL_MEMPRI, GL_PWR, CM_CFG, R121), and the error bit of a write of
one that it may not. -/
def limited (b i lo v : Nat) : Bool × Option Loc :=
  if b = GL_MEMCFG.nch.off then (1 ≤ v && v ≤ 32, some GL_MEMCFG.cfg_err)
  else if b = GL_MEMPRI.floor.off then (v ≤ 50, some GL_MEMPRI.cfg_err)
  else if b = GL_PWR.ramp.off then (1 ≤ v, none)
  else if b = (GL_CTX_TMO.dflt 0).off then (1 ≤ v, some (GL_CTX_STAT.cfg_err i))
  else if b = (CM_CFG.group 0).off ∧ lo = 4 then (1 ≤ v && v ≤ 256, some (CM_STAT.cfg_err i))
  else (true, none)

/-- An error bit set, where a register has one. -/
def State.setErr (s : State) : Option Loc → State
  | some e => s.set e 1
  | none => s

/-- The value an RW field takes from a word: YK_ROWOUT[2] and YK_COLOUT[2] have two bits. -/
def fieldValue (b i lo w v : Nat) : Nat :=
  let x := nbits v lo w
  if (b = (YK_ROWOUT.out 0).off ∨ b = (YK_COLOUT.out 0).off) ∧ i = 2 then x % 4 else x

/-- A word written under the access codes (R6, R7): W1C bits cleared first, then RW fields under their guards and limits. -/
def State.writeFields (s : State) (d : RegDef) (is : List Nat) (off v : Nat) : State :=
  let i := is.getD 0 0
  let g := s.guarded d.base i (is.getD 1 0) (is.getD 2 0)
  let s := d.fields.foldl (fun (s : State) f =>
    let l := d.loc is off f
    if f.acc = .w1c then s.set l (s.get l - (s.get l &&& nbits v f.lo f.w)) else s) s
  d.fields.foldl (fun (s : State) f =>
    let l := d.loc is off f
    let x := fieldValue d.base i f.lo f.w v
    if f.acc ≠ .rw ∨ s.get l = x then s
    else if g.1.contains f.lo then s.setErr g.2
    else if ¬ (limited d.base i f.lo x).1 then s.setErr (limited d.base i f.lo x).2
    else s.set l x) s

/-- A valid bit of a rule descriptor or segment written (R188, R189), after the word's other fields: `was` is the bit
before the write. -/
def State.validate (s : State) (was : Bool) (valid err : Loc) (v : Nat) (ok : Bool) : State :=
  if nbits v 63 1 = 0 then s.set valid 0
  else if was then s.set valid 1
  else if ok then s.set valid 1
  else (s.set valid 0).set err 1

/-- A write of GL_RULE_CTL (R188, R189). -/
def State.ruleWrite (s : State) (d : RegDef) (is : List Nat) (off v : Nat) (c n : Nat) : State :=
  let was := s.is (GL_RULE_CTL.valid c n)
  let t := s.writeFields d is off v
  t.validate was (GL_RULE_CTL.valid c n) (GL_RULE_CTL.cfg_err c n) v (t.ruleOk c n)

/-- A write of GL_SCHED_SEG (R188, R189). -/
def State.segWrite (s : State) (d : RegDef) (is : List Nat) (off v : Nat) (c n i : Nat) : State :=
  let was := s.is (GL_SCHED_SEG.valid c n i)
  let t := s.writeFields d is off v
  t.validate was (GL_SCHED_SEG.valid c n i) (GL_SCHED_SEG.cfg_err c n i) v (t.segOk c n i)

/-- A write of CM_STEP that has changed C (R301, R306): the open step is C + S, and the current step is C + 1
(DEDUCED, notes/assumptions/24.md). -/
def State.stepWrite (s t : State) (c : Nat) : State :=
  if t.get (CM_STEP.committed c) = s.get (CM_STEP.committed c) then t else t.openStep c

/-- A meaning carried on from an outcome. -/
def chain (r : Res) (f : State → Res) : Res :=
  match r with
  | .next s => f s
  | r => r

/-- The meaning of an action bit, where a word sets it. -/
def onBit (v bit : Nat) (f : State → Res) (r : Res) : Res := if nbits v bit 1 = 1 then chain r f else r

/-- A write to a register with actions or a row of its own: the rows' meanings, in bit order
(DEDUCED, notes/assumptions/16.md). -/
def State.writeAction (s : State) (d : RegDef) (is : List Nat) (off v : Nat) : Option Res :=
  let b := d.base
  let i := is.getD 0 0
  let c := Fin.ofNat 4 i
  let j := is.getD 1 0
  let w : W64 := BitVec.ofNat 64 v
  let t := s.writeFields d is off v
  if b = (GL_RGN_CFG.kind 0).off then some (execRegionCfgWrite (Fin.ofNat 64 i) w s)
  else if b = (GL_RGN_LOC.base 0).off ∨ b = (GL_RGN_SIZE.count 0).off then
    some (fin (if (t.rgn i).base = (s.rgn i).base ∧ (t.rgn i).count = (s.rgn i).count then t else t.rtu i))
  else if b = (GL_CTX_CTL.start 0).off then
    some (onBit v 3 (execTeardown c) (onBit v 2 (execContextResume c) (onBit v 1 (execContextHold c)
      (onBit v 0 (execContextStart c) (.next s)))))
  else if b = (GL_Q_DB.tail 0 0).off then some (execDoorbell c (Fin.ofNat 16 j) (Fin.ofNat 64 (nbits v 0 6)) s)
  else if b = (GL_FAST.evt 0).off then
    some (execFastIncrement c (Fin.ofNat 32 (nbits v 0 5)) (BitVec.ofNat 32 (nbits v 32 32)) s)
  else if b = (GL_RULE_CTL.kind 0 0).off then some (fin (s.ruleWrite d is off v i j))
  else if b = (GL_SCHED_SEG.start 0 0 0).off then some (fin (s.segWrite d is off v i j (is.getD 2 0)))
  else if b = TK_HT_CFG.lead.off then some (fin t.syncSkew)
  else if b = (TK_CFG.period 0).off then some (execTickEnable c w s)
  else if b = YK_MAP_CTL.apply.off then some (onBit v 0 execYokeMapApply (.next s))
  else if b = YK_TEST.start.off then some (onBit v 0 execYokeTestStart (.next t))
  else if b = (GS_GRP_CFG.axes 0 0).off then some (execGroupValidate c (Fin.ofNat 16 j) w s)
  else if b = (GS_SUBST.coord 0 0).off then some (fin (t.substWrite i))
  else if b = (GS_TRD.wmark 0 0).off then
    some (execTrdWatermarkWrite c (Fin.ofNat 64 j) (BitVec.ofNat 32 (nbits v 0 32)) s)
  else if b = (TM_CTL.form 0).off then
    some (onBit v 2 (execTeamDissolve c) (onBit v 1 (execTeamApply c) (onBit v 0 (execTeamForm c) (.next s))))
  else if b = (CM_CTL.resolve 0).off then
    some (onBit v 2 (execUnfence c) (onBit v 1 (execApplyEpoch c) (onBit v 0 (execResolve c) (.next s))))
  else if b = (CM_STEP.committed 0).off then some (.next (s.stepWrite t i))
  else if b = FB_LANE_CTL.out.off then some (execLaneMapApply w s)
  else if b = FB_INQ_CTL.peak_clr.off then some (onBit v 0 execInqPeakClear (.next s))
  else if b = (DR_BIND.bank 0).off then some (execBind c w s)
  else if b = (DR_CTL.clear_log 0).off then some (onBit v 0 (execClearLog c) (.next s))
  else if b = (TM_REB_CTL.join 0).off then
    some (onBit v 2 (execRebuildAbandon c) (onBit v 1 (execRebuildStart c) (onBit v 0 (execRebuildJoin c) (.next s))))
  else if b = DG_RIN_REL.index.off then some (execReportRelease (Fin.ofNat 256 (nbits v 0 8)) s)
  else if b = DG_WDT.kick.off then some (onBit v 0 execWatchdogKick (.next t))
  else if b = DG_RST_CTL.seq.off then
    some ((List.range 4).foldl (fun r k => onBit v (2 + k) (execContextPurge (Fin.ofNat 4 k)) r)
      (onBit v 1 execBlockReset (onBit v 0 execSequencerRestart (.next s))))
  else if b = (DG_DWIN_CFG.region 0 0).off then some (execDigestWindowEnable c (Fin.ofNat 16 j) w s)
  else if b = (SL_CORE_OUT.out 0).off then some (execCoreMapApply (Fin.ofNat 20 i) w s)
  else if b = GL_MG_CFG.node.off then some (execMgCfgWrite w s)
  else if b = GL_MBX_REQ.index.off then some (execMailboxRequest w s)
  else if b = (GL_MBX_DATA.data 0).off ∧ s.is GL_MBX_STAT.busy then
    some (.next (if t.regs = s.regs then s else s.set GL_MBX_STAT.ovf 1))
  else if b = GL_FW_CTL.stage.off then
    some (onBit v 2 execFirmwareCancel (onBit v 1 execFirmwareActivate (onBit v 0 execFirmwareStage (.next s))))
  else if b = GL_FW_LVL.level.off then some (execLevelApply w s)
  else if b = GL_TS.code.off then some (onBit v 17 execTsMaxClear (.next s))
  else none

/-- Whether a part of a register's word holds any field: an access of a part that is all reserved bits does nothing (R9). -/
def RegDef.occupies (d : RegDef) (p : Nat × Nat) : Bool := d.fields.any fun f => f.lo < p.1 + p.2 && p.1 < f.lo + f.w

/-- A register write that reached the register at an offset; `high` is a 32-bit write of its high half. A 64-bit write
of a 32-bit register stores its low 32 bits (DESIGN CHOICE, notes/assumptions/17.md). -/
def State.regWrite (s : State) (off : Nat) (high wide : Bool) (v : Nat) : Res :=
  match regAt off with
  | some (d, is) =>
    if ¬ d.occupies (halfBits high wide) then .next s
    else
      let w := s.writeWord d is off (halfBits high (wide && d.width == 64)) v
      match s.writeAction d is off w with
      | some r => r
      | none => fin (s.writeFields d is off w)
  | none => .next s

/-- Whether the CTL window takes an access: 32 or 64 bits wide and naturally aligned (R10). -/
def ctlTakes (z : AccessSize) (off : Nat) : Bool := 4 ≤ z.bytes && off % z.bytes == 0

/-- REGISTER_WRITE: a CTL write by a requester (0 is the sequencer's path). -/
def execRegisterWrite (req : Nat) (off : Nat) (size : AccessSize) (v : W64) (s : State) : Res :=
  let wide := decide (size = .dword)
  if ¬ s.ctlOpen ∨ ¬ ctlTakes size off then .next s
  else if 0x80000 ≤ off ∧ off < 0xC0000 then .next (s.ringWrite req off wide v.toNat)
  else if 0xC0000 ≤ off ∧ off < 0xD0000 then
    let k := (off - 0xC0000) / 16
    if off % 16 < 8 then fin (s.release (k / 1024) (k / 64 % 16) (k % 64)) else .next s
  else if off % 8 = 4 then s.regWrite (off - 4) true false v.toNat
  else s.regWrite off false wide v.toNat

/-- What a requester's latch holds of a register (R11). -/
def State.regLatch (s : State) (req off : Nat) : Option Nat :=
  match Tbl.find s.latches req with
  | some (.reg o h) => if o = off then some h else none
  | _ => none

/-- A 32-bit read of a register's half (R11): the low half loads the requester's latch with the high one; the high half
comes from the latch, which it empties, or is the current one. -/
def State.halfRead (s : State) (req off : Nat) : State :=
  let base := off - off % 8
  let t := s.view
  let s : State := { s with free := t.free }
  match regAt base with
  | some (d, _) =>
    let w := t.regWord base
    if d.width = 32 then s.emit (.ctlRead req (if off % 8 = 0 then w % 2 ^ 32 else 0))
    else if off % 8 = 0 then
      ({ s with latches := Tbl.ins s.latches req (.reg base (w / 2 ^ 32)) } : State).emit (.ctlRead req (w % 2 ^ 32))
    else
      match s.regLatch req base with
      | some h => ({ s with latches := Tbl.del s.latches req } : State).emit (.ctlRead req h)
      | none => s.emit (.ctlRead req (w / 2 ^ 32))
  | none => s.emit (.ctlRead req 0)

/-- A 64-bit read of a register leaves every latch as it is (R11). -/
def State.wholeRead (s : State) (req off : Nat) : State :=
  let t := s.view
  let s : State := { s with free := t.free }
  s.emit (.ctlRead req (t.regWord off))

/-- HALF_READ_LATCH: a CTL read by a requester, of which only a 32-bit one uses the latch (R10, R11, R98, R118, R487). -/
def execHalfReadLatch (req : Nat) (read : CtlAccess) (s : State) : Res :=
  let off := read.off
  let size := read.size
  let part := fun w : Nat => if size = .dword then w else if off % 8 = 0 then w % 2 ^ 32 else w / 2 ^ 32
  if ¬ s.ctlOpen ∨ ¬ ctlTakes size off then .next (s.emit (.ctlRead req 0))
  else if 0x80000 ≤ off ∧ off < 0xC0000 then
    .next (s.emit (.ctlRead req (part (Tbl.at s.ring 0 ((off - 0x80000) / 8)))))
  else if 0xC0000 ≤ off ∧ off < 0xD0000 then
    let (s, v) := s.slotRead req ((off - 0xC0000) / 16) (off % 16) size.bytes
    .next (s.emit (.ctlRead req v))
  else if 0x800 ≤ off ∧ off < 0x1000 then .next (s.emit (.ctlRead req (part (s.tackWord (off - off % 8 - 0x800)))))
  else if size = .dword then .next (s.wholeRead req off)
  else .next (s.halfRead req off)

end Sys2Proof.Machine
end

