-- ==== Sys2Proof/Machine/MeterRows.lean ====
section
/-! DEFINITION. The rows of chapter 14: power, samples, burns, records, the timebase, calibration and seal, and the meter's
own channel. -/

namespace Sys2Proof.Machine

/-- METER_POWER_GOOD (R444, R459, R460, R464): the meter starts up. -/
def execMeterPowerGood (romCrc : W32) (s : State) : Res := .next (s.meterStart romCrc.toNat)

/-- METER_NMT_RESET (R444, R471): an NMT reset on the meter's channel restarts a powered meter as a power-up does
(DEDUCED, notes/assumptions/58.md). -/
def execMeterNmtReset (romCrc : W32) (s : State) : Res :=
  if s.meter.powered then .next (s.cutBurn.meterStart romCrc.toNat) else .next s

/-- METER_POWER_GOOD_FALL (R444, R457, R471): the meter stops; its SRAM is lost. -/
def execMeterPowerGoodFall (s : State) : Res := .next (s.cutBurn.setMeter s.cutBurn.meter.fusesOnly)

/-- A sample taken (R446): a negative power adds nothing. -/
def MeterS.sample (m : MeterS) (idle : Bool) (volt curr : Int) : MeterS :=
  let e := (Config.meterEnergy m.cal volt curr).toNat
  let v := Config.meterVolt m.cal volt
  let i := Config.meterCurr m.cal curr
  let p := m.per
  { m with
    acc := (m.acc + e) % 2 ^ 96, recent := (e :: m.recent).take 1562, volt := v % 65536, curr := i % 65536,
    samples := (m.samples + 1) % 2 ^ 64,
    per := { e := p.e + e, v := p.v + v, i := p.i + i, n := p.n + 1, ovl := p.ovl || Config.meterOverload m.cal volt curr,
             tb := p.tb || m.faulty 3, idle := p.idle || idle } }

/-- METER_SAMPLE (R443, R446, R449, R456, R468): a running meter adds the sample; an unsealed one burns nothing. -/
def execMeterSample (volt curr : Int) (s : State) : Res :=
  if s.meter.runs then
    let s := s.setMeter (s.meter.sample (!s.countValid) volt curr)
    let s := if Config.meterOutside volt curr then s.meterFault 1 else s.meterClear 1
    .next s.odoCheck.mirror
  else .next s

/-- What a record takes at its period's end (R443, R458): the port was inactive where a sample of the period saw it so, or,
in a period without samples, where it is so now. -/
def State.recordNow (s : State) : RecordS :=
  let m := s.meter
  { per := { m.per with idle := m.per.idle || (m.per.n == 0 && !s.countValid) }, acc := m.acc, samples := m.samples, steps := m.steps,
    coded := m.coded, ht := if s.countValid then s.now else 0 }

/-- RECORD_PERIOD_END (R458, R461, R471): the period's samples are complete; the record is formed, or waits for a burn. -/
def execRecordPeriodEnd (s : State) : Res :=
  let m := s.meter
  if m.runs ∧ 15625 * m.period ≤ m.per.n then
    let r := s.recordNow
    let m := { m with per := { tb := m.faulty 3 } }
    if m.burn.isSome then .next (s.setMeter { m with wait := some r })
    else .next ((s.setMeter (m.publish r)).mirror)
  else .next s

/-- A record that waited for a burn is formed (R471) (DEDUCED, notes/assumptions/57.md). -/
def State.recordWaited (s : State) : State :=
  match s.meter.wait with
  | some r => (s.setMeter (s.meter.publish r)).mirror
  | none => s

/-- An odometer fuse read back blown (R456): one unit leaves the fine total, and TPDO 4 is sent (R467). -/
def State.odoBlown (s : State) (f : Nat) : State :=
  let m := s.meter
  let s := s.setMeter { m with
    odo := m.odo.blow f, acc := m.acc - odoUnit, burn := none,
    wait := m.wait.map fun r => { r with acc := r.acc - odoUnit } }
  s.meterSend 3

/-- A fuse not blown after three attempts (R456): the failed burn is counted and reported, and the next one is tried while
there is one. -/
def State.burnFailed (s : State) (seg : Bool) (f : Nat) : State :=
  let m := s.meter
  let m := if seg then { m with seg := m.seg.skip f } else { m with odo := m.odo.skip f }
  let s := s.setMeter { m with failed := m.failed + 1, burn := none }
  let s := if s.meter.faulty 2 then s.meterEmcy 0xFF03 else s.meterFault 2
  if seg then
    match s.meter.seg.next segFuses with
    | some g => s.startBurn true g
    | none => s.segFull
  else s

/-- BURN_READBACK (R456, R457, R460): a fuse under burning is read back. -/
def execBurnReadback (blown : Bool) (s : State) : Res :=
  match s.meter.burn with
  | none => .next s
  | some (seg, f, n) =>
    if blown then
      if seg then .next (s.setMeter { s.meter with seg := s.meter.seg.blow f }).meterBoot
      else .next ((s.odoBlown f).recordWaited.odoCheck).mirror
    else if n < 3 then .next ((s.setMeter { s.meter with burn := some (seg, f, n + 1) }).emit (.burn (b2n seg) f))
    else
      let s := s.burnFailed seg f
      if seg then .next s
      else
        let s := s.odoCheck
        .next (if s.meter.burn.isSome then s else s.recordWaited.mirror)

/-- TIMEBASE_FAULT (R447, R468). -/
def execTimebaseFault (s : State) : Res :=
  if s.meter.runs then
    let s := s.meterFault 3
    .next (s.setMeter { s.meter with per := { s.meter.per with tb := true } }).mirror
  else .next s

/-- TIMEBASE_RECOVERY (R447, R468). -/
def execTimebaseRecovery (s : State) : Res := if s.meter.runs then .next (s.meterClear 3).mirror else .next s

/-- A written value of 0x5100 as its type has it (R469). -/
def stageValue (sub : Nat) (v : Nat) : Int :=
  if sub = 2 ∨ sub = 4 then sext 32 v else if sub = 5 then sext 16 v else if sub = 7 then (v % 256 : Nat) else (v % 2 ^ 32 : Nat)

/-- METER_STAGING_WRITE (R451, R453): 0x5100 sub 1 to 8. -/
def execMeterStagingWrite (sub : Fin 9) (v : W64) (s : State) : Res :=
  .next (s.meterWrite 0x5100 sub
    (if sub.val = 0 then s.meterReply 0x5100 0 0x06010002
     else if sub.val = 8 then (s.setMeter { s.meter with stNode := some (v.toNat % 256) }).meterReply 0x5100 8 0
     else
       (s.setMeter { s.meter with stage := setAt s.meter.stage (sub.val - 1) (stageValue sub v.toNat) }).meterReply 0x5100 sub
         0))

/-- CALIBRATION_PROGRAM (R451): a write of 1 to 0x5101 sub 1 programs the next free of four banks. -/
def execCalibrationProgram (v : Byte) (s : State) : Res :=
  .next (s.meterWrite 0x5101 1
    (if v ≠ 1#8 then s.meterReply 0x5101 1 0x06090030
     else if 4 ≤ s.meter.banks.length then s.meterReply 0x5101 1 0x08000022
     else
       let m := s.meter
       let s := s.setMeter { m with banks := m.banks ++ [m.stage], node := if m.stNode.isSome then m.stNode else m.node }
       (s.meterReply 0x5101 1 0).mirror))

/-- SEAL_DATE_STAGE (R452): a write of 0x5101 sub 3. -/
def execSealDateStage (v : W32) (s : State) : Res :=
  .next (s.meterWrite 0x5101 3 ((s.setMeter { s.meter with date := some v.toNat }).meterReply 0x5101 3 0))

/-- SEAL (R452, R528): a write of 0x5101 sub 2; from then on no test path reaches the meter. -/
def execSealMeter (id : W32) (s : State) : Res :=
  .next (s.meterWrite 0x5101 2
    (match s.meter.date with
     | some d =>
       if s.meter.banks = [] then s.meterReply 0x5101 2 0x08000022
       else
         let m := s.meter
         let s := s.setMeter { m with
           sealed := true, sealId := id.toNat, sealDate := d, state := if m.state = 1 then 2 else m.state }
         (s.meterReply 0x5101 2 0).mirror.emit (.wrapper s.wir false)
     | none => s.meterReply 0x5101 2 0x08000022))

/-- METER_TPDO (R467): TPDOs 1 and 2 with each record, 3 and 4 at their periods, while the meter node is operational. -/
def execMeterTpdo (k : Fin 4) (s : State) : Res :=
  if ¬ s.meter.powered ∨ (k.val < 2 ∧ ¬ s.meter.due.contains k.val) ∨ (k.val = 1 ∧ s.meter.due.contains 0) then .next s
  else
    let s := s.meterSend k
    .next (s.setMeter { s.meter with due := s.meter.due.filter fun x => x ≠ k.val })

/-- METER_HEARTBEAT (R467, R476). -/
def execMeterHeartbeat (s : State) : Res :=
  if s.meter.hbTime = 0 then .next s
  else
    let st := if s.meter.nmt = 1 then 0x7F#8 else if s.meter.nmt = 2 then 0x05#8 else 0x04#8
    .next (s.meterFrame 0x700 [st])

/-- METER_NMT_COMMAND (R467, R476): start, stop or enter pre-operational on the meter's channel. -/
def execMeterNmtCommand (cmd : NmtCommand) (s : State) : Res :=
  if s.meter.nmt = 0 then .next s
  else
    let n := match cmd with
      | .start => 2
      | .stop => 3
      | .preOperational => 1
    .next (s.setMeter { s.meter with nmt := n })

/-- METER_HEARTBEAT_TIME_WRITE (R467): 0x1017 of the meter node, the one write accepted after the seal. -/
def execMeterHeartbeatTimeWrite (ms : W16) (s : State) : Res :=
  if s.meter.powered ∧ (s.meter.nmt = 1 ∨ s.meter.nmt = 2) then
    .next ((s.setMeter { s.meter with hbTime := ms.toNat }).meterReply 0x1017 0 0)
  else .next s

end Sys2Proof.Machine
end

