-- ==== Sys2Proof/Machine/Dispatch.lean ====
section
/-! DEFINITION. The dispatch: one arm per command, each a direct call of its meaning. -/

namespace Sys2Proof.Machine

def exec (i : Instr) (s : State) : Host.Outcome State Fault Refusal :=
  match i with
  | .nop c q => Sys2Proof.Machine.execNop c q s
  | .waitHall c q => Sys2Proof.Machine.execWaitHall c q s
  | .hallWaitDone c q e => Sys2Proof.Machine.execHallWaitDone c q e s
  | .regionCopy c q => Sys2Proof.Machine.execRegionCopy c q s
  | .stableLoad c q => Sys2Proof.Machine.execStableLoad c q s
  | .stableEvict c q => Sys2Proof.Machine.execStableEvict c q s
  | .update c q => Sys2Proof.Machine.execUpdate c q s
  | .precondRefresh c q => Sys2Proof.Machine.execPrecondRefresh c q s
  | .put c q => Sys2Proof.Machine.execPut c q s
  | .get c q => Sys2Proof.Machine.execGet c q s
  | .collective c q => Sys2Proof.Machine.execCollective c q s
  | .norm c q => Sys2Proof.Machine.execNorm c q s
  | .stepEnd c q => Sys2Proof.Machine.execStepEnd c q s
  | .prepareWritersDone c => Sys2Proof.Machine.execPrepareWritersDone c s
  | .voteCast c => Sys2Proof.Machine.execVoteCast c s
  | .parityAudit c q => Sys2Proof.Machine.execParityAudit c q s
  | .scrub c q => Sys2Proof.Machine.execScrub c q s
  | .digestCompare c q => Sys2Proof.Machine.execDigestCompare c q s
  | .drain c q => Sys2Proof.Machine.execDrain c q s
  | .exportCmd c q => Sys2Proof.Machine.execExportCmd c q s
  | .jobLoad c q => Sys2Proof.Machine.execJobLoad c q s
  | .broadcastWaitExpiry c q e => Sys2Proof.Machine.execBroadcastWaitExpiry c q e s
  | .importCmd c q => Sys2Proof.Machine.execImportCmd c q s
  | .doorbell c q tail => Sys2Proof.Machine.execDoorbell c q tail s
  | .commandStart c q => Sys2Proof.Machine.execCommandStart c q s
  | .commandTimeout c q e => Sys2Proof.Machine.execCommandTimeout c q e s
  | .resultSlotRelease c q e => Sys2Proof.Machine.execResultSlotRelease c q e s
  | .slotReadLatch req c q e byte wide => Sys2Proof.Machine.execSlotReadLatch req c q e byte wide s
  | .halfReadLatch req read => Sys2Proof.Machine.execHalfReadLatch req read s
  | .fastIncrement c evt add => Sys2Proof.Machine.execFastIncrement c evt add s
  | .contextStart c => Sys2Proof.Machine.execContextStart c s
  | .contextHold c => Sys2Proof.Machine.execContextHold c s
  | .contextResume c => Sys2Proof.Machine.execContextResume c s
  | .preemptHold c => Sys2Proof.Machine.execPreemptHold c s
  | .preemptRelease c => Sys2Proof.Machine.execPreemptRelease c s
  | .deferredHold c => Sys2Proof.Machine.execDeferredHold c s
  | .teardown c => Sys2Proof.Machine.execTeardown c s
  | .teardownTimeout c => Sys2Proof.Machine.execTeardownTimeout c s
  | .teardownNoticeTimeout c => Sys2Proof.Machine.execTeardownNoticeTimeout c s
  | .teardownComplete c => Sys2Proof.Machine.execTeardownComplete c s
  | .contextPurge c => Sys2Proof.Machine.execContextPurge c s
  | .regionCfgWrite n v => Sys2Proof.Machine.execRegionCfgWrite n v s
  | .memoryWriteAccept n tag => Sys2Proof.Machine.execMemoryWriteAccept n tag s
  | .memoryReadResponse n tag err data => Sys2Proof.Machine.execMemoryReadResponse n tag err data s
  | .retrainRequest n j => Sys2Proof.Machine.execRetrainRequest n j s
  | .retrainGrant n j => Sys2Proof.Machine.execRetrainGrant n j s
  | .retrainDone n j => Sys2Proof.Machine.execRetrainDone n j s
  | .retrainFail n j => Sys2Proof.Machine.execRetrainFail n j s
  | .channelFail n j => Sys2Proof.Machine.execChannelFail n j s
  | .memoryPortState n up => Sys2Proof.Machine.execMemoryPortState n up s
  | .mendRow n j => Sys2Proof.Machine.execMendRow n j s
  | .htStrobe count => Sys2Proof.Machine.execHtStrobe count s
  | .htStrobeLost => Sys2Proof.Machine.execHtStrobeLost s
  | .htFreerunAdvance => Sys2Proof.Machine.execHtFreerunAdvance s
  | .htFallbackChange flag => Sys2Proof.Machine.execHtFallbackChange flag s
  | .tickEnable c v => Sys2Proof.Machine.execTickEnable c v s
  | .tickBoundary c => Sys2Proof.Machine.execTickBoundary c s
  | .allowanceExhausted c => Sys2Proof.Machine.execAllowanceExhausted c s
  | .saturationWindowEnd mem lane fab drn yoke => Sys2Proof.Machine.execSaturationWindowEnd mem lane fab drn yoke s
  | .vote bytes => Sys2Proof.Machine.execVote bytes s
  | .halt bytes => Sys2Proof.Machine.execHalt bytes s
  | .flip c => Sys2Proof.Machine.execFlip c s
  | .cmAbort bytes => Sys2Proof.Machine.execCmAbort bytes s
  | .query bytes => Sys2Proof.Machine.execQuery bytes s
  | .voteTimeout c => Sys2Proof.Machine.execVoteTimeout c s
  | .decisionQueryTimeout c => Sys2Proof.Machine.execDecisionQueryTimeout c s
  | .inDoubtTimeout c => Sys2Proof.Machine.execInDoubtTimeout c s
  | .novoteTimeout c off child => Sys2Proof.Machine.execNovoteTimeout c off child s
  | .resolve c => Sys2Proof.Machine.execResolve c s
  | .applyEpoch c => Sys2Proof.Machine.execApplyEpoch c s
  | .commitEpochEffect c => Sys2Proof.Machine.execCommitEpochEffect c s
  | .fence bytes => Sys2Proof.Machine.execFence bytes s
  | .unfence c => Sys2Proof.Machine.execUnfence c s
  | .yokeMapApply => Sys2Proof.Machine.execYokeMapApply s
  | .yokeRemap mismatch => Sys2Proof.Machine.execYokeRemap mismatch s
  | .yokeTestStart => Sys2Proof.Machine.execYokeTestStart s
  | .yokeCheckPattern mismatch => Sys2Proof.Machine.execYokeCheckPattern mismatch s
  | .decodeTableComplete => Sys2Proof.Machine.execDecodeTableComplete s
  | .bulkDecode c epoch erased shards => Sys2Proof.Machine.execBulkDecode c epoch erased shards s
  | .trdDoorbell c stream unit => Sys2Proof.Machine.execTrdDoorbell c stream unit s
  | .groupValidate c g v => Sys2Proof.Machine.execGroupValidate c g v s
  | .trdWatermarkWrite c stream wmark => Sys2Proof.Machine.execTrdWatermarkWrite c stream wmark s
  | .slotAdmit c gcn tile => Sys2Proof.Machine.execSlotAdmit c gcn tile s
  | .cDesc bytes => Sys2Proof.Machine.execCDesc bytes s
  | .cRec bytes => Sys2Proof.Machine.execCRec bytes s
  | .cHdr bytes => Sys2Proof.Machine.execCHdr bytes s
  | .cPart bytes => Sys2Proof.Machine.execCPart bytes s
  | .cRes bytes => Sys2Proof.Machine.execCRes bytes s
  | .cCredit bytes => Sys2Proof.Machine.execCCredit bytes s
  | .cAck bytes => Sys2Proof.Machine.execCAck bytes s
  | .cSplit bytes => Sys2Proof.Machine.execCSplit bytes s
  | .cSplitrep bytes => Sys2Proof.Machine.execCSplitrep bytes s
  | .cAbort bytes => Sys2Proof.Machine.execCAbort bytes s
  | .teamForm c => Sys2Proof.Machine.execTeamForm c s
  | .formationTimeout c => Sys2Proof.Machine.execFormationTimeout c s
  | .form bytes => Sys2Proof.Machine.execForm bytes s
  | .teamApply c => Sys2Proof.Machine.execTeamApply c s
  | .teamApplyEffect c => Sys2Proof.Machine.execTeamApplyEffect c s
  | .teamDissolve c => Sys2Proof.Machine.execTeamDissolve c s
  | .delta bytes => Sys2Proof.Machine.execDelta bytes s
  | .fragAck bytes => Sys2Proof.Machine.execFragAck bytes s
  | .fragDrop bytes => Sys2Proof.Machine.execFragDrop bytes s
  | .fetch bytes => Sys2Proof.Machine.execFetch bytes s
  | .fetchData bytes => Sys2Proof.Machine.execFetchData bytes s
  | .stbReady bytes => Sys2Proof.Machine.execStbReady bytes s
  | .stbDone bytes => Sys2Proof.Machine.execStbDone bytes s
  | .stableRecode slot => Sys2Proof.Machine.execStableRecode slot s
  | .putData bytes => Sys2Proof.Machine.execPutData bytes s
  | .inboundGranuleUpdate n granule => Sys2Proof.Machine.execInboundGranuleUpdate n granule s
  | .putAck bytes => Sys2Proof.Machine.execPutAck bytes s
  | .getReq bytes => Sys2Proof.Machine.execGetReq bytes s
  | .getData bytes => Sys2Proof.Machine.execGetData bytes s
  | .genNotice bytes => Sys2Proof.Machine.execGenNotice bytes s
  | .genAck bytes => Sys2Proof.Machine.execGenAck bytes s
  | .drop bytes => Sys2Proof.Machine.execDrop bytes s
  | .jobBcast bytes => Sys2Proof.Machine.execJobBcast bytes s
  | .report bytes => Sys2Proof.Machine.execReport bytes s
  | .creditWord link bytes => Sys2Proof.Machine.execCreditWord link bytes s
  | .laneDown p => Sys2Proof.Machine.execLaneDown p s
  | .laneUp p => Sys2Proof.Machine.execLaneUp p s
  | .laneMapApply v => Sys2Proof.Machine.execLaneMapApply v s
  | .laneMapRebuild => Sys2Proof.Machine.execLaneMapRebuild s
  | .inqPeakClear => Sys2Proof.Machine.execInqPeakClear s
  | .drnResponse header data => Sys2Proof.Machine.execDrnResponse header data s
  | .reportWindowEnd subject kind => Sys2Proof.Machine.execReportWindowEnd subject kind s
  | .reportRelease n => Sys2Proof.Machine.execReportRelease n s
  | .watchdogKick => Sys2Proof.Machine.execWatchdogKick s
  | .watchdogExpiry => Sys2Proof.Machine.execWatchdogExpiry s
  | .sequencerRestart => Sys2Proof.Machine.execSequencerRestart s
  | .blockReset => Sys2Proof.Machine.execBlockReset s
  | .collectionEnd => Sys2Proof.Machine.execCollectionEnd s
  | .fillDone bad stale failed => Sys2Proof.Machine.execFillDone bad stale failed s
  | .rebuildJoin c => Sys2Proof.Machine.execRebuildJoin c s
  | .rebuildStart c => Sys2Proof.Machine.execRebuildStart c s
  | .rebuildAbandon c => Sys2Proof.Machine.execRebuildAbandon c s
  | .bind c v => Sys2Proof.Machine.execBind c v s
  | .clearLog c => Sys2Proof.Machine.execClearLog c s
  | .parityError k macroId site => Sys2Proof.Machine.execParityError k macroId site s
  | .digestWindowEnable c w v => Sys2Proof.Machine.execDigestWindowEnable c w v s
  | .coreMapApply n v => Sys2Proof.Machine.execCoreMapApply n v s
  | .coreRemap n => Sys2Proof.Machine.execCoreRemap n s
  | .meterPowerGood romCrc => Sys2Proof.Machine.execMeterPowerGood romCrc s
  | .meterSample volt curr => Sys2Proof.Machine.execMeterSample volt curr s
  | .burnReadback blown => Sys2Proof.Machine.execBurnReadback blown s
  | .recordPeriodEnd => Sys2Proof.Machine.execRecordPeriodEnd s
  | .timebaseFault => Sys2Proof.Machine.execTimebaseFault s
  | .timebaseRecovery => Sys2Proof.Machine.execTimebaseRecovery s
  | .meterNmtReset romCrc => Sys2Proof.Machine.execMeterNmtReset romCrc s
  | .meterStagingWrite sub v => Sys2Proof.Machine.execMeterStagingWrite sub v s
  | .calibrationProgram v => Sys2Proof.Machine.execCalibrationProgram v s
  | .sealDateStage v => Sys2Proof.Machine.execSealDateStage v s
  | .sealMeter id => Sys2Proof.Machine.execSealMeter id s
  | .meterTpdo k => Sys2Proof.Machine.execMeterTpdo k s
  | .meterHeartbeat => Sys2Proof.Machine.execMeterHeartbeat s
  | .mgCfgWrite v => Sys2Proof.Machine.execMgCfgWrite v s
  | .nmtStart => Sys2Proof.Machine.execNmtStart s
  | .nmtStop => Sys2Proof.Machine.execNmtStop s
  | .nmtPreoperational => Sys2Proof.Machine.execNmtPreoperational s
  | .nmtResetNode => Sys2Proof.Machine.execNmtResetNode s
  | .nmtResetCommunication => Sys2Proof.Machine.execNmtResetCommunication s
  | .usdoRequest r => Sys2Proof.Machine.execUsdoRequest r s
  | .usdoSessionTimeout => Sys2Proof.Machine.execUsdoSessionTimeout s
  | .heartbeat => Sys2Proof.Machine.execHeartbeat s
  | .tpdo k => Sys2Proof.Machine.execTpdo k s
  | .busOffRecovery => Sys2Proof.Machine.execBusOffRecovery s
  | .mailboxRequest v => Sys2Proof.Machine.execMailboxRequest v s
  | .mailboxComplete => Sys2Proof.Machine.execMailboxComplete s
  | .firmwareStage => Sys2Proof.Machine.execFirmwareStage s
  | .firmwareCheckDone image => Sys2Proof.Machine.execFirmwareCheckDone image s
  | .firmwareActivate => Sys2Proof.Machine.execFirmwareActivate s
  | .firmwareActivation image => Sys2Proof.Machine.execFirmwareActivation image s
  | .firmwareCancel => Sys2Proof.Machine.execFirmwareCancel s
  | .levelApply v => Sys2Proof.Machine.execLevelApply v s
  | .levelApplyEffect => Sys2Proof.Machine.execLevelApplyEffect s
  | .pgRstAssert => Sys2Proof.Machine.execPgRstAssert s
  | .pgRstRelease => Sys2Proof.Machine.execPgRstRelease s
  | .tsCode code => Sys2Proof.Machine.execTsCode code s
  | .tsStale => Sys2Proof.Machine.execTsStale s
  | .tsMaxClear => Sys2Proof.Machine.execTsMaxClear s
  | .wirUpdate code => Sys2Proof.Machine.execWirUpdate code s
  | .mbist bad => Sys2Proof.Machine.execMbist bad s
  | .fuseRead => Sys2Proof.Machine.execFuseRead s
  | .testExit => Sys2Proof.Machine.execTestExit s
  | .registerWrite req off size v => Sys2Proof.Machine.execRegisterWrite req off size v s
  | .fenceAck bytes => Sys2Proof.Machine.execFenceAck bytes s
  | .unknownMessageType bytes => Sys2Proof.Machine.execUnknownMessageType bytes s
  | .sequencerRestartDone image => Sys2Proof.Machine.execSequencerRestartDone image s
  | .meterPowerGoodFall => Sys2Proof.Machine.execMeterPowerGoodFall s
  | .busError kind => Sys2Proof.Machine.execBusError kind s
  | .meterNmtCommand cmd => Sys2Proof.Machine.execMeterNmtCommand cmd s
  | .meterHeartbeatTimeWrite ms => Sys2Proof.Machine.execMeterHeartbeatTimeWrite ms s

end Sys2Proof.Machine
end

