-- ==== Sys2Proof/Machine/Step.lean ====
section
/-! DEFINITION. One step of the block: the command at the front of the waiting queue, or, with none waiting, the port
sends what it has in line (DESIGN CHOICE, notes/assumptions/1.md). -/

namespace Sys2Proof.Machine

/-- One step: the front command's effect with the queue's rest; with an empty queue the fabric port
transmits, and work that waited for the port goes on. -/
def step (s : State) : Host.Outcome State Fault Refusal :=
  match s.pending with
  | i :: rest => exec i { s with pending := rest }
  | [] => .next s.transmit.after

/-- The state with the command that a table word spells put at the front of its queue; unchanged where the word spells
none. -/
def State.withFetchWord (s : State) (nbits w : Nat) : State :=
  match decodeTableWord nbits w with
  | some i => { s with pending := i :: s.pending }
  | none => s

end Sys2Proof.Machine
end

