-- ==== Sys2Proof/Safety.lean ====
section
/-! DEFINITION. What counts as a safe state and a safe run of the block, and the terms the statements use: a quiet block,
an accepted message, and what each row that starts a command checks and does. -/

namespace Sys2Proof

open Machine

/-- Every listed register field has a value its 64-bit word can hold. -/
def regsBounded (s : State) : Bool := s.regs.all fun e => e.2 < 2 ^ 64

/-- The sparse table that holds the registers stands in its one canonical order. -/
def regsSorted (s : State) : Bool := Tbl.rising s.regs

/-- A step ends safely: it answers a next state. -/
def safeStep (s : State) : Prop := ∃ t, step s = .next t

/-- Nothing in the block is under way that another event could carry on: no running work, no buffered request or
doorbell, no collection, no transaction step or hold that is due, no alarm condition and no degraded region. -/
def quiet (s : State) : Bool :=
  s.jobs.isEmpty && s.fab.reqs.isEmpty && s.gs.heldDb.isEmpty && s.rec_.coll.isNone && !s.mgmt.anyCond
    && ((List.range 4).all fun c =>
        !(s.tmAt c).dissolvePend && (s.cmAt c).abortPend.isNone && s.phase c != phPREPARE && !(s.cxAt c).preHeld
          && !(s.cxAt c).deferPre && s.get (GS_SLOT_STAT.waiting c) == 0 && s.get (GS_SLOT_STAT.in_use c) == 0)
    && (List.range 64).all fun r => !s.is (GL_RGN_STAT.degraded r)

/-- Bytes that arrive carry message m of a row's type, and every check of R349 accepts it. -/
def accepted (typ : Nat) (bytes : List Byte) (m : Msg) (s : State) : Bool :=
  leAt bytes 0 1 == typ && parseMsg bytes == some m && s.verdict m == .accept

/-- A row that starts a queued command: its opcode (R105), what refuses the command, in order (R531), whether an
unrefused one goes on running after its start, and what its start does. -/
structure StartRow where
  instr : Ctx → Que → Instr
  op : Nat
  check : State → Job → List (Bool × Nat)
  runs : State → Job → Bool
  run : State → Job → State

/-- The rows that start a queued command, in the table's order. An UPDATE whose norm guard acts, a NOP, a reached
WAIT_HALL, an evict of a slot without references, a STEP_END without commit and a CARRY are over in the cycle in which
they start. -/
def startRows : List StartRow :=
  [ ⟨.nop, opNOP, State.checkNop, fun _ _ => false, State.runNop⟩,
    ⟨.waitHall, opWAITHALL, State.checkWaitHall, fun s j => decide (s.now < j.arg 24 8), State.runWaitHall⟩,
    ⟨.regionCopy, opREGIONCOPY, State.checkRegionCopy, fun _ _ => true, State.runRegionCopy⟩,
    ⟨.stableLoad, opSTABLELOAD, State.checkStableLoad, fun _ _ => true, State.runStableLoad⟩,
    ⟨.stableEvict, opSTABLEEVICT, State.checkStableEvict,
      fun s j => s.get (GL_STB_SLOT.state (j.arg 24 1 % 16)) != sbEMPTY && s.get (GL_STB_SLOT.refs (j.arg 24 1 % 16)) != 0,
      State.runStableEvict⟩,
    ⟨.update, opUPDATE, State.checkUpdate,
      fun s j => !((s.updNorm j).2.1 && s.get (GL_RULE_CTL.norm_act j.ctx j.rule) != 0), State.runUpdate⟩,
    ⟨.precondRefresh, opPRECOND, State.checkPrecond, fun _ _ => true, State.runPrecond⟩,
    ⟨.put, opPUT, State.checkCopy, fun _ _ => true, State.runCopy⟩,
    ⟨.get, opGET, State.checkCopy, fun _ _ => true, State.runCopy⟩,
    ⟨.collective, opCOLLECTIVE, State.checkCollective, fun _ _ => true, State.runCollective⟩,
    ⟨.norm, opNORM, State.checkNorm, fun _ _ => true, State.runNorm⟩,
    ⟨.stepEnd, opSTEPEND, State.checkStepEnd, fun _ j => j.arg 24 1 % 2 == 1, State.runStepEnd⟩,
    ⟨.parityAudit, opAUDIT, State.checkAudit, fun _ _ => true, State.runAudit⟩,
    ⟨.scrub, opSCRUB, State.checkScrub, fun _ _ => true, State.runScrub⟩,
    ⟨.digestCompare, opDIGEST, State.checkDigest, fun _ _ => true, State.runDigest⟩,
    ⟨.drain, opDRAIN, State.checkDrain, fun _ _ => true, State.runDrain⟩,
    ⟨.exportCmd, opEXPORT, State.checkDrain, fun _ _ => true, State.runDrain⟩,
    ⟨.jobLoad, opJOBLOAD, State.checkJobLoad, fun _ j => j.arg 24 1 % 4 != 2, State.runJobLoad⟩,
    ⟨.importCmd, opIMPORT, State.checkImport, fun _ _ => true, State.runImport⟩ ]

/-- The checks that the command at a start point meets before it starts, in the order of R531. -/
def StartRow.checks (r : StartRow) (s : State) (c q : Nat) : List (Bool × Nat) :=
  s.firstChecks (s.candidate c q) ++ r.check s (s.candidate c q)

/-- The command at a start point is the row's and would start now (R101). -/
def StartRow.due (r : StartRow) (s : State) (c q : Nat) : Bool :=
  s.hasHead c q && (s.candidate c q).opcode == r.op && s.starts c q

/-- What a start leaves as it was: memory requests, fabric, ports, rings, the meter, and every other entry. -/
def startFrame (c q : Nat) (s t : State) : Prop :=
  t.mem = s.mem ∧ t.fab = s.fab ∧ t.ring = s.ring ∧ t.meter = s.meter ∧ t.pending = s.pending
    ∧ ∀ k, k ≠ s.headKey c q → t.ent k = s.ent k

end Sys2Proof
end

