-- ==== Sys2Proof/Certificates/Slice0/Obligations.lean ====
section
/-! DEFINITION. The statements about the block that the provers are asked for: `def Obligations.<Name> : Prop`, one for
each entry of OBLIGATIONS.json. -/

open Sys2Proof Sys2Proof.Machine

/-- A step takes the command at the front of the queue and runs exactly it (notes/assumptions/1.md (the queue of
waiting commands), 01_block_at_a_glance.md). -/
def Obligations.StepRunsTheFrontCommand : Prop :=
  ∀ (i : Instr) (rest : List Instr) (s : State),
    step { s with pending := i :: rest } = exec i { s with pending := rest }

/-- Work that a command sets off is carried on only where something is under way: on a quiet block nothing follows
(R14, R92, 04_queues_and_contexts.md). -/
def Obligations.QuietBlockHasNoFollowUp : Prop :=
  ∀ s : State, quiet s = true → s.after = s

/-- With no command waiting, a quiet block with nothing in line to send stays as it is (R339, notes/assumptions/1.md
(an empty queue)). -/
def Obligations.IdleBlockStaysAsItIs : Prop :=
  ∀ s : State, s.pending = [] → s.fab.txq = [] → quiet s = true → step s = .next s

/-- After PG_RST_N every context is OFF, every queue empty, every slot NOT_READY, the fill under way and lanes 0 to
15 ACTIVE (R12, R92, R98, R116, R334, R415, R521, R523). -/
def Obligations.ResetLeavesTheTablesValues : Prop :=
  (∀ c < 4, State.reset.ctxState c = 0 ∧ State.reset.phase c = phOPEN ∧ State.reset.active c = 0
        ∧ State.reset.team c = tmOFF ∧ State.reset.get (GL_CTX_STAT.gen c) = 0)
    ∧ (∀ c < 4, ∀ q < 16, State.reset.get (GL_Q_STAT.head c q) = 0 ∧ State.reset.get (GL_Q_STAT.tail c q) = 0
        ∧ State.reset.get (GL_Q_STAT.free c q) = 64)
    ∧ (∀ k, (State.reset.ent k).phase = .released ∧ leAt (State.reset.slotBytes16 k) 2 1 = stNOTREADY)
    ∧ (∀ k, State.reset.command k = List.replicate 64 0#8)
    ∧ State.reset.jobs = [] ∧ State.reset.pending = [] ∧ State.reset.mem.resetHigh = true
    ∧ State.reset.get DG_FILL.done = 0 ∧ State.reset.get GL_TS.max = 0x8000
    ∧ (∀ p < 16, State.reset.lane p = lnACTIVE ∧ State.reset.get (FB_LANE.logical p) = p)
    ∧ State.reset.lane 16 = lnSPARE ∧ State.reset.lane 17 = lnSPARE
    ∧ quiet State.reset = true

/-- Every well-formed fabric message reads back from its bytes: header, body and check (R343, R344, R345,
11_fabric_port.md). -/
def Obligations.EncodedMessageParsesBack : Prop :=
  ∀ (m : Msg) (more : List Byte), m.wf = true → parseMsg (m.encode ++ more) = some m

/-- An unrefused command at its start point starts: its entry runs, the start point moves on, nothing goes to memory
or the fabric yet (R98, R101, R105, R116, R531, 04_queues_and_contexts.md). -/
def Obligations.StartedCommandRunsUntilItsCompletion : Prop :=
  ∀ r ∈ startRows, ∀ (c : Ctx) (q : Que) (s : State),
    r.due s c q = true → (∀ p ∈ r.checks s c q, p.1 = false) → r.runs s (s.candidate c q) = true →
    ∃ t : State, exec (r.instr c q) s = .next t.after ∧ exec (.commandStart c q) s = .next t.after
      ∧ t.ent (s.headKey c q) = { s.ent (s.headKey c q) with phase := .running }
      ∧ t.get (GL_Q_STAT.head c q) = (s.headOf c q + 1) % 64
      ∧ t.get (GL_CTX_STAT.running c) = (s.get (GL_CTX_STAT.running c) + 1) % 2 ^ (GL_CTX_STAT.running c).w
      ∧ t.jobs.length = s.jobs.length + 1 ∧ (∃ j ∈ t.jobs, j.owner = .cmd c q (s.headOf c q))
      ∧ startFrame c q s t

/-- NOP, a reached WAIT_HALL, an evict without references, a STEP_END without commit and CARRY complete with OK as
they start (R106, R107, R110, R117, R309, R407). -/
def Obligations.ImmediateCommandCompletesWithOk : Prop :=
  ∀ r ∈ startRows, ∀ (c : Ctx) (q : Que) (s : State),
    r.due s c q = true → (∀ p ∈ r.checks s c q, p.1 = false) → r.runs s (s.candidate c q) = false → r.op ≠ opUPDATE →
    ∃ (t : State) (v : Nat), exec (r.instr c q) s = .next t.after
      ∧ t.ent (s.headKey c q) = { s.ent (s.headKey c q) with
          phase := .done, seq := leAt (s.candidate c q).entry 2 2, status := stOK, flags := 0,
          tag := leAt (s.candidate c q).entry 20 4, value := v }
      ∧ (r.op ≠ opSTEPEND → v = 0)
      ∧ t.get (GL_Q_STAT.head c q) = (s.headOf c q + 1) % 64
      ∧ t.jobs = s.jobs ∧ t.get (GL_CTX_STAT.running c) = s.get (GL_CTX_STAT.running c)
      ∧ startFrame c q s t

/-- A refused command's slot holds the status of the first check it fails, and the command has no other effect
(R112, R117, R531, 04_queues_and_contexts.md). -/
def Obligations.RefusedCommandReportsTheFirstFailingCheck : Prop :=
  ∀ r ∈ startRows, ∀ (c : Ctx) (q : Que) (s : State) (p : Bool × Nat),
    r.due s c q = true → (r.checks s c q).find? (fun p => p.1) = some p →
    ∃ t : State, exec (r.instr c q) s = .next t.after ∧ exec (.commandStart c q) s = .next t.after
      ∧ t.ent (s.headKey c q) = { s.ent (s.headKey c q) with
          phase := .done, seq := leAt (s.candidate c q).entry 2 2, status := p.2, flags := 0,
          tag := leAt (s.candidate c q).entry 20 4, value := 0 }
      ∧ t.get (GL_Q_STAT.head c q) = (s.headOf c q + 1) % 64
      ∧ t.jobs = s.jobs ∧ t.get (GL_CTX_STAT.running c) = s.get (GL_CTX_STAT.running c)
      ∧ (∀ n, t.get (GL_RGN_STAT.refs n) = s.get (GL_RGN_STAT.refs n))
      ∧ startFrame c q s t

/-- A wait is satisfied when the counter's value v and the wait value w satisfy (v - w) mod 2^32 < 2^31; a disabled
wait always is (R111). -/
def Obligations.CounterWaitComparesModulo : Prop :=
  ∀ (s : State) (c wb wv : Nat), wb < 256 → wv < 2 ^ 32 →
    (wb < 128 → s.waitMet c wb wv = true)
    ∧ (128 ≤ wb → (s.waitMet c wb wv = true ↔
        (((s.get (GL_EVT.value c (wb % 32)) : Int) - wv) % 2 ^ 32 < 2 ^ 31)))

/-- A write of GL_FAST adds its add field to the event counter modulo 2^32, whatever the context's state, and
changes no other field (R114, 04_queues_and_contexts.md GL_FAST). -/
def Obligations.FastWriteAddsToTheCounter : Prop :=
  ∀ (c : Ctx) (e : Fin 32) (add : W32) (s : State),
    ∃ t : State, exec (.fastIncrement c e add) s = .next t.after
      ∧ t.get (GL_EVT.value c e) = (s.get (GL_EVT.value c e) + add.toNat) % 2 ^ 32
      ∧ (∀ l : Loc, l.key ≠ (GL_EVT.value c e).key → t.get l = s.get l)
      ∧ t = { s with regs := t.regs }

/-- A doorbell of tail t submits the entries from the current tail to t - 1; one that R99 ignores only sets ovf
(R99, R116). -/
def Obligations.DoorbellSubmitsUpToTheTail : Prop :=
  ∀ (c : Ctx) (q : Que) (t : Fin 64) (s : State),
    let es := doorbellEntries (s.get (GL_Q_STAT.tail c q)) t
    let ok := s.live c && (es.all fun e => (s.ent (entryKey c q e)).phase == .released)
      && decide (es.length < s.get (GL_Q_STAT.free c q))
    (es = [] → exec (.doorbell c q t) s = .next s.after)
    ∧ (es ≠ [] → ok = false →
        exec (.doorbell c q t) s = .next ((s.set (GL_Q_STAT.ovf c q) 1).set (GL_CTX_STAT.ovf c) 1).after)
    ∧ (es ≠ [] → ok = true →
        ∃ u : State, exec (.doorbell c q t) s = .next u.after ∧ u.get (GL_Q_STAT.tail c q) = t
          ∧ u.get (GL_Q_STAT.free c q) = (s.get (GL_Q_STAT.free c q) - es.length) % 2 ^ (GL_Q_STAT.free c q).w
          ∧ u.get (GL_Q_STAT.head c q) = s.get (GL_Q_STAT.head c q)
          ∧ (∀ e < 64, (u.ent (entryKey c q e)).phase =
              if e ∈ es then .submitted else (s.ent (entryKey c q e)).phase)
          ∧ u.jobs = s.jobs ∧ u.ring = s.ring ∧ u.mem = s.mem ∧ u.fab = s.fab ∧ u.out = s.out)

/-- A release frees a completed slot's entry and no other; a slot reads NOT_READY with the released seq until its next
result, and two reads with a release in between return one result (R10, R116, R118, R119). -/
def Obligations.SlotReadsOneResultUntilItsRelease : Prop :=
  (∀ (c : Ctx) (q : Que) (e : Ent) (s : State), (s.ent (entryKey c q e)).phase = .done →
      ∃ t : State, exec (.resultSlotRelease c q e) s = .next t
        ∧ t.ent (entryKey c q e) = { prev := (s.ent (entryKey c q e)).seq }
        ∧ t.get (GL_Q_STAT.free c q) = (s.get (GL_Q_STAT.free c q) + 1) % 2 ^ (GL_Q_STAT.free c q).w
        ∧ (∀ k, k ≠ entryKey c q e → t.ent k = s.ent k)
        ∧ (∀ l : Loc, l.key ≠ (GL_Q_STAT.free c q).key → t.get l = s.get l)
        ∧ t = { s with regs := t.regs, entries := t.entries })
    ∧ (∀ (c : Ctx) (q : Que) (e : Ent) (s : State), (s.ent (entryKey c q e)).phase ≠ .done →
        exec (.resultSlotRelease c q e) s = .next s)
    ∧ (∀ (req : Nat) (c : Ctx) (q : Que) (e : Ent) (wide : Bool) (s : State),
        let n := if wide then 8 else 4
        let now := s.slotBytes16 (entryKey c q e)
        ∃ t : State, exec (.slotReadLatch req c q e 0 wide) s = .next t
          ∧ t.out = s.out ++ [.ctlRead req (leAt now 0 n)]
          ∧ Tbl.find t.latches req =
              some (.slot (entryKey c q e) ((List.range (16 - n)).map fun i => (n + i, now.getD (n + i) 0#8)))
          ∧ t = { s with latches := t.latches, out := t.out })
    ∧ (∀ (req : Nat) (c : Ctx) (q : Que) (e : Ent) (b : Fin 16) (wide : Bool) (s : State),
        let n := if wide then 8 else 4
        let held := s.slotLatch req (entryKey c q e)
        let rest := held.filter fun p => !(b.val ≤ p.1 && p.1 < b.val + n)
        b.val ≠ 0 → b.val % n = 0 →
        ∃ t : State, exec (.slotReadLatch req c q e b wide) s = .next t
          ∧ t.out = s.out ++ [.ctlRead req
              (leNat ((List.range n).map fun i => slotByte held (s.slotBytes16 (entryKey c q e)) (b + i)))]
          ∧ (held = [] → t.latches = s.latches)
          ∧ (held ≠ [] → Tbl.find t.latches req = if rest = [] then none else some (.slot (entryKey c q e) rest))
          ∧ t = { s with latches := t.latches, out := t.out })
    ∧ (∀ (req : Nat) (c : Ctx) (q : Que) (e : Ent) (b : Fin 16) (wide : Bool) (s : State),
        b.val % (if wide then 8 else 4) ≠ 0 →
        exec (.slotReadLatch req c q e b wide) s = .next (s.emit (.ctlRead req 0)))
    ∧ (∀ (req : Nat) (c : Ctx) (q : Que) (e : Ent) (s : State),
        ∃ t u v : State, exec (.slotReadLatch req c q e 0 true) s = .next t
          ∧ t.out = s.out ++ [.ctlRead req (leAt (s.slotBytes16 (entryKey c q e)) 0 8)]
          ∧ exec (.resultSlotRelease c q e) t = .next u
          ∧ exec (.slotReadLatch req c q e 8 true) u = .next v
          ∧ v.out = u.out ++ [.ctlRead req (leAt (s.slotBytes16 (entryKey c q e)) 8 8)])
    ∧ (∀ (s : State) (k : Nat), (s.ent k).phase ≠ .done →
        leAt (s.slotBytes16 k) 0 2 = (s.ent k).prev % 2 ^ 16 ∧ leAt (s.slotBytes16 k) 2 1 = stNOTREADY
          ∧ leAt (s.slotBytes16 k) 3 13 = 0)

/-- Two 32-bit reads of a 64-bit register, low half first, return one sample of it whatever happens to the register
in between (R11). -/
def Obligations.LowHalfReadLatchesTheHighHalf : Prop :=
  ∀ (req off : Nat) (d : RegDef) (is : List Nat) (s : State),
    s.ctlOpen = true → off % 8 = 0 → regAt off = some (d, is) → d.width ≠ 32 →
    (off < 0x800 ∨ (0x1000 ≤ off ∧ off < 0x80000)) →
    ∃ t : State, exec (.halfReadLatch req ⟨off, .word⟩) s = .next t
      ∧ t.out = s.out ++ [.ctlRead req (s.view.regWord off % 2 ^ 32)]
      ∧ t.regs = s.regs ∧ t.entries = s.entries ∧ t.jobs = s.jobs
      ∧ ∀ u : State, u.ctlOpen = true → Tbl.find u.latches req = Tbl.find t.latches req →
          ∃ v : State, exec (.halfReadLatch req ⟨off + 4, .word⟩) u = .next v
            ∧ v.out = u.out ++ [.ctlRead req (s.view.regWord off / 2 ^ 32)]
            ∧ Tbl.find v.latches req = none ∧ v.regs = u.regs

/-- A 64-bit CTL write stores a register's writable fields; a ring write changes a free entry's word alone and marks
a foreign writer (R6, R98, R100, R103, R121). -/
def Obligations.RegisterWriteStoresAndRingWriteIsGuarded : Prop :=
  (∀ (req : Nat) (c : Ctx) (v : W64) (s : State), s.ctlOpen = true →
      ∃ t : State, exec (.registerWrite req (GL_CTX_LIM.max_bytes c).off .dword v) s = .next t.after
        ∧ t.get (GL_CTX_LIM.max_bytes c) = fget v (GL_CTX_LIM.max_bytes c).lo (GL_CTX_LIM.max_bytes c).w
        ∧ (∀ l : Loc, l.key ≠ (GL_CTX_LIM.max_bytes c).key → t.get l = s.get l) ∧ t = { s with regs := t.regs })
    ∧ (∀ (req : Nat) (c : Ctx) (v : W64) (s : State), s.ctlOpen = true → s.get (GL_CTX_TMO.dflt c) ≠ 0 →
        fget v (GL_CTX_TMO.dflt c).lo (GL_CTX_TMO.dflt c).w = 0 →
        ∃ t : State, exec (.registerWrite req (GL_CTX_TMO.dflt c).off .dword v) s = .next t.after
          ∧ t.get (GL_CTX_TMO.dflt c) = s.get (GL_CTX_TMO.dflt c) ∧ t.get (GL_CTX_STAT.cfg_err c) = 1)
    ∧ (∀ (req k j : Nat) (v : W64) (s : State), s.ctlOpen = true → k < 4096 → j < 8 →
        Tbl.at s.ring 0 (8 * k + j) < 2 ^ 64 →
        ∃ t : State, exec (.registerWrite req (0x80000 + 64 * k + 8 * j) .dword v) s = .next t
          ∧ t.regs = s.regs ∧ t.jobs = s.jobs
          ∧ (∀ i, Tbl.at t.ring 0 i =
              if i = 8 * k + j ∧ (s.ent k).phase = .released then v.toNat else Tbl.at s.ring 0 i)
          ∧ (t.ent k).foreign = ((s.ent k).foreign || (decide (req ≠ 0) && decide ((s.ent k).phase = .released)))
          ∧ ∀ i, i ≠ k → t.ent i = s.ent i)

/-- A command that waits at its start point times out there; a running one ends by R90; a reached WAIT_HALL and an
expired RECEIVE go on (R107, R120, R122, R259, R406). -/
def Obligations.TimersEndOrReleaseWhatWaits : Prop :=
  (∀ (c : Ctx) (q : Que) (e : Ent) (s : State), s.cmdJob c q e = none → s.hasHead c q = true → s.headOf c q = e.val →
      s.live c = true → s.timedOut c (s.stampOf c q) (s.command (s.headKey c q)) = true →
      exec (.commandTimeout c q e) s = .next ((s.post c (s.headKey c q) stTIMEOUT 0 0).advance c q).after)
    ∧ (∀ (c : Ctx) (q : Que) (e : Ent) (s : State) (j : Job), s.cmdJob c q e = some j → j.ending = none →
        s.live c = true → s.timedOut c j.stamp j.entry = true → s.gsAnswered j = false →
        (j.opcode ≠ opSTEPEND ∨ s.phase j.ctx ≠ phPREPARE) →
        exec (.commandTimeout c q e) s = .next (s.endCmd j stTIMEOUT).after)
    ∧ (∀ (c : Ctx) (q : Que) (e : Ent) (s : State) (j : Job), s.cmdJob c q e = some j → j.ending = none →
        s.live c = true → s.timedOut c j.stamp j.entry = true → j.opcode = opSTEPEND → s.phase j.ctx = phPREPARE →
        (s.cmAt j.ctx).endStatus = none →
        exec (.commandTimeout c q e) s = .next
          (((s.setCm j.ctx { s.cmAt j.ctx with endStatus := some stTIMEOUT }).failInterval j.ctx stTIMEOUT).endCmd j
            stTIMEOUT).after)
    ∧ (∀ (c : Ctx) (q : Que) (e : Ent) (s : State) (j : Job), s.cmdJob c q e = some j →
        (j.ending.isSome = true ∨ s.live c = false ∨ s.timedOut c j.stamp j.entry = false ∨ s.gsAnswered j = true) →
        exec (.commandTimeout c q e) s = .next s)
    ∧ (∀ (c : Ctx) (q : Que) (e : Ent) (s : State) (j : Job) (t : Nat), s.cmdJob c q e = some j → j.hold = .hall t →
        t ≤ s.now → exec (.hallWaitDone c q e) s = .next (s.finishCmd j).after)
    ∧ (∀ (c : Ctx) (q : Que) (e : Ent) (s : State) (j : Job), s.cmdJob c q e = some j → j.receiving = true →
        j.acc.getD 0 0 ≤ s.now →
        exec (.broadcastWaitExpiry c q e) s = .next
          (s.setJob { j with stage := 1, hold := .run, got := [], buf := [], segs := [.drnGet 0 64] }).after)

/-- A valid start enters RUN with every queue empty; hold and pre-emption enter HELD at once outside the commit
window; resume and release return to RUN (R92, R93, R94, R124, R126). -/
def Obligations.ContextsStartHoldAndResume : Prop :=
  (∀ (c : Ctx) (s : State), s.ctxState c = 0 → s.startOk c = true →
      ∃ t : State, exec (.contextStart c) s = .next t.after ∧ t.ctxState c = ctxRUN ∧ (t.cxAt c).gcn = none
        ∧ (∀ q < 16, t.get (GL_Q_STAT.head c q) = 0 ∧ t.get (GL_Q_STAT.tail c q) = 0 ∧ t.get (GL_Q_STAT.free c q) = 64)
        ∧ (∀ q < 16, ∀ e < 64, t.ent (entryKey c q e) = {})
        ∧ (∀ e < 32, t.get (GL_EVT.value c e) = 0 ∧ t.get (GL_EVT.poison c e) = 0)
        ∧ t.get (GL_CTX_STAT.gen c) = s.get (GL_CTX_STAT.gen c) ∧ t.get (DR_STAT.bound c) = 0)
    ∧ (∀ (c : Ctx) (s : State), s.ctxState c = 0 → s.startOk c = false →
        exec (.contextStart c) s = .next (s.set (GL_CTX_STAT.cfg_err c) 1).after)
    ∧ (∀ (c : Ctx) (s : State), s.ctxState c = ctxRUN → s.window c = false →
        ∃ t : State, exec (.contextHold c) s = .next t.after ∧ t.ctxState c = ctxHELD ∧ (t.cxAt c).hostHeld = true
          ∧ (t.cxAt c).heldAt = s.now)
    ∧ (∀ (c : Ctx) (s : State), s.ctxState c = ctxRUN → s.window c = true →
        exec (.contextHold c) s = .next (s.setCx c { s.cxAt c with deferHost := true }).after)
    ∧ (∀ (c : Ctx) (s : State), s.ctxState c = ctxHELD → (s.cxAt c).preHeld = false →
        ∃ t : State, exec (.contextResume c) s = .next t.after ∧ t.ctxState c = ctxRUN ∧ (t.cxAt c).hostHeld = false)
    ∧ (∀ (c : Ctx) (s : State) (i : Nat), (s.cxAt c).preIdle = some i → (s.cxAt c).preHeld = true →
        (s.cxAt c).hostHeld = false → i + 15625 ≤ s.now →
        ∃ t : State, exec (.preemptRelease c) s = .next t.after ∧ t.ctxState c = ctxRUN ∧ (t.cxAt c).preHeld = false)
    ∧ (∀ (c : Ctx) (s : State), s.window c = false → s.ctxState c = ctxRUN → (s.cxAt c).deferHost = true →
        ∃ t : State, exec (.deferredHold c) s = .next t.after ∧ t.ctxState c = ctxHELD ∧ (t.cxAt c).hostHeld = true
          ∧ (t.cxAt c).deferHost = false)
    ∧ (∀ (c : Ctx) (s : State), s.hasReady c = true →
        ∃ t : State, exec (.preemptHold c) s = .next t.after ∧ ∀ d < 4,
          (s.get (GL_CTX_CFG.prio d) < s.get (GL_CTX_CFG.prio c) → s.ctxState d = ctxRUN → s.window d = false →
            t.ctxState d = ctxHELD ∧ (t.cxAt d).preHeld = true)
          ∧ (¬ s.get (GL_CTX_CFG.prio d) < s.get (GL_CTX_CFG.prio c) → t.ctxState d = s.ctxState d))

/-- A teardown write leaves RUN or HELD for TEARING under a new generation, ends in OFF, or in WEDGED until a purge
(R128, R129, R363, R370, R371, R532). -/
def Obligations.TeardownDrainsAndTurnsOff : Prop :=
  (∀ (c : Ctx) (s : State), s.live c = true → s.jobs = [] → s.fab.reqs = [] → s.phase c ≠ phPREPARE →
      (∀ q < 16, s.hasHead c q = false) →
      ∃ t : State, exec (.teardown c) s = .next t.after ∧ t.ctxState c = ctxTEARING
        ∧ t.get (GL_CTX_STAT.gen c) = (s.get (GL_CTX_STAT.gen c) + 1) % 2 ^ (GL_CTX_STAT.gen c).w
        ∧ (t.cxAt c).tdAt = s.now ∧ (t.cxAt c).oldGen = s.get (GL_CTX_STAT.gen c)
        ∧ t.mem = s.mem ∧ t.fab = s.fab ∧ t.entries = s.entries)
    ∧ (∀ (c : Ctx) (s : State), s.ctxState c = ctxTEARING → (s.cxAt c).tdNoticed = false →
        (s.cxAt c).tdAt + s.get (GL_CTX_TMO.td_timeout c) ≤ s.now → s.stuck c ≠ [] →
        exec (.teardownTimeout c) s = .next (s.wedge c (s.stuck c)).after ∧ (s.wedge c (s.stuck c)).ctxState c = ctxWEDGED)
    ∧ (∀ (c : Ctx) (s : State), s.ctxState c = ctxTEARING → (s.cxAt c).tdNoticed = false →
        (s.cxAt c).tdAt + s.get (GL_CTX_TMO.td_timeout c) ≤ s.now → s.stuck c = [] →
        (s.fab.outs.any fun o => o.ctx == c.val) = true →
        exec (.teardownTimeout c) s = .next (s.sendNotices c).after ∧ ((s.sendNotices c).cxAt c).tdNoticed = true)
    ∧ (∀ (c : Ctx) (s : State), s.ctxState c = ctxTEARING → (s.cxAt c).tdNoticed = true → (s.cxAt c).tdNotice ≠ [] →
        (s.cxAt c).tdAt + s.get (GL_CTX_TMO.td_timeout c) ≤ s.now →
        ∃ t : State, exec (.teardownNoticeTimeout c) s = .next t.after ∧ (t.cxAt c).tdNotice = [])
    ∧ (∀ (c : Ctx) (s : State), s.tornDown c = true →
        exec (.teardownComplete c) s = .next ((s.turnOff c).irq c).after ∧ (s.turnOff c).ctxState c = 0)
    ∧ (∀ (c : Ctx) (s : State), s.ctxState c = ctxWEDGED →
        ∃ t : State, exec (.contextPurge c) s = .next t.after ∧ t.ctxState c = 0 ∧ t.get (GL_CTX_STAT.running c) = 0)

/-- A region entry takes its fields while invalid, validates after its checks, and is freed at once or when its
references end (R60, R71, R89, R530). -/
def Obligations.RegionEntryValidatesAndFrees : Prop :=
  (∀ (n : Fin 64) (v : W64) (s : State), (s.rgn n).valid = false → fget v 63 1 = 1 →
      (s.putRgn n v).rgnOk n ((s.putRgn n v).rgn n) = true →
      ∃ t : State, exec (.regionCfgWrite n v) s = .next t.after ∧ (t.rgn n).valid = true ∧ (t.rgn n).kind = fget v 0 4
        ∧ (t.rgn n).fmt = fget v 4 3 ∧ (t.rgn n).ctx = fget v 10 2 ∧ (t.rgn n).group = fget v 12 6
        ∧ (t.rgn n).slot = fget v 18 4 ∧ (t.rgn n).base = (s.rgn n).base ∧ (t.rgn n).count = (s.rgn n).count
        ∧ t.get (GL_RGN_STAT.rows n) = (t.rgn n).rows % 2 ^ (GL_RGN_STAT.rows n).w)
    ∧ (∀ (n : Fin 64) (v : W64) (s : State), (s.rgn n).valid = false → fget v 63 1 = 1 →
        (s.putRgn n v).rgnOk n ((s.putRgn n v).rgn n) = false →
        exec (.regionCfgWrite n v) s = .next ((s.putRgn n v).set (GL_RGN_STAT.cfg_err n) 1).after
          ∧ (((s.putRgn n v).set (GL_RGN_STAT.cfg_err n) 1).rgn n).valid = false)
    ∧ (∀ (n : Fin 64) (v : W64) (s : State), (s.rgn n).valid = true → s.sameRgn n v = true → fget v 63 1 = 0 →
        s.teamUses n = false →
        (s.get (GL_RGN_STAT.refs n) = 0 →
          exec (.regionCfgWrite n v) s = .next (s.freeRgn n).after ∧ ((s.freeRgn n).rgn n).valid = false)
        ∧ (s.get (GL_RGN_STAT.refs n) ≠ 0 →
          exec (.regionCfgWrite n v) s = .next (s.set (GL_RGN_STAT.free_pending n) 1).after
            ∧ ((s.set (GL_RGN_STAT.free_pending n) 1).rgn n).valid = true))
    ∧ (∀ (n : Fin 64) (v : W64) (s : State), (s.rgn n).valid = true → s.sameRgn n v = false → fget v 63 1 = 1 →
        exec (.regionCfgWrite n v) s = .next (s.set (GL_RGN_STAT.cfg_err n) 1).after
          ∧ (s.set (GL_RGN_STAT.cfg_err n) 1).rgn n = s.rgn n)

/-- A write acknowledgement or a read response takes its request off the list and reaches the work that issued it
(R501, R502, R503, R523). -/
def Obligations.MemoryAnswersGoToTheWorkThatAsked : Prop :=
  (∀ (n : Slice) (tag : Fin 4096) (r : MemReq) (j : Job) (s : State), s.mem.resetHigh = false →
      Tbl.find s.mem.reqs (n.val * 4096 + tag.val) = some r → r.write = true → r.job ≠ 0 → s.job r.job = some j →
      exec (.memoryWriteAccept n tag) s = .next
        ((s.setMem { s.mem with reqs := Tbl.del s.mem.reqs (n.val * 4096 + tag.val) }).setJob
          { j with out := j.out - 1 }).after)
    ∧ (∀ (n : Slice) (tag : Fin 4096) (err : Bool) (data : BitVec 2048) (r : MemReq) (j : Job) (s : State),
        s.mem.resetHigh = false → Tbl.find s.mem.reqs (n.val * 4096 + tag.val) = some r → r.write = false →
        s.job r.job = some j →
        ∃ (t : State) (j' : Job), exec (.memoryReadResponse n tag err data) s = .next
            ((s.setMem { s.mem with reqs := Tbl.del s.mem.reqs (n.val * 4096 + tag.val) }).setJob j').after
          ∧ t = s.setMem { s.mem with reqs := Tbl.del s.mem.reqs (n.val * 4096 + tag.val) }
          ∧ Tbl.find t.mem.reqs (n.val * 4096 + tag.val) = none
          ∧ j'.out = j.out - 1
          ∧ (err = false → Tbl.find j'.got (gKey n.val r.granule) = some (granuleBytes data) ∧ j'.bad = j.bad)
          ∧ (err = true → gKey n.val r.granule ∈ j'.bad ∧ j'.got = j.got))
    ∧ (∀ (n : Slice) (tag : Fin 4096) (err : Bool) (data : BitVec 2048) (s : State), s.mem.resetHigh = true →
        exec (.memoryWriteAccept n tag) s = .next s ∧ exec (.memoryReadResponse n tag err data) s = .next s)
    ∧ (∀ (n : Slice) (tag : Fin 4096) (err : Bool) (data : BitVec 2048) (s : State), s.mem.resetHigh = false →
        Tbl.find s.mem.reqs (n.val * 4096 + tag.val) = none →
        exec (.memoryWriteAccept n tag) s = .fault .noRequest
          ∧ exec (.memoryReadResponse n tag err data) s = .fault .noRequest)

/-- A granted channel goes OUT, its end of retraining MENDING or FAILED; a hard fault is FAILED; a mended list
brings it ONLINE (R73, R79, R80, R81, R509, R510, R511). -/
def Obligations.RetrainingTakesAChannelOutAndMendsIt : Prop :=
  (∀ (n : Slice) (j : Chan) (s : State),
      ∃ t : State, exec (.retrainRequest n j) s = .next t
        ∧ (∀ i < 32, nbits (t.get (SL_RETRAIN.req n)) i 1 = if i = j.val then 1 else nbits (s.get (SL_RETRAIN.req n)) i 1)
        ∧ (∀ l : Loc, l.key ≠ (SL_RETRAIN.req n).key → t.get l = s.get l) ∧ t = { s with regs := t.regs })
    ∧ (∀ (n : Slice) (j : Chan) (s : State), s.asks n j = true → s.firstAsk n j = true → s.anyOut = false →
        s.slackValid = true →
        ∃ t : State, exec (.retrainGrant n j) s = .next t.after ∧ t.chan n j = chOUT ∧ chKey n j ∈ t.mem.grants
          ∧ t.get (SL_RETRAIN.granted n) = 1 ∧ t.get (SL_RETRAIN.chan n) = j
          ∧ t.out = s.out ++ [.grant n j true, .dirty n j true])
    ∧ (∀ (n : Slice) (j : Chan) (s : State), chKey n j ∈ s.mem.grants → s.chan n j = chOUT →
        ∃ t : State, exec (.retrainDone n j) s = .next t.after
          ∧ t.chan n j = (if Tbl.at s.mem.mend [] (chKey n j) = [] ∧ chKey n j ∉ s.mem.mendFull then chONLINE else chMENDING)
          ∧ chKey n j ∉ t.mem.grants ∧ t.get (SL_RETRAIN.granted n) = 0)
    ∧ (∀ (n : Slice) (j : Chan) (s : State), chKey n j ∈ s.mem.grants → s.chan n j = chOUT →
        ∃ t : State, exec (.retrainFail n j) s = .next t.after ∧ t.chan n j = chFAILED ∧ chKey n j ∉ t.mem.grants)
    ∧ (∀ (n : Slice) (j : Chan) (s : State),
        ∃ t : State, exec (.channelFail n j) s = .next t.after ∧ t.chan n j = chFAILED ∧ chKey n j ∈ t.mem.faults)
    ∧ (∀ (n : Slice) (up : Bool) (s : State),
        exec (.memoryPortState n up) s = .next (s.set (SL_MEND.port_down n) (if up then 0 else 1)).after)
    ∧ (∀ (n : Slice) (j : Chan) (s : State) (e : MendEnt) (l : List MendEnt), s.chan n j = chMENDING →
        s.mem.resetHigh = false → s.jobs = [] → chKey n j ∉ s.mem.mendFull →
        Tbl.at s.mem.mend [] (chKey n j) = e :: l → (s.rgn e.region).valid = true → (s.rgn e.region).inner = true →
        exec (.mendRow n j) s = .next
          (s.addJob { id := 0, owner := .mend n j e.region e.first, ctx := (s.rgn e.region).ctx, cls := 0,
                      segs := [.mend] }).after)

/-- The internal hall time takes a count at or above its next value, ignores a lower one, and sets jump when they
differ (R134). -/
def Obligations.HallTimeFollowsThePresentedCount : Prop :=
  ∀ (count : W64) (s : State),
    let e := (s.now + 1) % 2 ^ 64
    ∃ t : State, exec (.htStrobe count) s = .next t.after
      ∧ (count.toNat = e → t.now = count.toNat ∧ t.get TK_HT_STAT.jump = s.get TK_HT_STAT.jump)
      ∧ (e < count.toNat → t.now = count.toNat ∧ t.get TK_HT_STAT.jump = 1)
      ∧ (count.toNat < e → t.now = e ∧ t.get TK_HT_STAT.jump = 1)

/-- A loss of strobes sets lost and lost_seen, advances hall time by 25 every 432 core cycles, and hall time is then
of fallback quality (R135, R136). -/
def Obligations.LostStrobesFreeRunAtFallbackQuality : Prop :=
  (∀ s : State, ∃ t : State, exec .htStrobeLost s = .next t.after ∧ t.get TK_HT_STAT.lost = 1 ∧ t.get TK_HT_STAT.lost_seen = 1
        ∧ t.irqLevel 19 = (nbits (s.get GL_IRQ_EN.en) 19 1 == 1) ∧ t.fallback = true
        ∧ t.get TK_HT_STAT.skew_bound = s.get TK_HT_CFG.fb_skew % 2 ^ TK_HT_STAT.skew_bound.w)
    ∧ (∀ s : State, s.is TK_HT_STAT.lost = true →
        exec .htFreerunAdvance s = .next (s.set TK_HT_NOW.now (s.now + 25)).after)
    ∧ (∀ (count : W64) (s : State), ∃ t : State, exec (.htStrobe count) s = .next t.after ∧ t.get TK_HT_STAT.lost = 0)
    ∧ (∀ (flag : Bool) (s : State), ∃ t : State, exec (.htFallbackChange flag) s = .next t.after
        ∧ t.get TK_HT_STAT.fallback = (if flag then 1 else 0)
        ∧ (flag = true → t.get TK_HT_STAT.fb_seen = 1
            ∧ t.get TK_HT_STAT.skew_bound = s.get TK_HT_CFG.fb_skew % 2 ^ TK_HT_STAT.skew_bound.w)
        ∧ t.now = s.now)

/-- A boundary starts the next tick with the allowance G - repay, never below the floor; enabling plans the first
boundary after now (R137, R138, R142, R144, R145, R147). -/
def Obligations.TickBoundaryRepaysDebtAboveTheFloor : Prop :=
  (∀ (c : Ctx) (v : W64) (s : State), s.is (TK_CFG.enable c) = false → fget v 63 1 = 1 →
      (s.set (TK_CFG.period c) (fget v 0 34)).tickOk c = true →
      ∃ t : State, exec (.tickEnable c v) s = .next t.after ∧ t.get (TK_CFG.enable c) = 1 ∧ t.get (TK_STAT.tick c) = 0
        ∧ s.now < (t.tkAt c).next ∧ (t.tkAt c).next ≤ s.now + fget v 0 34
        ∧ (((t.tkAt c).next : Int) - s.get (TK_ORIGIN.origin c)) % (fget v 0 34 : Int) = 0)
    ∧ (∀ (c : Ctx) (v : W64) (s : State), s.is (TK_CFG.enable c) = false → fget v 63 1 = 1 →
        (s.set (TK_CFG.period c) (fget v 0 34)).tickOk c = false →
        ∃ t : State, exec (.tickEnable c v) s = .next t.after ∧ t.get (TK_CFG.enable c) = 0 ∧ t.get (GL_CTX_STAT.cfg_err c) = 1)
    ∧ (∀ (c : Ctx) (v : W64) (s : State), s.is (TK_CFG.enable c) = true → fget v 63 1 = 0 →
        ∃ t : State, exec (.tickEnable c v) s = .next t.after ∧ t.is (TK_CFG.enable c) = true ∧ (t.tkAt c).off = true
          ∧ t.get (TK_CFG.period c) = fget v 0 34)
    ∧ (∀ (c : Ctx) (s : State), s.is (TK_CFG.enable c) = true → (s.tkAt c).next ≤ s.now → (s.tkAt c).off = true →
        ∃ t : State, exec (.tickBoundary c) s = .next t.after ∧ t.get (TK_CFG.enable c) = 0 ∧ t.tkAt c = {}
          ∧ t.get (TK_DEBT.debt c) = 0)
    ∧ (∀ (c : Ctx) (s : State), s.is (TK_CFG.enable c) = true → (s.tkAt c).next ≤ s.now → (s.tkAt c).off = false →
        s.get (TK_CP.bg_floor c) ≤ 100 →
        let g := s.get (TK_CFG.period c) - s.get (TK_CP.cp c)
        let fl := g * s.get (TK_CP.bg_floor c) / 100
        let debt := ((s.grown c).debts.map fun d => d.size - d.paid).sum
        ∃ t : State, exec (.tickBoundary c) s = .next t.after
          ∧ t.get (TK_STAT.tick c) = (s.get (TK_STAT.tick c) + 1) % 2 ^ 48
          ∧ (t.tkAt c).next = (s.tkAt c).next + s.get (TK_CFG.period c)
          ∧ (g < 2 ^ (TK_ALLOW.allow c).w →
              t.get (TK_ALLOW.allow c) = g - min debt (g - fl) ∧ fl ≤ t.get (TK_ALLOW.allow c)))
    ∧ (∀ (c : Ctx) (s : State), s.is (TK_CFG.enable c) = true → s.get (TK_ALLOW.allow c) = 0 →
        ∃ t : State, exec (.allowanceExhausted c) s = .next t ∧ t = { s with jobs := t.jobs }
          ∧ t.jobs = s.jobs.map (fun j => if j.ctx = c.val ∧ j.cls = 0 then { j with paused := true } else j))
    ∧ (∀ (mem lane fab drn yoke : Fin 1025) (s : State),
        ∃ t : State, exec (.saturationWindowEnd mem lane fab drn yoke) s = .next t.after
          ∧ (nbits (t.get TK_GSTAT.sat) 0 1 = 1 ↔ s.get TK_GCFG.sat_pct * 1024 ≤ mem.val * 100)
          ∧ (nbits (t.get TK_GSTAT.sat) 1 1 = 1 ↔ s.get TK_GCFG.sat_pct * 1024 ≤ lane.val * 100)
          ∧ (nbits (t.get TK_GSTAT.sat) 2 1 = 1 ↔ s.get TK_GCFG.sat_pct * 1024 ≤ fab.val * 100)
          ∧ (nbits (t.get TK_GSTAT.sat) 3 1 = 1 ↔ s.get TK_GCFG.sat_pct * 1024 ≤ drn.val * 100)
          ∧ (nbits (t.get TK_GSTAT.sat) 4 1 = 1 ↔ s.get TK_GCFG.sat_pct * 1024 ≤ yoke.val * 100)
          ∧ (∀ l : Loc, l.key ≠ TK_GSTAT.sat.key → t.get l = s.get l) ∧ t = { s with regs := t.regs })

/-- A requested yoke or core map waits for its point and then gives the usable rows, columns and cores; the check
pattern reports pass or the first PE (R19, R207, R208, R209, R210, R437). -/
def Obligations.MapsTakeEffectAtTheirPoint : Prop :=
  (∀ s : State, exec .yokeMapApply s = .next ((s.set YK_MAP_CTL.apply 1).setYoke { s.yoke with applyPend := true }).after)
    ∧ (∀ s : State, exec .yokeTestStart s = .next ((s.set YK_TEST.start 1).setYoke { s.yoke with testPend := true }).after)
    ∧ (∀ (n : Slice) (v : W64) (s : State), fget v 63 1 = 1 →
        ∃ t : State, exec (.coreMapApply n v) s = .next t.after ∧ t.get (SL_CORE_OUT.out n) = fget v 0 42
          ∧ t.get (SL_CORE_OUT.apply n) = 1 ∧ n.val ∈ t.yoke.corePend)
    ∧ (∀ (r : Option (Fin 130 × Fin 130)) (s : State), s.remapDue = true →
        let w := fun (f : Nat → Loc) i => BitVec.ofNat 64 (s.get (f i))
        let rows := usableCount 130 (w YK_ROWOUT.out 0) (w YK_ROWOUT.out 1) (w YK_ROWOUT.out 2)
        let cols := usableCount 130 (w YK_COLOUT.out 0) (w YK_COLOUT.out 1) (w YK_COLOUT.out 2)
        ∃ t : State, exec (.yokeRemap r) s = .next t.after ∧ t.get YK_STAT.rows = rows ∧ t.get YK_STAT.cols = cols
          ∧ t.get YK_STAT.degraded = (if rows < 128 ∨ cols < 128 then 1 else 0)
          ∧ t.get YK_STAT.failed = (if rows < 16 ∨ cols < 16 then 1 else 0)
          ∧ t.get YK_MAP_CTL.apply = 0 ∧ t.yoke.applyPend = false)
    ∧ (∀ (r : Option (Fin 130 × Fin 130)) (s : State), s.yoke.testPend = true → s.remapDue = false →
        ∃ t : State, exec (.yokeCheckPattern r) s = .next t.after ∧ t.get YK_TEST.start = 0 ∧ t.yoke.testPend = false
          ∧ (r = none → t.get YK_TEST.pass = 1 ∧ t.get YK_TEST.fail = 0)
          ∧ (∀ x y, r = some (x, y) → t.get YK_TEST.pass = 0 ∧ t.get YK_TEST.fail = 1
              ∧ t.get YK_TEST.fail_row = x.val ∧ t.get YK_TEST.fail_col = y.val))
    ∧ (∀ (n : Slice) (s : State), n.val ∈ s.yoke.corePend → (n.val ∈ s.yoke.coreDue ∨ s.anyTicks = false) →
        ∃ t : State, exec (.coreRemap n) s = .next t.after
          ∧ t.get (SL_CORE_OUT.active n) = min 40 (42 - popcount 42 (s.get (SL_CORE_OUT.out n)))
          ∧ t.get (SL_CORE_OUT.apply n) = 0 ∧ n.val ∉ t.yoke.corePend)
    ∧ (∀ s : State, s.is YK_STAT.failed = true ∨ s.buildHeld = true → exec .decodeTableComplete s = .next s.after)
    ∧ (∀ (s : State) (h : Nat), s.yoke.build = some h → h < 2 → s.is YK_STAT.failed = false → s.buildHeld = false →
        ∃ t : State, exec .decodeTableComplete s = .next t.after ∧ t.get (YK_DTAB.ready h) = 1 ∧ t.get (YK_DTAB.in_use h) = 1
          ∧ t.get (YK_DTAB.in_use (1 - h)) = 0 ∧ t.get (YK_DTAB.epoch h) = s.get (YK_DTAB.epoch h)
          ∧ t.yoke.build = none)

/-- A bulk decode for an epoch with a table answers one shard for each erased position; without a table it is
refused with PEER_LOST (R204, R206, R211). -/
def Obligations.BulkDecodeAnswersFromTheEpochsTable : Prop :=
  (∀ (c : Ctx) (epoch : W16) (erased : List Nat) (shards : List (List Byte)) (s : State), s.tableOf epoch.toNat = none →
      exec (.bulkDecode c epoch erased shards) s = .next (s.setYoke { s.yoke with result := some (stPEERLOST, []) }).after)
    ∧ (∀ (c : Ctx) (epoch : W16) (erased : List Nat) (shards : List (List Byte)) (rows : List (List Byte)) (h : Nat)
        (s : State), s.tableOf epoch.toNat = some h → erased.foldl setAdd [] ≠ [] →
        (erased.foldl setAdd []).length ≤ s.get (YK_DTAB.r h) →
        (∀ p ∈ erased, p < s.get (YK_DTAB.k h) + s.get (YK_DTAB.r h)) → shards.length = s.get (YK_DTAB.k h) →
        (∀ d ∈ shards, d.length = (shards.headD []).length) →
        bulkOf (s.get (YK_DTAB.k h)) (s.get (YK_DTAB.k h) + s.get (YK_DTAB.r h)) (erased.foldl setAdd []) shards = some rows →
        ∃ t : State, exec (.bulkDecode c epoch erased shards) s = .next t.after ∧ t.yoke.result = some (stOK, rows)
          ∧ rows.length = (erased.foldl setAdd []).length)

/-- Prepare goes on to its copies and record once no writer runs, and ends in the member's own vote: yes exactly
when nothing speaks against it (R310, R311, R315). -/
def Obligations.PrepareWaitsForWritersThenVotes : Prop :=
  (∀ (c : Ctx) (s : State) (j : Job), s.stepEndJob c = some j → s.phase c = phPREPARE → j.stage = 0 → j.hold = .prepare →
      (s.jobs.any fun x => x.cmdOf c && s.writesBank x) = false → s.team c ≠ tmENCODING →
      exec (.prepareWritersDone c) s = .next
        (s.setJob { j with stage := 1, hold := .run, segs := s.prepareSegs c }).after)
    ∧ (∀ (c : Ctx) (s : State) (j : Job), s.stepEndJob c = some j → s.phase c = phPREPARE → j.stage = 0 → j.hold = .prepare →
      (s.jobs.any fun x => x.cmdOf c && s.writesBank x) = false → s.team c = tmENCODING →
      let u := s.setTm c { s.tmAt c with fullRan := true }
      exec (.prepareWritersDone c) s = .next (u.setJob { j with stage := 1, hold := .run, segs := u.prepareSegs c }).after)
    ∧ (∀ (c : Ctx) (s : State), (s.jobs.any fun x => x.cmdOf c && s.writesBank x) = true →
      exec (.prepareWritersDone c) s = .next s.after)
    ∧ (∀ (c : Ctx) (s : State) (j : Job), s.stepEndJob c = some j → s.phase c = phPREPARE → j.stage = 1 →
        j.hold = .prepare → j.segs = [] → j.out = 0 → s.intervalQuiet c = true → (s.cmAt c).abortPend = none →
        (s.cmTree c).isRoot 0 = false →
        ∃ (t : State) (v : VoteRec), exec (.voteCast c) s = .next t.after ∧ t.phase c = phVOTED ∧ (t.cmAt c).own = some v
          ∧ (t.cmAt c).votedAt = s.now
          ∧ v.epoch = s.get (CM_EPOCH.epoch c) ∧ v.cseq = s.get (CM_STAT.cseq c) ∧ v.step = s.get (CM_OPEN.open_ c)
          ∧ v.stride = s.get (CM_CFG.stride c) ∧ v.bind = s.bindDigest c (s.get (CM_OPEN.open_ c)) ∧ v.mism = false
          ∧ (s.noReason c = none → v.no = false ∧ v.cnt = 1)
          ∧ (∀ r, s.noReason c = some r → v.no = true ∧ v.cnt = 0 ∧ v.reason = r ∧ v.noRank = (s.cmTree c).me))
    ∧ (∀ (c : Nat) (s : State), s.noReason c = none ↔
        (s.is (CM_STAT.failed c) = false ∧ s.team c ≠ tmFORMING ∧ s.team c ≠ tmREBUILDING ∧ s.team c ≠ tmFAILED
          ∧ (s.cmAt c).endStatus = none))

/-- A node's combination of its vote with its children's adds the counts, ors the no flags, keeps the lowest no rank
and flags any difference (R315, 10_commit_transaction.md). -/
def Obligations.CombinedVotesAddUpAndKeepTheLowestNo : Prop :=
  ∀ (o : VoteRec) (l : List VoteRec),
    let v := l.foldl VoteRec.join o
    v.cnt = o.cnt + (l.map (·.cnt)).sum
    ∧ v.no = (o :: l).any (·.no)
    ∧ (v.no = true → ∃ w ∈ o :: l, w.no = true ∧ v.noRank = w.noRank ∧ v.reason = w.reason
        ∧ ∀ x ∈ o :: l, x.no = true → v.noRank ≤ x.noRank)
    ∧ (v.mism = true ↔ (∃ w ∈ o :: l, w.mism = true)
        ∨ ∃ w ∈ l, w.step ≠ o.step ∨ w.stride ≠ o.stride ∨ w.bind ≠ o.bind)
    ∧ v.epoch = o.epoch ∧ v.cseq = o.cseq ∧ v.step = o.step ∧ v.stride = o.stride ∧ v.bind = o.bind

/-- A vote of the transaction under way is kept in its child's place and acted on; any other is counted stale;
FENCE_ACK answers nothing (R315, R316, R317, R321, R349). -/
def Obligations.VotesAreKeptByChildAndStaleOnesCounted : Prop :=
  (∀ (bytes : List Byte) (m : Msg) (s : State) (tr i : Nat), accepted 0x30 bytes m s = true →
      s.cmCurrent m.ctx (voteOf m).epoch (voteOf m).cseq = true → (s.cmAt m.ctx).abortPend = none →
      s.votePlace m = some (tr, i) →
      exec (.vote bytes) s = .next
        (((s.done m).setCm m.ctx { s.cmAt m.ctx with
            votes := ((s.cmAt m.ctx).votes.filter fun x => !(x.1 == tr && x.2.1 == i)) ++ [(tr, i, voteOf m)] }).pushVotes
          m.ctx).after)
    ∧ (∀ (bytes : List Byte) (m : Msg) (s : State), accepted 0x30 bytes m s = true →
        (s.cmCurrent m.ctx (voteOf m).epoch (voteOf m).cseq = false ∨ (s.cmAt m.ctx).abortPend.isSome = true
          ∨ s.votePlace m = none) →
        exec (.vote bytes) s = .next ((s.done m).satInc (CM_DIAG.stale m.ctx) 1).after)
    ∧ (∀ (bytes : List Byte) (m : Msg) (s : State), leAt bytes 0 1 = 0x39 → parseMsg bytes = some m →
        s.verdict m = .counted FB_DROP.stale →
        exec (.fenceAck bytes) s = .next ((s.satInc FB_DROP.stale 1).leave bytes).after)

/-- A root keeps its last 16 decisions and resends the one a query names to the asking member alone (R322,
10_commit_transaction.md). -/
def Obligations.RootsKeepSixteenNoticesAndAnswerQueries : Prop :=
  (∀ (c : Nat) (n : Notice) (s : State), ((s.keepNotice c n).cmAt c).notices.length ≤ 16
      ∧ ((s.keepNotice c n).cmAt c).notices.getLast? = some n
      ∧ (s.keepNotice c n).noticeOf c n.cseq = some n
      ∧ ∀ x ∈ (s.cmAt c).notices, x.cseq ≠ n.cseq → (s.cmAt c).notices.length < 16 →
          x ∈ ((s.keepNotice c n).cmAt c).notices)
    ∧ (∀ (bytes : List Byte) (m : Msg) (n : Notice) (s : State), accepted 0x33 bytes m s = true →
        s.noticeOf m.ctx (m.at_ 4 4) = some n →
        ((s.cmTree m.ctx).isRoot 0 = true ∨ (s.cmTree m.ctx).isRoot 1 = true) →
        ∃ (t : State) (x : Msg), exec (.query bytes) s = .next t.after ∧ t.fab.txq = s.fab.txq ++ [x] ∧ x.typ = n.typ ∧ x.dst = m.src
          ∧ x.ctx = m.ctx ∧ x.body = n.body ∧ t.regs = s.regs ∧ t.cm = s.cm ∧ t.jobs = s.jobs)
    ∧ (∀ (bytes : List Byte) (m : Msg) (s : State), accepted 0x33 bytes m s = true →
        (s.noticeOf m.ctx (m.at_ 4 4) = none ∨ ((s.cmTree m.ctx).isRoot 0 = false ∧ (s.cmTree m.ctx).isRoot 1 = false)) →
        exec (.query bytes) s = .next (s.done m).after)

/-- The first halt notice of a voted member's transaction is kept, forwarded and arms its flip at H, or late at
now + arm_min; an abort notice discards the interval with C unchanged and cseq one higher, at once or when its deltas'
writes are accepted; stale and conflicting notices are dropped (R152, R318, R319, R320, R321, R326, R534,
notes/assumptions/26.md (a waiting abort)). -/
def Obligations.HaltNoticeArmsAndAbortNoticeAborts : Prop :=
  (∀ (bytes : List Byte) (m : Msg) (s : State), accepted 0x31 bytes m s = true → s.live m.ctx = true →
      s.cmCurrent m.ctx (haltOf m).epoch (haltOf m).cseq = true →
      (s.phase m.ctx = phVOTED ∨ s.phase m.ctx = phINDOUBT) → (s.cmAt m.ctx).abortPend = none →
      s.decided m.ctx = none →
      let t := s.takeHalt m
      exec (.halt bytes) s = .next t.after ∧ t.phase m.ctx = phARMED
        ∧ (s.now + s.get TK_HT_CFG.arm_min ≤ (haltOf m).h → t.get (CM_HALT.h m.ctx) = (haltOf m).h % 2 ^ (CM_HALT.h m.ctx).w
            ∧ (t.cmAt m.ctx).late = none)
        ∧ ((haltOf m).h < s.now + s.get TK_HT_CFG.arm_min →
            t.get (CM_HALT.h m.ctx) = (s.now + s.get TK_HT_CFG.arm_min) % 2 ^ (CM_HALT.h m.ctx).w
            ∧ (t.cmAt m.ctx).late = some (((haltOf m).h : Int) - (s.now + s.get TK_HT_CFG.arm_min : Nat)))
        ∧ haltOf m ∈ (t.cmAt m.ctx).notices
        ∧ t.fab.txq = (s.forward m.ctx m.bit2 (haltOf m)).fab.txq
        ∧ t.active m.ctx = s.active m.ctx ∧ t.get (CM_STEP.committed m.ctx) = s.get (CM_STEP.committed m.ctx))
    ∧ (∀ (bytes : List Byte) (m : Msg) (s : State), accepted 0x31 bytes m s = true → s.live m.ctx = true →
        exec (.halt bytes) s = .next (State.after
          (if s.cmCurrent m.ctx (haltOf m).epoch (haltOf m).cseq = false then (s.done m).satInc (CM_DIAG.stale m.ctx) 1
           else if s.phase m.ctx = phOPEN ∨ s.phase m.ctx = phPREPARE ∨ (s.cmAt m.ctx).abortPend.isSome then
             (s.done m).satInc (CM_DIAG.conflict m.ctx) 1
           else match s.decided m.ctx with
             | none => s.takeHalt m
             | some k =>
               if k.halt = false then (s.done m).satInc (CM_DIAG.conflict m.ctx) 1
               else if k.h = (haltOf m).h then (s.done m).forward m.ctx m.bit2 (haltOf m)
               else (s.done m).satInc (CM_DIAG.h_mismatch m.ctx) 1)))
    ∧ (∀ (bytes : List Byte) (m : Msg) (s : State), accepted 0x32 bytes m s = true → s.live m.ctx = true →
        s.cmCurrent m.ctx (abortOf m).epoch (abortOf m).cseq = true → s.phase m.ctx ≠ phARMED →
        (s.cmAt m.ctx).abortPend = none → (∀ k, s.decided m.ctx = some k → k.halt = false) →
        s.deltaBusy m.ctx = false →
        let t := s.takeAbort m
        exec (.cmAbort bytes) s = .next t.after
          ∧ t.get (CM_STEP.committed m.ctx) = s.get (CM_STEP.committed m.ctx) ∧ t.active m.ctx = s.active m.ctx
          ∧ t.get (CM_STAT.stride m.ctx) = s.get (CM_CFG.stride m.ctx) % 2 ^ (CM_STAT.stride m.ctx).w
          ∧ t.get (CM_OPEN.open_ m.ctx) =
              (s.get (CM_STEP.committed m.ctx) + t.get (CM_STAT.stride m.ctx)) % 2 ^ (CM_OPEN.open_ m.ctx).w
          ∧ t.get (CM_CUR.cur m.ctx) = (s.get (CM_STEP.committed m.ctx) + 1) % 2 ^ (CM_CUR.cur m.ctx).w
          ∧ t.get (CM_STAT.cseq m.ctx) = (s.get (CM_STAT.cseq m.ctx) + 1) % 2 ^ (CM_STAT.cseq m.ctx).w
          ∧ t.get (CM_STAT.failed m.ctx) = 0 ∧ (t.cmAt m.ctx).cover = [] ∧ (t.cmAt m.ctx).coverR = []
          ∧ (t.tmAt m.ctx).touch = []
          ∧ t.get (CM_LAST.reason m.ctx) = (abortOf m).reason % 2 ^ (CM_LAST.reason m.ctx).w
          ∧ t.get (CM_LAST.rank m.ctx) = (abortOf m).rank % 2 ^ (CM_LAST.rank m.ctx).w
          ∧ t.get (CM_LAST.cseq m.ctx) = s.get (CM_STAT.cseq m.ctx) % 2 ^ (CM_LAST.cseq m.ctx).w
          ∧ t.phase m.ctx = (if s.phase m.ctx = phFENCED ∨ (s.cmAt m.ctx).fence.isSome then phFENCED else phOPEN))
    ∧ (∀ (bytes : List Byte) (m : Msg) (s : State), accepted 0x32 bytes m s = true → s.live m.ctx = true →
        s.cmCurrent m.ctx (abortOf m).epoch (abortOf m).cseq = true → s.phase m.ctx ≠ phARMED →
        (s.cmAt m.ctx).abortPend = none → (∀ k, s.decided m.ctx = some k → k.halt = false) →
        s.deltaBusy m.ctx = true →
        let t := s.takeAbort m
        exec (.cmAbort bytes) s = .next t.after
          ∧ (t.cmAt m.ctx).abortPend = some ((abortOf m).reason, (abortOf m).rank) ∧ t.regs = s.regs)
    ∧ (∀ (bytes : List Byte) (m : Msg) (s : State), accepted 0x32 bytes m s = true → s.live m.ctx = true →
        exec (.cmAbort bytes) s = .next (State.after
          (if s.cmCurrent m.ctx (abortOf m).epoch (abortOf m).cseq = false then (s.done m).satInc (CM_DIAG.stale m.ctx) 1
           else if (s.decided m.ctx).any (·.halt) then (s.done m).satInc (CM_DIAG.conflict m.ctx) 1
           else if s.phase m.ctx = phARMED ∨ (s.cmAt m.ctx).abortPend.isSome then s.done m
           else s.takeAbort m)))
    ∧ (∀ (bytes : List Byte) (m : Msg) (s : State), s.live m.ctx = false →
        (accepted 0x31 bytes m s = true → exec (.halt bytes) s = .next (s.done m).after)
        ∧ (accepted 0x32 bytes m s = true → exec (.cmAbort bytes) s = .next (s.done m).after))

/-- A flip changes sel, commits O as C, takes the staged stride, advances cseq, clears the interval, records its
time, raises the commit vector and ends STEP_END with OK and C in value (R323); before its instant nothing flips. -/
def Obligations.FlipCommitsTheOpenStep : Prop :=
  (∀ (c : Ctx) (s : State), s.phase c = phARMED → s.get (CM_HALT.h c) ≤ s.now →
    let t := s.flip c
    exec (.flip c) s = .next t.after
      ∧ t.active c = (1 - s.active c) % 2 ^ (CM_STAT.sel c).w
      ∧ t.get (CM_STEP.committed c) = s.get (CM_OPEN.open_ c) % 2 ^ (CM_STEP.committed c).w
      ∧ t.get (CM_STAT.stride c) = s.get (CM_CFG.stride c) % 2 ^ (CM_STAT.stride c).w
      ∧ t.get (CM_OPEN.open_ c) = (t.get (CM_STEP.committed c) + t.get (CM_STAT.stride c)) % 2 ^ (CM_OPEN.open_ c).w
      ∧ t.get (CM_CUR.cur c) = (t.get (CM_STEP.committed c) + 1) % 2 ^ (CM_CUR.cur c).w
      ∧ t.get (CM_STAT.cseq c) = (s.get (CM_STAT.cseq c) + 1) % 2 ^ 32
      ∧ (t.cmAt c).cover = [] ∧ (t.cmAt c).coverR = [] ∧ (t.tmAt c).touch = []
      ∧ t.phase c = (if (s.cmAt c).fence.isSome then phFENCED else phOPEN)
      ∧ t.get (CM_HALT.h c) = s.now % 2 ^ (CM_HALT.h c).w
      ∧ nbits (t.get GL_IRQ_STAT.cause) (4 + c) 1 = 1
      ∧ ∀ j, s.stepEndJob c = some j → (t.ent j.key).phase = .done ∧ (t.ent j.key).status = stOK
          ∧ (t.ent j.key).value = t.get (CM_STEP.committed c) % 2 ^ 64)
    ∧ (∀ (c : Ctx) (s : State), (s.phase c ≠ phARMED ∨ s.now < s.get (CM_HALT.h c)) → exec (.flip c) s = .next s)

/-- vote_tmo aborts at the near root; query_tmo after the vote asks both roots, again after that the member is
IN_DOUBT; a missing child is observed (R317, R328, R366). -/
def Obligations.CommitTimersDecideQueryDoubtAndReport : Prop :=
  (∀ (c : Ctx) (s : State), (s.cmTree c).isRoot 0 = true → s.undecided c = true → s.phase c ≠ phARMED →
      (s.cmAt c).votedAt + s.get (CM_TMO.vote_tmo c) ≤ s.now →
      exec (.voteTimeout c) s = .next
        (s.conclude c ⟨s.get (CM_STAT.cseq c), false, 0, 0, 0xFFFF, stTIMEOUT, s.get (CM_EPOCH.epoch c)⟩).after)
    ∧ (∀ (c : Ctx) (s : State), s.phase c = phVOTED → s.undecided c = true → (s.cmAt c).queryAt = none →
        (s.cmAt c).votedAt + s.get (CM_TMO.query_tmo c) ≤ s.now →
        ∃ t : State, exec (.decisionQueryTimeout c) s = .next t.after ∧ (t.cmAt c).queryAt = some s.now
          ∧ t.get (CM_DIAG.queries c) = min (2 ^ (CM_DIAG.queries c).w - 1) (s.get (CM_DIAG.queries c) + 1)
          ∧ t.phase c = phVOTED
          ∧ ((s.cmTree c).isRoot 0 = false → ∃ x ∈ t.fab.txq, x.typ = 0x33 ∧ x.dst = s.cmDev c 0 ∧ x.bit2 = 0))
    ∧ (∀ (c : Ctx) (s : State) (q : Nat), (s.cmAt c).queryAt = some q → s.phase c = phVOTED → s.undecided c = true →
        q + s.get (CM_TMO.query_tmo c) ≤ s.now →
        ∃ t : State, exec (.inDoubtTimeout c) s = .next t.after ∧ t.phase c = phINDOUBT
          ∧ nbits (t.get GL_IRQ_STAT.cause) (8 + c) 1 = 1
          ∧ t.get (CM_CNT.in_doubt c) = min (2 ^ (CM_CNT.in_doubt c).w - 1) (s.get (CM_CNT.in_doubt c) + 1))
    ∧ (∀ (c : Ctx) (off : Bool) (child : Nat) (s : State), (s.cmAt c).own.isSome = true →
        child ∈ (s.cmTree c).children (b2n off) → (b2n off, child) ∉ (s.cmAt c).noVoteSeen →
        ((s.cmAt c).votes.any fun v => v.1 == b2n off && v.2.1 == child) = false →
        (s.cmAt c).votedAt + s.get (CM_TMO.query_tmo c) ≤ s.now →
        ∃ t : State, exec (.novoteTimeout c off child) s = .next t.after
          ∧ (b2n off, child) ∈ (t.cmAt c).noVoteSeen ∧ (repFind t.rec_.reps (s.cmDev c child) 3).isSome = true)

/-- A staged commit epoch that is newer is brought into force at a request boundary and fails the open interval; any
other sets cfg_err (R331). -/
def Obligations.EpochIsAppliedWhenNewer : Prop :=
  (∀ (c : Ctx) (s : State),
      let d := ((s.get (CM_EPOCH.staged c) : Int) - s.get (CM_EPOCH.epoch c)) % 2 ^ 16
      (1 ≤ d ∧ d ≤ 2 ^ 15 - 1 →
        (s.cmAt c).epochPend = none →
        exec (.applyEpoch c) s = .next (s.setCm c { s.cmAt c with epochPend := some (s.get (CM_EPOCH.staged c)) }).after)
      ∧ (¬ (1 ≤ d ∧ d ≤ 2 ^ 15 - 1) → (s.cmAt c).epochPend = none →
        exec (.applyEpoch c) s = .next (s.set (CM_STAT.cfg_err c) 1).after))
    ∧ (∀ (c : Ctx) (s : State), (s.cmAt c).epochPend.isSome = true → exec (.applyEpoch c) s = .next s.after)
    ∧ (∀ (c : Ctx) (s : State) (e : Nat), (s.cmAt c).epochPend = some e → (s.cmAt c).own = none → s.phase c ≠ phARMED →
        (s.cmAt c).abortPend = none → s.phase c ≠ phVOTED → s.phase c ≠ phINDOUBT →
        ∃ t : State, exec (.commitEpochEffect c) s = .next t.after
          ∧ t.get (CM_EPOCH.epoch c) = e % 2 ^ (CM_EPOCH.epoch c).w ∧ (t.cmAt c).epochPend = none
          ∧ t.is (CM_STAT.failed c) = true)
    ∧ (∀ (c : Ctx) (s : State) (e : Nat), (s.cmAt c).epochPend = some e →
        ((s.cmAt c).own.isSome = true ∨ s.phase c = phARMED ∨ (s.cmAt c).abortPend.isSome = true) →
        exec (.commitEpochEffect c) s = .next s)

/-- A newer fence makes the phase FENCED and is answered; unfence brings its epoch into force with C and sel
unchanged; resolve flips or aborts (R319, R329, R332, R364). -/
def Obligations.FenceUnfenceAndResolve : Prop :=
  (∀ (bytes : List Byte) (m : Msg) (s : State), accepted 0x38 bytes m s = true →
      newer 16 (m.at_ 0 2) (s.get (CM_EPOCH.epoch m.ctx)) = true → s.phase m.ctx ≠ phARMED → s.stepEndJob m.ctx = none →
      ∃ (t : State) (x : Msg), exec (.fence bytes) s = .next t.after ∧ t.phase m.ctx = phFENCED
        ∧ t.get (CM_EPOCH.fence_epoch m.ctx) = m.at_ 0 2 % 2 ^ (CM_EPOCH.fence_epoch m.ctx).w
        ∧ t.fab.txq = s.fab.txq ++ [x] ∧ x.typ = 0x39 ∧ x.dst = m.src
        ∧ t.get (CM_STEP.committed m.ctx) = s.get (CM_STEP.committed m.ctx) ∧ t.active m.ctx = s.active m.ctx)
    ∧ (∀ (bytes : List Byte) (m : Msg) (s : State) (j : Job), accepted 0x38 bytes m s = true →
        newer 16 (m.at_ 0 2) (s.get (CM_EPOCH.epoch m.ctx)) = true → s.phase m.ctx ≠ phARMED →
        s.stepEndJob m.ctx = some j → j.out = 0 →
        ∃ t : State, exec (.fence bytes) s = .next t.after ∧ t.phase m.ctx = phFENCED
          ∧ t.get (CM_EPOCH.fence_epoch m.ctx) = m.at_ 0 2 % 2 ^ (CM_EPOCH.fence_epoch m.ctx).w
          ∧ (t.ent j.key).phase = .done ∧ (t.ent j.key).status = stFENCED)
    ∧ (∀ (bytes : List Byte) (m : Msg) (s : State), accepted 0x38 bytes m s = true →
        newer 16 (m.at_ 0 2) (s.get (CM_EPOCH.epoch m.ctx)) = false →
        exec (.fence bytes) s = .next ((s.done m).fenceAck m).after)
    ∧ (∀ (bytes : List Byte) (m : Msg) (s : State), accepted 0x38 bytes m s = true →
        newer 16 (m.at_ 0 2) (s.get (CM_EPOCH.epoch m.ctx)) = true → s.phase m.ctx = phARMED →
        ∃ t : State, exec (.fence bytes) s = .next t.after ∧ t.phase m.ctx = phARMED ∧ (t.cmAt m.ctx).fence = some (m.at_ 0 2)
          ∧ t.get (CM_HALT.h m.ctx) = s.get (CM_HALT.h m.ctx))
    ∧ (∀ (c : Ctx) (s : State), s.phase c = phFENCED →
        ∃ t : State, exec (.unfence c) s = .next t.after ∧ t.phase c = phOPEN
          ∧ t.get (CM_EPOCH.epoch c) = s.get (CM_EPOCH.fence_epoch c) % 2 ^ (CM_EPOCH.epoch c).w
          ∧ t.get (CM_STEP.committed c) = s.get (CM_STEP.committed c) ∧ t.active c = s.active c)
    ∧ (∀ (c : Ctx) (s : State), s.phase c ≠ phFENCED → exec (.unfence c) s = .next (s.set (CM_STAT.cfg_err c) 1).after)
    ∧ (∀ (c : Ctx) (s : State), s.resolvable c = true → s.get (CM_RESOLVE.cseq c) = s.get (CM_STAT.cseq c) →
        s.get (CM_RESOLVE.action c) = 2 → exec (.resolve c) s = .next (s.abort c stPEERLOST 0xFFFF).after)
    ∧ (∀ (c : Ctx) (s : State), s.resolvable c = true → s.phase c = phFENCED →
        s.get (CM_RESOLVE.cseq c) = s.get (CM_STAT.cseq c) → s.get (CM_RESOLVE.action c) = 1 →
        ∃ t : State, exec (.resolve c) s = .next t.after ∧ t.phase c = phARMED
          ∧ (t.cmAt c).fence = some (s.get (CM_EPOCH.fence_epoch c)))
    ∧ (∀ (c : Ctx) (s : State), s.phase c = phARMED → exec (.resolve c) s = .next s.after)
    ∧ (∀ (c : Ctx) (s : State), s.resolvable c = true → s.phase c ≠ phFENCED →
        s.get (CM_RESOLVE.cseq c) = s.get (CM_STAT.cseq c) → s.get (CM_RESOLVE.action c) = 1 →
        ∃ t : State, exec (.resolve c) s = .next t.after ∧ t.phase c = phARMED
          ∧ t.get (CM_HALT.h c) = (s.now + s.get TK_HT_CFG.arm_min) % 2 ^ (CM_HALT.h c).w)
    ∧ (∀ (c : Ctx) (s : State), s.phase c ≠ phARMED →
        (s.resolvable c = false ∨ s.get (CM_RESOLVE.cseq c) ≠ s.get (CM_STAT.cseq c)
          ∨ (s.get (CM_RESOLVE.action c) ≠ 1 ∧ s.get (CM_RESOLVE.action c) ≠ 2)) →
        exec (.resolve c) s = .next (s.set (CM_STAT.cfg_err c) 1).after)

/-- A child's record or partial for a held tile is combined into it once; one without a slot or sent twice ends the
collective with INTERNAL (R224, R228, R231, R245, R250, R256, R350). -/
def Obligations.ChildRecordsAndPartialsCombineInTheirTile : Prop :=
  (∀ (bytes : List Byte) (m : Msg) (s : State) (j : Job) (x : GsTile) (i : Nat), accepted 0x21 bytes m s = true →
      s.gsFind m = some j → leAt m.rest 2 1 / 2 % 2 = 0 → s.fromChild j m m.tree = some i → j.tileAt m.tile = some x →
      x.tr = m.tree → x.held = true → x.recs.contains i = false →
      ∃ t : State, exec (.cRec bytes) s = .next t.after
        ∧ t.job j.id = some (j.setTile { x with
            recs := setAdd x.recs i, e := max x.e (sext 16 (leAt m.rest 0 2)), nf := x.nf || leAt m.rest 2 1 % 2 == 1 })
        ∧ t = { s with jobs := t.jobs, out := t.out })
    ∧ (∀ (bytes : List Byte) (m : Msg) (s : State) (j : Job) (x : GsTile) (i : Nat), accepted 0x23 bytes m s = true →
      s.gsFind m = some j → j.gsKind = .grid → s.fromChild j m m.tree = some i → j.tileAt m.tile = some x →
      x.tr = m.tree → x.held = true → x.parts.contains i = false → (s.upFrom j x).contains i = true →
      ∃ t : State, exec (.cPart bytes) s = .next t.after
        ∧ t.job j.id = some (j.setTile { x with
            parts := setAdd x.parts i,
            acc := addLanes x.acc ((wordsOf (s.laneBytes j) (padTo (64 * s.laneBytes j) m.rest)).map
              (sext (8 * s.laneBytes j))) })
        ∧ (∃ y : Msg, t.fab.txq = s.fab.txq ++ [y] ∧ y.typ = 0x26 ∧ y.dst = s.rankDev j.ctx j.gsGroup i ∧ y.tag = j.gcn
            ∧ y.gen = m.sgen)
        ∧ t = { s with jobs := t.jobs, out := t.out, fab := t.fab, tk := t.tk, regs := t.regs })
    ∧ (∀ (bytes : List Byte) (m : Msg) (s : State) (j : Job) (x : GsTile) (i : Nat), accepted 0x23 bytes m s = true →
      s.gsFind m = some j → j.gsKind ≠ .grid → leAt m.rest 2 1 / 2 % 2 = 0 → s.fromChild j m m.tree = some i →
      j.tileAt m.tile = some x → x.tr = m.tree → x.held = true → x.parts.contains i = false →
      (s.upFrom j x).contains i = true →
      ∃ t : State, exec (.cPart bytes) s = .next t.after
        ∧ t.job j.id = some (j.setTile { x with
            parts := setAdd x.parts i, e := max x.e (sext 16 (leAt m.rest 0 2)),
            nf := x.nf || leAt m.rest 2 1 % 2 == 1,
            vals := s.combineAll j x.vals (wordsOf (s.laneBytes j) (padTo (64 * s.laneBytes j) (m.rest.drop 4))) }))
    ∧ (∀ (bytes : List Byte) (m : Msg) (s : State) (j : Job), accepted 0x21 bytes m s = true → s.gsFind m = some j →
      (s.fromChild j m m.tree = none ∨ j.tileAt m.tile = none ∨ ∃ x i, s.fromChild j m m.tree = some i
        ∧ j.tileAt m.tile = some x ∧ (x.tr ≠ m.tree ∨ x.held = false ∨ x.recs.contains i = true)) →
      exec (.cRec bytes) s = .next (((s.done m).satInc GS_GSTAT.overclaim 1).endCmd
        { j with gs := { j.gs with tiles := j.gs.tiles.map fun x => if x.t = m.tile then { x with abort := true } else x } }
        stINTERNAL).after)
    ∧ (∀ (bytes : List Byte) (m : Msg) (s : State) (j : Job), accepted 0x23 bytes m s = true → s.gsFind m = some j →
      (s.fromChild j m m.tree = none ∨ j.tileAt m.tile = none ∨ ∃ x i, s.fromChild j m m.tree = some i
        ∧ j.tileAt m.tile = some x ∧ (x.tr ≠ m.tree ∨ x.held = false ∨ x.parts.contains i = true
          ∨ (s.upFrom j x).contains i = false)) →
      exec (.cPart bytes) s = .next (((s.done m).satInc GS_GSTAT.overclaim 1).endCmd
        { j with gs := { j.gs with tiles := j.gs.tiles.map fun x => if x.t = m.tile then { x with abort := true } else x } }
        stINTERNAL).after)
    ∧ (∀ (bytes : List Byte) (m : Msg) (s : State) (j : Job) (x : GsTile) (i : Nat), accepted 0x21 bytes m s = true →
      s.gsFind m = some j → s.fromChild j m m.tree = some i → j.tileAt m.tile = some x → x.tr = m.tree → x.held = true →
      x.recs.contains i = false → leAt m.rest 2 1 / 2 % 2 = 1 →
      exec (.cRec bytes) s = .next ((s.done m).endCmd { j with gs := { j.gs with abortSt := some stPEERLOST } } stPEERLOST).after)

/-- A child's descriptor is compared and its count added; the root's answer, a header and a result from the parent
are kept, the first two forwarded (R224, R225, R226, R236, R348, notes/assumptions/45.md (a result before its tile)). -/
def Obligations.DescriptorsHeadersAndResultsTravelTheTree : Prop :=
  (∀ (bytes : List Byte) (m : Msg) (s : State) (j : Job) (i : Nat), accepted 0x20 bytes m s = true → s.gsFind m = some j →
      leAt m.rest 1 1 / 64 % 2 = 0 → s.fromChild j m (j.gs.treeOf 0) = some i → j.gs.next ≠ 0 →
      j.gs.kids.contains i = false →
      ∃ t : State, exec (.cDesc bytes) s = .next t.after
        ∧ t.job j.id = some { j with gs := { j.gs with
            kids := setAdd j.gs.kids i, cnt := j.gs.cnt + leAt m.rest 20 6,
            mism := j.gs.mism || decide (128 ≤ leAt m.rest 1 1) || s.descDiffers j m.rest } }
        ∧ t = { s with jobs := t.jobs, out := t.out })
    ∧ (∀ (bytes : List Byte) (m : Msg) (s : State) (j : Job), accepted 0x20 bytes m s = true → s.gsFind m = some j →
      leAt m.rest 1 1 / 64 % 2 = 1 → s.fromParent j m (j.gs.treeOf 0) = true → j.gs.down = none →
      ∃ t : State, exec (.cDesc bytes) s = .next t.after
        ∧ t.job j.id = some { j with gs := { j.gs with down := some (leAt m.rest 20 6, decide (128 ≤ leAt m.rest 1 1)) } }
        ∧ t.fab.txq.length = s.fab.txq.length + ((s.gsTree j).children (j.gs.treeOf 0)).length
        ∧ (∀ i ∈ (s.gsTree j).children (j.gs.treeOf 0), ∃ y ∈ t.fab.txq, y.typ = 0x20
            ∧ y.dst = s.rankDev j.ctx j.gsGroup i ∧ y.body.drop 8 = descOn m.rest))
    ∧ (∀ (bytes : List Byte) (m : Msg) (s : State) (j : Job) (x : GsTile), accepted 0x22 bytes m s = true →
      s.gsFind m = some j → leAt m.rest 2 1 / 2 % 2 = 0 → j.tileAt m.tile = some x → x.tr = m.tree → x.up = true →
      x.hdr = none → s.fromParent j m x.tr = true →
      ∃ t : State, exec (.cHdr bytes) s = .next t.after
        ∧ t.job j.id = some (j.setTile { x with hdr := some (sext 16 (leAt m.rest 0 2)), nf := leAt m.rest 2 1 % 2 == 1 })
        ∧ t.fab.txq.length = s.fab.txq.length + ((s.gsTree j).children x.tr).length
        ∧ (∀ i ∈ (s.gsTree j).children x.tr, ∃ y ∈ t.fab.txq, y.typ = 0x22
            ∧ y.dst = s.rankDev j.ctx j.gsGroup i
            ∧ y.body.drop 8 = recBytes (sext 16 (leAt m.rest 0 2)) (leAt m.rest 2 1 % 2 == 1) false))
    ∧ (∀ (bytes : List Byte) (m : Msg) (s : State) (j : Job) (x : GsTile), accepted 0x24 bytes m s = true →
      s.gsFind m = some j → (j.gsKind = .grid ∨ leAt m.rest 2 1 / 2 % 2 = 0) → j.tileAt m.tile = some x → x.tr = m.tree →
      x.res = none → s.fromParent j m x.tr = true →
      ∃ t : State, exec (.cRes bytes) s = .next t.after
        ∧ (t.job j.id).bind (fun j => (j.tileAt m.tile).bind fun y => y.res) = some (if j.gsKind = .grid then m.rest
            else leBytes 2 (leAt m.rest 0 2) ++ leBytes 2 (leAt m.rest 2 1 % 4) ++ m.rest.drop 4)
        ∧ t = { s with jobs := t.jobs, out := t.out })
    ∧ (∀ (bytes : List Byte) (m : Msg) (s : State) (j : Job), accepted 0x24 bytes m s = true →
      s.gsFind m = some j → (j.gsKind = .grid ∨ leAt m.rest 2 1 / 2 % 2 = 0) → j.tileAt m.tile = none →
      j.gs.next ≤ m.tile → m.tile < j.gsTiles → (∀ y ∈ j.gs.early, y.tile ≠ m.tile) → s.fromParent j m m.tree = true →
      ∃ t : State, exec (.cRes bytes) s = .next t.after
        ∧ t.job j.id = some { j with gs := { j.gs with early := j.gs.early ++ [m] } } ∧ t = { s with jobs := t.jobs })
    ∧ (∀ (bytes : List Byte) (m : Msg) (s : State), accepted 0x20 bytes m s = true → s.gsFind m = none →
      exec (.cDesc bytes) s = .next (s.done m).after)
    ∧ (∀ (bytes : List Byte) (m : Msg) (s : State), accepted 0x24 bytes m s = true → s.gsFind m = none →
      exec (.cRes bytes) s = .next (s.done m).after)

/-- The parent's credit covers a run of tiles, its acknowledgement marks sent ones, the first split notice is kept
and forwarded, an abort ends the command (R220, R221, R223, R245, R248, R256). -/
def Obligations.CreditsAcknowledgementsAndSplitsAreKept : Prop :=
  (∀ (bytes : List Byte) (m : Msg) (s : State) (j : Job), accepted 0x25 bytes m s = true → s.gsFind m = some j →
      s.fromParent j m m.tree = true →
      ∃ t : State, exec (.cCredit bytes) s = .next t.after
        ∧ t.job j.id = some { j with gs := { j.gs with
            cred := Tbl.put j.gs.cred [] m.tree (ivAdd (Tbl.at j.gs.cred [] m.tree) m.tile (m.tile + m.at_ 8 2)) } }
        ∧ t = { s with jobs := t.jobs, out := t.out })
    ∧ (∀ (bytes : List Byte) (m : Msg) (s : State) (j : Job), accepted 0x26 bytes m s = true → s.gsFind m = some j →
      s.fromParent j m m.tree = true →
      ∃ (t : State) (k : Job), exec (.cAck bytes) s = .next t.after ∧ t.job j.id = some k
        ∧ k.gs.tiles.length = j.gs.tiles.length
        ∧ (∀ x ∈ j.gs.tiles, m.tile ≤ x.t → x.t < m.tile + m.at_ 8 2 → x.tr = m.tree → x.sent = true →
            { x with acked := true } ∈ k.gs.tiles)
        ∧ (∀ x ∈ j.gs.tiles, ¬ (m.tile ≤ x.t ∧ x.t < m.tile + m.at_ 8 2 ∧ x.tr = m.tree ∧ x.sent = true) →
            x ∈ k.gs.tiles)
        ∧ t = { s with jobs := t.jobs, out := t.out })
    ∧ (∀ (bytes : List Byte) (m : Msg) (s : State) (j : Job), accepted 0x27 bytes m s = true → s.gsFind m = some j →
      j.gs.fixed = false → Tbl.find j.gs.ns (m.tile / 256) = none →
      ∃ (t : State) (k : Job), exec (.cSplit bytes) s = .next t.after ∧ t.job j.id = some k
        ∧ k.gs.nsOf (m.tile / 256) = some (m.at_ 8 2)
        ∧ (∀ b, b ≠ m.tile / 256 → k.gs.nsOf b = j.gs.nsOf b)
        ∧ t.fab.txq.length = s.fab.txq.length + ((s.gsTree j).children 0).length + ((s.gsTree j).children 1).length)
    ∧ (∀ (bytes : List Byte) (m : Msg) (s : State) (j : Job), accepted 0x27 bytes m s = true → s.gsFind m = some j →
      (Tbl.find j.gs.ns (m.tile / 256)).isSome = true →
      exec (.cSplit bytes) s = .next (s.done m).after)
    ∧ (∀ (bytes : List Byte) (m : Msg) (s : State) (j : Job), accepted 0x28 bytes m s = true → s.gsFind m = some j →
      (s.gsTree j).me = 0 →
      ∃ (t : State) (k : Job), exec (.cSplitrep bytes) s = .next t.after ∧ t.job j.id = some k
        ∧ Tbl.find k.gs.offAt (m.tile / 256) = some (m.at_ 8 8)
        ∧ t = { s with jobs := t.jobs, out := t.out })
    ∧ (∀ (bytes : List Byte) (m : Msg) (s : State) (j : Job), accepted 0x29 bytes m s = true → s.gsFind m = some j →
      exec (.cAbort bytes) s = .next
        ((s.done m).endCmd { j with gs := { j.gs with abortSt := some (m.at_ 8 1) } } stPEERLOST).after)

/-- A doorbell in the window marks its unit and the watermark passes every marked unit; duplicates are counted,
later ones held; tiles enter free slots in order (R216, R217, R240, R243, R247, R248, R512, R530). -/
def Obligations.DoorbellsAdvanceTheWatermarkAndTilesAreAdmitted : Prop :=
  (∀ (c : Ctx) (st : Fin 64) (u : W32) (s : State), s.live c = true → s.gs.heldDb = [] → s.get (GS_TRD.wmark c st) < 2 ^ 32 →
      (s.marksOf c st).length ≤ 256 → subMod 32 u.toNat (s.get (GS_TRD.wmark c st)) < 256 →
      ∃ t : State, exec (.trdDoorbell c st u) s = .next t.after ∧ t.get (GS_TRD.wmark c st) ∉ t.marksOf c st
        ∧ (u.toNat ≠ s.get (GS_TRD.wmark c st) → s.get (GS_TRD.wmark c st) ∉ s.marksOf c st →
            t.get (GS_TRD.wmark c st) = s.get (GS_TRD.wmark c st) ∧ u.toNat ∈ t.marksOf c st)
        ∧ (∀ x ∈ t.marksOf c st, x = u.toNat ∨ x ∈ s.marksOf c st)
        ∧ t = { s with regs := t.regs, gs := t.gs })
    ∧ (∀ (c : Ctx) (st : Fin 64) (u : W32) (s : State), s.live c = true → s.gs.heldDb = [] →
      2 ^ 31 ≤ subMod 32 u.toNat (s.get (GS_TRD.wmark c st)) →
      exec (.trdDoorbell c st u) s = .next (s.satInc (GS_TRD.dup c st) 1).after)
    ∧ (∀ (c : Ctx) (st : Fin 64) (u : W32) (s : State), s.live c = true → s.gs.heldDb = [] →
      256 ≤ subMod 32 u.toNat (s.get (GS_TRD.wmark c st)) → subMod 32 u.toNat (s.get (GS_TRD.wmark c st)) < 2 ^ 31 →
      ∃ t : State, exec (.trdDoorbell c st u) s = .next t ∧ t.gs.heldDb = [(c.val, st.val, u.toNat)]
        ∧ t.get (GS_TRD.held c st) = 1 ∧ t.get (GS_TRD.wmark c st) = s.get (GS_TRD.wmark c st)
        ∧ t = { s with regs := t.regs, gs := t.gs, out := t.out })
    ∧ (∀ (c : Ctx) (st : Fin 64) (v : W32) (s : State), s.gs.heldDb = [] →
      (s.jobs.any fun j => j.cmdOf c && j.opcode == opCOLLECTIVE && j.trd && j.gsStream == st.val) = false →
      ∃ t : State, exec (.trdWatermarkWrite c st v) s = .next t.after ∧ t.get (GS_TRD.wmark c st) = v.toNat
        ∧ t.marksOf c st = [] ∧ t.get (GS_TRD.pending c st) = 0 ∧ t = { s with regs := t.regs, gs := t.gs })
    ∧ (∀ (c : Ctx) (st : Fin 64) (v : W32) (s : State), v.toNat ≠ s.get (GS_TRD.wmark c st) →
      (s.jobs.any fun j => j.cmdOf c && j.opcode == opCOLLECTIVE && j.trd && j.gsStream == st.val) = true →
      exec (.trdWatermarkWrite c st v) s = .next (s.set GS_GSTAT.cfg_err 1))
    ∧ (∀ (c : Ctx) (st : Fin 64) (v : W32) (s : State), v.toNat = s.get (GS_TRD.wmark c st) →
      (s.jobs.any fun j => j.cmdOf c && j.opcode == opCOLLECTIVE && j.trd && j.gsStream == st.val) = true →
      exec (.trdWatermarkWrite c st v) s = .next s)
    ∧ (∀ (c : Ctx) (gcn : W32) (s : State) (j : Job) (n : Nat),
      (s.jobs.find? fun j => j.cmdOf c && j.isGs && j.ending.isNone && j.gcn == gcn.toNat) = some j →
      j.gs.next < j.gsTiles → s.stopped j = false → j.gs.nsOf (j.gs.next / 256) = some n → s.admits j = true →
      ∃ (t : State) (k : Job), exec (.slotAdmit c gcn j.gs.next) s = .next t.after ∧ t.job j.id = some k
        ∧ k.gs.next = j.gs.next + 1 ∧ (j.tileAt j.gs.next = none → k.holds j.gs.next = true)
        ∧ (∀ i ∈ (s.gsTree j).children (j.gs.treeOf j.gs.next), ∃ y ∈ t.fab.txq, y.typ = 0x25
            ∧ y.dst = s.rankDev j.ctx j.gsGroup i ∧ y.tag = j.gcn))
    ∧ (∀ (c : Ctx) (g : Fin 16) (v : W64) (s : State), nbits v.toNat 63 1 = 1 →
      s.get (GS_GRP_CFG.valid c g) = 0 → (s.writeGroup c g v.toNat).groupOk c g = true →
      ∃ t : State, exec (.groupValidate c g v) s = .next t.after ∧ t.is (GS_GRP_CFG.valid c g) = true
        ∧ t.get (GS_GRP_STAT.n c g) = (s.writeGroup c g v.toNat).groupSize c g % 2 ^ (GS_GRP_STAT.n c g).w
        ∧ t.get (GS_GRP_STAT.rank c g)
            = (s.writeGroup c g v.toNat).rankOf c g s.coord % 2 ^ (GS_GRP_STAT.rank c g).w
        ∧ t = { s with regs := t.regs })
    ∧ (∀ (c : Ctx) (g : Fin 16) (v : W64) (s : State), s.get (GS_GRP_CFG.valid c g) = 0 → nbits v.toNat 63 1 = 1 →
      (s.writeGroup c g v.toNat).groupOk c g = false →
      exec (.groupValidate c g v) s = .next ((s.writeGroup c g v.toNat).set (GS_GRP_STAT.cfg_err c g) 1).after)

/-- The near tree is rooted at rank 0 and the off tree at rank n − 1; a node's children are exactly the ranks whose
parent it is, in ascending order (R219). -/
def Obligations.TreeParentsAndChildrenAgree : Prop :=
  ∀ t : Tree, 1 ≤ t.n → 1 ≤ t.fan →
    t.root 0 = 0 ∧ t.root 1 = t.n - 1 ∧ t.parentOf 0 0 = none ∧ t.parentOf 1 (t.n - 1) = none
    ∧ (∀ i, 1 ≤ i → t.parentOf 0 i = some ((i - 1) / t.fan))
    ∧ (∀ i, i + 2 ≤ t.n → t.parentOf 1 i = some (t.n - 1 - (t.n - 2 - i) / t.fan))
    ∧ ∀ tr < 2, ∀ i < t.n,
        (∀ x, x ∈ t.childrenOf tr i ↔ x < t.n ∧ t.parentOf tr x = some i)
        ∧ (t.childrenOf tr i).Pairwise fun a b => a < b

/-- Lane sums of a grid tile are the same whatever the order in which own and children's partials are added (R224,
R255). -/
def Obligations.GridSumsDoNotDependOnTheOrder : Prop :=
  ∀ ls ls' : List (List Int), ls.Perm ls' → ls ≠ [] → (∀ l ∈ ls, l.length = 64) →
    ls.foldl addLanes [] = ls'.foldl addLanes []
    ∧ ∀ i < 64, (ls.foldl addLanes []).getD i 0 = (ls.map fun l => l.getD i 0).sum

/-- A valid form write enters FORMING and sends every other member a notice; agreement of all enters ENCODING, a
difference or dflt hall cycles end in OFF (R260, R263, R265, R266, R299, R533). -/
def Obligations.TeamsFormWhenEveryMemberAgrees : Prop :=
  (∀ (c : Ctx) (s : State), s.team c = tmOFF → s.get (TM_CFG.mode c) ≠ 0 → s.formOk c = true → (s.tmAt c).forms = [] →
      ∃ t : State, exec (.teamForm c) s = .next t.after ∧ t.team c = tmFORMING ∧ (t.tmAt c).vals = s.staged c
        ∧ (t.tmAt c).formAt = s.now ∧ t.get (TM_STAT.epoch c) = (s.staged c).epoch % 2 ^ (TM_STAT.epoch c).w
        ∧ t.fab.txq.length = s.fab.txq.length + ((s.staged c).n - 1)
        ∧ (∀ i < (s.staged c).n, i ≠ (s.staged c).index → ∃ x ∈ t.fab.txq, x.typ = 0x15 ∧ x.dst = (s.staged c).dev i
            ∧ x.body = leBytes 8 (t.get (TM_SHAPEF.digest c)))
        ∧ t = { s with regs := t.regs, tm := t.tm, fab := t.fab })
    ∧ (∀ (c : Ctx) (s : State), s.team c = tmOFF → s.get (TM_CFG.mode c) ≠ 0 → s.formOk c = false →
        exec (.teamForm c) s = .next (s.set (TM_STAT.form_err c) 1).after)
    ∧ (∀ (c : Ctx) (s : State), s.team c ≠ tmOFF → exec (.teamForm c) s = .next s.after)
    ∧ (∀ (bytes : List Byte) (m : Msg) (s : State), accepted 0x15 bytes m s = true → s.team m.ctx = tmOFF →
        m.gen = s.get (GL_CTX_STAT.gen m.ctx) →
        ∃ t : State, exec (.form bytes) s = .next t.after
          ∧ Tbl.find (t.tmAt m.ctx).forms m.member = some ⟨m.src, m.team, m.tag, m.epoch, m.at_ 0 8, s.now⟩
          ∧ t = { s with tm := t.tm, out := t.out })
    ∧ (∀ (bytes : List Byte) (m : Msg) (s : State), accepted 0x15 bytes m s = true → s.team m.ctx = tmFORMING →
        m.gen = s.get (GL_CTX_STAT.gen m.ctx) →
        s.judged m.ctx m.member ⟨m.src, m.team, m.tag, m.epoch, m.at_ 0 8, s.now⟩ = true →
        s.agrees m.ctx ⟨m.src, m.team, m.tag, m.epoch, m.at_ 0 8, s.now⟩ = true →
        (∀ e ∈ (s.tmAt m.ctx).forms, s.judged m.ctx e.1 e.2 = true → s.agrees m.ctx e.2 = true) →
        (∀ i < (s.tmAt m.ctx).vals.n, i ≠ (s.tmAt m.ctx).vals.index → i ≠ m.member →
          ∃ f : FormNote, Tbl.find (s.tmAt m.ctx).forms i = some f ∧ s.judged m.ctx i f = true
            ∧ s.agrees m.ctx f = true) →
        ∃ t : State, exec (.form bytes) s = .next t.after ∧ t.team m.ctx = tmENCODING ∧ (t.tmAt m.ctx).forms = []
          ∧ (t.tmAt m.ctx).vals = (s.tmAt m.ctx).vals)
    ∧ (∀ (bytes : List Byte) (m : Msg) (s : State), accepted 0x15 bytes m s = true → s.team m.ctx = tmFORMING →
        m.gen = s.get (GL_CTX_STAT.gen m.ctx) →
        s.judged m.ctx m.member ⟨m.src, m.team, m.tag, m.epoch, m.at_ 0 8, s.now⟩ = true →
        s.agrees m.ctx ⟨m.src, m.team, m.tag, m.epoch, m.at_ 0 8, s.now⟩ = false →
        ∃ t : State, exec (.form bytes) s = .next t.after ∧ t.team m.ctx = tmOFF ∧ t.is (TM_STAT.form_err m.ctx) = true)
    ∧ (∀ (c : Ctx) (s : State), s.team c = tmFORMING → (s.tmAt c).formAt + s.get (GL_CTX_TMO.dflt c) ≤ s.now →
        ∃ t : State, exec (.formationTimeout c) s = .next t.after ∧ t.team c = tmOFF ∧ t.is (TM_STAT.form_err c) = true
          ∧ t.tmAt c = {})

/-- A checked apply waits until no voted STEP_END is undecided, then its values and the state of R268 are in force;
a dissolve ends in OFF at the same point (R265, R267, R268, R269, R299). -/
def Obligations.AppliesAndDissolvesTakeEffectAtTheirPoint : Prop :=
  (∀ (c : Ctx) (s : State), (s.tmAt c).pending = none → s.team c ≠ tmOFF → s.team c ≠ tmFORMING → s.applyOk c = true →
      ∃ t : State, exec (.teamApply c) s = .next t.after ∧ (t.tmAt c).pending = some (s.staged c)
        ∧ (t.tmAt c).vals = (s.tmAt c).vals ∧ t.get (TM_CTL.apply c) = 1 ∧ t = { s with regs := t.regs, tm := t.tm })
    ∧ (∀ (c : Ctx) (s : State), (s.tmAt c).pending = none →
        (s.team c = tmOFF ∨ s.team c = tmFORMING ∨ s.applyOk c = false) →
        exec (.teamApply c) s = .next (s.set (TM_STAT.cfg_err c) 1).after)
    ∧ (∀ (c : Ctx) (s : State), (s.tmAt c).pending.isSome = true → exec (.teamApply c) s = .next s.after)
    ∧ (∀ (c : Ctx) (s : State) (v : TeamVals), (s.tmAt c).pending = some v → (s.cmAt c).own = none → s.phase c ≠ phARMED →
        (s.cmAt c).abortPend = none →
        ∃ t : State, exec (.teamApplyEffect c) s = .next t.after ∧ (t.tmAt c).vals = v ∧ (t.tmAt c).pending = none
          ∧ t.team c = teamNext (s.team c) (s.tmAt c).vals v ∧ t.get (TM_CTL.apply c) = 0
          ∧ t.get (TM_STAT.epoch c) = v.epoch % 2 ^ (TM_STAT.epoch c).w
          ∧ (∀ n < 16, ∀ i ∈ (t.stbAt n).ready, i / 16 ≠ c.val))
    ∧ (∀ (c : Ctx) (s : State), (s.tmAt c).pending.isSome = true →
        ((s.cmAt c).own.isSome = true ∨ s.phase c = phARMED ∨ (s.cmAt c).abortPend.isSome = true) →
        exec (.teamApplyEffect c) s = .next s)
    ∧ (∀ (c : Ctx) (s : State), s.team c ≠ tmOFF → (s.cmAt c).own = none → s.phase c ≠ phARMED →
        (s.cmAt c).abortPend = none →
        ∃ t : State, exec (.teamDissolve c) s = .next t.after ∧ t.team c = tmOFF ∧ t.tmAt c = {}
          ∧ (∀ n < 16, s.get (TM_STB.ctx n) = c.val → t.is (TM_STB.coded n) = false))
    ∧ (∀ (c : Ctx) (s : State), s.team c ≠ tmOFF →
        ((s.cmAt c).own.isSome = true ∨ s.phase c = phARMED ∨ (s.cmAt c).abortPend.isSome = true) →
        exec (.teamDissolve c) s = .next (s.setTm c { s.tmAt c with dissolvePend := true }).after)

/-- A delta waits in the REQ buffer and is applied or dropped, replies free their request, fetches are served,
stable notices are kept, a stale slot is recoded (R279, R280, R281, R283, R287, R289, R292, R352, R383,
notes/assumptions/24.md (a slot without parity)). -/
def Obligations.TeamMessagesAreBufferedServedAndAnswered : Prop :=
  (∀ (bytes : List Byte) (m : Msg) (s : State), accepted 0x10 bytes m s = true →
      ∃ (t : State) (r : InReq), exec (.delta bytes) s = .next t.after ∧ t.fab.reqs = s.fab.reqs ++ [r] ∧ r.msg = m
        ∧ r.busy = false
        ∧ t.get (TM_HSTAT.held m.ctx) = (if s.deltaEarly m then
            min (2 ^ (TM_HSTAT.held m.ctx).w - 1) (s.get (TM_HSTAT.held m.ctx) + 1) % 2 ^ (TM_HSTAT.held m.ctx).w
          else s.get (TM_HSTAT.held m.ctx))
        ∧ t = { s with regs := t.regs, fab := t.fab })
    ∧ (∀ (q : InReq) (s : State), s.teamMsgOk q.msg = true → s.deltaEarly q.msg = false → s.deltaBad q.msg = false →
        (s.serveDelta q).jobs.length = s.jobs.length + 1
          ∧ ∃ j ∈ (s.serveDelta q).jobs, j.owner = .delta q.msg ∧ j.segs = [.apply])
    ∧ (∀ (q : InReq) (s : State),
        (s.teamMsgOk q.msg = false ∨ (s.deltaEarly q.msg = false ∧ s.deltaBad q.msg = true)) →
        (s.serveDelta q).jobs = s.jobs
          ∧ ∃ x ∈ (s.serveDelta q).fab.txq, x.dst = q.msg.src ∧ x.at_ 0 1 = stREMOTEDROPPED ∧ x.at_ 1 1 = q.msg.typ % 256)
    ∧ (∀ (bytes : List Byte) (m : Msg) (s : State) (o : FabOut), accepted 0x11 bytes m s = true → s.asked m = some o →
        ∃ t : State, exec (.fragAck bytes) s = .next t.after ∧ t.fab.outs = dropOut s.fab.outs o
          ∧ t = { s with regs := t.regs, fab := t.fab, out := t.out })
    ∧ (∀ (bytes : List Byte) (m : Msg) (s : State) (o : FabOut), accepted 0x12 bytes m s = true → s.asked m = some o →
        o.typ = 0x10 → o.stripe < 2 ^ 43 → o.cseq = s.get (CM_STAT.cseq o.ctx) → (s.cmAt o.ctx).own = none →
        s.phase o.ctx ≠ phVOTED → s.phase o.ctx ≠ phARMED → s.phase o.ctx ≠ phINDOUBT →
        ∃ t : State, exec (.fragDrop bytes) s = .next t.after ∧ t.is (CM_STAT.failed o.ctx) = true)
    ∧ (∀ (bytes : List Byte) (m : Msg) (s : State), accepted 0x13 bytes m s = true → s.team m.ctx = tmFORMING →
        exec (.fetch bytes) s = .next ((s.drop m stREMOTEDROPPED).done m).after)
    ∧ (∀ (bytes : List Byte) (m : Msg) (s : State), accepted 0x13 bytes m s = true → s.team m.ctx ≠ tmFORMING →
        imageOf m.stripe ≠ 0 → (16 < imageOf m.stripe ∨ s.slotParity m.ctx (imageOf m.stripe - 1) = false) →
        exec (.fetch bytes) s = .next ((s.drop m stMEMLOST).done m).after)
    ∧ (∀ (bytes : List Byte) (m : Msg) (s : State), accepted 0x13 bytes m s = true → s.team m.ctx ≠ tmFORMING →
        (imageOf m.stripe = 0 ∨ (imageOf m.stripe ≤ 16 ∧ s.slotParity m.ctx (imageOf m.stripe - 1) = true)) →
        ∃ (t : State) (j : Job), exec (.fetch bytes) s = .next t.after ∧ t.jobs = s.jobs ++ [j] ∧ j.owner = .fetch m
          ∧ j.ctx = m.ctx ∧ j.cls = (if m.rcv then 2 else 0)
          ∧ t = { s with regs := t.regs, fab := t.fab, jobs := t.jobs, nextJob := t.nextJob })
    ∧ (∀ (bytes : List Byte) (m : Msg) (s : State) (o : FabOut) (j : Job), accepted 0x14 bytes m s = true →
        s.asked m = some o → s.job o.job = some j → j.ending = none → j.isCommand = true →
        exec (.fetchData bytes) s = .next (((s.done m).endOut o).fetchedAudit o m).after)
    ∧ (∀ (bytes : List Byte) (m : Msg) (s : State) (o : FabOut) (j : Job) (c : Nat), accepted 0x14 bytes m s = true →
        s.asked m = some o → s.job o.job = some j → j.ending = none → j.owner = .rebuild c →
        Tbl.find s.rec_.rebStep c = none →
        ∃ t : State, exec (.fetchData bytes) s = .next t.after ∧ Tbl.find t.rec_.rebStep c = some m.step
          ∧ t.get (TM_REB_STAT.step c) = m.step % 2 ^ (TM_REB_STAT.step c).w ∧ t.jobs.length = s.jobs.length + 1)
    ∧ (∀ (bytes : List Byte) (m : Msg) (s : State), accepted 0x16 bytes m s = true → imageOf m.stripe ≠ 0 →
        imageOf m.stripe ≤ 16 →
        ∃ t : State, exec (.stbReady bytes) s = .next t.after
          ∧ 16 * m.ctx + m.member ∈ (t.stbAt (imageOf m.stripe - 1)).ready
          ∧ (∀ n, n ≠ imageOf m.stripe - 1 → t.stbAt n = s.stbAt n) ∧ t = { s with stb := t.stb, out := t.out })
    ∧ (∀ (bytes : List Byte) (m : Msg) (s : State), accepted 0x17 bytes m s = true → imageOf m.stripe ≠ 0 →
        imageOf m.stripe ≤ 16 →
        ∃ t : State, exec (.stbDone bytes) s = .next t.after
          ∧ 16 * m.ctx + m.member ∈ (t.stbAt (imageOf m.stripe - 1)).done
          ∧ (∀ n, n ≠ imageOf m.stripe - 1 → t.stbAt n = s.stbAt n) ∧ t = { s with stb := t.stb, out := t.out })
    ∧ (∀ (slot : Fin 16) (s : State), s.is (TM_STB.stale slot) = true → s.is (TM_STB.coded slot) = true →
        s.team (s.get (TM_STB.ctx slot)) = tmPROTECTED → s.recoding slot = false →
        s.get (TM_STB.offset slot) * 4096 + 4096 * (cdiv (s.imageSize (s.slotRgns slot))
            (4096 * (s.tmAt (s.get (TM_STB.ctx slot))).vals.k) * (s.tmAt (s.get (TM_STB.ctx slot))).vals.r)
          ≤ (s.rgn (s.get (TM_CFG.spar (s.get (TM_STB.ctx slot))))).count →
        ∃ (t : State) (j : Job), exec (.stableRecode slot) s = .next t.after ∧ t.jobs = s.jobs ++ [j]
          ∧ j.owner = .recode slot ∧ t = { s with regs := t.regs, jobs := t.jobs, nextJob := t.nextJob })

/-- An accepted PUT or GET waits in the REQ buffer until its granules are written or its data read; its
acknowledgement frees the request's place (R342, R349, R356, R357, R359, R362). -/
def Obligations.CopiesAreBufferedWrittenAndAnswered : Prop :=
  (∀ (bytes : List Byte) (m : Msg) (s : State), accepted 0x01 bytes m s = true → s.putParts m ≠ [] →
      (∀ r ∈ s.fab.reqs, r.id < s.fab.nextId) →
      ∃ (t : State) (r : InReq), exec (.putData bytes) s = .next t.after ∧ t.fab.reqs = s.fab.reqs ++ [r] ∧ r.msg = m
        ∧ r.busy = false ∧ (∀ p ∈ s.putParts m, p.1 ∈ r.todo)
        ∧ t.get FB_INQ.req_used = (s.get FB_INQ.req_used + 1) % 2 ^ FB_INQ.req_used.w
        ∧ t = { s with regs := t.regs, fab := t.fab })
    ∧ (∀ (bytes : List Byte) (m : Msg) (s : State), accepted 0x01 bytes m s = true → s.putParts m = [] →
      (∀ r ∈ s.fab.reqs, r.id < s.fab.nextId) →
      ∃ (t : State) (x : Msg), exec (.putData bytes) s = .next t.after ∧ t.fab.reqs = s.fab.reqs
        ∧ t.fab.txq = s.fab.txq ++ [x] ∧ x.typ = 0x02 ∧ x.dst = m.src ∧ x.tag = m.tag ∧ x.gen = m.sgen)
    ∧ (∀ (n : Slice) (granule : Nat) (s : State), s.inFlight.length < 32 →
      (s.inFlight.any fun j => j.value == gKey n granule) = false → s.mem.resetHigh = false →
      s.takers (gKey n granule) ≠ [] → (∀ q ∈ s.takers (gKey n granule), s.regionCheck q.msg = .accept) →
      ∃ (t : State) (j : Job), exec (.inboundGranuleUpdate n granule) s = .next t.after ∧ t.jobs = s.jobs ++ [j]
        ∧ j.owner = .inbound ((s.takers (gKey n granule)).map (·.id)) ∧ j.value = gKey n granule
        ∧ (∀ q ∈ s.takers (gKey n granule), ∀ r ∈ t.fab.reqs, r.id = q.id → gKey n granule ∉ r.todo)
        ∧ t = { s with regs := t.regs, fab := t.fab, jobs := t.jobs, nextJob := t.nextJob })
    ∧ (∀ (bytes : List Byte) (m : Msg) (s : State) (o : FabOut), accepted 0x02 bytes m s = true → s.asked m = some o →
      ∃ t : State, exec (.putAck bytes) s = .next t.after ∧ t.fab.outs = dropOut s.fab.outs o
        ∧ t = { s with regs := t.regs, fab := t.fab, out := t.out })
    ∧ (∀ (bytes : List Byte) (m : Msg) (s : State) (o : FabOut) (j : Job), accepted 0x04 bytes m s = true →
      s.asked m = some o → s.job o.job = some j → j.ending = none →
      ∃ t : State, exec (.getData bytes) s = .next t.after ∧ t.fab.outs = dropOut s.fab.outs o
        ∧ t.job j.id = some { j with
            hold := .run, segs := j.segs ++ [.put (j.arg 24 1 % 64) 0 false (j.localOff + o.lo) (m.body.take o.n)] }
        ∧ t = { s with regs := t.regs, fab := t.fab, out := t.out, jobs := t.jobs })
    ∧ (∀ (bytes : List Byte) (m : Msg) (s : State), accepted 0x03 bytes m s = true →
      ∃ (t : State) (r : InReq), exec (.getReq bytes) s = .next t.after ∧ t.fab.reqs = s.fab.reqs ++ [r] ∧ r.msg = m
        ∧ r.busy = false ∧ t = { s with regs := t.regs, fab := t.fab })
    ∧ (∀ (q : InReq) (s : State), q.busy = false → q.msg.typ = 0x03 →
      (∀ r ∈ s.fab.reqs, r.id < q.id → r.msg.src = q.msg.src → r.msg.ctx = q.msg.ctx →
        r.msg.typ ≠ 0x01 ∧ r.msg.typ ≠ 0x05) →
      ∃ j : Job, (s.serveReq q).jobs = s.jobs ++ [j] ∧ j.owner = .serve q.msg ∧ j.segs = [.answerGet])

/-- A notice is acknowledged behind earlier messages, a drop ends its command, parts go on down the tree, credits
count up, a bad check or type is counted (R128, R344, R347, R349, R352, R360, R363, R405, R406, R516). -/
def Obligations.NoticesDropsPartsCreditsAndUnknownTypes : Prop :=
  (∀ (bytes : List Byte) (m : Msg) (s : State), accepted 0x05 bytes m s = true →
      ∃ (t : State) (r : InReq), exec (.genNotice bytes) s = .next t.after ∧ t.fab.reqs = s.fab.reqs ++ [r] ∧ r.msg = m
        ∧ r.busy = false ∧ t = { s with regs := t.regs, fab := t.fab })
    ∧ (∀ (q : InReq) (s : State), q.busy = false → q.msg.typ = 0x05 →
      (∀ r ∈ s.fab.reqs, r.id < q.id → r.msg.src = q.msg.src → r.msg.ctx = q.msg.ctx → msgOrdered r.msg.typ = false) →
      ∃ x : Msg, (s.serveReq q).fab.txq = s.fab.txq ++ [x] ∧ x.typ = 0x06 ∧ x.dst = q.msg.src
        ∧ x.body = padTo 4 (q.msg.body.take 2))
    ∧ (∀ (bytes : List Byte) (m : Msg) (s : State) (o : FabOut), accepted 0x06 bytes m s = true → s.asked m = some o →
      ∃ t : State, exec (.genAck bytes) s = .next t.after
        ∧ (t.cxAt m.ctx).tdNotice = (s.cxAt m.ctx).tdNotice.filter (· ≠ m.src) ∧ t.fab.outs = dropOut s.fab.outs o
        ∧ t = { s with regs := t.regs, cx := t.cx, fab := t.fab, out := t.out })
    ∧ (∀ (bytes : List Byte) (m : Msg) (s : State) (o : FabOut) (j : Job), accepted 0x07 bytes m s = true →
      s.asked m = some o → s.job o.job = some j → j.ending = none →
      exec (.drop bytes) s = .next (((s.done m).endCmd j (m.at_ 0 1)).endOut o).after)
    ∧ (∀ (bytes : List Byte) (m : Msg) (s : State) (g : Nat), accepted 0x3A bytes m s = true →
      s.bcastGroup m.ctx m.bit2 m.src = some g →
      ∃ t : State, exec (.jobBcast bytes) s = .next t.after ∧ t.jobs = s.jobs.map (fun j => j.keepPart m s.now)
        ∧ t.fab.txq.length = s.fab.txq.length + ((s.tree m.ctx g).children m.bit2).length
        ∧ (∀ i ∈ (s.tree m.ctx g).children m.bit2, ∃ x ∈ t.fab.txq, x.typ = 0x3A ∧ x.dst = s.rankDev m.ctx g i
            ∧ x.body = m.body.take 8 ++ leBytes 8 0 ++ m.body.drop 16)
        ∧ t = { s with jobs := t.jobs, fab := t.fab, out := t.out })
    ∧ (∀ (bytes : List Byte) (m : Msg) (s : State), unknownType bytes = true → parseMsg bytes = some m →
      s.verdict m = .accept →
      ∃ t : State, exec (.unknownMessageType bytes) s = .next t.after
        ∧ t.get FB_STAT.drop_other = min 65535 (s.get FB_STAT.drop_other + 1)
        ∧ t = { s with regs := t.regs, out := t.out })
    ∧ (∀ (bytes : List Byte) (s : State), leAt bytes 0 1 = 0x30 → parseMsg bytes = none →
      ∃ t : State, exec (.vote bytes) s = .next t.after ∧ t.get FB_STAT.crc_err = min 65535 (s.get FB_STAT.crc_err + 1)
        ∧ t = { s with regs := t.regs, out := t.out })
    ∧ (∀ (link : Fin 19) (bytes : List Byte) (s : State), leAt bytes 0 1 / 4 = 0x30 → leAt bytes 1 1 < 2 →
      ∃ t : State, exec (.creditWord link bytes) s = .next t
        ∧ Tbl.at t.fab.msgCr 0 (crKey link (leAt bytes 0 1 % 4)) = leAt bytes 2 2
            + (if leAt bytes 1 1 = 1 then 0 else Tbl.at s.fab.msgCr 0 (crKey link (leAt bytes 0 1 % 4)))
        ∧ Tbl.at t.fab.datCr 0 (crKey link (leAt bytes 0 1 % 4)) = leAt bytes 4 4
            + (if leAt bytes 1 1 = 1 then 0 else Tbl.at s.fab.datCr 0 (crKey link (leAt bytes 0 1 % 4)))
        ∧ (∀ k, k ≠ crKey link (leAt bytes 0 1 % 4) → Tbl.at t.fab.msgCr 0 k = Tbl.at s.fab.msgCr 0 k)
        ∧ t = { s with fab := t.fab })

/-- A lane that goes down is counted and leaves the width; one that comes back is SPARE; a rebuild gives up to 16
lanes logical numbers in order (R334, R336, R337, R436, R517). -/
def Obligations.LanesGoDownComeBackAndAreMappedAgain : Prop :=
  (∀ (p : Fin 18) (s : State), s.lane p = lnACTIVE ∨ s.lane p = lnSPARE →
      ∃ t : State, exec (.laneDown p) s = .next t.after ∧ t.lane p = lnDOWN ∧ p.val ∈ t.fab.laneDn ∧ t.fab.rebuildPend = true
        ∧ t.get (FB_LANE.downs p) = min 65535 (s.get (FB_LANE.downs p) + 1)
        ∧ nbits (t.get GL_IRQ_STAT.cause) 20 1 = 1
        ∧ t.get FB_STAT.m = ((List.range 18).filter fun q => t.lane q == lnACTIVE).length
        ∧ (t.is FB_STAT.narrow = true ↔ t.get FB_STAT.m < 16)
        ∧ ∀ q < 18, q ≠ p.val → t.lane q = s.lane q ∧ t.get (FB_LANE.logical q) = s.get (FB_LANE.logical q))
    ∧ (∀ (p : Fin 18) (s : State), s.lane p ≠ lnACTIVE → s.lane p ≠ lnSPARE →
      exec (.laneDown p) s = .next (s.setFab { s.fab with laneDn := setAdd s.fab.laneDn p }).after)
    ∧ (∀ (p : Fin 18) (s : State), (s.lane p = lnDOWN ∨ s.lane p = lnOUT) → nbits (s.get FB_LANE_CTL.out) p 1 ≠ 1 →
      ∃ t : State, exec (.laneUp p) s = .next t.after ∧ t.lane p = lnSPARE ∧ p.val ∉ t.fab.laneDn
        ∧ t.get (FB_LANE.mapped p) = 0 ∧ t.get (FB_LANE.logical p) = 0
        ∧ t.out.length = s.out.length + 4 ∧ t.free = s.free + 8
        ∧ ∀ q < 18, q ≠ p.val → t.lane q = s.lane q)
    ∧ (∀ (p : Fin 18) (s : State), ¬ ((s.lane p = lnDOWN ∨ s.lane p = lnOUT) ∧ nbits (s.get FB_LANE_CTL.out) p 1 ≠ 1) →
      ∃ t : State, exec (.laneUp p) s = .next t.after ∧ p.val ∉ t.fab.laneDn ∧ t.regs = s.regs)
    ∧ (∀ (v : W64) (s : State),
      ∃ t : State, exec (.laneMapApply v) s = .next t.after ∧ t.get FB_LANE_CTL.out = v.toNat % 2 ^ 18
        ∧ (fget v 63 1 = 1 → t.get FB_LANE_CTL.apply = 1 ∧ t.fab.rebuildPend = true)
        ∧ (fget v 63 1 ≠ 1 → t.get FB_LANE_CTL.apply = s.get FB_LANE_CTL.apply ∧ t.fab = s.fab)
        ∧ t = { s with regs := t.regs, fab := t.fab })
    ∧ (∀ s : State, s.fab.rebuildPend = true → (s.fab.rebuildDue = true ∨ s.anyTicks = false) →
      ∃ t : State, exec .laneMapRebuild s = .next t.after ∧ t.fab.rebuildPend = false ∧ t.get FB_LANE_CTL.apply = 0
        ∧ (∀ l p, s.lanesOut.laneOrder[l]? = some p → l < 16 ∧ p < 18 ∧ t.lane p = lnACTIVE
            ∧ t.get (FB_LANE.mapped p) = 1 ∧ t.get (FB_LANE.logical p) = l)
        ∧ (∀ p < 18, (nbits (s.get FB_LANE_CTL.out) p 1 = 1 ∨ s.lane p = lnDOWN) → t.lane p = lnOUT)
        ∧ t.get FB_STAT.m = ((List.range 18).filter fun q => t.lane q == lnACTIVE).length)
    ∧ (∀ s : State, ∃ t : State, exec .inqPeakClear s = .next t
        ∧ t.get FB_INQ.req_peak = s.get FB_INQ.req_used % 2 ^ FB_INQ.req_peak.w ∧ t = { s with regs := t.regs })

/-- An accepted REPORT merges into the entry of its subject and kind or takes a free one, a full table counts; a
window's end reports the count; a release frees (R366, R367, R368, R412). -/
def Obligations.ReportsAreMergedFollowedUpAndReleased : Prop :=
  (∀ (bytes : List Byte) (m : Msg) (s : State) (i : Nat), accepted 0x3B bytes m s = true → s.rec_.seqDown = false →
      s.rec_.seqStop = false → s.is DG_REP_CFG.accept = true → s.rinFind (m.at_ 0 2) (m.at_ 2 1) = some i →
      ∃ t : State, exec (.report bytes) s = .next t.after
        ∧ t.get (DG_RIN_ID.msgs i) = min (2 ^ (DG_RIN_ID.msgs i).w - 1) (s.get (DG_RIN_ID.msgs i) + 1)
        ∧ t.get (DG_RIN_CNT.count i) = min (2 ^ (DG_RIN_CNT.count i).w - 1) (s.get (DG_RIN_CNT.count i) + m.at_ 4 4)
        ∧ t.get (DG_RIN_T.first i) = min (s.get (DG_RIN_T.first i)) (m.at_ 8 8) % 2 ^ (DG_RIN_T.first i).w
        ∧ t.get DG_RIN_STAT.entries = s.get DG_RIN_STAT.entries ∧ t = { s with regs := t.regs, out := t.out })
    ∧ (∀ (bytes : List Byte) (m : Msg) (s : State) (i : Nat), accepted 0x3B bytes m s = true → s.rec_.seqDown = false →
      s.rec_.seqStop = false → s.is DG_REP_CFG.accept = true → s.rinFind (m.at_ 0 2) (m.at_ 2 1) = none →
      ((List.range 256).find? fun i => !s.is (DG_RIN_ID.valid i)) = some i →
      ∃ t : State, exec (.report bytes) s = .next t.after ∧ t.is (DG_RIN_ID.valid i) = true
        ∧ t.get (DG_RIN_ID.subject i) = m.at_ 0 2 ∧ t.get (DG_RIN_ID.kind i) = m.at_ 2 1
        ∧ t.get (DG_RIN_ID.msgs i) = 1 ∧ t.get (DG_RIN_CNT.count i) = m.at_ 4 4 ∧ t.get (DG_RIN_T.first i) = m.at_ 8 8
        ∧ t.get DG_RIN_STAT.entries = (s.get DG_RIN_STAT.entries + 1) % 2 ^ DG_RIN_STAT.entries.w
        ∧ nbits (t.get GL_IRQ_STAT.cause) 16 1 = 1 ∧ t = { s with regs := t.regs, out := t.out })
    ∧ (∀ (bytes : List Byte) (m : Msg) (s : State), accepted 0x3B bytes m s = true → s.rec_.seqDown = false →
      s.rec_.seqStop = false → s.is DG_REP_CFG.accept = true → s.rinFind (m.at_ 0 2) (m.at_ 2 1) = none →
      (∀ i < 256, s.is (DG_RIN_ID.valid i) = true) →
      ∃ t : State, exec (.report bytes) s = .next t.after
        ∧ t.get DG_RIN_STAT.overflow = min (2 ^ DG_RIN_STAT.overflow.w - 1) (s.get DG_RIN_STAT.overflow + 1)
        ∧ ∀ l : Loc, l.key ≠ DG_RIN_STAT.overflow.key → t.get l = s.get l)
    ∧ (∀ (bytes : List Byte) (m : Msg) (s : State), accepted 0x3B bytes m s = true → s.rec_.seqDown = false →
      s.rec_.seqStop = false → s.is DG_REP_CFG.accept = false → exec (.report bytes) s = .next (s.done m).after)
    ∧ (∀ (bytes : List Byte) (m : Msg) (s : State), accepted 0x3B bytes m s = true →
      (s.rec_.seqDown = true ∨ s.rec_.seqStop = true) →
      exec (.report bytes) s = .next (s.setRec { s.rec_ with waiting := s.rec_.waiting ++ [m] }).after)
    ∧ (∀ (subject : W16) (kind : Byte) (s : State) (e : RepEnt), repFind s.rec_.reps subject.toNat kind.toNat = some e →
      e.wstart + s.get DG_REP_CFG.window ≤ s.now →
      ∃ t : State, exec (.reportWindowEnd subject kind) s = .next t.after
        ∧ repFind t.rec_.reps subject.toNat kind.toNat = none
        ∧ t.fab.txq.length = s.fab.txq.length + (if e.count = 0 then 0 else s.managers.length)
        ∧ (e.count ≠ 0 → ∀ d ∈ s.managers, ∃ x ∈ t.fab.txq, x.typ = 0x3B ∧ x.dst = d))
    ∧ (∀ (i : Fin 256) (s : State), s.is (DG_RIN_ID.valid i) = true →
      ∃ t : State, exec (.reportRelease i) s = .next t ∧ t.is (DG_RIN_ID.valid i) = false ∧ t.get (DG_RIN_CNT.count i) = 0
        ∧ t.get DG_RIN_STAT.entries = (s.get DG_RIN_STAT.entries - 1) % 2 ^ DG_RIN_STAT.entries.w
        ∧ t = { s with regs := t.regs })

/-- A silent period starts a collection, then a restart or, within esc of the watchdog's last restart, a block reset; so
do writes of DG_RST_CTL; a reset keeps the meter and the collect summary; the fill's end brings memory up (R73, R368,
R369, R370, R373, R412, R415, R416, R511, R523, notes/assumptions/36.md (what a reset samples again)). -/
def Obligations.WatchdogCollectionResetAndFill : Prop :=
  (∀ s : State, exec .watchdogKick s = .next (s.setRec { s.rec_ with kickAt := s.now }))
    ∧ (∀ s : State, s.rec_.coll = none → s.rec_.seqDown = false → s.is DG_FILL.done = true →
      s.rec_.kickAt + 2 * s.get DG_WDT.period ≤ s.now → (∀ t, s.rec_.restartAt = some t → t + s.get DG_WDT.esc < s.now) →
      exec .watchdogExpiry s = .next (s.startColl 1 .seq).after
        ∧ (s.startColl 1 .seq).rec_.coll = some ⟨1, .seq, s.now, true⟩)
    ∧ (∀ (s : State) (r : Nat), s.rec_.coll = none → s.rec_.seqDown = false → s.is DG_FILL.done = true →
      s.rec_.kickAt + 2 * s.get DG_WDT.period ≤ s.now → s.rec_.restartAt = some r → s.now ≤ r + s.get DG_WDT.esc →
      exec .watchdogExpiry s = .next (s.startColl 4 .block).after
        ∧ (s.startColl 4 .block).rec_.coll = some ⟨4, .block, s.now, true⟩)
    ∧ (∀ s : State, (s.rec_.coll ≠ none ∨ s.rec_.seqDown = true ∨ s.is DG_FILL.done = false
        ∨ s.now < s.rec_.kickAt + 2 * s.get DG_WDT.period) → exec .watchdogExpiry s = .next s)
    ∧ (∀ s : State, s.rec_.seqDown = false → s.is DG_RST_CTL.seq = false →
      let t := (s.set DG_RST_CTL.seq 1).startColl 2 .seq
      exec .sequencerRestart s = .next t.after ∧ t.is DG_RST_CTL.seq = true
        ∧ t.rec_.coll = some (s.rec_.coll.getD ⟨2, .seq, s.now, true⟩))
    ∧ (∀ s : State, (s.rec_.seqDown = true ∨ s.is DG_RST_CTL.seq = true) → exec .sequencerRestart s = .next s)
    ∧ (∀ s : State, s.is DG_RST_CTL.block = false →
      let t := (s.set DG_RST_CTL.block 1).startColl 2 .block
      exec .blockReset s = .next t.after ∧ t.is DG_RST_CTL.block = true
        ∧ t.rec_.coll = some (match s.rec_.coll with
            | some k => { k with after := .block }
            | none => ⟨2, .block, s.now, true⟩))
    ∧ (∀ s : State, s.is DG_RST_CTL.block = true → exec .blockReset s = .next s)
    ∧ (∀ (s : State) (k : CollS), s.rec_.coll = some k → k.waiting = false → k.after = .seq →
      (s.is DG_COLL_SUM.complete = true ∨ k.start + 15625 ≤ s.now) →
      let t := s.afterColl k
      exec .collectionEnd s = .next t.after ∧ t.rec_.seqDown = true ∧ t.rec_.coll = none ∧ t.rec_.reps = []
        ∧ t.rec_.restartAt = (if k.reason = 1 then some s.now else s.rec_.restartAt) ∧ t.get DG_RIN_STAT.entries = 0
        ∧ (∀ i < 256, t.is (DG_RIN_ID.valid i) = false))
    ∧ (∀ (s : State) (k : CollS), s.rec_.coll = some k → k.waiting = false → k.after = .block →
      (s.is DG_COLL_SUM.complete = true ∨ k.start + 15625 ≤ s.now) →
      let t := s.afterColl k
      exec .collectionEnd s = .next t.after ∧ t.get GL_RST_STAT.cause = 1 ∧ t.get DG_FILL.done = 0
        ∧ t.mem.resetHigh = true ∧ t.jobs = [] ∧ (∀ c < 4, t.ctxState c = 0 ∧ t.team c = tmOFF ∧ t.phase c = phOPEN)
        ∧ t.get DG_COLL_SUM.reason = s.get DG_COLL_SUM.reason ∧ t.get DG_COLL_SUM.valid = s.get DG_COLL_SUM.valid
        ∧ t.meter = s.meter ∧ t.pending = s.pending)
    ∧ (∀ s : State, (∀ k, s.rec_.coll = some k → k.waiting = true
        ∨ (s.is DG_COLL_SUM.complete = false ∧ s.now < k.start + 15625)) → exec .collectionEnd s = .next s)
    ∧ (∀ (image : List Byte) (s : State), s.rec_.seqDown = true → s.mgmt.restart = false →
      ∃ t : State, exec (.sequencerRestartDone image) s = .next t.after ∧ t.rec_.seqDown = false ∧ t.rec_.waiting = []
        ∧ t.rec_.kickAt = s.now ∧ t.is DG_RST_CTL.seq = false)
    ∧ (∀ (image : List Byte) (s : State), s.rec_.seqDown = false → exec (.sequencerRestartDone image) s = .next s)
    ∧ (∀ (bad : Option W16) (stale failed : List (Slice × Chan)) (s : State), s.is DG_FILL.done = false → s.rstLow = false →
      ∃ t : State, exec (.fillDone bad stale failed) s = .next t.after ∧ t.is DG_FILL.done = true ∧ t.mem.resetHigh = false
        ∧ (∀ m, bad = some m → t.is DG_FILL.fail = true ∧ t.get DG_FILL.macro = m.toNat)
        ∧ (∀ p ∈ failed, t.chan p.1 p.2 = chFAILED) ∧ (∀ p ∈ stale, p ∉ failed → t.chan p.1 p.2 = chMENDING)
        ∧ t.rec_.kickAt = s.now)
    ∧ (∀ (bad : Option W16) (stale failed : List (Slice × Chan)) (s : State),
        (s.is DG_FILL.done = true ∨ s.rstLow = true) → exec (.fillDone bad stale failed) s = .next s)

/-- A rebuilding member joins with the staged values, its rebuild runs until its end or an abandon, a bind reads the
record; each refuses as its rule says (R380, R381, R383, R386, R387, R396, notes/assumptions/30.md (a start while
bound)). -/
def Obligations.RebuildJoinsStartsAndBinds : Prop :=
  (∀ (c : Ctx) (s : State), s.ctxState c = ctxRUN → s.team c = tmOFF → s.joinOk c = true →
      (((s.staged c).mstate (s.staged c).index = 2 ∧ s.is (DR_STAT.bound c) = false)
        ∨ ((s.staged c).mstate (s.staged c).index = 1 ∧ s.is (DR_STAT.bound c) = true)) →
      ∃ t : State, exec (.rebuildJoin c) s = .next t.after ∧ (t.tmAt c).vals = s.staged c
        ∧ t.team c = teamNext tmPROTECTED (s.staged c) (s.staged c)
        ∧ t.get (TM_STAT.epoch c) = (s.staged c).epoch % 2 ^ (TM_STAT.epoch c).w)
    ∧ (∀ (c : Ctx) (s : State), s.ctxState c = ctxRUN → s.team c = tmOFF →
      (s.joinOk c = false ∨ ¬ (((s.staged c).mstate (s.staged c).index = 2 ∧ s.is (DR_STAT.bound c) = false)
        ∨ ((s.staged c).mstate (s.staged c).index = 1 ∧ s.is (DR_STAT.bound c) = true))) →
      exec (.rebuildJoin c) s = .next (s.set (TM_STAT.form_err c) 1).after)
    ∧ (∀ (c : Ctx) (s : State), s.team c ≠ tmOFF → (s.tmAt c).vals.mstate (s.tmAt c).vals.index = 2 →
      s.get (TM_REB_STAT.state c) ≠ 1 → s.is (DR_STAT.bound c) = false → (s.tmAt c).vals.presentList ≠ [] →
      ∃ (t : State) (j : Job), exec (.rebuildStart c) s = .next t.after ∧ t.get (TM_REB_STAT.state c) = 1
        ∧ t.get (TM_REB_STAT.lost c) = 0 ∧ t.get (TM_REB_PROG.stripes c) = 0 ∧ t.get (TM_REB_CTL.start c) = 1
        ∧ t.jobs = s.jobs ++ [j] ∧ j.owner = .rebuild c ∧ j.cls = 2)
    ∧ (∀ (c : Ctx) (s : State), s.team c ≠ tmOFF → (s.tmAt c).vals.mstate (s.tmAt c).vals.index = 2 →
      s.get (TM_REB_STAT.state c) ≠ 1 → s.is (DR_STAT.bound c) = false → (s.tmAt c).vals.presentList = [] →
      ∃ t : State, exec (.rebuildStart c) s = .next t.after ∧ t.get (TM_REB_STAT.state c) = 3
        ∧ t.get (TM_REB_STAT.status c) = stPEERLOST)
    ∧ (∀ (c : Ctx) (s : State), (s.team c = tmOFF ∨ (s.tmAt c).vals.mstate (s.tmAt c).vals.index ≠ 2
        ∨ s.get (TM_REB_STAT.state c) = 1 ∨ s.is (DR_STAT.bound c) = true) →
      exec (.rebuildStart c) s = .next s.after)
    ∧ (∀ (c : Ctx) (s : State), s.get (TM_REB_STAT.state c) ≠ 1 → exec (.rebuildAbandon c) s = .next s)
    ∧ (∀ (c : Ctx) (s : State), s.get (TM_REB_STAT.state c) = 1 →
      ∃ t : State, exec (.rebuildAbandon c) s = .next t.after ∧ t.get (TM_REB_STAT.state c) = 3
        ∧ t.get (TM_REB_STAT.status c) = stTEARDOWN ∧ t.get (TM_REB_CTL.start c) = 0
        ∧ (∀ j ∈ t.jobs, j.owner = .rebuild c → j.ending = some (stTEARDOWN, some 0) ∧ j.out ≠ 0))
    ∧ (∀ (c : Ctx) (v : W64) (s : State), fget v 8 1 = 1 → s.is (DR_BIND.go c) = false →
      s.is (DR_STAT.bound c) = false → (s.jobs.any fun j => j.cmdOf c) = false → s.get (TM_REB_STAT.state c) ≠ 1 →
      s.recOk c = true →
      ∃ (t : State) (j : Job), exec (.bind c v) s = .next t.after ∧ t.get (DR_BIND.go c) = 1
        ∧ t.get (DR_BIND.bank c) = fget v 0 1 ∧ t.jobs = s.jobs ++ [j] ∧ j.owner = .bind c ∧ j.segs = [.bindRead]
        ∧ j.sel = fget v 0 1 ∧ j.acc = [s.get (DR_BIND_STEP.step c)])
    ∧ (∀ (c : Ctx) (v : W64) (s : State), fget v 8 1 = 1 → s.is (DR_BIND.go c) = false →
      (s.is (DR_STAT.bound c) = true ∨ (s.jobs.any fun j => j.cmdOf c) = true ∨ s.get (TM_REB_STAT.state c) = 1
        ∨ s.recOk c = false) →
      ∃ t : State, exec (.bind c v) s = .next t.after ∧ t.get (DR_BIND.status c) = stBADFIELD ∧ t.jobs = s.jobs
        ∧ t = { s with regs := t.regs })
    ∧ (∀ (c : Ctx) (s : State), ∃ t : State, exec (.clearLog c) s = .next t ∧ t.logOf c = [] ∧ t.get (DR_STAT.log_used c) = 0
        ∧ t = { s with regs := t.regs, rec_ := t.rec_ })

/-- A store response feeds or ends its command, a parity error is counted with its row's cause, an enabled digest
window begins with nothing accumulated (R413, R414, R425, R426, R439, R518, R530). -/
def Obligations.StoreResponsesParityErrorsAndDigestWindows : Prop :=
  (∀ (header data : List Byte) (s : State) (r : DrnReq) (j : Job),
      (s.rec_.drns.find? fun r => r.tag == leAt header 2 2) = some r → leAt header 1 1 = 0 → s.job r.job = some j →
      j.ending = none →
      ∃ t : State, exec (.drnResponse header data) s = .next t.after
        ∧ t.job j.id = some { j with hold := .run, buf := if r.write then j.buf else j.buf ++ padTo r.len data }
        ∧ (∀ x ∈ t.rec_.drns, x.tag ≠ r.tag) ∧ t.fab = s.fab ∧ t.mem = s.mem)
    ∧ (∀ (header data : List Byte) (s : State) (r : DrnReq) (j : Job),
      (s.rec_.drns.find? fun r => r.tag == leAt header 2 2) = some r → leAt header 1 1 ≠ 0 → s.job r.job = some j →
      j.ending = none →
      exec (.drnResponse header data) s = .next
        ((s.setRec { s.rec_ with drns := s.rec_.drns.filter fun x => x.tag ≠ r.tag }).endCmd j stSTOREERROR).after)
    ∧ (∀ (header data : List Byte) (s : State), (∀ r ∈ s.rec_.drns, r.tag ≠ leAt header 2 2) →
      exec (.drnResponse header data) s = .next s)
    ∧ (∀ (k : Fin 8) (macroId : W16) (site : ParitySite) (s : State),
      ∃ t : State, exec (.parityError k macroId site) s = .next (t.parityAct site).after
        ∧ t.get (DG_PAR.errors k) = min (2 ^ (DG_PAR.errors k).w - 1) (s.get (DG_PAR.errors k) + 1)
        ∧ t.get (DG_PAR.macro k) = macroId.toNat ∧ nbits (t.get GL_IRQ_STAT.cause) 17 1 = 1
        ∧ t.jobs = s.jobs ∧ t.mem = s.mem ∧ t.meter = s.meter ∧ t.ring = s.ring ∧ t.entries = s.entries)
    ∧ (∀ (bytes : List Byte) (n : Slice) (j : Chan) (s : State),
      (s.parityAct (.message bytes)).get FB_STAT.crc_err = min 65535 (s.get FB_STAT.crc_err + 1)
      ∧ (s.parityAct (.mendList n j)).get (SL_MEND.mend_full n) = 1
      ∧ chKey n j ∈ (s.parityAct (.mendList n j)).mem.mendFull
      ∧ (s.parityAct .sequencer).rec_.seqStop = true)
    ∧ (∀ (c : Ctx) (w : Fin 16) (v : W64) (s : State), nbits v.toNat 63 1 = 0 →
      ∃ t : State, exec (.digestWindowEnable c w v) s = .next t.after ∧ t.is (DG_DWIN_CFG.enable c w) = false
        ∧ t = { s with regs := t.regs })
    ∧ (∀ (c : Ctx) (w : Fin 16) (v : W64) (s : State), nbits v.toNat 63 1 = 1 → nbits v.toNat 62 1 = 0 →
      s.is (DG_DWIN_CFG.enable c w) = false → winWord v.toNat = s.winFields c w → s.dwinOk c w = true →
      ∃ t : State, exec (.digestWindowEnable c w v) s = .next t.after ∧ t.is (DG_DWIN_CFG.enable c w) = true
        ∧ t.winAt (16 * c + w) = { tsRun := s.get GL_TS.code } ∧ t = { s with regs := t.regs, integ := t.integ })
    ∧ (∀ (c : Ctx) (w : Fin 16) (v : W64) (s : State), nbits v.toNat 63 1 = 1 → nbits v.toNat 62 1 = 0 →
      s.is (DG_DWIN_CFG.enable c w) = false → winWord v.toNat = s.winFields c w → s.dwinOk c w = false →
      exec (.digestWindowEnable c w v) s = .next (s.set (DG_DWIN_CFG.cfg_err c w) 1).after)

/-- A power-up keeps only the fuses, a bad ROM checksum ends in FAULT, a sealed meter burns a segment fuse before it
boots; a fuse is tried three times (R444, R456, R459, R460, R464, R471). -/
def Obligations.MeterStartsUpFromItsFuses : Prop :=
  (∀ (crc : W32) (s : State), crc ≠ Config.meterRomRef →
      ∃ t : State, exec (.meterPowerGood crc) s = .next t ∧ t.meter.state = 3 ∧ t.meter.faulty 0 = true ∧ t.meter.powered = true
        ∧ t.meter.banks = s.meter.banks ∧ t.meter.sealed = s.meter.sealed ∧ t.meter.odo.value = s.meter.odo.value
        ∧ t.meter.seg.value = s.meter.seg.value)
    ∧ (∀ s : State, s.meter.sealed = false →
      ∃ t : State, exec (.meterPowerGood Config.meterRomRef) s = .next t ∧ t.meter.state = 1 ∧ t.meter.nmt = 1
        ∧ t.meter.prev = t.meter.seed ∧ t.meter.acc = 0 ∧ t.meter.samples = 0 ∧ t.meter.seq = 0 ∧ t.meter.faults = 0
        ∧ t.meter.banks = s.meter.banks ∧ t.meter.odo.value = s.meter.odo.value)
    ∧ (∀ (s : State) (f : Nat), s.meter.sealed = true → ({ s.meter.seg with tried := [] } : FuseRow).next segFuses = some f →
      ∃ t : State, exec (.meterPowerGood Config.meterRomRef) s = .next t ∧ t.meter.burn = some (true, f, 1) ∧ t.meter.nmt = 0
        ∧ t.out = s.out ++ [.burn 1 f] ∧ t.meter.acc = 0 ∧ t.regs = s.regs)
    ∧ (∀ (s : State) (f n : Nat), s.meter.burn = some (true, f, n) →
      ∃ t : State, exec (.burnReadback true) s = .next t ∧ t.meter.seg = s.meter.seg.blow f ∧ t.meter.nmt = 1
        ∧ t.meter.burn = none ∧ t.meter.state = (if s.meter.sealed then 2 else 1) ∧ t.meter.prev = t.meter.seed)
    ∧ (∀ (s : State) (seg : Bool) (f n : Nat), s.meter.burn = some (seg, f, n) → n < 3 →
      ∃ t : State, exec (.burnReadback false) s = .next t ∧ t.meter.burn = some (seg, f, n + 1)
        ∧ t.out = s.out ++ [.burn (b2n seg) f] ∧ t.meter.odo = s.meter.odo ∧ t.meter.seg = s.meter.seg ∧ t.regs = s.regs)
    ∧ (∀ (s : State) (f n : Nat), s.meter.burn = some (false, f, n) → 3 ≤ n → s.meter.wait = none →
      ∃ t : State, exec (.burnReadback false) s = .next t ∧ t.meter.odo = s.meter.odo.skip f
        ∧ t.meter.failed = s.meter.failed + 1 ∧ t.meter.faulty 2 = true ∧ t.meter.acc = s.meter.acc)
    ∧ (∀ s : State, s.meter.burn = none → exec (.burnReadback true) s = .next s)
    ∧ (∀ (crc : W32) (s : State), s.meter.powered = true → s.meter.burn = none →
      exec (.meterNmtReset crc) s = exec (.meterPowerGood crc) s)
    ∧ (∀ (crc : W32) (s : State) (f n : Nat), s.meter.powered = true → s.meter.burn = some (true, f, n) →
      ∃ u : State, exec (.meterNmtReset crc) s = exec (.meterPowerGood crc) u ∧ u.meter.odo = s.meter.odo
        ∧ (u.meter.seg = s.meter.seg ∨ u.meter.seg = s.meter.seg.blow f))
    ∧ (∀ s : State, s.meter.burn = none →
      ∃ t : State, exec .meterPowerGoodFall s = .next t ∧ t.meter.powered = false ∧ t.meter.state = 0 ∧ t.meter.acc = 0
        ∧ t.meter.banks = s.meter.banks ∧ t.meter.sealed = s.meter.sealed ∧ t.meter.odo.value = s.meter.odo.value
        ∧ t.meter.seg.value = s.meter.seg.value ∧ t = { s with meter := t.meter })

/-- A sample adds its energy once; a blown odometer fuse moves exactly one unit from the fine total to the odometer;
each record carries the hash of the one before (R443, R446, R447, R449, R455, R456, R458, R461, R471). -/
def Obligations.MeterEnergyIsKeptAndRecorded : Prop :=
  (∀ (volt curr : Int) (s : State), s.meter.runs = true →
      ∃ t : State, exec (.meterSample volt curr) s = .next t
        ∧ t.meter.acc = (s.meter.acc + (Config.meterEnergy s.meter.cal volt curr).toNat) % 2 ^ 96
        ∧ t.meter.samples = (s.meter.samples + 1) % 2 ^ 64 ∧ t.meter.per.n = s.meter.per.n + 1
        ∧ t.meter.per.e = s.meter.per.e + (Config.meterEnergy s.meter.cal volt curr).toNat
        ∧ t.meter.odo = s.meter.odo ∧ t.meter.record = s.meter.record
        ∧ (t.meter.faulty 1 = true ↔ Config.meterOutside volt curr = true))
    ∧ (∀ (volt curr : Int) (s : State), s.meter.runs = false → exec (.meterSample volt curr) s = .next s)
    ∧ (∀ (s : State) (f n : Nat), s.meter.burn = some (false, f, n) → s.meter.wait = none → odoUnit ≤ s.meter.acc →
      s.meter.odo.bad.Nodup → (∀ x ∈ s.meter.odo.bad, x < s.meter.odo.top) →
      (f = s.meter.odo.top ∨ f ∈ s.meter.odo.bad) →
      ∃ t : State, exec (.burnReadback true) s = .next t ∧ t.meter.odo.value = s.meter.odo.value + 1
        ∧ t.meter.odo.value * odoUnit + t.meter.acc = s.meter.odo.value * odoUnit + s.meter.acc
        ∧ t.meter.odo.bad.Nodup ∧ (∀ x ∈ t.meter.odo.bad, x < t.meter.odo.top))
    ∧ (∀ s : State, s.meter.runs = true → 15625 * s.meter.period ≤ s.meter.per.n → s.meter.burn = none →
      ∃ t : State, exec .recordPeriodEnd s = .next t
        ∧ t.meter.record = s.meter.recordHead s.recordNow ++ sha256 (s.meter.recordHead s.recordNow)
        ∧ t.meter.prev = sha256 (s.meter.recordHead s.recordNow) ∧ t.meter.seq = (s.meter.seq + 1) % 2 ^ 32
        ∧ t.meter.per.n = 0 ∧ t.meter.acc = s.meter.acc ∧ 0 ∈ t.meter.due ∧ 1 ∈ t.meter.due)
    ∧ (∀ s : State, s.meter.runs = true → 15625 * s.meter.period ≤ s.meter.per.n → s.meter.burn.isSome = true →
      ∃ t : State, exec .recordPeriodEnd s = .next t ∧ t.meter.wait = some s.recordNow ∧ t.meter.record = s.meter.record
        ∧ t.meter.per.n = 0 ∧ t = { s with meter := t.meter })
    ∧ (∀ s : State, s.meter.runs = true →
      ∃ t : State, exec .timebaseFault s = .next t ∧ t.meter.faulty 3 = true ∧ t.meter.per.tb = true ∧ t.meter.acc = s.meter.acc)
    ∧ (∀ s : State, s.meter.runs = true →
      ∃ t : State, exec .timebaseRecovery s = .next t ∧ t.meter.faulty 3 = false ∧ t.meter.acc = s.meter.acc)

/-- Staging, calibration and seal writes act on an unsealed meter and are refused by a sealed one; its node sends
TPDOs and heartbeats as NMT allows (R451, R452, R453, R467, R476). -/
def Obligations.MeterIsProgrammedUntilItIsSealed : Prop :=
  (∀ (sub : Fin 9) (v : W64) (s : State), s.meter.powered = true → (s.meter.nmt = 1 ∨ s.meter.nmt = 2) →
      s.meter.sealed = false → sub.val ≠ 0 → sub.val ≠ 8 →
      ∃ t : State, exec (.meterStagingWrite sub v) s = .next t
        ∧ t.meter = { s.meter with stage := setAt s.meter.stage (sub.val - 1) (stageValue sub v.toNat) }
        ∧ t.out = s.out ++ [.usdo 1 0x5100 sub 0 []])
    ∧ (∀ (v : W64) (s : State), s.meter.powered = true → (s.meter.nmt = 1 ∨ s.meter.nmt = 2) → s.meter.sealed = false →
      ∃ t : State, exec (.meterStagingWrite 8 v) s = .next t ∧ t.meter = { s.meter with stNode := some (v.toNat % 256) })
    ∧ (∀ s : State, s.meter.powered = true → (s.meter.nmt = 1 ∨ s.meter.nmt = 2) → s.meter.sealed = false →
      s.meter.banks.length < 4 →
      ∃ t : State, exec (.calibrationProgram 1#8) s = .next t ∧ t.meter.banks = s.meter.banks ++ [s.meter.stage]
        ∧ t.meter.cal = s.meter.stage ∧ t.meter.node = (if s.meter.stNode.isSome then s.meter.stNode else s.meter.node)
        ∧ t.meter.acc = s.meter.acc)
    ∧ (∀ s : State, s.meter.powered = true → (s.meter.nmt = 1 ∨ s.meter.nmt = 2) → s.meter.sealed = false →
      4 ≤ s.meter.banks.length →
      exec (.calibrationProgram 1#8) s = .next (s.emit (.usdo 1 0x5101 1 0x08000022 [])))
    ∧ (∀ (d : W32) (s : State), s.meter.powered = true → (s.meter.nmt = 1 ∨ s.meter.nmt = 2) → s.meter.sealed = false →
      ∃ t : State, exec (.sealDateStage d) s = .next t ∧ t.meter = { s.meter with date := some d.toNat })
    ∧ (∀ (id : W32) (d : Nat) (s : State), s.meter.powered = true → (s.meter.nmt = 1 ∨ s.meter.nmt = 2) →
      s.meter.sealed = false → s.meter.date = some d → s.meter.banks ≠ [] →
      ∃ t : State, exec (.sealMeter id) s = .next t ∧ t.meter.sealed = true ∧ t.meter.sealId = id.toNat ∧ t.meter.sealDate = d
        ∧ t.meter.state = (if s.meter.state = 1 then 2 else s.meter.state) ∧ t.meter.banks = s.meter.banks)
    ∧ (∀ (sub : Fin 9) (v : W64) (w : Byte) (d : W32) (s : State), s.meter.powered = true →
      (s.meter.nmt = 1 ∨ s.meter.nmt = 2) → s.meter.sealed = true →
      exec (.meterStagingWrite sub v) s = .next (s.emit (.usdo 1 0x5100 sub 0x06010002 []))
        ∧ exec (.calibrationProgram w) s = .next (s.emit (.usdo 1 0x5101 1 0x06010002 []))
        ∧ exec (.sealDateStage d) s = .next (s.emit (.usdo 1 0x5101 3 0x06010002 []))
        ∧ exec (.sealMeter d) s = .next (s.emit (.usdo 1 0x5101 2 0x06010002 [])))
    ∧ (∀ (k : Fin 4) (s : State), s.meter.powered = true → s.meter.nmt = 2 → (2 ≤ k.val ∨ s.meter.due.contains k.val) →
      (k.val = 1 → s.meter.due.contains 0 = false) →
      ∃ t : State, exec (.meterTpdo k) s = .next t
        ∧ t.out = s.out ++ [.can 1 (0x180 + 0x100 * k.val + s.meter.nodeId) (s.meterTpdoData k)] ∧ k.val ∉ t.meter.due
        ∧ t = { s with meter := t.meter, out := t.out })
    ∧ (∀ s : State, s.meter.powered = true → s.meter.nmt ≠ 0 → s.meter.hbTime ≠ 0 →
      exec .meterHeartbeat s = .next (s.emit (.can 1 (0x700 + s.meter.nodeId)
        [if s.meter.nmt = 1 then 0x7F#8 else if s.meter.nmt = 2 then 0x05#8 else 0x04#8])))
    ∧ (∀ s : State, s.meter.nmt ≠ 0 →
      exec (.meterNmtCommand .start) s = .next (s.setMeter { s.meter with nmt := 2 })
        ∧ exec (.meterNmtCommand .stop) s = .next (s.setMeter { s.meter with nmt := 3 })
        ∧ exec (.meterNmtCommand .preOperational) s = .next (s.setMeter { s.meter with nmt := 1 }))
    ∧ (∀ (ms : W16) (s : State), s.meter.powered = true → (s.meter.nmt = 1 ∨ s.meter.nmt = 2) →
      ∃ t : State, exec (.meterHeartbeatTimeWrite ms) s = .next t ∧ t.meter = { s.meter with hbTime := ms.toNat })

/-- A valid bus_on write joins the bus in pre-operational, NMT commands set the state, resets follow 0x2011,
heartbeats and TPDOs go out when due, errors count (R472, R473, R474, R475, R476, R477, R481, R495,
notes/assumptions/31.md (ISO 11898-1's amounts), notes/assumptions/32.md (when the node is on the bus)). -/
def Obligations.ManagementNodeJoinsObeysNmtAndCountsErrors : Prop :=
  (∀ (v : W64) (s : State), s.is GL_MG_CFG.bus_on = false → fget v GL_MG_CFG.bus_on.lo 1 = 0 →
      ∃ t : State, exec (.mgCfgWrite v) s = .next t ∧ t.get GL_MG_CFG.node = fget v GL_MG_CFG.node.lo GL_MG_CFG.node.w
        ∧ t.get GL_MG_CFG.nrate = fget v GL_MG_CFG.nrate.lo GL_MG_CFG.nrate.w
        ∧ t.get GL_MG_CFG.drate = fget v GL_MG_CFG.drate.lo GL_MG_CFG.drate.w ∧ t.is GL_MG_CFG.bus_on = false
        ∧ t = { s with regs := t.regs })
    ∧ (∀ (v : W64) (s : State), s.is GL_MG_CFG.bus_on = false → fget v GL_MG_CFG.bus_on.lo 1 = 1 →
        fget v GL_MG_CFG.node.lo GL_MG_CFG.node.w ≠ 0 → s.fwRuns = true → s.is GL_MG_STAT.bus_off = false →
        ∃ t : State, exec (.mgCfgWrite v) s = .next t ∧ t.is GL_MG_CFG.bus_on = true ∧ t.get GL_MG_STAT.nmt = 1
          ∧ t.out = s.out ++ [.can 0 (0x700 + fget v GL_MG_CFG.node.lo GL_MG_CFG.node.w) [0#8]])
    ∧ (∀ (v : W64) (s : State), s.is GL_MG_CFG.bus_on = false → fget v GL_MG_CFG.bus_on.lo 1 = 1 →
        fget v GL_MG_CFG.node.lo GL_MG_CFG.node.w = 0 →
        ∃ t : State, exec (.mgCfgWrite v) s = .next t ∧ t.is GL_MG_CFG.bus_on = false ∧ t.is GL_MG_STAT.cfg_err = true)
    ∧ (∀ (v : W64) (s : State), s.is GL_MG_CFG.bus_on = true → fget v GL_MG_CFG.bus_on.lo 1 = 1 →
        s.get GL_MG_CFG.node ≠ fget v GL_MG_CFG.node.lo GL_MG_CFG.node.w →
        exec (.mgCfgWrite v) s = .next (s.set GL_MG_STAT.cfg_err 1))
    ∧ (∀ (v : W64) (s : State), s.is GL_MG_CFG.bus_on = true → fget v GL_MG_CFG.bus_on.lo 1 = 0 →
        ∃ t : State, exec (.mgCfgWrite v) s = .next t ∧ t.is GL_MG_CFG.bus_on = false ∧ t.get GL_MG_STAT.nmt = 0
          ∧ t.mgmt.session = none ∧ t.out = s.out ++ [.canOff 0] ∧ t.get GL_MG_CFG.node = s.get GL_MG_CFG.node)
    ∧ (∀ s : State, s.onBus = true →
        (∃ t : State, exec .nmtStart s = .next t ∧ t.get GL_MG_STAT.nmt = 2
          ∧ (s.get GL_MG_STAT.nmt ≠ 2 → t.mgmt.tpdoAt = List.replicate 4 s.now) ∧ t.jobs = s.jobs ∧ t.mem = s.mem)
        ∧ (∃ t : State, exec .nmtStop s = .next t ∧ t.get GL_MG_STAT.nmt = 3 ∧ t.mgmt = s.mgmt)
        ∧ (∃ t : State, exec .nmtPreoperational s = .next t ∧ t.get GL_MG_STAT.nmt = 1 ∧ t.mgmt = s.mgmt)
        ∧ (∃ t : State, exec .nmtResetCommunication s = .next t ∧ t.get GL_MG_STAT.nmt = 1 ∧ t.mgmt.inhibit = 1000
          ∧ t.mgmt.hbTime = 1000 ∧ t.mgmt.timers = [100, 1000, 1000, 1000] ∧ t.mgmt.session = none)
        ∧ (s.mgmt.rstAction = 1 → exec .nmtResetNode s = exec .nmtResetCommunication s)
        ∧ (s.mgmt.rstAction ≠ 1 → s.get GL_FW_STAT.state = 5 →
            ∃ t : State, exec .nmtResetNode s = .next t ∧ t.mgmt.restart = true)
        ∧ (s.mgmt.rstAction ≠ 1 → s.get GL_FW_STAT.state ≠ 5 → s.rec_.coll = none →
            ∃ t : State, exec .nmtResetNode s = .next t.after ∧ t.rec_.coll = some ⟨3, .block, s.now, true⟩))
    ∧ (∀ s : State, s.onBus = false → exec .nmtStart s = .next s ∧ exec .nmtStop s = .next s
        ∧ exec .nmtPreoperational s = .next s ∧ exec .nmtResetNode s = .next s ∧ exec .nmtResetCommunication s = .next s)
    ∧ (∀ s : State, s.onBus = true → s.mgmt.hbTime ≠ 0 → s.mgmt.hbAt + 156250 * s.mgmt.hbTime ≤ s.now → s.serving = true →
        ∃ t : State, exec .heartbeat s = .next t ∧ t.mgmt.hbAt = s.now
          ∧ t.out = s.out ++ [.can 0 (0x700 + s.get GL_MG_CFG.node)
              [if s.get GL_MG_STAT.nmt = 1 then 0x7F#8 else if s.get GL_MG_STAT.nmt = 2 then 0x05#8 else 0x04#8]])
    ∧ (∀ (k : Fin 4) (s : State), s.onBus = true → s.serving = true → s.get GL_MG_STAT.nmt = 2 →
        s.mgmt.timers.getD k 0 ≠ 0 → s.mgmt.tpdoAt.getD k 0 + 156250 * s.mgmt.timers.getD k 0 ≤ s.now →
        ∃ t : State, exec (.tpdo k) s = .next t
          ∧ t.out = s.out ++ [.can 0 (0x180 + 0x100 * k.val + s.get GL_MG_CFG.node) (s.view.tpdoData k)])
    ∧ (∀ s : State, s.onBus = true →
        (∃ t : State, exec (.busError .receive) s = .next t
          ∧ t.get GL_MG_STAT.recv_err = min (2 ^ GL_MG_STAT.recv_err.w - 1) (s.get GL_MG_STAT.recv_err + 1)
          ∧ t = { s with regs := t.regs })
        ∧ (∃ t : State, exec (.busError .transmit) s = .next t
          ∧ t.get GL_MG_STAT.tec = min (2 ^ GL_MG_STAT.tec.w - 1) (s.get GL_MG_STAT.tec + 8)
          ∧ (255 < s.get GL_MG_STAT.tec + 8 → t.is GL_MG_STAT.bus_off = true) ∧ t = { s with regs := t.regs }))
    ∧ (∀ s : State, s.is GL_MG_STAT.bus_off = true →
        ∃ t : State, exec .busOffRecovery s = .next t ∧ t.is GL_MG_STAT.bus_off = false ∧ t.get GL_MG_STAT.tec = 0
          ∧ t.get GL_MG_STAT.recv_err = 0 ∧ t.get GL_MG_STAT.nmt = s.get GL_MG_STAT.nmt ∧ t = { s with regs := t.regs })

/-- A read answers the object or its abort code, long objects go in 56-byte segments under one session, the mailbox
returns the object's bytes and raises its cause (R478, R479, R482, R483, R484, R485, R486,
notes/assumptions/33.md (the form of USDO replies)). -/
def Obligations.DictionaryIsServedOverTheBusAndTheMailbox : Prop :=
  (∀ (i : W16) (b : Byte) (s : State) (d : List Byte), s.onBus = true → s.canReceived.emcySent = true →
      s.canReceived.serving = true → s.mgmt.session = none → s.canReceived.dictRead i.toNat b.toNat = .inr d →
      d.length ≤ 56 →
      ∃ t : State, exec (.usdoRequest (.read i b)) s = .next t ∧ t.out = s.out ++ [.usdo 0 i.toNat b.toNat 0 d]
        ∧ t.mgmt = s.mgmt)
    ∧ (∀ (i : W16) (b : Byte) (s : State) (d : List Byte), s.onBus = true → s.canReceived.emcySent = true →
      s.canReceived.serving = true → s.mgmt.session = none → s.canReceived.dictRead i.toNat b.toNat = .inr d →
      56 < d.length →
      ∃ t : State, exec (.usdoRequest (.read i b)) s = .next t
        ∧ t.mgmt.session = some ⟨i.toNat, b.toNat, false, d.length, d, s.now⟩
        ∧ t.out = s.out ++ [.usdo 0 i.toNat b.toNat 0 (leBytes 4 d.length)])
    ∧ (∀ (i : W16) (b : Byte) (s : State) (a : Nat), s.onBus = true → s.canReceived.emcySent = true →
      s.canReceived.serving = true → s.mgmt.session = none → s.canReceived.dictRead i.toNat b.toNat = .inl a →
      ∃ t : State, exec (.usdoRequest (.read i b)) s = .next t ∧ t.out = s.out ++ [.usdo 0 i.toNat b.toNat a []] ∧ t.mgmt = s.mgmt)
    ∧ (∀ (i : W16) (b : Byte) (d : List Byte) (s : State), s.onBus = true → s.canReceived.emcySent = true →
      s.canReceived.serving = true → s.mgmt.session.isSome = true →
      ∃ t : State, exec (.usdoRequest (.write i b d)) s = .next t ∧ t.out = s.out ++ [.usdo 0 i.toNat b.toNat 0x08000020 []]
        ∧ t.mgmt = s.mgmt)
    ∧ (∀ (i : W16) (b : Byte) (d : List Byte) (s : State), s.onBus = true → s.canReceived.emcySent = true →
      s.canReceived.serving = true → s.mgmt.session = none → s.canReceived.dictGuard i.toNat b.toNat d.length false ≠ 0 →
      ∃ t : State, exec (.usdoRequest (.write i b d)) s = .next t ∧ t.mgmt = s.mgmt
        ∧ t.out = s.out ++ [.usdo 0 i.toNat b.toNat (s.canReceived.dictGuard i.toNat b.toNat d.length false) []])
    ∧ (∀ (s : State) (x : Session), s.onBus = true → s.canReceived.emcySent = true → s.canReceived.serving = true →
      s.mgmt.session = some x → x.write = false →
      ∃ t : State, exec (.usdoRequest .segmentOut) s = .next t ∧ t.out = s.out ++ [.usdo 0 x.index x.sub 0 (x.data.take 56)]
        ∧ (x.data.length ≤ 56 → t.mgmt.session = none)
        ∧ (56 < x.data.length → t.mgmt.session = some { x with data := x.data.drop 56, at_ := s.now }))
    ∧ (∀ (s : State) (x : Session) (d : List Byte), s.onBus = true → s.canReceived.emcySent = true →
      s.canReceived.serving = true → s.mgmt.session = some x → x.write = true →
      ∃ t : State, exec (.usdoRequest (.segmentIn d false)) s = .next t
        ∧ t.mgmt.session = some { x with data := x.data ++ d, at_ := s.now })
    ∧ (∀ (s : State) (x : Session), s.mgmt.session = some x → x.at_ + 156250000 ≤ s.now → s.serving = true →
      ∃ t : State, exec .usdoSessionTimeout s = .next t ∧ t.mgmt.session = none
        ∧ t.out = s.out ++ [.usdo 0 x.index x.sub 0x05040000 []] ∧ t = { s with mgmt := t.mgmt, out := t.out })
    ∧ (∀ (v : W64) (s : State), s.is GL_MBX_STAT.busy = true →
      exec (.mailboxRequest v) s = .next (s.set GL_MBX_STAT.ovf 1))
    ∧ (∀ (v : W64) (s : State), s.is GL_MBX_STAT.busy = false → fget v 63 1 = 1 → s.fwRuns = false →
      ∃ t : State, exec (.mailboxRequest v) s = .next t ∧ t.is GL_MBX_STAT.busy = false ∧ t.is GL_MBX_STAT.done = true
        ∧ t.get GL_MBX_STAT.abort = 0x08000022 ∧ nbits (t.get GL_IRQ_STAT.cause) 23 1 = 1)
    ∧ (∀ (v : W64) (s : State), s.is GL_MBX_STAT.busy = false → fget v 63 1 = 1 → s.fwRuns = true →
      ∃ t : State, exec (.mailboxRequest v) s = .next t ∧ t.is GL_MBX_STAT.busy = true ∧ t.is GL_MBX_REQ.go = true
        ∧ t.get GL_MBX_REQ.index = fget v GL_MBX_REQ.index.lo GL_MBX_REQ.index.w
        ∧ t.get GL_MBX_REQ.sub = fget v GL_MBX_REQ.sub.lo GL_MBX_REQ.sub.w ∧ t = { s with regs := t.regs })
    ∧ (∀ (s : State) (d : List Byte), s.is GL_MBX_STAT.busy = true → s.serving = true → s.mgmt.session = none →
      s.get GL_MBX_REQ.op = 1 → s.dictRead (s.get GL_MBX_REQ.index) (s.get GL_MBX_REQ.sub) = .inr d →
      dictString (s.get GL_MBX_REQ.index) = false → d.length = s.get GL_MBX_REQ.length → 0 < d.length → d.length ≤ 64 →
      ∃ t : State, exec .mailboxComplete s = .next t.after ∧ t.mbxData.take d.length = d ∧ t.is GL_MBX_STAT.busy = false
        ∧ t.is GL_MBX_STAT.done = true ∧ t.get GL_MBX_STAT.abort = 0 ∧ nbits (t.get GL_IRQ_STAT.cause) 23 1 = 1)

/-- A staged image is checked, activates at a point with no commit window and restarts the sequencer, then runs; a
cancel or failed check leaves the running one (R493, R494, R495, R496, R497, R499, R525). -/
def Obligations.FirmwareIsStagedCheckedAndActivated : Prop :=
  (∀ s : State, s.get GL_FW_STAT.state ≠ 2 → s.get GL_FW_STAT.state < 4 →
      ∃ t : State, exec .firmwareStage s = .next t ∧ t.get GL_FW_STAT.state = 2 ∧ t.get GL_FW_CTL.stage = 1
        ∧ t.mgmt.fwPrev = s.get GL_FW_STAT.state
        ∧ t.mgmt.fwChk = (s.get GL_FW_SRC.region, 4096 * s.get GL_FW_SRC.offset))
    ∧ (∀ (image : List Byte) (s : State), s.get GL_FW_STAT.state = 2 → s.imgStatus s.mgmt.fwChk image = stOK →
        ∃ t : State, exec (.firmwareCheckDone image) s = .next t ∧ t.get GL_FW_STAT.state = 3
          ∧ t.get GL_FW_VER.staged = leAt image 4 4 ∧ t.get GL_FW_LVL.stg_lo = leAt image 8 1
          ∧ t.get GL_FW_LVL.stg_hi = leAt image 9 1 ∧ t.mgmt.fwStg = some s.mgmt.fwChk
          ∧ nbits (t.get GL_IRQ_STAT.cause) 24 1 = 1)
    ∧ (∀ (image : List Byte) (s : State), s.get GL_FW_STAT.state = 2 → s.imgStatus s.mgmt.fwChk image ≠ stOK →
        ∃ t : State, exec (.firmwareCheckDone image) s = .next t
          ∧ t.get GL_FW_STAT.state = s.mgmt.fwPrev % 2 ^ GL_FW_STAT.state.w
          ∧ t.get GL_FW_STAT.status = s.imgStatus s.mgmt.fwChk image ∧ t.mgmt = s.mgmt)
    ∧ (∀ s : State, s.get GL_FW_STAT.state = 3 →
        ∃ t : State, exec .firmwareActivate s = .next t ∧ t.get GL_FW_STAT.state = 4 ∧ t.fwHold = true)
    ∧ (∀ (image : List Byte) (s : State) (a : Nat × Nat), s.get GL_FW_STAT.state = 4 → s.rec_.seqDown = false →
        s.rec_.coll = none → (s.fwRuns = false ∨ s.fwPoint = true) → s.mgmt.fwStg = some a → s.imgPlace a image = true →
        imgSound image = true →
        ∃ t : State, exec (.firmwareActivation image) s = .next (t.seqRestart false).after
          ∧ t.get GL_FW_STAT.state = 5 ∧ t.mgmt.fwImg = some a ∧ t.mgmt.fwFirst = !s.fwRuns ∧ t.fwHold = s.fwHold)
    ∧ (∀ (image : List Byte) (s : State) (a : Nat × Nat), s.get GL_FW_STAT.state = 4 → s.rec_.seqDown = false →
        s.rec_.coll = none → (s.fwRuns = false ∨ s.fwPoint = true) → s.mgmt.fwStg = some a →
        ¬ (s.imgPlace a image = true ∧ imgSound image = true) →
        ∃ t : State, exec (.firmwareActivation image) s = .next t.after
          ∧ t.get GL_FW_STAT.state = (if s.fwRuns then 1 else 0) ∧ t.get GL_FW_STAT.status = stBADFIELD
          ∧ t.fwHold = false ∧ t.mgmt.fwImg = s.mgmt.fwImg ∧ t.get GL_FW_VER.running = s.get GL_FW_VER.running
          ∧ nbits (t.get GL_IRQ_STAT.cause) 24 1 = 1)
    ∧ (∀ s : State, s.get GL_FW_STAT.state = 4 → s.fwRuns = true → s.fwPoint = false →
        ∀ image, exec (.firmwareActivation image) s = .next s)
    ∧ (∀ (image : List Byte) (s : State), s.rec_.seqDown = true → s.mgmt.restart = false → s.get GL_FW_STAT.state = 5 →
        ∃ t : State, exec (.sequencerRestartDone image) s = .next t.after ∧ t.get GL_FW_STAT.state = 1
          ∧ t.get GL_FW_STAT.status = stOK ∧ t.fwHold = false
          ∧ t.get GL_FW_VER.running = s.get GL_FW_VER.staged % 2 ^ GL_FW_VER.running.w
          ∧ (s.mgmt.fwFirst = true → t.get GL_FW_LVL.level = t.get GL_FW_LVL.run_hi)
          ∧ (s.mgmt.fwFirst = false → t.get GL_FW_LVL.level = s.get GL_FW_LVL.level))
    ∧ (∀ s : State, (s.get GL_FW_STAT.state = 3 ∨ s.get GL_FW_STAT.state = 4) →
        ∃ t : State, exec .firmwareCancel s = .next t.after ∧ t.get GL_FW_STAT.state = (if s.fwRuns then 1 else 0)
          ∧ t.fwHold = false ∧ t.mgmt.fwStg = none ∧ t.mgmt.fwImg = s.mgmt.fwImg)
    ∧ (∀ (v : W64) (s : State), fget v 63 1 = 1 → s.is GL_FW_LVL.apply = false → s.fwRuns = true →
        s.get GL_FW_LVL.run_lo ≤ fget v 8 8 → fget v 8 8 ≤ s.get GL_FW_LVL.run_hi →
        ∃ t : State, exec (.levelApply v) s = .next t ∧ t.mgmt.levelPend = some (fget v 8 8) ∧ t.is GL_FW_LVL.apply = true
          ∧ t.get GL_FW_LVL.level = s.get GL_FW_LVL.level)
    ∧ (∀ (v : W64) (s : State), fget v 63 1 = 1 → s.is GL_FW_LVL.apply = false → s.fwRuns = true →
        s.get GL_FW_LVL.run_hi < fget v 8 8 →
        ∃ t : State, exec (.levelApply v) s = .next t ∧ t.get GL_FW_STAT.status = stVERSION ∧ t.mgmt = s.mgmt
          ∧ t.get GL_FW_LVL.level = s.get GL_FW_LVL.level)
    ∧ (∀ (s : State) (l : Nat), s.mgmt.levelPend = some l → s.fwPoint = true →
        ∃ t : State, exec .levelApplyEffect s = .next t ∧ t.get GL_FW_LVL.level = l % 2 ^ GL_FW_LVL.level.w
          ∧ t.is GL_FW_LVL.apply = false ∧ t.mgmt.levelPend = none)
    ∧ (∀ (s : State) (l : Nat), s.mgmt.levelPend = some l → s.fwPoint = false → exec .levelApplyEffect s = .next s)

/-- PG_RST_N clears the block but not the meter, temperature codes keep their signed maximum, test instructions need
every context OFF and end in a reset, and their results are kept from a sealed meter's SRAM (R12, R415, R514, R521, R524,
R526, R527, R528, notes/assumptions/2.md (the order of the fuses), notes/assumptions/36.md (what the reset pin
leaves)). -/
def Obligations.ResetPinTemperatureAndTestWrapper : Prop :=
  (∀ s : State, s.rstLow = false →
      ∃ t : State, exec .pgRstAssert s = .next t ∧ t.rstLow = true ∧ t.get GL_RST_STAT.cause = 0 ∧ t.get DG_FILL.done = 0
        ∧ t.is MT_STAT.live = false ∧ t.meter = s.meter ∧ t.jobs = [] ∧ t.ring = [] ∧ t.entries = [] ∧ t.fab.txq = []
        ∧ (∀ c < 4, t.ctxState c = 0 ∧ t.team c = tmOFF ∧ t.phase c = phOPEN) ∧ t.pending = s.pending
        ∧ t.get MT_ODO.odo = s.get MT_ODO.odo ∧ t.wir = s.wir)
    ∧ (∀ s : State, s.rstLow = true → exec .pgRstAssert s = .next s)
    ∧ (∀ s : State, s.rstLow = true →
        ∃ t : State, exec .pgRstRelease s = .next t ∧ t.rstLow = false ∧ t.regs = s.regs
          ∧ t.out.length = s.out.length + 4 * ((List.range 19).filter fun l => !s.fab.laneDn.contains l).length
          ∧ t = { s with rstLow := false, free := t.free, out := t.out })
    ∧ (∀ s : State, s.rstLow = false → exec .pgRstRelease s = .next s)
    ∧ (∀ (code : W16) (s : State),
        ∃ t : State, exec (.tsCode code) s = .next t ∧ t.get GL_TS.code = code.toNat ∧ t.is GL_TS.stale = false
          ∧ t.get GL_TS.max = (if sext 16 (s.get GL_TS.max) < sext 16 code.toNat then code.toNat
              else s.get GL_TS.max % 2 ^ 16)
          ∧ t.tsAt = s.now ∧ t = { s with regs := t.regs, tsAt := t.tsAt, integ := t.integ })
    ∧ (∀ s : State, s.tsAt + 1562500 ≤ s.now → exec .tsStale s = .next (s.set GL_TS.stale 1))
    ∧ (∀ s : State, s.now < s.tsAt + 1562500 → exec .tsStale s = .next s)
    ∧ (∀ s : State, exec .tsMaxClear s = .next (s.set GL_TS.max 0x8000))
    ∧ (∀ (code : Byte) (s : State), wirOf code.toNat ≠ 0 → s.wir = 0 → (∀ c < 4, s.ctxState c = 0) →
        exec (.wirUpdate code) s = .next ((({ s with wir := wirOf code.toNat } : State)).emit
          (.wrapper (wirOf code.toNat) (!s.meter.sealed))))
    ∧ (∀ (code : Byte) (c : Ctx) (s : State), wirOf code.toNat ≠ 0 → s.ctxState c ≠ 0 →
        exec (.wirUpdate code) s = .next s)
    ∧ (∀ (code : Byte) (s : State), wirOf code.toNat = s.wir → exec (.wirUpdate code) s = .next s)
    ∧ (∀ (code : Byte) (s : State), wirOf code.toNat = 0 → s.wir ≠ 0 → s.rstLow = false →
        ∃ t : State, exec (.wirUpdate code) s = .next t ∧ t.wir = 0 ∧ t.get GL_RST_STAT.cause = 2 ∧ t.get DG_FILL.done = 0
          ∧ t.meter = s.meter ∧ (∀ c < 4, t.ctxState c = 0) ∧ exec .testExit s = .next t)
    ∧ (∀ (code : Byte) (s : State), wirOf code.toNat ≠ 0 → wirOf code.toNat ≠ s.wir → s.wir ≠ 0 → s.rstLow = false →
        (∀ c < 4, s.ctxState c = 0) →
        ∃ t : State, exec (.wirUpdate code) s = .next t ∧ t.wir = wirOf code.toNat ∧ t.get GL_RST_STAT.cause = 2
          ∧ t.meter = s.meter)
    ∧ (∀ s : State, s.wir ≠ 0 → s.rstLow = true →
        exec .testExit s = .next (({ s with wir := 0 } : State).emit (.wrapper 0 (!s.meter.sealed))))
    ∧ (∀ s : State, s.wir = 0 → exec .testExit s = .next s)
    ∧ (∀ (bad : Option W16) (s : State), s.wir = 0x08 → ∃ r : Option Nat,
        exec (.mbist bad) s = .next (s.emit (.mbist r))
          ∧ (s.meter.sealed = false → r = bad.map (·.toNat))
          ∧ (∀ m, bad = some m → s.meter.sealed = true →
              r = if Config.meterMacro m = true then none else some m.toNat)
          ∧ (bad = none → r = none))
    ∧ (∀ (bad : Option W16) (s : State), s.wir ≠ 0x08 → exec (.mbist bad) s = .next s)
    ∧ (∀ s : State, s.wir = 0x0A → ∃ bits : List Bool, exec .fuseRead s = .next (s.emit (.wdr bits))
        ∧ bits.length = 4096 ∧ ∀ i < 4096, bits[i]? = some (fuseBit (Config.fusePlace i)))
    ∧ (∀ s : State, s.wir ≠ 0x0A → exec .fuseRead s = .next s)

/-- In State.reset the register table stands in its one canonical order (notes/assumptions/5.md (how registers are
kept)). -/
def Obligations.ResetHasTheRegisterTablesOneForm : Prop :=
  regsSorted State.reset = true

/-- Whatever the command, a step leaves the register table in its one canonical order, so that equal register
contents are equal states (notes/assumptions/5.md (how registers are kept), 01_block_at_a_glance.md). -/
def Obligations.EveryStepKeepsTheRegisterTablesOneForm : Prop :=
  ∀ s t : State, regsSorted s = true → step s = .next t → regsSorted t = true

/-- Once sealed, the meter keeps its seal, calibration, node-id and dates, and its odometer and segment counter
never decrease, under every command and every reset (R444, R453, R456, R457, R460). -/
def Obligations.NoCommandUndoesASealOrTurnsTheOdometerBack : Prop :=
  ∀ s t : State, s.meter.sealed = true → step s = .next t →
    t.meter.sealed = true ∧ t.meter.sealId = s.meter.sealId ∧ t.meter.sealDate = s.meter.sealDate
      ∧ t.meter.banks = s.meter.banks ∧ t.meter.node = s.meter.node
      ∧ s.meter.odo.value ≤ t.meter.odo.value ∧ s.meter.seg.value ≤ t.meter.seg.value
end

