-- ==== Sys2Proof/Laws/State.lean ====
section
/-! SUPPORT. What each named update of the state leaves as it was and what it replaces: one lemma per field and update,
so that no proof unfolds a record update. -/

namespace Sys2Proof.Machine

variable (s : State)

/-! State.set -/
@[simp] theorem State.set_ring (l : Loc) (v : Nat) : (s.set l v).ring = s.ring := rfl
@[simp] theorem State.set_entries (l : Loc) (v : Nat) : (s.set l v).entries = s.entries := rfl
@[simp] theorem State.set_latches (l : Loc) (v : Nat) : (s.set l v).latches = s.latches := rfl
@[simp] theorem State.set_qstamp (l : Loc) (v : Nat) : (s.set l v).qstamp = s.qstamp := rfl
@[simp] theorem State.set_qhall (l : Loc) (v : Nat) : (s.set l v).qhall = s.qhall := rfl
@[simp] theorem State.set_jobs (l : Loc) (v : Nat) : (s.set l v).jobs = s.jobs := rfl
@[simp] theorem State.set_nextJob (l : Loc) (v : Nat) : (s.set l v).nextJob = s.nextJob := rfl
@[simp] theorem State.set_cx (l : Loc) (v : Nat) : (s.set l v).cx = s.cx := rfl
@[simp] theorem State.set_tk (l : Loc) (v : Nat) : (s.set l v).tk = s.tk := rfl
@[simp] theorem State.set_satPrev (l : Loc) (v : Nat) : (s.set l v).satPrev = s.satPrev := rfl
@[simp] theorem State.set_mem (l : Loc) (v : Nat) : (s.set l v).mem = s.mem := rfl
@[simp] theorem State.set_cm (l : Loc) (v : Nat) : (s.set l v).cm = s.cm := rfl
@[simp] theorem State.set_tm (l : Loc) (v : Nat) : (s.set l v).tm = s.tm := rfl
@[simp] theorem State.set_stb (l : Loc) (v : Nat) : (s.set l v).stb = s.stb := rfl
@[simp] theorem State.set_fab (l : Loc) (v : Nat) : (s.set l v).fab = s.fab := rfl
@[simp] theorem State.set_rec (l : Loc) (v : Nat) : (s.set l v).rec_ = s.rec_ := rfl
@[simp] theorem State.set_integ (l : Loc) (v : Nat) : (s.set l v).integ = s.integ := rfl
@[simp] theorem State.set_mgmt (l : Loc) (v : Nat) : (s.set l v).mgmt = s.mgmt := rfl
@[simp] theorem State.set_yoke (l : Loc) (v : Nat) : (s.set l v).yoke = s.yoke := rfl
@[simp] theorem State.set_gs (l : Loc) (v : Nat) : (s.set l v).gs = s.gs := rfl
@[simp] theorem State.set_meter (l : Loc) (v : Nat) : (s.set l v).meter = s.meter := rfl
@[simp] theorem State.set_strobeAt (l : Loc) (v : Nat) : (s.set l v).strobeAt = s.strobeAt := rfl
@[simp] theorem State.set_tsAt (l : Loc) (v : Nat) : (s.set l v).tsAt = s.tsAt := rfl
@[simp] theorem State.set_rstLow (l : Loc) (v : Nat) : (s.set l v).rstLow = s.rstLow := rfl
@[simp] theorem State.set_wir (l : Loc) (v : Nat) : (s.set l v).wir = s.wir := rfl
@[simp] theorem State.set_free (l : Loc) (v : Nat) : (s.set l v).free = s.free := rfl
@[simp] theorem State.set_out (l : Loc) (v : Nat) : (s.set l v).out = s.out := rfl
@[simp] theorem State.set_pending (l : Loc) (v : Nat) : (s.set l v).pending = s.pending := rfl

/-! State.emit -/
@[simp] theorem State.emit_regs (o : Out) : (s.emit o).regs = s.regs := rfl
@[simp] theorem State.emit_ring (o : Out) : (s.emit o).ring = s.ring := rfl
@[simp] theorem State.emit_entries (o : Out) : (s.emit o).entries = s.entries := rfl
@[simp] theorem State.emit_latches (o : Out) : (s.emit o).latches = s.latches := rfl
@[simp] theorem State.emit_qstamp (o : Out) : (s.emit o).qstamp = s.qstamp := rfl
@[simp] theorem State.emit_qhall (o : Out) : (s.emit o).qhall = s.qhall := rfl
@[simp] theorem State.emit_jobs (o : Out) : (s.emit o).jobs = s.jobs := rfl
@[simp] theorem State.emit_nextJob (o : Out) : (s.emit o).nextJob = s.nextJob := rfl
@[simp] theorem State.emit_cx (o : Out) : (s.emit o).cx = s.cx := rfl
@[simp] theorem State.emit_tk (o : Out) : (s.emit o).tk = s.tk := rfl
@[simp] theorem State.emit_satPrev (o : Out) : (s.emit o).satPrev = s.satPrev := rfl
@[simp] theorem State.emit_mem (o : Out) : (s.emit o).mem = s.mem := rfl
@[simp] theorem State.emit_cm (o : Out) : (s.emit o).cm = s.cm := rfl
@[simp] theorem State.emit_tm (o : Out) : (s.emit o).tm = s.tm := rfl
@[simp] theorem State.emit_stb (o : Out) : (s.emit o).stb = s.stb := rfl
@[simp] theorem State.emit_fab (o : Out) : (s.emit o).fab = s.fab := rfl
@[simp] theorem State.emit_rec (o : Out) : (s.emit o).rec_ = s.rec_ := rfl
@[simp] theorem State.emit_integ (o : Out) : (s.emit o).integ = s.integ := rfl
@[simp] theorem State.emit_mgmt (o : Out) : (s.emit o).mgmt = s.mgmt := rfl
@[simp] theorem State.emit_yoke (o : Out) : (s.emit o).yoke = s.yoke := rfl
@[simp] theorem State.emit_gs (o : Out) : (s.emit o).gs = s.gs := rfl
@[simp] theorem State.emit_meter (o : Out) : (s.emit o).meter = s.meter := rfl
@[simp] theorem State.emit_strobeAt (o : Out) : (s.emit o).strobeAt = s.strobeAt := rfl
@[simp] theorem State.emit_tsAt (o : Out) : (s.emit o).tsAt = s.tsAt := rfl
@[simp] theorem State.emit_rstLow (o : Out) : (s.emit o).rstLow = s.rstLow := rfl
@[simp] theorem State.emit_wir (o : Out) : (s.emit o).wir = s.wir := rfl
@[simp] theorem State.emit_free (o : Out) : (s.emit o).free = s.free := rfl
@[simp] theorem State.emit_out (o : Out) : (s.emit o).out = s.out ++ [o] := rfl
@[simp] theorem State.emit_pending (o : Out) : (s.emit o).pending = s.pending := rfl

/-! State.setCx -/
@[simp] theorem State.setCx_regs (c : Nat) (x : CtxS) : (s.setCx c x).regs = s.regs := rfl
@[simp] theorem State.setCx_ring (c : Nat) (x : CtxS) : (s.setCx c x).ring = s.ring := rfl
@[simp] theorem State.setCx_entries (c : Nat) (x : CtxS) : (s.setCx c x).entries = s.entries := rfl
@[simp] theorem State.setCx_latches (c : Nat) (x : CtxS) : (s.setCx c x).latches = s.latches := rfl
@[simp] theorem State.setCx_qstamp (c : Nat) (x : CtxS) : (s.setCx c x).qstamp = s.qstamp := rfl
@[simp] theorem State.setCx_qhall (c : Nat) (x : CtxS) : (s.setCx c x).qhall = s.qhall := rfl
@[simp] theorem State.setCx_jobs (c : Nat) (x : CtxS) : (s.setCx c x).jobs = s.jobs := rfl
@[simp] theorem State.setCx_nextJob (c : Nat) (x : CtxS) : (s.setCx c x).nextJob = s.nextJob := rfl
@[simp] theorem State.setCx_tk (c : Nat) (x : CtxS) : (s.setCx c x).tk = s.tk := rfl
@[simp] theorem State.setCx_satPrev (c : Nat) (x : CtxS) : (s.setCx c x).satPrev = s.satPrev := rfl
@[simp] theorem State.setCx_mem (c : Nat) (x : CtxS) : (s.setCx c x).mem = s.mem := rfl
@[simp] theorem State.setCx_cm (c : Nat) (x : CtxS) : (s.setCx c x).cm = s.cm := rfl
@[simp] theorem State.setCx_tm (c : Nat) (x : CtxS) : (s.setCx c x).tm = s.tm := rfl
@[simp] theorem State.setCx_stb (c : Nat) (x : CtxS) : (s.setCx c x).stb = s.stb := rfl
@[simp] theorem State.setCx_fab (c : Nat) (x : CtxS) : (s.setCx c x).fab = s.fab := rfl
@[simp] theorem State.setCx_rec (c : Nat) (x : CtxS) : (s.setCx c x).rec_ = s.rec_ := rfl
@[simp] theorem State.setCx_integ (c : Nat) (x : CtxS) : (s.setCx c x).integ = s.integ := rfl
@[simp] theorem State.setCx_mgmt (c : Nat) (x : CtxS) : (s.setCx c x).mgmt = s.mgmt := rfl
@[simp] theorem State.setCx_yoke (c : Nat) (x : CtxS) : (s.setCx c x).yoke = s.yoke := rfl
@[simp] theorem State.setCx_gs (c : Nat) (x : CtxS) : (s.setCx c x).gs = s.gs := rfl
@[simp] theorem State.setCx_meter (c : Nat) (x : CtxS) : (s.setCx c x).meter = s.meter := rfl
@[simp] theorem State.setCx_strobeAt (c : Nat) (x : CtxS) : (s.setCx c x).strobeAt = s.strobeAt := rfl
@[simp] theorem State.setCx_tsAt (c : Nat) (x : CtxS) : (s.setCx c x).tsAt = s.tsAt := rfl
@[simp] theorem State.setCx_rstLow (c : Nat) (x : CtxS) : (s.setCx c x).rstLow = s.rstLow := rfl
@[simp] theorem State.setCx_wir (c : Nat) (x : CtxS) : (s.setCx c x).wir = s.wir := rfl
@[simp] theorem State.setCx_free (c : Nat) (x : CtxS) : (s.setCx c x).free = s.free := rfl
@[simp] theorem State.setCx_out (c : Nat) (x : CtxS) : (s.setCx c x).out = s.out := rfl
@[simp] theorem State.setCx_pending (c : Nat) (x : CtxS) : (s.setCx c x).pending = s.pending := rfl

/-! State.setTk -/
@[simp] theorem State.setTk_regs (c : Nat) (x : TickS) : (s.setTk c x).regs = s.regs := rfl
@[simp] theorem State.setTk_ring (c : Nat) (x : TickS) : (s.setTk c x).ring = s.ring := rfl
@[simp] theorem State.setTk_entries (c : Nat) (x : TickS) : (s.setTk c x).entries = s.entries := rfl
@[simp] theorem State.setTk_latches (c : Nat) (x : TickS) : (s.setTk c x).latches = s.latches := rfl
@[simp] theorem State.setTk_qstamp (c : Nat) (x : TickS) : (s.setTk c x).qstamp = s.qstamp := rfl
@[simp] theorem State.setTk_qhall (c : Nat) (x : TickS) : (s.setTk c x).qhall = s.qhall := rfl
@[simp] theorem State.setTk_jobs (c : Nat) (x : TickS) : (s.setTk c x).jobs = s.jobs := rfl
@[simp] theorem State.setTk_nextJob (c : Nat) (x : TickS) : (s.setTk c x).nextJob = s.nextJob := rfl
@[simp] theorem State.setTk_cx (c : Nat) (x : TickS) : (s.setTk c x).cx = s.cx := rfl
@[simp] theorem State.setTk_satPrev (c : Nat) (x : TickS) : (s.setTk c x).satPrev = s.satPrev := rfl
@[simp] theorem State.setTk_mem (c : Nat) (x : TickS) : (s.setTk c x).mem = s.mem := rfl
@[simp] theorem State.setTk_cm (c : Nat) (x : TickS) : (s.setTk c x).cm = s.cm := rfl
@[simp] theorem State.setTk_tm (c : Nat) (x : TickS) : (s.setTk c x).tm = s.tm := rfl
@[simp] theorem State.setTk_stb (c : Nat) (x : TickS) : (s.setTk c x).stb = s.stb := rfl
@[simp] theorem State.setTk_fab (c : Nat) (x : TickS) : (s.setTk c x).fab = s.fab := rfl
@[simp] theorem State.setTk_rec (c : Nat) (x : TickS) : (s.setTk c x).rec_ = s.rec_ := rfl
@[simp] theorem State.setTk_integ (c : Nat) (x : TickS) : (s.setTk c x).integ = s.integ := rfl
@[simp] theorem State.setTk_mgmt (c : Nat) (x : TickS) : (s.setTk c x).mgmt = s.mgmt := rfl
@[simp] theorem State.setTk_yoke (c : Nat) (x : TickS) : (s.setTk c x).yoke = s.yoke := rfl
@[simp] theorem State.setTk_gs (c : Nat) (x : TickS) : (s.setTk c x).gs = s.gs := rfl
@[simp] theorem State.setTk_meter (c : Nat) (x : TickS) : (s.setTk c x).meter = s.meter := rfl
@[simp] theorem State.setTk_strobeAt (c : Nat) (x : TickS) : (s.setTk c x).strobeAt = s.strobeAt := rfl
@[simp] theorem State.setTk_tsAt (c : Nat) (x : TickS) : (s.setTk c x).tsAt = s.tsAt := rfl
@[simp] theorem State.setTk_rstLow (c : Nat) (x : TickS) : (s.setTk c x).rstLow = s.rstLow := rfl
@[simp] theorem State.setTk_wir (c : Nat) (x : TickS) : (s.setTk c x).wir = s.wir := rfl
@[simp] theorem State.setTk_free (c : Nat) (x : TickS) : (s.setTk c x).free = s.free := rfl
@[simp] theorem State.setTk_out (c : Nat) (x : TickS) : (s.setTk c x).out = s.out := rfl
@[simp] theorem State.setTk_pending (c : Nat) (x : TickS) : (s.setTk c x).pending = s.pending := rfl

/-! State.setCm -/
@[simp] theorem State.setCm_regs (c : Nat) (x : CmS) : (s.setCm c x).regs = s.regs := rfl
@[simp] theorem State.setCm_ring (c : Nat) (x : CmS) : (s.setCm c x).ring = s.ring := rfl
@[simp] theorem State.setCm_entries (c : Nat) (x : CmS) : (s.setCm c x).entries = s.entries := rfl
@[simp] theorem State.setCm_latches (c : Nat) (x : CmS) : (s.setCm c x).latches = s.latches := rfl
@[simp] theorem State.setCm_qstamp (c : Nat) (x : CmS) : (s.setCm c x).qstamp = s.qstamp := rfl
@[simp] theorem State.setCm_qhall (c : Nat) (x : CmS) : (s.setCm c x).qhall = s.qhall := rfl
@[simp] theorem State.setCm_jobs (c : Nat) (x : CmS) : (s.setCm c x).jobs = s.jobs := rfl
@[simp] theorem State.setCm_nextJob (c : Nat) (x : CmS) : (s.setCm c x).nextJob = s.nextJob := rfl
@[simp] theorem State.setCm_cx (c : Nat) (x : CmS) : (s.setCm c x).cx = s.cx := rfl
@[simp] theorem State.setCm_tk (c : Nat) (x : CmS) : (s.setCm c x).tk = s.tk := rfl
@[simp] theorem State.setCm_satPrev (c : Nat) (x : CmS) : (s.setCm c x).satPrev = s.satPrev := rfl
@[simp] theorem State.setCm_mem (c : Nat) (x : CmS) : (s.setCm c x).mem = s.mem := rfl
@[simp] theorem State.setCm_tm (c : Nat) (x : CmS) : (s.setCm c x).tm = s.tm := rfl
@[simp] theorem State.setCm_stb (c : Nat) (x : CmS) : (s.setCm c x).stb = s.stb := rfl
@[simp] theorem State.setCm_fab (c : Nat) (x : CmS) : (s.setCm c x).fab = s.fab := rfl
@[simp] theorem State.setCm_rec (c : Nat) (x : CmS) : (s.setCm c x).rec_ = s.rec_ := rfl
@[simp] theorem State.setCm_integ (c : Nat) (x : CmS) : (s.setCm c x).integ = s.integ := rfl
@[simp] theorem State.setCm_mgmt (c : Nat) (x : CmS) : (s.setCm c x).mgmt = s.mgmt := rfl
@[simp] theorem State.setCm_yoke (c : Nat) (x : CmS) : (s.setCm c x).yoke = s.yoke := rfl
@[simp] theorem State.setCm_gs (c : Nat) (x : CmS) : (s.setCm c x).gs = s.gs := rfl
@[simp] theorem State.setCm_meter (c : Nat) (x : CmS) : (s.setCm c x).meter = s.meter := rfl
@[simp] theorem State.setCm_strobeAt (c : Nat) (x : CmS) : (s.setCm c x).strobeAt = s.strobeAt := rfl
@[simp] theorem State.setCm_tsAt (c : Nat) (x : CmS) : (s.setCm c x).tsAt = s.tsAt := rfl
@[simp] theorem State.setCm_rstLow (c : Nat) (x : CmS) : (s.setCm c x).rstLow = s.rstLow := rfl
@[simp] theorem State.setCm_wir (c : Nat) (x : CmS) : (s.setCm c x).wir = s.wir := rfl
@[simp] theorem State.setCm_free (c : Nat) (x : CmS) : (s.setCm c x).free = s.free := rfl
@[simp] theorem State.setCm_out (c : Nat) (x : CmS) : (s.setCm c x).out = s.out := rfl
@[simp] theorem State.setCm_pending (c : Nat) (x : CmS) : (s.setCm c x).pending = s.pending := rfl

/-! State.setTm -/
@[simp] theorem State.setTm_regs (c : Nat) (x : TeamS) : (s.setTm c x).regs = s.regs := rfl
@[simp] theorem State.setTm_ring (c : Nat) (x : TeamS) : (s.setTm c x).ring = s.ring := rfl
@[simp] theorem State.setTm_entries (c : Nat) (x : TeamS) : (s.setTm c x).entries = s.entries := rfl
@[simp] theorem State.setTm_latches (c : Nat) (x : TeamS) : (s.setTm c x).latches = s.latches := rfl
@[simp] theorem State.setTm_qstamp (c : Nat) (x : TeamS) : (s.setTm c x).qstamp = s.qstamp := rfl
@[simp] theorem State.setTm_qhall (c : Nat) (x : TeamS) : (s.setTm c x).qhall = s.qhall := rfl
@[simp] theorem State.setTm_jobs (c : Nat) (x : TeamS) : (s.setTm c x).jobs = s.jobs := rfl
@[simp] theorem State.setTm_nextJob (c : Nat) (x : TeamS) : (s.setTm c x).nextJob = s.nextJob := rfl
@[simp] theorem State.setTm_cx (c : Nat) (x : TeamS) : (s.setTm c x).cx = s.cx := rfl
@[simp] theorem State.setTm_tk (c : Nat) (x : TeamS) : (s.setTm c x).tk = s.tk := rfl
@[simp] theorem State.setTm_satPrev (c : Nat) (x : TeamS) : (s.setTm c x).satPrev = s.satPrev := rfl
@[simp] theorem State.setTm_mem (c : Nat) (x : TeamS) : (s.setTm c x).mem = s.mem := rfl
@[simp] theorem State.setTm_cm (c : Nat) (x : TeamS) : (s.setTm c x).cm = s.cm := rfl
@[simp] theorem State.setTm_stb (c : Nat) (x : TeamS) : (s.setTm c x).stb = s.stb := rfl
@[simp] theorem State.setTm_fab (c : Nat) (x : TeamS) : (s.setTm c x).fab = s.fab := rfl
@[simp] theorem State.setTm_rec (c : Nat) (x : TeamS) : (s.setTm c x).rec_ = s.rec_ := rfl
@[simp] theorem State.setTm_integ (c : Nat) (x : TeamS) : (s.setTm c x).integ = s.integ := rfl
@[simp] theorem State.setTm_mgmt (c : Nat) (x : TeamS) : (s.setTm c x).mgmt = s.mgmt := rfl
@[simp] theorem State.setTm_yoke (c : Nat) (x : TeamS) : (s.setTm c x).yoke = s.yoke := rfl
@[simp] theorem State.setTm_gs (c : Nat) (x : TeamS) : (s.setTm c x).gs = s.gs := rfl
@[simp] theorem State.setTm_meter (c : Nat) (x : TeamS) : (s.setTm c x).meter = s.meter := rfl
@[simp] theorem State.setTm_strobeAt (c : Nat) (x : TeamS) : (s.setTm c x).strobeAt = s.strobeAt := rfl
@[simp] theorem State.setTm_tsAt (c : Nat) (x : TeamS) : (s.setTm c x).tsAt = s.tsAt := rfl
@[simp] theorem State.setTm_rstLow (c : Nat) (x : TeamS) : (s.setTm c x).rstLow = s.rstLow := rfl
@[simp] theorem State.setTm_wir (c : Nat) (x : TeamS) : (s.setTm c x).wir = s.wir := rfl
@[simp] theorem State.setTm_free (c : Nat) (x : TeamS) : (s.setTm c x).free = s.free := rfl
@[simp] theorem State.setTm_out (c : Nat) (x : TeamS) : (s.setTm c x).out = s.out := rfl
@[simp] theorem State.setTm_pending (c : Nat) (x : TeamS) : (s.setTm c x).pending = s.pending := rfl

/-! State.setStb -/
@[simp] theorem State.setStb_regs (n : Nat) (x : StbS) : (s.setStb n x).regs = s.regs := rfl
@[simp] theorem State.setStb_ring (n : Nat) (x : StbS) : (s.setStb n x).ring = s.ring := rfl
@[simp] theorem State.setStb_entries (n : Nat) (x : StbS) : (s.setStb n x).entries = s.entries := rfl
@[simp] theorem State.setStb_latches (n : Nat) (x : StbS) : (s.setStb n x).latches = s.latches := rfl
@[simp] theorem State.setStb_qstamp (n : Nat) (x : StbS) : (s.setStb n x).qstamp = s.qstamp := rfl
@[simp] theorem State.setStb_qhall (n : Nat) (x : StbS) : (s.setStb n x).qhall = s.qhall := rfl
@[simp] theorem State.setStb_jobs (n : Nat) (x : StbS) : (s.setStb n x).jobs = s.jobs := rfl
@[simp] theorem State.setStb_nextJob (n : Nat) (x : StbS) : (s.setStb n x).nextJob = s.nextJob := rfl
@[simp] theorem State.setStb_cx (n : Nat) (x : StbS) : (s.setStb n x).cx = s.cx := rfl
@[simp] theorem State.setStb_tk (n : Nat) (x : StbS) : (s.setStb n x).tk = s.tk := rfl
@[simp] theorem State.setStb_satPrev (n : Nat) (x : StbS) : (s.setStb n x).satPrev = s.satPrev := rfl
@[simp] theorem State.setStb_mem (n : Nat) (x : StbS) : (s.setStb n x).mem = s.mem := rfl
@[simp] theorem State.setStb_cm (n : Nat) (x : StbS) : (s.setStb n x).cm = s.cm := rfl
@[simp] theorem State.setStb_tm (n : Nat) (x : StbS) : (s.setStb n x).tm = s.tm := rfl
@[simp] theorem State.setStb_fab (n : Nat) (x : StbS) : (s.setStb n x).fab = s.fab := rfl
@[simp] theorem State.setStb_rec (n : Nat) (x : StbS) : (s.setStb n x).rec_ = s.rec_ := rfl
@[simp] theorem State.setStb_integ (n : Nat) (x : StbS) : (s.setStb n x).integ = s.integ := rfl
@[simp] theorem State.setStb_mgmt (n : Nat) (x : StbS) : (s.setStb n x).mgmt = s.mgmt := rfl
@[simp] theorem State.setStb_yoke (n : Nat) (x : StbS) : (s.setStb n x).yoke = s.yoke := rfl
@[simp] theorem State.setStb_gs (n : Nat) (x : StbS) : (s.setStb n x).gs = s.gs := rfl
@[simp] theorem State.setStb_meter (n : Nat) (x : StbS) : (s.setStb n x).meter = s.meter := rfl
@[simp] theorem State.setStb_strobeAt (n : Nat) (x : StbS) : (s.setStb n x).strobeAt = s.strobeAt := rfl
@[simp] theorem State.setStb_tsAt (n : Nat) (x : StbS) : (s.setStb n x).tsAt = s.tsAt := rfl
@[simp] theorem State.setStb_rstLow (n : Nat) (x : StbS) : (s.setStb n x).rstLow = s.rstLow := rfl
@[simp] theorem State.setStb_wir (n : Nat) (x : StbS) : (s.setStb n x).wir = s.wir := rfl
@[simp] theorem State.setStb_free (n : Nat) (x : StbS) : (s.setStb n x).free = s.free := rfl
@[simp] theorem State.setStb_out (n : Nat) (x : StbS) : (s.setStb n x).out = s.out := rfl
@[simp] theorem State.setStb_pending (n : Nat) (x : StbS) : (s.setStb n x).pending = s.pending := rfl

/-! State.setFab -/
@[simp] theorem State.setFab_regs (x : FabS) : (s.setFab x).regs = s.regs := rfl
@[simp] theorem State.setFab_ring (x : FabS) : (s.setFab x).ring = s.ring := rfl
@[simp] theorem State.setFab_entries (x : FabS) : (s.setFab x).entries = s.entries := rfl
@[simp] theorem State.setFab_latches (x : FabS) : (s.setFab x).latches = s.latches := rfl
@[simp] theorem State.setFab_qstamp (x : FabS) : (s.setFab x).qstamp = s.qstamp := rfl
@[simp] theorem State.setFab_qhall (x : FabS) : (s.setFab x).qhall = s.qhall := rfl
@[simp] theorem State.setFab_jobs (x : FabS) : (s.setFab x).jobs = s.jobs := rfl
@[simp] theorem State.setFab_nextJob (x : FabS) : (s.setFab x).nextJob = s.nextJob := rfl
@[simp] theorem State.setFab_cx (x : FabS) : (s.setFab x).cx = s.cx := rfl
@[simp] theorem State.setFab_tk (x : FabS) : (s.setFab x).tk = s.tk := rfl
@[simp] theorem State.setFab_satPrev (x : FabS) : (s.setFab x).satPrev = s.satPrev := rfl
@[simp] theorem State.setFab_mem (x : FabS) : (s.setFab x).mem = s.mem := rfl
@[simp] theorem State.setFab_cm (x : FabS) : (s.setFab x).cm = s.cm := rfl
@[simp] theorem State.setFab_tm (x : FabS) : (s.setFab x).tm = s.tm := rfl
@[simp] theorem State.setFab_stb (x : FabS) : (s.setFab x).stb = s.stb := rfl
@[simp] theorem State.setFab_fab (x : FabS) : (s.setFab x).fab = x := rfl
@[simp] theorem State.setFab_rec (x : FabS) : (s.setFab x).rec_ = s.rec_ := rfl
@[simp] theorem State.setFab_integ (x : FabS) : (s.setFab x).integ = s.integ := rfl
@[simp] theorem State.setFab_mgmt (x : FabS) : (s.setFab x).mgmt = s.mgmt := rfl
@[simp] theorem State.setFab_yoke (x : FabS) : (s.setFab x).yoke = s.yoke := rfl
@[simp] theorem State.setFab_gs (x : FabS) : (s.setFab x).gs = s.gs := rfl
@[simp] theorem State.setFab_meter (x : FabS) : (s.setFab x).meter = s.meter := rfl
@[simp] theorem State.setFab_strobeAt (x : FabS) : (s.setFab x).strobeAt = s.strobeAt := rfl
@[simp] theorem State.setFab_tsAt (x : FabS) : (s.setFab x).tsAt = s.tsAt := rfl
@[simp] theorem State.setFab_rstLow (x : FabS) : (s.setFab x).rstLow = s.rstLow := rfl
@[simp] theorem State.setFab_wir (x : FabS) : (s.setFab x).wir = s.wir := rfl
@[simp] theorem State.setFab_free (x : FabS) : (s.setFab x).free = s.free := rfl
@[simp] theorem State.setFab_out (x : FabS) : (s.setFab x).out = s.out := rfl
@[simp] theorem State.setFab_pending (x : FabS) : (s.setFab x).pending = s.pending := rfl

/-! State.setMem -/
@[simp] theorem State.setMem_regs (x : MemS) : (s.setMem x).regs = s.regs := rfl
@[simp] theorem State.setMem_ring (x : MemS) : (s.setMem x).ring = s.ring := rfl
@[simp] theorem State.setMem_entries (x : MemS) : (s.setMem x).entries = s.entries := rfl
@[simp] theorem State.setMem_latches (x : MemS) : (s.setMem x).latches = s.latches := rfl
@[simp] theorem State.setMem_qstamp (x : MemS) : (s.setMem x).qstamp = s.qstamp := rfl
@[simp] theorem State.setMem_qhall (x : MemS) : (s.setMem x).qhall = s.qhall := rfl
@[simp] theorem State.setMem_jobs (x : MemS) : (s.setMem x).jobs = s.jobs := rfl
@[simp] theorem State.setMem_nextJob (x : MemS) : (s.setMem x).nextJob = s.nextJob := rfl
@[simp] theorem State.setMem_cx (x : MemS) : (s.setMem x).cx = s.cx := rfl
@[simp] theorem State.setMem_tk (x : MemS) : (s.setMem x).tk = s.tk := rfl
@[simp] theorem State.setMem_satPrev (x : MemS) : (s.setMem x).satPrev = s.satPrev := rfl
@[simp] theorem State.setMem_mem (x : MemS) : (s.setMem x).mem = x := rfl
@[simp] theorem State.setMem_cm (x : MemS) : (s.setMem x).cm = s.cm := rfl
@[simp] theorem State.setMem_tm (x : MemS) : (s.setMem x).tm = s.tm := rfl
@[simp] theorem State.setMem_stb (x : MemS) : (s.setMem x).stb = s.stb := rfl
@[simp] theorem State.setMem_fab (x : MemS) : (s.setMem x).fab = s.fab := rfl
@[simp] theorem State.setMem_rec (x : MemS) : (s.setMem x).rec_ = s.rec_ := rfl
@[simp] theorem State.setMem_integ (x : MemS) : (s.setMem x).integ = s.integ := rfl
@[simp] theorem State.setMem_mgmt (x : MemS) : (s.setMem x).mgmt = s.mgmt := rfl
@[simp] theorem State.setMem_yoke (x : MemS) : (s.setMem x).yoke = s.yoke := rfl
@[simp] theorem State.setMem_gs (x : MemS) : (s.setMem x).gs = s.gs := rfl
@[simp] theorem State.setMem_meter (x : MemS) : (s.setMem x).meter = s.meter := rfl
@[simp] theorem State.setMem_strobeAt (x : MemS) : (s.setMem x).strobeAt = s.strobeAt := rfl
@[simp] theorem State.setMem_tsAt (x : MemS) : (s.setMem x).tsAt = s.tsAt := rfl
@[simp] theorem State.setMem_rstLow (x : MemS) : (s.setMem x).rstLow = s.rstLow := rfl
@[simp] theorem State.setMem_wir (x : MemS) : (s.setMem x).wir = s.wir := rfl
@[simp] theorem State.setMem_free (x : MemS) : (s.setMem x).free = s.free := rfl
@[simp] theorem State.setMem_out (x : MemS) : (s.setMem x).out = s.out := rfl
@[simp] theorem State.setMem_pending (x : MemS) : (s.setMem x).pending = s.pending := rfl

/-! State.setRec -/
@[simp] theorem State.setRec_regs (x : RecS) : (s.setRec x).regs = s.regs := rfl
@[simp] theorem State.setRec_ring (x : RecS) : (s.setRec x).ring = s.ring := rfl
@[simp] theorem State.setRec_entries (x : RecS) : (s.setRec x).entries = s.entries := rfl
@[simp] theorem State.setRec_latches (x : RecS) : (s.setRec x).latches = s.latches := rfl
@[simp] theorem State.setRec_qstamp (x : RecS) : (s.setRec x).qstamp = s.qstamp := rfl
@[simp] theorem State.setRec_qhall (x : RecS) : (s.setRec x).qhall = s.qhall := rfl
@[simp] theorem State.setRec_jobs (x : RecS) : (s.setRec x).jobs = s.jobs := rfl
@[simp] theorem State.setRec_nextJob (x : RecS) : (s.setRec x).nextJob = s.nextJob := rfl
@[simp] theorem State.setRec_cx (x : RecS) : (s.setRec x).cx = s.cx := rfl
@[simp] theorem State.setRec_tk (x : RecS) : (s.setRec x).tk = s.tk := rfl
@[simp] theorem State.setRec_satPrev (x : RecS) : (s.setRec x).satPrev = s.satPrev := rfl
@[simp] theorem State.setRec_mem (x : RecS) : (s.setRec x).mem = s.mem := rfl
@[simp] theorem State.setRec_cm (x : RecS) : (s.setRec x).cm = s.cm := rfl
@[simp] theorem State.setRec_tm (x : RecS) : (s.setRec x).tm = s.tm := rfl
@[simp] theorem State.setRec_stb (x : RecS) : (s.setRec x).stb = s.stb := rfl
@[simp] theorem State.setRec_fab (x : RecS) : (s.setRec x).fab = s.fab := rfl
@[simp] theorem State.setRec_rec (x : RecS) : (s.setRec x).rec_ = x := rfl
@[simp] theorem State.setRec_integ (x : RecS) : (s.setRec x).integ = s.integ := rfl
@[simp] theorem State.setRec_mgmt (x : RecS) : (s.setRec x).mgmt = s.mgmt := rfl
@[simp] theorem State.setRec_yoke (x : RecS) : (s.setRec x).yoke = s.yoke := rfl
@[simp] theorem State.setRec_gs (x : RecS) : (s.setRec x).gs = s.gs := rfl
@[simp] theorem State.setRec_meter (x : RecS) : (s.setRec x).meter = s.meter := rfl
@[simp] theorem State.setRec_strobeAt (x : RecS) : (s.setRec x).strobeAt = s.strobeAt := rfl
@[simp] theorem State.setRec_tsAt (x : RecS) : (s.setRec x).tsAt = s.tsAt := rfl
@[simp] theorem State.setRec_rstLow (x : RecS) : (s.setRec x).rstLow = s.rstLow := rfl
@[simp] theorem State.setRec_wir (x : RecS) : (s.setRec x).wir = s.wir := rfl
@[simp] theorem State.setRec_free (x : RecS) : (s.setRec x).free = s.free := rfl
@[simp] theorem State.setRec_out (x : RecS) : (s.setRec x).out = s.out := rfl
@[simp] theorem State.setRec_pending (x : RecS) : (s.setRec x).pending = s.pending := rfl

/-! State.setInteg -/
@[simp] theorem State.setInteg_regs (x : IntS) : (s.setInteg x).regs = s.regs := rfl
@[simp] theorem State.setInteg_ring (x : IntS) : (s.setInteg x).ring = s.ring := rfl
@[simp] theorem State.setInteg_entries (x : IntS) : (s.setInteg x).entries = s.entries := rfl
@[simp] theorem State.setInteg_latches (x : IntS) : (s.setInteg x).latches = s.latches := rfl
@[simp] theorem State.setInteg_qstamp (x : IntS) : (s.setInteg x).qstamp = s.qstamp := rfl
@[simp] theorem State.setInteg_qhall (x : IntS) : (s.setInteg x).qhall = s.qhall := rfl
@[simp] theorem State.setInteg_jobs (x : IntS) : (s.setInteg x).jobs = s.jobs := rfl
@[simp] theorem State.setInteg_nextJob (x : IntS) : (s.setInteg x).nextJob = s.nextJob := rfl
@[simp] theorem State.setInteg_cx (x : IntS) : (s.setInteg x).cx = s.cx := rfl
@[simp] theorem State.setInteg_tk (x : IntS) : (s.setInteg x).tk = s.tk := rfl
@[simp] theorem State.setInteg_satPrev (x : IntS) : (s.setInteg x).satPrev = s.satPrev := rfl
@[simp] theorem State.setInteg_mem (x : IntS) : (s.setInteg x).mem = s.mem := rfl
@[simp] theorem State.setInteg_cm (x : IntS) : (s.setInteg x).cm = s.cm := rfl
@[simp] theorem State.setInteg_tm (x : IntS) : (s.setInteg x).tm = s.tm := rfl
@[simp] theorem State.setInteg_stb (x : IntS) : (s.setInteg x).stb = s.stb := rfl
@[simp] theorem State.setInteg_fab (x : IntS) : (s.setInteg x).fab = s.fab := rfl
@[simp] theorem State.setInteg_rec (x : IntS) : (s.setInteg x).rec_ = s.rec_ := rfl
@[simp] theorem State.setInteg_integ (x : IntS) : (s.setInteg x).integ = x := rfl
@[simp] theorem State.setInteg_mgmt (x : IntS) : (s.setInteg x).mgmt = s.mgmt := rfl
@[simp] theorem State.setInteg_yoke (x : IntS) : (s.setInteg x).yoke = s.yoke := rfl
@[simp] theorem State.setInteg_gs (x : IntS) : (s.setInteg x).gs = s.gs := rfl
@[simp] theorem State.setInteg_meter (x : IntS) : (s.setInteg x).meter = s.meter := rfl
@[simp] theorem State.setInteg_strobeAt (x : IntS) : (s.setInteg x).strobeAt = s.strobeAt := rfl
@[simp] theorem State.setInteg_tsAt (x : IntS) : (s.setInteg x).tsAt = s.tsAt := rfl
@[simp] theorem State.setInteg_rstLow (x : IntS) : (s.setInteg x).rstLow = s.rstLow := rfl
@[simp] theorem State.setInteg_wir (x : IntS) : (s.setInteg x).wir = s.wir := rfl
@[simp] theorem State.setInteg_free (x : IntS) : (s.setInteg x).free = s.free := rfl
@[simp] theorem State.setInteg_out (x : IntS) : (s.setInteg x).out = s.out := rfl
@[simp] theorem State.setInteg_pending (x : IntS) : (s.setInteg x).pending = s.pending := rfl

/-! State.setMgmt -/
@[simp] theorem State.setMgmt_regs (x : MgmtS) : (s.setMgmt x).regs = s.regs := rfl
@[simp] theorem State.setMgmt_ring (x : MgmtS) : (s.setMgmt x).ring = s.ring := rfl
@[simp] theorem State.setMgmt_entries (x : MgmtS) : (s.setMgmt x).entries = s.entries := rfl
@[simp] theorem State.setMgmt_latches (x : MgmtS) : (s.setMgmt x).latches = s.latches := rfl
@[simp] theorem State.setMgmt_qstamp (x : MgmtS) : (s.setMgmt x).qstamp = s.qstamp := rfl
@[simp] theorem State.setMgmt_qhall (x : MgmtS) : (s.setMgmt x).qhall = s.qhall := rfl
@[simp] theorem State.setMgmt_jobs (x : MgmtS) : (s.setMgmt x).jobs = s.jobs := rfl
@[simp] theorem State.setMgmt_nextJob (x : MgmtS) : (s.setMgmt x).nextJob = s.nextJob := rfl
@[simp] theorem State.setMgmt_cx (x : MgmtS) : (s.setMgmt x).cx = s.cx := rfl
@[simp] theorem State.setMgmt_tk (x : MgmtS) : (s.setMgmt x).tk = s.tk := rfl
@[simp] theorem State.setMgmt_satPrev (x : MgmtS) : (s.setMgmt x).satPrev = s.satPrev := rfl
@[simp] theorem State.setMgmt_mem (x : MgmtS) : (s.setMgmt x).mem = s.mem := rfl
@[simp] theorem State.setMgmt_cm (x : MgmtS) : (s.setMgmt x).cm = s.cm := rfl
@[simp] theorem State.setMgmt_tm (x : MgmtS) : (s.setMgmt x).tm = s.tm := rfl
@[simp] theorem State.setMgmt_stb (x : MgmtS) : (s.setMgmt x).stb = s.stb := rfl
@[simp] theorem State.setMgmt_fab (x : MgmtS) : (s.setMgmt x).fab = s.fab := rfl
@[simp] theorem State.setMgmt_rec (x : MgmtS) : (s.setMgmt x).rec_ = s.rec_ := rfl
@[simp] theorem State.setMgmt_integ (x : MgmtS) : (s.setMgmt x).integ = s.integ := rfl
@[simp] theorem State.setMgmt_mgmt (x : MgmtS) : (s.setMgmt x).mgmt = x := rfl
@[simp] theorem State.setMgmt_yoke (x : MgmtS) : (s.setMgmt x).yoke = s.yoke := rfl
@[simp] theorem State.setMgmt_gs (x : MgmtS) : (s.setMgmt x).gs = s.gs := rfl
@[simp] theorem State.setMgmt_meter (x : MgmtS) : (s.setMgmt x).meter = s.meter := rfl
@[simp] theorem State.setMgmt_strobeAt (x : MgmtS) : (s.setMgmt x).strobeAt = s.strobeAt := rfl
@[simp] theorem State.setMgmt_tsAt (x : MgmtS) : (s.setMgmt x).tsAt = s.tsAt := rfl
@[simp] theorem State.setMgmt_rstLow (x : MgmtS) : (s.setMgmt x).rstLow = s.rstLow := rfl
@[simp] theorem State.setMgmt_wir (x : MgmtS) : (s.setMgmt x).wir = s.wir := rfl
@[simp] theorem State.setMgmt_free (x : MgmtS) : (s.setMgmt x).free = s.free := rfl
@[simp] theorem State.setMgmt_out (x : MgmtS) : (s.setMgmt x).out = s.out := rfl
@[simp] theorem State.setMgmt_pending (x : MgmtS) : (s.setMgmt x).pending = s.pending := rfl

/-! State.setYoke -/
@[simp] theorem State.setYoke_regs (x : YokeS) : (s.setYoke x).regs = s.regs := rfl
@[simp] theorem State.setYoke_ring (x : YokeS) : (s.setYoke x).ring = s.ring := rfl
@[simp] theorem State.setYoke_entries (x : YokeS) : (s.setYoke x).entries = s.entries := rfl
@[simp] theorem State.setYoke_latches (x : YokeS) : (s.setYoke x).latches = s.latches := rfl
@[simp] theorem State.setYoke_qstamp (x : YokeS) : (s.setYoke x).qstamp = s.qstamp := rfl
@[simp] theorem State.setYoke_qhall (x : YokeS) : (s.setYoke x).qhall = s.qhall := rfl
@[simp] theorem State.setYoke_jobs (x : YokeS) : (s.setYoke x).jobs = s.jobs := rfl
@[simp] theorem State.setYoke_nextJob (x : YokeS) : (s.setYoke x).nextJob = s.nextJob := rfl
@[simp] theorem State.setYoke_cx (x : YokeS) : (s.setYoke x).cx = s.cx := rfl
@[simp] theorem State.setYoke_tk (x : YokeS) : (s.setYoke x).tk = s.tk := rfl
@[simp] theorem State.setYoke_satPrev (x : YokeS) : (s.setYoke x).satPrev = s.satPrev := rfl
@[simp] theorem State.setYoke_mem (x : YokeS) : (s.setYoke x).mem = s.mem := rfl
@[simp] theorem State.setYoke_cm (x : YokeS) : (s.setYoke x).cm = s.cm := rfl
@[simp] theorem State.setYoke_tm (x : YokeS) : (s.setYoke x).tm = s.tm := rfl
@[simp] theorem State.setYoke_stb (x : YokeS) : (s.setYoke x).stb = s.stb := rfl
@[simp] theorem State.setYoke_fab (x : YokeS) : (s.setYoke x).fab = s.fab := rfl
@[simp] theorem State.setYoke_rec (x : YokeS) : (s.setYoke x).rec_ = s.rec_ := rfl
@[simp] theorem State.setYoke_integ (x : YokeS) : (s.setYoke x).integ = s.integ := rfl
@[simp] theorem State.setYoke_mgmt (x : YokeS) : (s.setYoke x).mgmt = s.mgmt := rfl
@[simp] theorem State.setYoke_yoke (x : YokeS) : (s.setYoke x).yoke = x := rfl
@[simp] theorem State.setYoke_gs (x : YokeS) : (s.setYoke x).gs = s.gs := rfl
@[simp] theorem State.setYoke_meter (x : YokeS) : (s.setYoke x).meter = s.meter := rfl
@[simp] theorem State.setYoke_strobeAt (x : YokeS) : (s.setYoke x).strobeAt = s.strobeAt := rfl
@[simp] theorem State.setYoke_tsAt (x : YokeS) : (s.setYoke x).tsAt = s.tsAt := rfl
@[simp] theorem State.setYoke_rstLow (x : YokeS) : (s.setYoke x).rstLow = s.rstLow := rfl
@[simp] theorem State.setYoke_wir (x : YokeS) : (s.setYoke x).wir = s.wir := rfl
@[simp] theorem State.setYoke_free (x : YokeS) : (s.setYoke x).free = s.free := rfl
@[simp] theorem State.setYoke_out (x : YokeS) : (s.setYoke x).out = s.out := rfl
@[simp] theorem State.setYoke_pending (x : YokeS) : (s.setYoke x).pending = s.pending := rfl

/-! State.setMeter -/
@[simp] theorem State.setMeter_regs (m : MeterS) : (s.setMeter m).regs = s.regs := rfl
@[simp] theorem State.setMeter_ring (m : MeterS) : (s.setMeter m).ring = s.ring := rfl
@[simp] theorem State.setMeter_entries (m : MeterS) : (s.setMeter m).entries = s.entries := rfl
@[simp] theorem State.setMeter_latches (m : MeterS) : (s.setMeter m).latches = s.latches := rfl
@[simp] theorem State.setMeter_qstamp (m : MeterS) : (s.setMeter m).qstamp = s.qstamp := rfl
@[simp] theorem State.setMeter_qhall (m : MeterS) : (s.setMeter m).qhall = s.qhall := rfl
@[simp] theorem State.setMeter_jobs (m : MeterS) : (s.setMeter m).jobs = s.jobs := rfl
@[simp] theorem State.setMeter_nextJob (m : MeterS) : (s.setMeter m).nextJob = s.nextJob := rfl
@[simp] theorem State.setMeter_cx (m : MeterS) : (s.setMeter m).cx = s.cx := rfl
@[simp] theorem State.setMeter_tk (m : MeterS) : (s.setMeter m).tk = s.tk := rfl
@[simp] theorem State.setMeter_satPrev (m : MeterS) : (s.setMeter m).satPrev = s.satPrev := rfl
@[simp] theorem State.setMeter_mem (m : MeterS) : (s.setMeter m).mem = s.mem := rfl
@[simp] theorem State.setMeter_cm (m : MeterS) : (s.setMeter m).cm = s.cm := rfl
@[simp] theorem State.setMeter_tm (m : MeterS) : (s.setMeter m).tm = s.tm := rfl
@[simp] theorem State.setMeter_stb (m : MeterS) : (s.setMeter m).stb = s.stb := rfl
@[simp] theorem State.setMeter_fab (m : MeterS) : (s.setMeter m).fab = s.fab := rfl
@[simp] theorem State.setMeter_rec (m : MeterS) : (s.setMeter m).rec_ = s.rec_ := rfl
@[simp] theorem State.setMeter_integ (m : MeterS) : (s.setMeter m).integ = s.integ := rfl
@[simp] theorem State.setMeter_mgmt (m : MeterS) : (s.setMeter m).mgmt = s.mgmt := rfl
@[simp] theorem State.setMeter_yoke (m : MeterS) : (s.setMeter m).yoke = s.yoke := rfl
@[simp] theorem State.setMeter_gs (m : MeterS) : (s.setMeter m).gs = s.gs := rfl
@[simp] theorem State.setMeter_meter (m : MeterS) : (s.setMeter m).meter = m := rfl
@[simp] theorem State.setMeter_strobeAt (m : MeterS) : (s.setMeter m).strobeAt = s.strobeAt := rfl
@[simp] theorem State.setMeter_tsAt (m : MeterS) : (s.setMeter m).tsAt = s.tsAt := rfl
@[simp] theorem State.setMeter_rstLow (m : MeterS) : (s.setMeter m).rstLow = s.rstLow := rfl
@[simp] theorem State.setMeter_wir (m : MeterS) : (s.setMeter m).wir = s.wir := rfl
@[simp] theorem State.setMeter_free (m : MeterS) : (s.setMeter m).free = s.free := rfl
@[simp] theorem State.setMeter_out (m : MeterS) : (s.setMeter m).out = s.out := rfl
@[simp] theorem State.setMeter_pending (m : MeterS) : (s.setMeter m).pending = s.pending := rfl

/-! State.setEnt -/
@[simp] theorem State.setEnt_regs (k : Nat) (x : Entry) : (s.setEnt k x).regs = s.regs := rfl
@[simp] theorem State.setEnt_ring (k : Nat) (x : Entry) : (s.setEnt k x).ring = s.ring := rfl
@[simp] theorem State.setEnt_latches (k : Nat) (x : Entry) : (s.setEnt k x).latches = s.latches := rfl
@[simp] theorem State.setEnt_qstamp (k : Nat) (x : Entry) : (s.setEnt k x).qstamp = s.qstamp := rfl
@[simp] theorem State.setEnt_qhall (k : Nat) (x : Entry) : (s.setEnt k x).qhall = s.qhall := rfl
@[simp] theorem State.setEnt_jobs (k : Nat) (x : Entry) : (s.setEnt k x).jobs = s.jobs := rfl
@[simp] theorem State.setEnt_nextJob (k : Nat) (x : Entry) : (s.setEnt k x).nextJob = s.nextJob := rfl
@[simp] theorem State.setEnt_cx (k : Nat) (x : Entry) : (s.setEnt k x).cx = s.cx := rfl
@[simp] theorem State.setEnt_tk (k : Nat) (x : Entry) : (s.setEnt k x).tk = s.tk := rfl
@[simp] theorem State.setEnt_satPrev (k : Nat) (x : Entry) : (s.setEnt k x).satPrev = s.satPrev := rfl
@[simp] theorem State.setEnt_mem (k : Nat) (x : Entry) : (s.setEnt k x).mem = s.mem := rfl
@[simp] theorem State.setEnt_cm (k : Nat) (x : Entry) : (s.setEnt k x).cm = s.cm := rfl
@[simp] theorem State.setEnt_tm (k : Nat) (x : Entry) : (s.setEnt k x).tm = s.tm := rfl
@[simp] theorem State.setEnt_stb (k : Nat) (x : Entry) : (s.setEnt k x).stb = s.stb := rfl
@[simp] theorem State.setEnt_fab (k : Nat) (x : Entry) : (s.setEnt k x).fab = s.fab := rfl
@[simp] theorem State.setEnt_rec (k : Nat) (x : Entry) : (s.setEnt k x).rec_ = s.rec_ := rfl
@[simp] theorem State.setEnt_integ (k : Nat) (x : Entry) : (s.setEnt k x).integ = s.integ := rfl
@[simp] theorem State.setEnt_mgmt (k : Nat) (x : Entry) : (s.setEnt k x).mgmt = s.mgmt := rfl
@[simp] theorem State.setEnt_yoke (k : Nat) (x : Entry) : (s.setEnt k x).yoke = s.yoke := rfl
@[simp] theorem State.setEnt_gs (k : Nat) (x : Entry) : (s.setEnt k x).gs = s.gs := rfl
@[simp] theorem State.setEnt_meter (k : Nat) (x : Entry) : (s.setEnt k x).meter = s.meter := rfl
@[simp] theorem State.setEnt_strobeAt (k : Nat) (x : Entry) : (s.setEnt k x).strobeAt = s.strobeAt := rfl
@[simp] theorem State.setEnt_tsAt (k : Nat) (x : Entry) : (s.setEnt k x).tsAt = s.tsAt := rfl
@[simp] theorem State.setEnt_rstLow (k : Nat) (x : Entry) : (s.setEnt k x).rstLow = s.rstLow := rfl
@[simp] theorem State.setEnt_wir (k : Nat) (x : Entry) : (s.setEnt k x).wir = s.wir := rfl
@[simp] theorem State.setEnt_free (k : Nat) (x : Entry) : (s.setEnt k x).free = s.free := rfl
@[simp] theorem State.setEnt_out (k : Nat) (x : Entry) : (s.setEnt k x).out = s.out := rfl
@[simp] theorem State.setEnt_pending (k : Nat) (x : Entry) : (s.setEnt k x).pending = s.pending := rfl

/-! State.setJob -/
@[simp] theorem State.setJob_regs (j : Job) : (s.setJob j).regs = s.regs := rfl
@[simp] theorem State.setJob_ring (j : Job) : (s.setJob j).ring = s.ring := rfl
@[simp] theorem State.setJob_entries (j : Job) : (s.setJob j).entries = s.entries := rfl
@[simp] theorem State.setJob_latches (j : Job) : (s.setJob j).latches = s.latches := rfl
@[simp] theorem State.setJob_qstamp (j : Job) : (s.setJob j).qstamp = s.qstamp := rfl
@[simp] theorem State.setJob_qhall (j : Job) : (s.setJob j).qhall = s.qhall := rfl
@[simp] theorem State.setJob_nextJob (j : Job) : (s.setJob j).nextJob = s.nextJob := rfl
@[simp] theorem State.setJob_cx (j : Job) : (s.setJob j).cx = s.cx := rfl
@[simp] theorem State.setJob_tk (j : Job) : (s.setJob j).tk = s.tk := rfl
@[simp] theorem State.setJob_satPrev (j : Job) : (s.setJob j).satPrev = s.satPrev := rfl
@[simp] theorem State.setJob_mem (j : Job) : (s.setJob j).mem = s.mem := rfl
@[simp] theorem State.setJob_cm (j : Job) : (s.setJob j).cm = s.cm := rfl
@[simp] theorem State.setJob_tm (j : Job) : (s.setJob j).tm = s.tm := rfl
@[simp] theorem State.setJob_stb (j : Job) : (s.setJob j).stb = s.stb := rfl
@[simp] theorem State.setJob_fab (j : Job) : (s.setJob j).fab = s.fab := rfl
@[simp] theorem State.setJob_rec (j : Job) : (s.setJob j).rec_ = s.rec_ := rfl
@[simp] theorem State.setJob_integ (j : Job) : (s.setJob j).integ = s.integ := rfl
@[simp] theorem State.setJob_mgmt (j : Job) : (s.setJob j).mgmt = s.mgmt := rfl
@[simp] theorem State.setJob_yoke (j : Job) : (s.setJob j).yoke = s.yoke := rfl
@[simp] theorem State.setJob_gs (j : Job) : (s.setJob j).gs = s.gs := rfl
@[simp] theorem State.setJob_meter (j : Job) : (s.setJob j).meter = s.meter := rfl
@[simp] theorem State.setJob_strobeAt (j : Job) : (s.setJob j).strobeAt = s.strobeAt := rfl
@[simp] theorem State.setJob_tsAt (j : Job) : (s.setJob j).tsAt = s.tsAt := rfl
@[simp] theorem State.setJob_rstLow (j : Job) : (s.setJob j).rstLow = s.rstLow := rfl
@[simp] theorem State.setJob_wir (j : Job) : (s.setJob j).wir = s.wir := rfl
@[simp] theorem State.setJob_free (j : Job) : (s.setJob j).free = s.free := rfl
@[simp] theorem State.setJob_out (j : Job) : (s.setJob j).out = s.out := rfl
@[simp] theorem State.setJob_pending (j : Job) : (s.setJob j).pending = s.pending := rfl

/-! State.delJob -/
@[simp] theorem State.delJob_regs (id : Nat) : (s.delJob id).regs = s.regs := rfl
@[simp] theorem State.delJob_ring (id : Nat) : (s.delJob id).ring = s.ring := rfl
@[simp] theorem State.delJob_entries (id : Nat) : (s.delJob id).entries = s.entries := rfl
@[simp] theorem State.delJob_latches (id : Nat) : (s.delJob id).latches = s.latches := rfl
@[simp] theorem State.delJob_qstamp (id : Nat) : (s.delJob id).qstamp = s.qstamp := rfl
@[simp] theorem State.delJob_qhall (id : Nat) : (s.delJob id).qhall = s.qhall := rfl
@[simp] theorem State.delJob_nextJob (id : Nat) : (s.delJob id).nextJob = s.nextJob := rfl
@[simp] theorem State.delJob_cx (id : Nat) : (s.delJob id).cx = s.cx := rfl
@[simp] theorem State.delJob_tk (id : Nat) : (s.delJob id).tk = s.tk := rfl
@[simp] theorem State.delJob_satPrev (id : Nat) : (s.delJob id).satPrev = s.satPrev := rfl
@[simp] theorem State.delJob_mem (id : Nat) : (s.delJob id).mem = s.mem := rfl
@[simp] theorem State.delJob_cm (id : Nat) : (s.delJob id).cm = s.cm := rfl
@[simp] theorem State.delJob_tm (id : Nat) : (s.delJob id).tm = s.tm := rfl
@[simp] theorem State.delJob_stb (id : Nat) : (s.delJob id).stb = s.stb := rfl
@[simp] theorem State.delJob_fab (id : Nat) : (s.delJob id).fab = s.fab := rfl
@[simp] theorem State.delJob_rec (id : Nat) : (s.delJob id).rec_ = s.rec_ := rfl
@[simp] theorem State.delJob_integ (id : Nat) : (s.delJob id).integ = s.integ := rfl
@[simp] theorem State.delJob_mgmt (id : Nat) : (s.delJob id).mgmt = s.mgmt := rfl
@[simp] theorem State.delJob_yoke (id : Nat) : (s.delJob id).yoke = s.yoke := rfl
@[simp] theorem State.delJob_gs (id : Nat) : (s.delJob id).gs = s.gs := rfl
@[simp] theorem State.delJob_meter (id : Nat) : (s.delJob id).meter = s.meter := rfl
@[simp] theorem State.delJob_strobeAt (id : Nat) : (s.delJob id).strobeAt = s.strobeAt := rfl
@[simp] theorem State.delJob_tsAt (id : Nat) : (s.delJob id).tsAt = s.tsAt := rfl
@[simp] theorem State.delJob_rstLow (id : Nat) : (s.delJob id).rstLow = s.rstLow := rfl
@[simp] theorem State.delJob_wir (id : Nat) : (s.delJob id).wir = s.wir := rfl
@[simp] theorem State.delJob_free (id : Nat) : (s.delJob id).free = s.free := rfl
@[simp] theorem State.delJob_out (id : Nat) : (s.delJob id).out = s.out := rfl
@[simp] theorem State.delJob_pending (id : Nat) : (s.delJob id).pending = s.pending := rfl

/-! State.addJob -/
@[simp] theorem State.addJob_regs (j : Job) : (s.addJob j).regs = s.regs := rfl
@[simp] theorem State.addJob_ring (j : Job) : (s.addJob j).ring = s.ring := rfl
@[simp] theorem State.addJob_entries (j : Job) : (s.addJob j).entries = s.entries := rfl
@[simp] theorem State.addJob_latches (j : Job) : (s.addJob j).latches = s.latches := rfl
@[simp] theorem State.addJob_qstamp (j : Job) : (s.addJob j).qstamp = s.qstamp := rfl
@[simp] theorem State.addJob_qhall (j : Job) : (s.addJob j).qhall = s.qhall := rfl
@[simp] theorem State.addJob_nextJob (j : Job) : (s.addJob j).nextJob = s.nextJob + 1 := rfl
@[simp] theorem State.addJob_cx (j : Job) : (s.addJob j).cx = s.cx := rfl
@[simp] theorem State.addJob_tk (j : Job) : (s.addJob j).tk = s.tk := rfl
@[simp] theorem State.addJob_satPrev (j : Job) : (s.addJob j).satPrev = s.satPrev := rfl
@[simp] theorem State.addJob_mem (j : Job) : (s.addJob j).mem = s.mem := rfl
@[simp] theorem State.addJob_cm (j : Job) : (s.addJob j).cm = s.cm := rfl
@[simp] theorem State.addJob_tm (j : Job) : (s.addJob j).tm = s.tm := rfl
@[simp] theorem State.addJob_stb (j : Job) : (s.addJob j).stb = s.stb := rfl
@[simp] theorem State.addJob_fab (j : Job) : (s.addJob j).fab = s.fab := rfl
@[simp] theorem State.addJob_rec (j : Job) : (s.addJob j).rec_ = s.rec_ := rfl
@[simp] theorem State.addJob_integ (j : Job) : (s.addJob j).integ = s.integ := rfl
@[simp] theorem State.addJob_mgmt (j : Job) : (s.addJob j).mgmt = s.mgmt := rfl
@[simp] theorem State.addJob_yoke (j : Job) : (s.addJob j).yoke = s.yoke := rfl
@[simp] theorem State.addJob_gs (j : Job) : (s.addJob j).gs = s.gs := rfl
@[simp] theorem State.addJob_meter (j : Job) : (s.addJob j).meter = s.meter := rfl
@[simp] theorem State.addJob_strobeAt (j : Job) : (s.addJob j).strobeAt = s.strobeAt := rfl
@[simp] theorem State.addJob_tsAt (j : Job) : (s.addJob j).tsAt = s.tsAt := rfl
@[simp] theorem State.addJob_rstLow (j : Job) : (s.addJob j).rstLow = s.rstLow := rfl
@[simp] theorem State.addJob_wir (j : Job) : (s.addJob j).wir = s.wir := rfl
@[simp] theorem State.addJob_free (j : Job) : (s.addJob j).free = s.free := rfl
@[simp] theorem State.addJob_out (j : Job) : (s.addJob j).out = s.out := rfl
@[simp] theorem State.addJob_pending (j : Job) : (s.addJob j).pending = s.pending := rfl

end Sys2Proof.Machine
end

