-- ==== Sys2Proof/Laws/Regs.lean ====
section
/-! SUPPORT. The register file: a field reads back what was written modulo its width, no other field changes, and the
listing stays in its one canonical order. The counters' operations are writes of a field. -/

namespace Sys2Proof.Machine

/-- A key listed is found. -/
theorem Tbl.find_ins_same {α : Type} (t : Tbl α) (k : Nat) (v : α) : (t.ins k v).find k = some v := by
  induction t with
  | nil => simp [Tbl.ins, Tbl.find]
  | cons p t ih =>
    obtain ⟨k', v'⟩ := p
    by_cases h : k < k'
    · simp [Tbl.ins, Tbl.find, h]
    · by_cases h2 : k = k'
      · simp [Tbl.ins, Tbl.find, h2]
      · have h3 : ¬ k' = k := fun e => h2 e.symm
        simp [Tbl.ins, Tbl.find, h, h2, h3, ih]

/-- Listing a key leaves every other key as it was. -/
theorem Tbl.find_ins_ne {α : Type} (t : Tbl α) (k i : Nat) (v : α) (h : i ≠ k) : (t.ins k v).find i = t.find i := by
  induction t with
  | nil => simp [Tbl.ins, Tbl.find, Ne.symm h]
  | cons p t ih =>
    obtain ⟨k', v'⟩ := p
    by_cases h1 : k < k'
    · simp [Tbl.ins, Tbl.find, h1, Ne.symm h]
    · by_cases h2 : k = k'
      · subst h2; simp [Tbl.ins, Tbl.find, Ne.symm h]
      · simp [Tbl.ins, Tbl.find, h1, h2, ih]

/-- A key taken out is not found. -/
theorem Tbl.find_del_same {α : Type} (t : Tbl α) (k : Nat) : (t.del k).find k = none := by
  induction t with
  | nil => rfl
  | cons p t ih =>
    obtain ⟨k', v'⟩ := p
    by_cases h : k' = k
    · simp [Tbl.del, h, ih]
    · simp [Tbl.del, Tbl.find, h, ih]

/-- Taking a key out leaves every other key as it was. -/
theorem Tbl.find_del_ne {α : Type} (t : Tbl α) (k i : Nat) (h : i ≠ k) : (t.del k).find i = t.find i := by
  induction t with
  | nil => rfl
  | cons p t ih =>
    obtain ⟨k', v'⟩ := p
    by_cases h1 : k' = k
    · subst h1; simp [Tbl.del, Tbl.find, ih, Ne.symm h]
    · simp [Tbl.del, Tbl.find, h1, ih]

/-- A key set reads back its value. -/
@[simp] theorem Tbl.at_put_same {α : Type} [DecidableEq α] (t : Tbl α) (d : α) (k : Nat) (v : α) :
    (t.put d k v).at d k = v := by
  by_cases h : v = d
  · simp [Tbl.put, h, Tbl.at, Tbl.find_del_same]
  · simp [Tbl.put, h, Tbl.at, Tbl.find_ins_same]

/-- Setting a key leaves every other key as it was, whatever default the other is read with. -/
@[simp] theorem Tbl.at_put_ne {α : Type} [DecidableEq α] (t : Tbl α) (d d' : α) (k i : Nat) (v : α) (h : i ≠ k) :
    (t.put d k v).at d' i = t.at d' i := by
  by_cases h1 : v = d
  · simp [Tbl.put, h1, Tbl.at, Tbl.find_del_ne t k i h]
  · simp [Tbl.put, h1, Tbl.at, Tbl.find_ins_ne t k i v h]

/-- A field reads back what was written, modulo its width. -/
@[simp] theorem State.get_set_same (s : State) (l : Loc) (v : Nat) : (s.set l v).get l = v % 2 ^ l.w := by
  simp [State.get, State.set]

/-- A write of a field leaves every other field as it was. -/
theorem State.get_set_ne (s : State) (l m : Loc) (v : Nat) (h : m.key ≠ l.key) : (s.set l v).get m = s.get m := by
  simp [State.get, State.set, h]

/-- The first key of a listing lies above a bound. -/
def Tbl.above {α : Type} (b : Nat) : Tbl α → Bool
  | [] => true
  | (k, _) :: _ => decide (b < k)

/-- A listing with a first entry is in order when the rest is and lies above it. -/
theorem Tbl.rising_cons {α : Type} (k : Nat) (v : α) (t : Tbl α) :
    Tbl.rising ((k, v) :: t) = (Tbl.above k t && Tbl.rising t) := by
  cases t with
  | nil => rfl
  | cons p t => rfl

/-- Listing a key above a bound keeps the listing above it. -/
theorem Tbl.above_ins {α : Type} (b k : Nat) (v : α) (t : Tbl α) (hb : b < k) (h : Tbl.above b t = true) :
    Tbl.above b (t.ins k v) = true := by
  cases t with
  | nil => simpa [Tbl.ins, Tbl.above] using hb
  | cons p t =>
    obtain ⟨k', v'⟩ := p
    by_cases h1 : k < k'
    · simpa [Tbl.ins, h1, Tbl.above] using hb
    · by_cases h2 : k = k'
      · simpa [Tbl.ins, h2, Tbl.above] using h
      · simpa [Tbl.ins, h1, h2, Tbl.above] using h

/-- Listing a key keeps the order. -/
theorem Tbl.rising_ins {α : Type} (t : Tbl α) (k : Nat) (v : α) (h : t.rising = true) : (t.ins k v).rising = true := by
  induction t with
  | nil => rfl
  | cons p t ih =>
    obtain ⟨k', v'⟩ := p
    rw [Tbl.rising_cons, Bool.and_eq_true] at h
    by_cases h1 : k < k'
    · rw [show Tbl.ins ((k', v') :: t) k v = (k, v) :: (k', v') :: t by simp [Tbl.ins, h1]]
      rw [Tbl.rising_cons, Tbl.rising_cons, h.1, h.2]
      simpa [Tbl.above] using h1
    · by_cases h2 : k = k'
      · subst h2; simp [Tbl.ins, Tbl.rising_cons, h]
      · have : k' < k := by omega
        simp [Tbl.ins, h1, h2, Tbl.rising_cons, Tbl.above_ins k' k v t this h.1, ih h.2]

/-- A listing above a bound is above a lower one. -/
theorem Tbl.above_trans {α : Type} (a b : Nat) (t : Tbl α) (hab : a < b) (h : Tbl.above b t = true) :
    Tbl.above a t = true := by
  cases t with
  | nil => rfl
  | cons p t =>
    have hb : b < p.1 := by simpa [Tbl.above] using h
    have : a < p.1 := by omega
    simpa [Tbl.above] using this

/-- Taking a key out keeps a listing above its bound. -/
theorem Tbl.above_del {α : Type} (b k : Nat) (t : Tbl α) (h : Tbl.above b t = true) (hr : t.rising = true) :
    Tbl.above b (t.del k) = true := by
  induction t with
  | nil => rfl
  | cons p t ih =>
    obtain ⟨k', v'⟩ := p
    rw [Tbl.rising_cons, Bool.and_eq_true] at hr
    by_cases h1 : k' = k
    · have hb : b < k' := by simpa [Tbl.above] using h
      simpa [Tbl.del, h1] using ih (Tbl.above_trans b k' t hb hr.1) hr.2
    · simpa [Tbl.del, h1, Tbl.above] using h

/-- Taking a key out keeps the order. -/
theorem Tbl.rising_del {α : Type} (t : Tbl α) (k : Nat) (h : t.rising = true) : (t.del k).rising = true := by
  induction t with
  | nil => rfl
  | cons p t ih =>
    obtain ⟨k', v'⟩ := p
    rw [Tbl.rising_cons, Bool.and_eq_true] at h
    by_cases h1 : k' = k
    · simpa [Tbl.del, h1] using ih h.2
    · simp [Tbl.del, h1, Tbl.rising_cons, Tbl.above_del k' k t h.1 h.2, ih h.2]

/-- Setting a key keeps the order. -/
theorem Tbl.rising_put {α : Type} [DecidableEq α] (t : Tbl α) (d : α) (k : Nat) (v : α) (h : t.rising = true) :
    (t.put d k v).rising = true := by
  unfold Tbl.put
  split
  · exact Tbl.rising_del t k h
  · exact Tbl.rising_ins t k v h

/-- A write of a field keeps the register file's order. -/
theorem State.regs_rising_set (s : State) (l : Loc) (v : Nat) (h : s.regs.rising = true) :
    (s.set l v).regs.rising = true := Tbl.rising_put s.regs l.rst l.key _ h

@[simp] theorem State.get_emit (s : State) (o : Out) (l : Loc) : (s.emit o).get l = s.get l := rfl
@[simp] theorem State.get_setCx (s : State) (c : Nat) (x : CtxS) (l : Loc) : (s.setCx c x).get l = s.get l := rfl
@[simp] theorem State.get_setTk (s : State) (c : Nat) (x : TickS) (l : Loc) : (s.setTk c x).get l = s.get l := rfl
@[simp] theorem State.get_setCm (s : State) (c : Nat) (x : CmS) (l : Loc) : (s.setCm c x).get l = s.get l := rfl
@[simp] theorem State.get_setTm (s : State) (c : Nat) (x : TeamS) (l : Loc) : (s.setTm c x).get l = s.get l := rfl
@[simp] theorem State.get_setStb (s : State) (n : Nat) (x : StbS) (l : Loc) : (s.setStb n x).get l = s.get l := rfl
@[simp] theorem State.get_setFab (s : State) (x : FabS) (l : Loc) : (s.setFab x).get l = s.get l := rfl
@[simp] theorem State.get_setMem (s : State) (x : MemS) (l : Loc) : (s.setMem x).get l = s.get l := rfl
@[simp] theorem State.get_setRec (s : State) (x : RecS) (l : Loc) : (s.setRec x).get l = s.get l := rfl
@[simp] theorem State.get_setInteg (s : State) (x : IntS) (l : Loc) : (s.setInteg x).get l = s.get l := rfl
@[simp] theorem State.get_setMgmt (s : State) (x : MgmtS) (l : Loc) : (s.setMgmt x).get l = s.get l := rfl
@[simp] theorem State.get_setYoke (s : State) (x : YokeS) (l : Loc) : (s.setYoke x).get l = s.get l := rfl
@[simp] theorem State.get_setMeter (s : State) (m : MeterS) (l : Loc) : (s.setMeter m).get l = s.get l := rfl
@[simp] theorem State.get_setEnt (s : State) (k : Nat) (x : Entry) (l : Loc) : (s.setEnt k x).get l = s.get l := rfl
@[simp] theorem State.get_setJob (s : State) (j : Job) (l : Loc) : (s.setJob j).get l = s.get l := rfl
@[simp] theorem State.get_delJob (s : State) (id : Nat) (l : Loc) : (s.delJob id).get l = s.get l := rfl
@[simp] theorem State.get_addJob (s : State) (j : Job) (l : Loc) : (s.addJob j).get l = s.get l := rfl

/-- A Boolean field's write. -/
theorem State.setB_eq (s : State) (l : Loc) (b : Bool) : s.setB l b = s.set l (b2n b) := rfl
/-- A saturating count. -/
theorem State.satInc_eq (s : State) (l : Loc) (n : Nat) : s.satInc l n = s.set l (Nat.min (2 ^ l.w - 1) (s.get l + n)) := rfl
/-- A wrapping count. -/
theorem State.wrapInc_eq (s : State) (l : Loc) (n : Nat) : s.wrapInc l n = s.set l (s.get l + n) := rfl
/-- A count down to 0. -/
theorem State.dec_eq (s : State) (l : Loc) (n : Nat) : s.dec l n = s.set l (s.get l - n) := rfl
/-- An interrupt cause. -/
theorem State.irq_eq (s : State) (v : Nat) : s.irq v = s.set GL_IRQ_STAT.cause (s.get GL_IRQ_STAT.cause ||| 2 ^ v) := rfl

/-- An entry set reads back. -/
@[simp] theorem State.ent_setEnt_same (s : State) (k : Nat) (x : Entry) : (s.setEnt k x).ent k = x := by
  simp [State.ent, State.setEnt]
/-- Setting an entry leaves every other as it was. -/
theorem State.ent_setEnt_ne (s : State) (k i : Nat) (x : Entry) (h : i ≠ k) : (s.setEnt k x).ent i = s.ent i := by
  simp [State.ent, State.setEnt, h]
/-- A register write leaves every entry as it was. -/
@[simp] theorem State.ent_set (s : State) (l : Loc) (v : Nat) (k : Nat) : (s.set l v).ent k = s.ent k := rfl
/-- A part of the state set under a number reads back. -/
@[simp] theorem State.cxAt_setCx_same (s : State) (c : Nat) (x : CtxS) : (s.setCx c x).cxAt c = x := by
  simp [State.cxAt, State.setCx]
/-- Setting it under one number leaves it under every other. -/
theorem State.cxAt_setCx_ne (s : State) (c d : Nat) (x : CtxS) (h : d ≠ c) : (s.setCx c x).cxAt d = s.cxAt d := by
  simp [State.cxAt, State.setCx, h]
/-- A part of the state set under a number reads back. -/
@[simp] theorem State.tkAt_setTk_same (s : State) (c : Nat) (x : TickS) : (s.setTk c x).tkAt c = x := by
  simp [State.tkAt, State.setTk]
/-- Setting it under one number leaves it under every other. -/
theorem State.tkAt_setTk_ne (s : State) (c d : Nat) (x : TickS) (h : d ≠ c) : (s.setTk c x).tkAt d = s.tkAt d := by
  simp [State.tkAt, State.setTk, h]
/-- A part of the state set under a number reads back. -/
@[simp] theorem State.cmAt_setCm_same (s : State) (c : Nat) (x : CmS) : (s.setCm c x).cmAt c = x := by
  simp [State.cmAt, State.setCm]
/-- Setting it under one number leaves it under every other. -/
theorem State.cmAt_setCm_ne (s : State) (c d : Nat) (x : CmS) (h : d ≠ c) : (s.setCm c x).cmAt d = s.cmAt d := by
  simp [State.cmAt, State.setCm, h]
/-- A part of the state set under a number reads back. -/
@[simp] theorem State.tmAt_setTm_same (s : State) (c : Nat) (x : TeamS) : (s.setTm c x).tmAt c = x := by
  simp [State.tmAt, State.setTm]
/-- Setting it under one number leaves it under every other. -/
theorem State.tmAt_setTm_ne (s : State) (c d : Nat) (x : TeamS) (h : d ≠ c) : (s.setTm c x).tmAt d = s.tmAt d := by
  simp [State.tmAt, State.setTm, h]
/-- A part of the state set under a number reads back. -/
@[simp] theorem State.stbAt_setStb_same (s : State) (c : Nat) (x : StbS) : (s.setStb c x).stbAt c = x := by
  simp [State.stbAt, State.setStb]
/-- Setting it under one number leaves it under every other. -/
theorem State.stbAt_setStb_ne (s : State) (c d : Nat) (x : StbS) (h : d ≠ c) : (s.setStb c x).stbAt d = s.stbAt d := by
  simp [State.stbAt, State.setStb, h]

end Sys2Proof.Machine
end

