-- ==== Sys2Proof/Laws/Shared.lean ====
section
/-! SUPPORT. What the operations shared by many commands can do, each said once: the checks of a start point (R531), a
result posted (R117), a start point that moves on (R120), a command launched (R89, R116), and a message received
(R349). -/

namespace Sys2Proof.Machine

/-- What only register fields differ in. -/
theorem State.set_only_regs (s : State) (l : Loc) (v : Nat) : s.set l v = { s with regs := (s.set l v).regs } := rfl

/-- A register-only change followed by another is one. -/
theorem State.only_regs_trans {s t u : State} (h : t = { s with regs := t.regs }) (h' : u = { t with regs := u.regs }) :
    u = { s with regs := u.regs } := by
  rw [h'] ; rw [h]

/-- A counter's signal changes register fields only (R112). -/
theorem State.signal_only_regs (s : State) (c sig status : Nat) :
    s.signal c sig status = { s with regs := (s.signal c sig status).regs } := by
  unfold State.signal
  split
  · rfl
  · dsimp only; split <;> rfl

/-- A region's reference changes register fields only (R89). -/
theorem State.hold_only_regs (s : State) (n : Nat) : s.hold n = { s with regs := (s.hold n).regs } := rfl

/-- A slot's reference changes register fields only (R84). -/
theorem State.holdSlot_only_regs (s : State) (n : Nat) : s.holdSlot n = { s with regs := (s.holdSlot n).regs } := rfl

/-- Signals, register counts and interrupt causes leave every entry as it was. -/
@[simp] theorem State.ent_signal (s : State) (c sig status k : Nat) : (s.signal c sig status).ent k = s.ent k := by
  rw [State.signal_only_regs]; rfl

/-- A posted result: the entry is done and holds the command's seq and tag, the status, the flags and the value modulo
2^64 (R115, R117). -/
theorem State.post_ent_same (s : State) (c k status flags value : Nat) :
    (s.post c k status flags value).ent k =
      { s.ent k with phase := .done, seq := leAt (s.command k) 2 2, status := status, flags := flags,
                     tag := leAt (s.command k) 20 4, value := value % 2 ^ 64 } := by
  unfold State.post
  dsimp only
  split <;> split <;> simp [State.satInc_eq, State.irq_eq]

/-- A posted result leaves every other entry as it was. -/
theorem State.post_ent_ne (s : State) (c k i status flags value : Nat) (h : i ≠ k) :
    (s.post c k status flags value).ent i = s.ent i := by
  unfold State.post
  dsimp only
  split <;> split <;> simp [State.satInc_eq, State.irq_eq, State.ent_setEnt_ne _ _ _ _ h]

/-- A posted result changes register fields and entries only. -/
theorem State.post_frame (s : State) (c k status flags value : Nat) :
    s.post c k status flags value =
      { s with regs := (s.post c k status flags value).regs, entries := (s.post c k status flags value).entries } := by
  unfold State.post
  dsimp only
  rw [State.signal_only_regs]
  split <;> split <;> rfl

/-- A start point that moves on changes register fields and the queue's start times only (R120). -/
theorem State.advance_frame (s : State) (c q : Nat) :
    s.advance c q = { s with regs := (s.advance c q).regs, qstamp := (s.advance c q).qstamp,
                             qhall := (s.advance c q).qhall } := rfl

/-- The start point is the next entry, modulo 64 (R98). -/
@[simp] theorem State.advance_head (s : State) (c q : Nat) :
    (s.advance c q).get (GL_Q_STAT.head c q) = (s.headOf c q + 1) % 64 := by
  have h : (s.advance c q).get (GL_Q_STAT.head c q)
      = (s.set (GL_Q_STAT.head c q) ((s.headOf c q + 1) % 64)).get (GL_Q_STAT.head c q) := rfl
  rw [h, State.get_set_same]
  have : (GL_Q_STAT.head c q).w = 6 := rfl
  rw [this]; omega

/-- A start point that moves on leaves every entry as it was. -/
@[simp] theorem State.ent_advance (s : State) (c q k : Nat) : (s.advance c q).ent k = s.ent k := rfl

/-- A refusal or an immediate end changes register fields, entries and start times only (R531). -/
theorem State.refuse_frame (s : State) (j : Job) (status : Nat) :
    s.refuse j status =
      { s with regs := (s.refuse j status).regs, entries := (s.refuse j status).entries,
               qstamp := (s.refuse j status).qstamp, qhall := (s.refuse j status).qhall } := by
  have h := State.post_frame s j.ctx j.key status 0 0
  unfold State.refuse
  generalize s.post j.ctx j.key status 0 0 = t at h ⊢
  cases t
  cases s
  injection h
  subst_vars
  rfl

/-- A command whose checks all pass goes on to its start (R531). -/
theorem State.startOr_pass (s : State) (j : Job) (l : List (Bool × Nat)) (go : State)
    (h : ∀ p ∈ l, p.1 = false) : s.startOr j l go = go := by
  have : l.find? (fun p => p.1) = none := by
    rw [List.find?_eq_none]
    intro p hp
    simp [h p hp]
  simp [State.startOr, this]

/-- A command whose first failing check is p is refused with p's status (R531). -/
theorem State.startOr_refuse (s : State) (j : Job) (l : List (Bool × Nat)) (go : State) (p : Bool × Nat)
    (h : l.find? (fun p => p.1) = some p) : s.startOr j l go = s.refuse j p.2 := by
  simp [State.startOr, h]

/-- A command that a row names and that starts now meets its checks (R101, R531). -/
theorem State.beginOp_due (s : State) (c q op : Nat) (go : State → Job → State)
    (hh : s.hasHead c q = true) (ho : (s.candidate c q).opcode = op) (hs : s.starts c q = true) :
    s.beginOp c q op go = s.startOr (s.candidate c q) (s.firstChecks (s.candidate c q)) (go s (s.candidate c q)) := by
  have hd : s.depFailed c (s.candidate c q).entry = false := by
    simp only [State.starts, Bool.and_eq_true, Bool.not_eq_true'] at hs
    exact hs.1.1.2
  simp [State.beginOp, State.begin, hh, ho, hs, hd]

/-- A launched command's entry runs, and no other entry changes (R116). -/
theorem State.foldl_hold_ent (l : List Nat) (s : State) (k : Nat) : (l.foldl (fun s r => s.hold r) s).ent k = s.ent k := by
  induction l generalizing s with
  | nil => rfl
  | cons r l ih => rw [List.foldl_cons, ih]; rfl

/-- References on slots leave every entry as it was. -/
theorem State.foldl_holdSlot_ent (l : List Nat) (s : State) (k : Nat) :
    (l.foldl (fun s n => s.holdSlot n) s).ent k = s.ent k := by
  induction l generalizing s with
  | nil => rfl
  | cons r l ih => rw [List.foldl_cons, ih]; rfl

/-- Launching sets the entry running and leaves every other as it was (R116). -/
theorem State.launch_ent (s : State) (j : Job) (k : Nat) :
    (s.launch j).ent k = if k = j.key then { s.ent k with phase := .running } else s.ent k := by
  have h : (s.launch j).ent k = (s.setEnt j.key { s.ent j.key with phase := .running }).ent k := by
    unfold State.launch
    rw [State.ent_advance]
    show (List.foldl (fun (s : State) n => s.holdSlot n) _ j.slots).ent k = _
    rw [State.foldl_holdSlot_ent, State.foldl_hold_ent]; rfl
  rw [h]
  by_cases hk : k = j.key
  · subst hk; simp
  · simp [hk, State.ent_setEnt_ne _ _ _ _ hk]

/-- An accepted message is given to its meaning (R349). -/
theorem State.receive_accepted {typ : Nat} {bytes : List Byte} {m : Msg} {s : State} (go : State → Msg → State)
    (h : accepted typ bytes m s = true) : receiveAs typ bytes s go = fin (go s m) := by
  simp only [accepted, Bool.and_eq_true, beq_iff_eq] at h
  obtain ⟨⟨ht, hp⟩, hv⟩ := h
  simp [receiveAs, ht, State.receive, hp, hv]

/-- A message row with bytes of another type stands for no event of the block (R347). -/
theorem State.receive_other {typ : Nat} {bytes : List Byte} {s : State} (go : State → Msg → State)
    (h : leAt bytes 0 1 ≠ typ) : receiveAs typ bytes s go = .fault .illFormed := by
  simp [receiveAs, h]

/-- What every step of a fold keeps, the fold keeps. -/
theorem State.foldl_keeps {α β : Type} (p : State → β) (f : State → α → State) (h : ∀ s a, p (f s a) = p s) (l : List α)
    (s : State) : p (l.foldl f s) = p s := by
  induction l generalizing s with
  | nil => rfl
  | cons a l ih => rw [List.foldl_cons, ih, h]

/-- The debt as it reads leaves the meter as it is. -/
theorem State.showDebt_meter (s : State) (c : Nat) (l : List DebtEnt) : (s.showDebt c l).meter = s.meter := rfl

/-- A context's derived fields leave the meter as it is. -/
theorem State.viewCtx_meter (s : State) (c : Nat) : (s.viewCtx c).meter = s.meter := by
  unfold State.viewCtx
  dsimp only
  simp only [State.setB_eq]
  repeat rw [State.set_meter]
  rw [State.showDebt_meter, State.set_meter]

/-- The slack as it reads leaves the meter as it is. -/
theorem State.viewSlack_meter (s : State) : s.viewSlack.1.meter = s.meter := by
  unfold State.viewSlack; split <;> rfl

/-- The derived fields leave the meter as it is. -/
theorem State.viewFields_meter (s : State) : s.viewFields.meter = s.meter := by
  unfold State.viewFields
  dsimp only
  rw [State.set_meter, State.set_meter, State.set_meter,
    State.foldl_keeps State.meter State.viewChan (fun s n => State.set_meter s _ _), State.set_meter,
    State.foldl_keeps State.meter State.viewCtx State.viewCtx_meter]

/-- A read sees the meter as it is (R469). -/
theorem State.view_meter (s : State) : s.view.meter = s.meter := by
  unfold State.view
  dsimp only
  rw [State.setB_eq, State.set_meter, State.set_meter, State.viewSlack_meter, State.viewFields_meter]

/-- A whole record is read as one object (R469, R482). -/
theorem State.dictRead_record (s : State) : s.dictRead 0x5005 0 = .inr s.meter.record := by
  simp [State.dictRead, State.dictFind, State.dictSubs, State.dictMeter, dvar, State.view_meter]

end Sys2Proof.Machine
end

