-- ==== Sys2Proof/Laws/Commit.lean ====
section
/-! SUPPORT. What ending a command leaves of the commit engine
    (chapter 10): the operations that a completion and a flip run
keep the commit registers, the entries and the hidden state of the commit and team engines, each said once, and what
`State.complete` does beside. -/

namespace Sys2Proof.Machine

/-- A fold whose every step leaves the state as it is leaves it as it is. -/
theorem State.foldl_same {α : Type} (f : State → α → State) (s : State) (xs : List α) (h : ∀ x ∈ xs, f s x = s) :
    xs.foldl f s = s := by
  induction xs with
  | nil => rfl
  | cons x xs ih => rw [List.foldl_cons, h x (by simp), ih (fun y hy => h y (by simp [hy]))]

/-- A field of the commit registers of chapter 10. -/
def CommitKey (l : Loc) : Prop := 0x500000 ≤ l.key ∧ l.key < 0x510000

/-- A field that is neither one of those nor the interrupt causes. -/
def OtherKey (l : Loc) : Prop := ¬ CommitKey l ∧ l.key ≠ 0x10000

/-- What leaves the commit registers,
    the entries and the hidden state of the commit and team engines as they were and clears no
interrupt cause. -/
structure CommitFrame (s t : State) : Prop where
  g : ∀ l, CommitKey l → t.get l = s.get l
  irq : ∀ i < 32, (s.get GL_IRQ_STAT.cause).testBit i = true → (t.get GL_IRQ_STAT.cause).testBit i = true
  e : t.entries = s.entries
  cm : t.cm = s.cm
  tm : t.tm = s.tm
  ra : t.rec_.restartAt = s.rec_.restartAt

/-- Nothing done is such a change. -/
theorem CommitFrame.self {s : State} : CommitFrame s s := ⟨fun _ _ => rfl, fun _ _ h => h, rfl, rfl, rfl, rfl⟩

/-- Two such changes are one. -/
theorem CommitFrame.trans {s t u : State} (h : CommitFrame s t) (k : CommitFrame t u) : CommitFrame s u :=
  ⟨fun l hl => (k.g l hl).trans (h.g l hl), fun i hi b => k.irq i hi (h.irq i hi b), k.e.trans h.e, k.cm.trans h.cm,
      k.tm.trans h.tm,
    k.ra.trans h.ra⟩

/-- A change that keeps all registers is one. -/
theorem CommitFrame.of {s t : State} (r : t.regs = s.regs) (e : t.entries = s.entries) (c : t.cm = s.cm) (m : t.tm = s.tm)
    (ra : t.rec_.restartAt = s.rec_.restartAt) : CommitFrame s t :=
  ⟨fun l _ => by simp [State.get, r], fun i hi b => by simpa [State.get, r] using b, e, c, m, ra⟩

/-- A write of another field is one. -/
theorem CommitFrame.set {s : State} {m : Loc} {v : Nat} (hm : OtherKey m) : CommitFrame s (s.set m v) :=
  ⟨fun l h => State.get_set_ne _ _ _ _ (by unfold OtherKey CommitKey at *; omega),
   fun i _ b => by rw [State.get_set_ne]; exact b; simp only [OtherKey, CommitKey, Loc.key, GL_IRQ_STAT.cause] at *; omega, rfl, rfl, rfl, rfl⟩

/-- A count of another field is one. -/
theorem CommitFrame.sat {s : State} {m : Loc} {v : Nat} (hm : OtherKey m) : CommitFrame s (s.satInc m v) := .set hm

/-- A count down of another field is one. -/
theorem CommitFrame.dc {s : State} {m : Loc} {v : Nat} (hm : OtherKey m) : CommitFrame s (s.dec m v) := .set hm

/-- An interrupt cause raised is one (R525). -/
theorem CommitFrame.irqs (s : State) (v : Nat) : CommitFrame s (s.irq v) :=
  ⟨fun l h => by rw [State.irq_eq, State.get_set_ne]; simp only [CommitKey, Loc.key, GL_IRQ_STAT.cause] at *; omega,
   fun i hi b => by
    rw [State.irq_eq, State.get_set_same]
    simp only [GL_IRQ_STAT.cause] at *
    rw [Nat.testBit_mod_two_pow]; simp [hi, Nat.testBit_or, b], rfl, rfl, rfl, rfl⟩

/-- A fold of such changes is one. -/
theorem CommitFrame.foldl {α} (f : State → α → State) (h : ∀ s x, CommitFrame s (f s x)) (xs : List α) (s : State) :
    CommitFrame s (xs.foldl f s) := by
  induction xs generalizing s with
  | nil => exact .self
  | cons x xs ih => exact (h s x).trans (ih _)

/-- A fold of changes that are such for the members of the list is one. -/
theorem CommitFrame.foldl_mem {α} (f : State → α → State) (xs : List α) (h : ∀ s, ∀ x ∈ xs, CommitFrame s (f s x))
    (s : State) :
    CommitFrame s (xs.foldl f s) := by
  induction xs generalizing s with
  | nil => exact .self
  | cons x xs ih => exact (h s x (by simp)).trans (ih (fun s y hy => h s y (by simp [hy])) _)

/-- A counter's signal (R112). -/
theorem CommitFrame.signal (s : State) (c g st) (hc : c < 4) : CommitFrame s (s.signal c g st) := by
  unfold State.signal
  split
  · exact .self
  · dsimp only; split
    · exact .set (m := GL_EVT.value c (g % 32)) (by simp only [OtherKey, CommitKey, Loc.key, GL_EVT.value]; omega)
    · exact .set (m := GL_EVT.poison c (g % 32)) (by simp only [OtherKey, CommitKey, Loc.key, GL_EVT.poison]; omega)

/-- The entry that a posted result leaves (R115, R117). -/
def postedEnt (s : State) (k st f v : Nat) : Entry :=
  { s.ent k with
    phase := .done, seq := leAt (s.command k) 2 2, status := st, flags := f, tag := leAt (s.command k) 20 4, value := v % 2 ^ 64 }

/-- A posted result changes its entry, and beside it only as a frame does (R117). -/
theorem CommitFrame.postX (s : State) (c k st f v) (hc : c < 4) :
    ∃ t, CommitFrame (s.setEnt k (postedEnt s k st f v)) t ∧ s.post c k st f v = t := by
  refine ⟨_, ?_, rfl⟩
  unfold State.post
  extract_lets b e s1 s2 s3
  have h1 : CommitFrame s1 s2 := by
    simp only [s2]; split
    · exact .sat (m := GL_CTX_STAT.timeouts c) (by simp only [OtherKey, CommitKey, Loc.key, GL_CTX_STAT.timeouts]; omega)
    · exact .self
  have h2 : CommitFrame s2 s3 := .signal _ _ _ _ hc
  split
  · exact (h1.trans h2).trans (.irqs _ _)
  · exact h1.trans h2

/-- A region freed (R89, R422). -/
theorem CommitFrame.freeRgn (s : State) (n) (hc : n < 64) : CommitFrame s (s.freeRgn n) := by
  unfold State.freeRgn
  extract_lets s1
  have h0 : CommitFrame s s1 := .trans
      (t := s.setInteg { s.integ with poison := s.integ.poison.filter fun p => p.region ≠ n }) (.of rfl rfl rfl rfl rfl) (.set (m := DG_POISON.used) ?_)
  refine h0.trans (.trans (.trans (.trans (.set (v := 0) (m := GL_RGN_CFG.valid n) ?_) (.set (v := 0)
      (m := GL_RGN_STAT.free_pending n) ?_)) (.set (v := 0) (m := GL_RGN_STAT.rows n) ?_)) (.of rfl rfl rfl rfl rfl))
  rotate_left 3
  · simp only [OtherKey, CommitKey, Loc.key, DG_POISON.used]; omega
  · simp only [OtherKey, CommitKey, Loc.key, GL_RGN_CFG.valid]; omega
  · simp only [OtherKey, CommitKey, Loc.key, GL_RGN_STAT.free_pending]; omega
  · simp only [OtherKey, CommitKey, Loc.key, GL_RGN_STAT.rows]; omega

/-- A reference dropped from a region (R89). -/
theorem CommitFrame.unhold (s : State) (n) : CommitFrame s (s.unhold n) := by
  have h1 : OtherKey (GL_RGN_STAT.refs (n % 64)) := by simp only [OtherKey, CommitKey, Loc.key, GL_RGN_STAT.refs]; omega
  unfold State.unhold; dsimp only; split
  · exact .trans (.set h1) (.freeRgn _ _ (by omega))
  · exact .set h1

/-- A slot emptied (R83, R85). -/
theorem CommitFrame.emptySlot (s : State) (n) (b) (hn : n < 16) : CommitFrame s (s.emptySlot n b) := by
  unfold State.emptySlot
  extract_lets s1 s2 s3 s4 s5 s6
  have : CommitFrame s s6 := by
    have a1 : CommitFrame s s1 := .set ?_
    have a2 : CommitFrame s1 s2 := .set ?_
    have a3 : CommitFrame s2 s3 := .set ?_
    have a4 : CommitFrame s3 s4 := .set ?_
    have a5 : CommitFrame s4 s5 := .set ?_
    refine (((a1.trans a2).trans a3).trans a4).trans (a5.trans (.of rfl rfl rfl rfl rfl))
    all_goals (simp only [OtherKey, CommitKey, Loc.key, GL_STB_SLOT.state, GL_STB_BYTES.bytes, TM_STB.coded,
        TM_STB.stale, TM_STB.pfrags]; omega)
  split
  · exact this.trans (.set (m := GL_STB_SLOT.err n) (by simp only [OtherKey, CommitKey, Loc.key, GL_STB_SLOT.err]; omega))
  · exact this

/-- A reference dropped from a slot (R85). -/
theorem CommitFrame.unholdSlot (s : State) (n) : CommitFrame s (s.unholdSlot n) := by
  have h1 : OtherKey (GL_STB_SLOT.refs (n % 16)) := by simp only [OtherKey, CommitKey, Loc.key, GL_STB_SLOT.refs]; omega
  unfold State.unholdSlot; dsimp only; split
  · refine .trans (.trans (.set h1) (.emptySlot _ (n % 16) false (by omega))) (.foldl_mem _ _ ?_ _)
    intro s x hx; simp [State.slotRgns] at hx; exact .freeRgn _ _ hx.1
  · exact .set h1

/-- An overrun noted as a command completes (R140). -/
theorem CommitFrame.tickDone (s : State) (j : Job) (hc : j.ctx < 4) : CommitFrame s (s.tickDone j) := by
  unfold State.tickDone
  split
  · exact .self
  · split
    · exact .self
    · unfold State.showDebt
      refine .trans (.trans (.trans (.of (t := s.setTk _ _) rfl rfl rfl rfl rfl) (.set
          (m := TK_OVR.last_ovr j.ctx) ?_)) (.set (m := TK_DEBT.debt j.ctx) ?_)) (.set ?_)
      · simp only [OtherKey, CommitKey, Loc.key, TK_OVR.last_ovr]; omega
      · simp only [OtherKey, CommitKey, Loc.key, TK_DEBT.debt]; omega
      · simp only [OtherKey, CommitKey, Loc.key, TK_DEBT.oldest_age]; omega

/-- The report table replaced (R367). -/
theorem CommitFrame.setReps (s : State) (r) : CommitFrame s (s.setReps r) :=
  .trans (.of (t := s.setRec { s.rec_ with reps := r }) rfl rfl rfl rfl rfl) (.set (m := DG_REP_STAT.in_use)
      (by simp [OtherKey, CommitKey, Loc.key, DG_REP_STAT.in_use]))

/-- A REPORT to each valid manager (R364, R367). -/
theorem CommitFrame.reportTo (s : State) (a b c d) : CommitFrame s (s.reportTo a b c d) := by
  unfold State.reportTo
  apply CommitFrame.foldl
  intro s x
  refine CommitFrame.trans ?_ (CommitFrame.sat ?_)
  · exact .of rfl rfl rfl rfl rfl
  · simp [OtherKey, CommitKey, Loc.key, DG_REP_STAT.sent]

/-- An observation of a subject device (R366, R367). -/
theorem CommitFrame.observe (s : State) (a b) : CommitFrame s (s.observe a b) := by
  unfold State.observe
  split
  · exact .trans (.setReps _ _) (.sat (m := DG_REP_STAT.coalesced) (by simp [OtherKey, CommitKey, Loc.key,
      DG_REP_STAT.coalesced]))
  · extract_lets s1 s2
    refine .trans (.trans ?_ (.setReps s1 _)) (.reportTo _ _ _ _ _)
    simp only [s1]
    split
    · exact .self
    · split
      · refine .trans (t := State.closeRep s _) ?_ (.sat (m := DG_REP_STAT.evicted) (by simp [OtherKey, CommitKey,
          Loc.key, DG_REP_STAT.evicted]))
        unfold State.closeRep
        dsimp only; split
        · exact .setReps _ _
        · exact .trans (.setReps _ _) (.reportTo _ _ _ _ _)
      · exact .self

/-- A hall cycle charged (R143). -/
theorem CommitFrame.chargeFor (s : State) (a c) (hc : c < 4) : CommitFrame s (s.chargeFor a c) := by
  unfold State.chargeFor State.charge
  split
  · split
    · refine .trans (.of (t := s.setTk _ _) rfl rfl rfl rfl rfl) (.dc (m := TK_ALLOW.allow c) ?_)
      simp only [OtherKey, CommitKey, Loc.key, TK_ALLOW.allow]; omega
    · exact .self
  · exact .self

/-- A collective that ends (R226, R359). -/
theorem CommitFrame.gsEnded (s : State) (j : Job) (st) (hc : j.ctx < 4) : CommitFrame s (s.gsEnded j st) := by
  have hg : j.gsGroup < 16 := by unfold Job.gsGroup; omega
  have hl : ∀ (s : State) t, CommitFrame s (s.countLate t) := by
    intro s t; unfold State.countLate; split
    · dsimp only
      refine CommitFrame.trans ?_ (CommitFrame.sat ?_)
      · exact .of rfl rfl rfl rfl rfl
      · simp [OtherKey, CommitKey, Loc.key, GS_GSTAT.late_split]
    · exact .self
  have hb : ∀ (s : State), CommitFrame s (s.syncSlots j.ctx) := by
    intro s; unfold State.syncSlots; dsimp only
    refine .trans (.set (m := GS_SLOT_STAT.in_use j.ctx) ?_) (.set (m := GS_SLOT_STAT.peak j.ctx) ?_)
    · simp only [OtherKey, CommitKey, Loc.key, GS_SLOT_STAT.in_use]; omega
    · simp only [OtherKey, CommitKey, Loc.key, GS_SLOT_STAT.peak]; omega
  unfold State.gsEnded
  split
  · exact .self
  · extract_lets c t s1 s2 s3
    have h : CommitFrame s s3 := by
      refine .trans (.trans (.trans (.set (v := s.get (GS_GRP_GCN.running j.ctx j.gsGroup) - 1)
          (m := GS_GRP_GCN.running j.ctx j.gsGroup) ?_) (.foldl (f := State.done) ?_ j.gs.early s1)) (hl _ _)) (hb _)
      · simp only [OtherKey, CommitKey, Loc.key, GS_GRP_GCN.running]; omega
      · intro s x; exact .of rfl rfl rfl rfl rfl
    split
    · exact h
    · refine h.trans (.foldl (f := _) ?_ _ _)
      intro s tr
      refine .foldl (f := _) ?_ _ _
      intro s i
      exact .trans (.chargeFor s j.cls j.ctx hc) (.of rfl rfl rfl rfl rfl)

/-- The same but for CM_STAT.failed, the entries and the commit engine's hidden state. -/
structure CommitPart (s t : State) (c : Nat) : Prop where
  g : ∀ l, CommitKey l → l.key ≠ (CM_STAT.failed c).key → t.get l = s.get l
  irq : ∀ i < 32, (s.get GL_IRQ_STAT.cause).testBit i = true → (t.get GL_IRQ_STAT.cause).testBit i = true
  tm : t.tm = s.tm
  ra : t.rec_.restartAt = s.rec_.restartAt

/-- Two such changes are one. -/
theorem CommitPart.trans {s t u : State} {c} (h : CommitPart s t c) (k : CommitPart t u c) : CommitPart s u c :=
  ⟨fun l a b => (k.g l a b).trans (h.g l a b), fun i hi b => k.irq i hi (h.irq i hi b), k.tm.trans h.tm, k.ra.trans h.ra⟩

/-- A frame is one. -/
theorem CommitFrame.part {s t} (h : CommitFrame s t) (c) : CommitPart s t c := ⟨fun l a _ => h.g l a, h.irq, h.tm, h.ra⟩

/-- Nothing done is one. -/
theorem CommitPart.self {s : State} {c} : CommitPart s s c := CommitFrame.self.part c

/-- The open interval marked failed (R91, R313). -/
theorem State.failInterval_part (s : State) (c r) (hc : c < 4) :
    CommitPart s (s.failInterval c r) c ∧ (s.failInterval c r).entries = s.entries := by
  unfold State.failInterval
  split
  · exact ⟨.self, rfl⟩
  · split
    · exact ⟨.self, rfl⟩
    · refine ⟨⟨fun l a b => ?_, fun i hi b => ?_, rfl, rfl⟩, rfl⟩
      · rw [State.get_setCm, State.get_set_ne _ _ _ _ b]
      · rw [State.get_setCm, State.get_set_ne]
        · exact b
        · simp only [Loc.key, GL_IRQ_STAT.cause, CM_STAT.failed]; omega

/-- A command that wrote nothing leaves its coverage list (R161). -/
theorem State.uncover_part (s : State) (j : Job) :
    CommitPart s (s.uncover j) j.ctx ∧ (s.uncover j).entries = s.entries := by
  unfold State.uncover
  dsimp only
  split
  · exact ⟨.self, rfl⟩
  · split
    · exact ⟨⟨fun l a b => by rfl, fun i hi b => b, rfl, rfl⟩, rfl⟩
    · split
      · exact ⟨⟨fun l a b => by rfl, fun i hi b => b, rfl, rfl⟩, rfl⟩
      · exact ⟨.self, rfl⟩

/-- A command's completion (R117, R123): it keeps the commit registers but CM_STAT.failed, posts the entry,
    and with a status
that is no fault leaves the commit engine as it was. -/
theorem State.complete_part (s : State) (j : Job) (st v f) (hc : j.ctx < 4) :
    CommitPart s (s.complete j st v f) j.ctx
    ∧ (s.complete j st v f).ent j.key = postedEnt s j.key st f v
    ∧ (st < 0x30 → st ≠ stTEARDOWN → j.opcode ≠ opUPDATE → j.opcode ≠ opPRECOND → (s.complete j st v f).cm = s.cm) := by
  unfold State.complete
  extract_lets s1 s2 s3 s4 s5 s6 s7 s8 s9 s10 s11 s12 s13
  have e1 : CommitFrame s s1 := .of rfl rfl rfl rfl rfl
  obtain ⟨t2, f2, e2⟩ := CommitFrame.postX s1 j.ctx j.key st f v hc
  have e2 : s2 = t2 := e2
  have e3 : CommitFrame s2 s3 := .dc (m := GL_CTX_STAT.running j.ctx) (by simp only [OtherKey, CommitKey, Loc.key, GL_CTX_STAT.running]; omega)
  have e4 : CommitFrame s3 s4 := .foldl (f := _) (fun s x => .unhold s x) _ _
  have e5 : CommitFrame s4 s5 := .foldl (f := _) (fun s x => .unholdSlot s x) _ _
  have e6 : CommitFrame s5 s6 := by
    simp only [s6]; split
    · exact .dc (m := FB_ENG.running j.engine) (by simp only [OtherKey, CommitKey, Loc.key, FB_ENG.running]; omega)
    · exact .self
  have e7 : CommitFrame s6 s7 := .tickDone _ _ hc
  have e8 : CommitPart s7 s8 j.ctx ∧ s8.entries = s7.entries := by
    simp only [s8]; split
    · exact State.failInterval_part _ _ _ hc
    · exact ⟨.self, rfl⟩
  have e8c : st < 0x30 → st ≠ stTEARDOWN → s8 = s7 := by
    intro a b; simp only [s8]; rw [if_neg]; intro h; omega
  have e9 : CommitPart s8 s9 j.ctx ∧ s9.entries = s8.entries :=
    ⟨(State.uncover_part _ _).1.trans ((CommitFrame.gsEnded _ _ _ hc).part _), (CommitFrame.gsEnded _ _ _ hc).e.trans
        (State.uncover_part _ _).2⟩
  have e9c : j.opcode ≠ opUPDATE → j.opcode ≠ opPRECOND → s9.cm = s8.cm := by
    intro a b
    refine (CommitFrame.gsEnded _ _ _ hc).cm.trans ?_
    simp [State.uncover, a, b]
  have e10 : CommitFrame s9 s10 := by
    simp only [s10]; split
    · exact .sat (m := GL_UPD_STAT.refused j.ctx) (by simp only [OtherKey, CommitKey, Loc.key, GL_UPD_STAT.refused]; omega)
    · exact .self
  have e11 : CommitFrame s10 s11 := by
    simp only [s11]; split
    · split
      · exact .observe _ _ _
      · exact .self
    · exact .self
  have e12 : CommitFrame s11 s12 := by
    simp only [s12]; split
    · exact .observe _ _ _
    · exact .self
  have e13 : CommitFrame s12 s13 := by
    simp only [s13]; split
    · exact .set (m := DR_STAT.last_status j.ctx) (by simp only [OtherKey, CommitKey, Loc.key, DR_STAT.last_status]; omega)
    · exact .self
  have a37 := (((e3.trans e4).trans e5).trans e6).trans e7
  have a913 := ((e10.trans e11).trans e12).trans e13
  have p2 : CommitPart s s2 j.ctx := by
    rw [e2]; have := f2.part j.ctx
    exact ⟨fun l a b => this.g l a b, this.irq, this.tm, this.ra⟩
  have p13 : CommitPart s s13 j.ctx := (((p2.trans (a37.part _)).trans e8.1).trans e9.1).trans (a913.part _)
  have n13 : s13.entries = s2.entries := a913.e.trans (e9.2.trans (e8.2.trans a37.e))
  have c13 : st < 0x30 → st ≠ stTEARDOWN → j.opcode ≠ opUPDATE → j.opcode ≠ opPRECOND → s13.cm = s.cm := by
    intro a b c d
    rw [a913.cm, e9c c d, e8c a b, a37.cm, e2, f2.cm]; rfl
  have ee : s2.ent j.key = postedEnt s j.key st f v := by
    rw [e2, State.ent, f2.e]; exact State.ent_setEnt_same _ _ _
  split
  · have := CommitFrame.emptySlot s13 (j.arg 24 1 % 16) true (by omega)
    refine ⟨p13.trans (this.part _), ?_, fun a b c d => this.cm.trans (c13 a b c d)⟩
    rw [State.ent, this.e, n13]; exact ee
  · refine ⟨p13, ?_, c13⟩
    rw [State.ent, n13]; exact ee

/-- A digest window captured (R427). -/
theorem CommitFrame.captureWin (s : State) (c w) (hc : c < 4) (hw : w < 16) : CommitFrame s (s.captureWin c w) := by
  unfold State.captureWin
  extract_lets x flips s1 s2 s3 s4
  split
  · exact .self
  · split
    · have a1 : CommitFrame s s1 := .set (by simp only [OtherKey, CommitKey, Loc.key, DG_DWIN_CAP.digest]; omega)
      have a2 : CommitFrame s1 s2 := .set (by simp only [OtherKey, CommitKey, Loc.key, DG_DWIN_STEP.step]; omega)
      have a3 : CommitFrame s2 s3 := .set (by simp only [OtherKey, CommitKey, Loc.key, DG_DWIN_WR.writes]; omega)
      have a4 : CommitFrame s3 s4 := .foldl_mem _ _ (by
        intro s b hb; simp at hb
        exact .set (by simp only [OtherKey, CommitKey, Loc.key, DG_DWIN_BIN.digest]; omega)) _
      exact (((a1.trans a2).trans a3).trans a4).trans (.of rfl rfl rfl rfl rfl)
    · exact .of rfl rfl rfl rfl rfl

/-- A context's digest windows captured (R427). -/
theorem CommitFrame.captureWins (s : State) (c) (hc : c < 4) : CommitFrame s (s.captureWins c) :=
  .foldl_mem _ _ (by intro s x hx; exact .captureWin _ _ _ hc (by simpa using hx)) _

/-- A context's digest windows set back (R427). -/
theorem CommitFrame.restoreWins (s : State) (c) : CommitFrame s (s.restoreWins c) := by
  unfold State.restoreWins
  refine .foldl _ ?_ _ _
  intro s x; dsimp only; split
  · exact .of rfl rfl rfl rfl rfl
  · exact .self

/-- Poison entries released at a flip (R422). -/
theorem CommitFrame.releasePoison (s : State) (c) : CommitFrame s (s.releasePoison c) := by
  unfold State.releasePoison State.setPoison
  refine CommitFrame.trans ?_ (CommitFrame.set ?_)
  · exact .of rfl rfl rfl rfl rfl
  · simp [OtherKey, CommitKey, Loc.key, DG_POISON.used]

/-- The suspect scores decayed (R434, R435). -/
theorem CommitFrame.decayScores (s : State) : CommitFrame s s.decayScores := by
  unfold State.decayScores
  dsimp only; split
  · refine CommitFrame.trans (CommitFrame.dc (m := DG_SUS_STAT.score) ?_) (.of rfl rfl rfl rfl rfl)
    simp [OtherKey, CommitKey, Loc.key, DG_SUS_STAT.score]
  · exact .of rfl rfl rfl rfl rfl

/-- A count of the meter's count port (R441, R443). -/
theorem CommitFrame.countPort (s : State) (a b) : CommitFrame s (s.countPort a b) := by
  unfold State.countPort
  split
  · exact .of rfl rfl rfl rfl rfl
  · exact .self

/-- The selector lines driven (R504). -/
theorem CommitFrame.driveSel (s : State) (c) : CommitFrame s (s.driveSel c) := by
  unfold State.driveSel
  refine .foldl _ ?_ _ _
  intro s x; dsimp only; split
  · exact .of rfl rfl rfl rfl rfl
  · exact .self

end Sys2Proof.Machine
end

