-- ==== Sys2Proof/Tests/Slice0.lean ====
section
/-! SUPPORT. Tests: ill-formed commands are refused, and for every obligation with hypotheses a state and operands that
meet them (one witness for each clause, most over the same small world). -/

namespace Sys2Proof.Tests

open Machine

set_option Elab.async false

/-- A state with register fields set. -/
def sets (s : State) (l : List (Loc × Nat)) : State := l.foldl (fun s p => s.set p.1 p.2) s

/-- Fields as the register table lists them, in its order; zeros are not listed. -/
def listed (l : List (Loc × Nat)) : Tbl Nat := (l.filter fun p => p.2 ≠ 0).map fun p => (p.1.key, p.2)

/-- One region entry's fields, 64 KiB apart on the stacks. -/
def region (n kind fmt group count : Nat) : List (Loc × Nat) :=
  [(GL_RGN_CFG.kind n, kind), (GL_RGN_CFG.fmt n, fmt), (GL_RGN_CFG.group n, group), (GL_RGN_CFG.valid n, 1),
   (GL_RGN_LOC.base n, 16 * n), (GL_RGN_SIZE.count n, count)]

/-- A small world: the fill is over, context 0 runs, the yoke has not failed, and device 5 has a few regions, a window
and two groups of two members: of group 0 it is rank 0, of group 1 rank 1. -/
def world : State :=
  { State.reset with
    mem := { resetHigh := false }
    regs :=
      listed (region 1 1 0 1 128 ++ region 2 2 1 1 128 ++ region 3 8 0 1 128 ++ region 4 4 2 2 32768
        ++ region 5 4 2 2 32768 ++ region 6 6 6 3 128 ++ region 9 9 6 4 64 ++ region 10 10 6 5 4096
        ++ region 11 10 6 5 4096
        ++ [(GL_WIN_DST.dev_last 0 0, 100), (GL_WIN_DST.region 0 0, 10), (GL_WIN_DST.put 0 0, 1), (GL_WIN_DST.get 0 0, 1),
            (GL_WIN_DST.valid 0 0, 1), (GL_WIN_LIM.lim 0 0, 4096), (GL_CTX_CFG.ways 0, 1), (GL_CTX_CFG.engines 0, 1),
            (GL_CTX_STAT.state 0, ctxRUN), (GL_RULE_CTL.valid 0 0, 1), (GL_SCHED_SEG.valid 0 0 0, 1)])
      ++ (YK_STAT.failed.key, 0) ::
      listed [(GS_SELF.devid, 5), (GS_GRP_CFG.axes 0 0, 1), (GS_GRP_CFG.fan 0 0, 2), (GS_GRP_CFG.valid 0 0, 1),
        (GS_GRP_BOX.hi0 0 0, 1), (GS_GRP_CFG.axes 0 1, 1), (GS_GRP_CFG.fan 0 1, 2), (GS_GRP_CFG.valid 0 1, 1),
        (GS_GRP_BOX.hi0 0 1, 1), (GS_GRP_STAT.n 0 0, 2), (GS_GRP_STAT.n 0 1, 2), (GS_GRP_STAT.rank 0 1, 1),
        (CM_CFG.rec_ 0, 6), (DG_FILL.done, 1)] }

/-- The world with one command submitted at the start point of context 0's queue 0: bytes by offset. -/
def queued (s : State) (fields : List (Nat × Nat)) : State :=
  let n := fields.foldl (fun n p => n + p.2 * 2 ^ (8 * p.1)) 0
  let ws := ((List.range 8).map fun i => (i, n / 2 ^ (64 * i) % 2 ^ 64)).filter fun p => p.2 ≠ 0
  ({ s with ring := ws }.setEnt 0 { phase := .submitted }).set (GL_Q_STAT.tail 0 0) 1

/-- A command of context 0 that runs, with operand bytes by offset. -/
def running (op : Nat) (fields : List (Nat × Nat)) : Job :=
  { id := 1, owner := .cmd 0 0 0, ctx := 0, opcode := op,
    entry := leBytes 64 (fields.foldl (fun n p => n + p.2 * 2 ^ (8 * p.1)) op) }

/-- The world with one piece of work under way. -/
def busy (s : State) (j : Job) : State := { s with jobs := [j] }

/-- A message of context 0 from device 1 to device 5. -/
def msg (typ : Nat) (body : List Nat) : Msg :=
  { typ := typ, ctx := 0, ver := 2, dst := 5, src := 1, body := body.map (BitVec.ofNat 8) }

/-- An outstanding request of the world to device 1. -/
def asking (s : State) (typ : Nat) : State :=
  { s with fab := { s.fab with outs := [{ tag := 0, typ := typ, dst := 1, ctx := 0, job := 1 }] } }

/-- The world at a later hall time. -/
def later (s : State) : State := s.set TK_HT_NOW.now 1000000000

/-- A yes vote of one member. -/
def yes : VoteRec := ⟨0, 0, 1, 1, 0, 1, 0xFFFF, 0, false, false⟩

/-- An abort notice of the transaction under way. -/
def notice : Notice := ⟨0, false, 0, 0, 0xFFFF, 0x30, 0⟩

/-- A running all-reduce of one tile in group g, with what it holds. -/
def reduce (g : Nat) (x : GsJob) : Job := { running 0x38 [(25, g), (28, 1), (32, 1), (36, 1), (50, 64)] with gs := x }

/-- A body of a message of a collective: tile 0 of a group, and what follows. -/
def gsBody (g : Nat) (rest : List Nat) : List Nat := [0, 0, 0, 0, 0, 0, g, 0] ++ rest

/-- Such a message, of gcn 1. -/
def gsMsg (typ src g : Nat) (rest : List Nat) : Msg := { msg typ (gsBody g rest) with src := src, tag := 1 }

/-- A pair team in which device 1 holds data and device 5 its parity. -/
def pair : TeamVals := { mode := 1, index := 1, members := [(1, 1), (5, 1)] }

/-- The world with the registers of that team. -/
def teamed (state : Nat) (more : List (Loc × Nat)) : State :=
  (sets world (region 12 7 6 7 4096 ++ [(GL_RGN_CFG.team 1, 1), (TM_CFG.mode 0, 1), (TM_CFG.index 0, 1),
    (TM_CFG.share 0, 12), (TM_CFG.dbuf 0, 2), (TM_MEMBER.devid 0 0, 1), (TM_MEMBER.mstate 0 0, 1),
    (TM_MEMBER.devid 0 1, 5), (TM_MEMBER.mstate 0 1, 1), (TM_STAT.state 0, state)] ++ more)).setTm 0 { vals := pair }

/-- A message that waits in its buffer. -/
def waiting (m : Msg) : InReq := { id := 0, msg := m }

/-- The commit state of context 0 replaced. -/
def voting (s : State) (x : CmS) : State := s.setCm 0 x

/-- The meter of the world replaced. -/
def metered (m : MeterS) : State := { world with meter := m }

/-- The management node on the bus, with an image that runs. -/
def node (m : MgmtS) (more : List (Loc × Nat)) : State :=
  sets { world with mgmt := { m with fwImg := some (10, 0) } } ([(GL_MG_CFG.bus_on, 1), (GL_MG_CFG.node, 4),
    (GL_MG_STAT.nmt, 2), (GL_FW_STAT.state, 1)] ++ more)

/-- A firmware image of 64 bytes with its digest. -/
def image : List Byte :=
  let b := leBytes 4 0x50474657 ++ leBytes 4 1 ++ leBytes 1 0 ++ leBytes 1 9 ++ leBytes 2 2 ++ leBytes 4 64
  b ++ leBytes 8 (imgDigest (b ++ leBytes 48 0)) ++ leBytes 40 0

/-- For every row of `startRows` but NOP a state in which its command starts and goes on running. -/
def startWits : List State :=
  [ queued world [(0, 0x02), (19, 1), (24, 100)],
    queued world [(0, 0x10), (19, 1), (24, 10), (25, 11), (48, 64)],
    queued world [(0, 0x18), (19, 1), (33, 10), (48, 64)],
    queued (sets world [(GL_STB_SLOT.state 0, sbRESIDENT), (GL_STB_SLOT.refs 0, 1)]) [(0, 0x19), (19, 1)],
    queued world [(0, 0x20), (19, 1), (26, 1), (27, 2), (28, 3), (40, 1), (56, 128)],
    queued world [(0, 0x21), (19, 1), (24, 4), (25, 5), (26, 2), (40, 1), (56, 1)],
    queued world [(0, 0x30), (19, 1), (24, 10), (25, 10), (26, 7), (48, 64)],
    queued world [(0, 0x31), (19, 1), (24, 10), (25, 10), (26, 7), (48, 64)],
    queued world [(0, 0x38), (19, 1), (24, 4), (28, 1), (32, 1), (36, 1)],
    queued world [(0, 0x39), (19, 1), (26, 129), (28, 1), (32, 1), (45, 128)],
    queued world [(0, 0x40), (19, 1), (24, 1), (32, 1)],
    queued (sets world [(TM_STAT.state 0, tmPROTECTED), (GL_RGN_CFG.team 1, 1)]) [(0, 0x48), (19, 1), (40, 1)],
    queued world [(0, 0x49), (19, 1), (24, 10), (40, 1)],
    queued (sets world [(DG_DWIN_CFG.enable 0 0, 1)]) [(0, 0x4A), (19, 1), (28, 1)],
    queued world [(0, 0x50), (19, 1), (25, 10), (45, 64)],
    queued world [(0, 0x52), (19, 1), (25, 10), (45, 64)],
    queued world [(0, 0x51), (19, 1)],
    queued world [(0, 0x53), (19, 1), (25, 10), (45, 64)] ]

/-- States in which a command is over in the cycle in which it starts. -/
def instantWits : List (Nat × State) :=
  [ (opNOP, queued world [(0, 0x00), (19, 1)]),
    (opWAITHALL, queued world [(0, 0x02), (19, 1)]),
    (opSTABLEEVICT, queued world [(0, 0x19), (19, 1)]),
    (opSTEPEND, queued (sets world [(CM_CUR.cur 0, 3)]) [(0, 0x40), (19, 1), (32, 3)]),
    (opJOBLOAD, queued (sets world [(GS_GRP_CFG.valid 0 0, 0), (GS_GRP_CFG.valid 0 1, 0)]) [(0, 0x51), (19, 1), (24, 2), (25, 16)]) ]

theorem test_hyps_StartedCommandRunsUntilItsCompletion :
    ∀ x ∈ (startRows.drop 1).zip startWits, x.1.due x.2 0 0 = true ∧ (∀ p ∈ x.1.checks x.2 0 0, p.1 = false)
      ∧ x.1.runs x.2 (x.2.candidate 0 0) = true := by
  decide +kernel

theorem test_hyps_ImmediateCommandCompletesWithOk :
    ∀ x ∈ instantWits, ∃ r ∈ startRows, r.op = x.1 ∧ r.due x.2 0 0 = true ∧ (∀ p ∈ r.checks x.2 0 0, p.1 = false)
      ∧ r.runs x.2 (x.2.candidate 0 0) = false ∧ r.op ≠ opUPDATE := by
  decide +kernel

/-- An ill-formed command for each check of `WellFormed`. -/
def illFormed : List Instr :=
  [ .vote [], .halt [], .cmAbort [], .query [], .fence [], .fenceAck [], .cDesc [], .cRec [], .cHdr [], .cPart [],
    .cRes [], .cCredit [], .cAck [], .cSplit [], .cSplitrep [], .cAbort [], .form [], .delta [], .fragAck [],
    .fragDrop [], .fetch [], .fetchData [], .stbReady [], .stbDone [], .putData [], .putAck [], .getReq [], .getData [],
    .genNotice [], .genAck [], .drop [], .jobBcast [], .report [], .unknownMessageType [0x01#8, 0x20#8],
    .creditWord 0 [], .creditWord 0 [0xC0#8, 0x02#8], .drnResponse [] [] ]

theorem test_wellFormed_refuses_each : ∀ i ∈ illFormed, WellFormed i = false := by decide

theorem test_wellFormed_admits : WellFormed (.vote [0x30#8]) = true ∧ WellFormed (.unknownMessageType [0x50#8, 0x20#8]) = true
    ∧ WellFormed (.creditWord 0 [0xC0#8, 0x01#8]) = true ∧ WellFormed .htStrobeLost = true := by decide

/-- R344's check: CRC-32C of the nine digits is 0xE3069283, the value every table of that code gives. -/
theorem test_crc32c_of_digits : crc32c ([0x31, 0x32, 0x33, 0x34, 0x35, 0x36, 0x37, 0x38, 0x39].map (BitVec.ofNat 8)) = 0xE3069283 := by
  decide +kernel

/-- No row gives bits, so no word spells a command. -/
theorem test_no_word_spells_a_command : decodeTableWord 32 0 = none ∧ State.reset.withFetchWord 32 0 = State.reset := by decide

/-- The small world's register table stands in its one order. -/
theorem test_world_is_sorted : regsSorted world = true := by decide +kernel

theorem test_hyps_QuietBlockHasNoFollowUp :
    ∃ (s : State), quiet s = true :=
  ⟨State.reset, by decide +kernel⟩

theorem test_hyps_IdleBlockStaysAsItIs :
    ∃ (s : State), s.pending = [] ∧ s.fab.txq = [] ∧ quiet s = true :=
  ⟨State.reset, by decide +kernel⟩

theorem test_hyps_ResetLeavesTheTablesValues :
    (∃ (c : Nat), c < 4)
    ∧ (∃ (c : Nat) (q : Nat), c < 4 ∧ q < 16)
    ∧ (∃ (p : Nat), p < 16) :=
  ⟨⟨3, by decide +kernel⟩,
   ⟨3, 15, by decide +kernel⟩,
   ⟨15, by decide +kernel⟩⟩

theorem test_hyps_EncodedMessageParsesBack :
    ∃ (m : Msg), m.wf = true :=
  ⟨msg 0x01 [1, 2, 3], by decide +kernel⟩

theorem test_hyps_RefusedCommandReportsTheFirstFailingCheck :
    ∃ (r : StartRow) (c : Ctx) (q : Que) (s : State) (p : Bool × Nat), r ∈ startRows ∧ r.due s c q = true ∧ (r.checks
      s c q).find? (fun p => p.1) = some p :=
  ⟨⟨.nop, opNOP, State.checkNop, fun _ _ => false, State.runNop⟩, 0, 0, queued world [(19, 3)], (true, stBADFIELD),
    ⟨by simp [startRows], by decide +kernel⟩⟩

theorem test_hyps_CounterWaitComparesModulo :
    ∃ (wb : Nat) (wv : Nat), wb < 256 ∧ wv < 2 ^ 32 :=
  ⟨255, 0xFFFFFFFF, by decide +kernel⟩

theorem test_hyps_SlotReadsOneResultUntilItsRelease :
    (∃ (c : Ctx) (q : Que) (e : Ent) (s : State), (s.ent (entryKey c q e)).phase = .done)
    ∧ (∃ (c : Ctx) (q : Que) (e : Ent) (s : State), (s.ent (entryKey c q e)).phase ≠ .done)
    ∧ (∃ (b : Fin 16) (wide : Bool), b.val ≠ 0 ∧ b.val % (if wide then 8 else 4) = 0)
    ∧ (∃ (b : Fin 16) (wide : Bool), b.val % (if wide then 8 else 4) ≠ 0)
    ∧ (∃ (s : State) (k : Nat), (s.ent k).phase ≠ .done) :=
  ⟨⟨0, 0, 0, world.setEnt 0 { phase := .done }, by decide +kernel⟩,
   ⟨3, 15, 63, world, by decide +kernel⟩,
   ⟨12, false, by decide +kernel⟩,
   ⟨12, true, by decide +kernel⟩,
   ⟨world, 0, by decide +kernel⟩⟩

theorem test_hyps_LowHalfReadLatchesTheHighHalf :
    ∃ (off : Nat) (d : RegDef) (is : List Nat) (s : State), s.ctlOpen = true ∧ off % 8 = 0 ∧ regAt off = some (d, is)
      ∧ d.width ≠ 32 ∧ (off < 0x800 ∨ (0x1000 ≤ off ∧ off < 0x80000)) :=
  ⟨0x5000, ((regAt 0x5000).getD (⟨"", 0, [], 64, .word, 0, []⟩, [])).1, ((regAt 0x5000).getD (⟨"", 0, [], 64, .word,
    0, []⟩, [])).2, world, by decide +kernel⟩

theorem test_hyps_RegisterWriteStoresAndRingWriteIsGuarded :
    (∃ (s : State), s.ctlOpen = true)
    ∧ (∃ (c : Ctx) (v : W64) (s : State), s.ctlOpen = true ∧ s.get (GL_CTX_TMO.dflt c) ≠ 0 ∧ fget v (GL_CTX_TMO.dflt
      c).lo (GL_CTX_TMO.dflt c).w = 0)
    ∧ (∃ (k : Nat) (j : Nat) (s : State), s.ctlOpen = true ∧ k < 4096 ∧ j < 8 ∧ Tbl.at s.ring 0 (8 * k + j) < 2 ^ 64)
      :=
  ⟨⟨world, by decide +kernel⟩,
   ⟨0, 0, world, by decide +kernel⟩,
   ⟨4095, 7, world, by decide +kernel⟩⟩

theorem test_hyps_TimersEndOrReleaseWhatWaits :
    (∃ (c : Ctx) (q : Que) (e : Ent) (s : State), s.cmdJob c q e = none ∧ s.hasHead c q = true ∧ s.headOf c q =
      e.val ∧ s.live c = true ∧ s.timedOut c (s.stampOf c q) (s.command (s.headKey c q)) = true)
    ∧ (∃ (c : Ctx) (q : Que) (e : Ent) (s : State) (j : Job), s.cmdJob c q e = some j ∧ j.ending = none ∧ s.live c =
      true ∧ s.timedOut c j.stamp j.entry = true ∧ s.gsAnswered j = false ∧ (j.opcode ≠ opSTEPEND ∨ s.phase j.ctx ≠
      phPREPARE))
    ∧ (∃ (c : Ctx) (q : Que) (e : Ent) (s : State) (j : Job), s.cmdJob c q e = some j ∧ j.ending = none ∧ s.live c =
      true ∧ s.timedOut c j.stamp j.entry = true ∧ j.opcode = opSTEPEND ∧ s.phase j.ctx = phPREPARE ∧ (s.cmAt
      j.ctx).endStatus = none)
    ∧ (∃ (c : Ctx) (q : Que) (e : Ent) (s : State) (j : Job), s.cmdJob c q e = some j ∧ (j.ending.isSome = true ∨
      s.live c = false ∨ s.timedOut c j.stamp j.entry = false ∨ s.gsAnswered j = true))
    ∧ (∃ (c : Ctx) (q : Que) (e : Ent) (s : State) (j : Job) (t : Nat), s.cmdJob c q e = some j ∧ j.hold = .hall t ∧ t
      ≤ s.now)
    ∧ (∃ (c : Ctx) (q : Que) (e : Ent) (s : State) (j : Job), s.cmdJob c q e = some j ∧ j.receiving = true ∧
      j.acc.getD 0 0 ≤ s.now) :=
  ⟨⟨0, 0, 0, later (queued world [(19, 1), (4, 5)]), by decide +kernel⟩,
   ⟨0, 0, 0, later (busy world (running 0x10 [])), running 0x10 [], by decide +kernel⟩,
   ⟨0, 0, 0, later (busy (world.set (CM_STAT.phase 0) phPREPARE) (running 0x40 [])), running 0x40 [],
     by decide +kernel⟩,
   ⟨0, 0, 0, busy world (running 0x10 []), running 0x10 [], by decide +kernel⟩,
   ⟨0, 0, 0, busy world { running 0x02 [] with hold := .hall 0 }, { running 0x02 [] with hold := .hall 0 }, 0,
     by decide +kernel⟩,
   ⟨0, 0, 0, busy world { running 0x51 [] with hold := .parts }, { running 0x51 [] with hold := .parts },
     by decide +kernel⟩⟩

theorem test_hyps_ContextsStartHoldAndResume :
    (∃ (c : Ctx) (s : State), s.ctxState c = 0 ∧ s.startOk c = true)
    ∧ (∃ (c : Ctx) (s : State), s.ctxState c = 0 ∧ s.startOk c = false)
    ∧ (∃ (c : Ctx) (s : State), s.ctxState c = ctxRUN ∧ s.window c = false)
    ∧ (∃ (c : Ctx) (s : State), s.ctxState c = ctxRUN ∧ s.window c = true)
    ∧ (∃ (c : Ctx) (s : State), s.ctxState c = ctxHELD ∧ (s.cxAt c).preHeld = false)
    ∧ (∃ (c : Ctx) (s : State) (i : Nat), (s.cxAt c).preIdle = some i ∧ (s.cxAt c).preHeld = true ∧ (s.cxAt
      c).hostHeld = false ∧ i + 15625 ≤ s.now)
    ∧ (∃ (c : Ctx) (s : State), s.window c = false ∧ s.ctxState c = ctxRUN ∧ (s.cxAt c).deferHost = true)
    ∧ (∃ (c : Ctx) (s : State), s.hasReady c = true) :=
  ⟨⟨0, sets world [(GL_CTX_STAT.state 0, 0)], by decide +kernel⟩,
   ⟨0, sets world [(GL_CTX_STAT.state 0, 0), (GL_CTX_CFG.ways 0, 0)], by decide +kernel⟩,
   ⟨0, world, by decide +kernel⟩,
   ⟨0, world.set (CM_STAT.phase 0) phINDOUBT, by decide +kernel⟩,
   ⟨0, world.set (GL_CTX_STAT.state 0) ctxHELD, by decide +kernel⟩,
   ⟨0, (world.set TK_HT_NOW.now 15625).setCx 0 { preHeld := true, preIdle := some 0 }, 0, by decide +kernel⟩,
   ⟨0, world.setCx 0 { deferHost := true }, by decide +kernel⟩,
   ⟨0, sets (queued world [(19, 1)]) [(GL_CTX_CFG.preempt 0, 1), (GL_CTX_CFG.prio 0, 1)], by decide +kernel⟩⟩

theorem test_hyps_TeardownDrainsAndTurnsOff :
    (∃ (c : Ctx) (s : State), s.live c = true ∧ s.jobs = [] ∧ s.fab.reqs = [] ∧ s.phase c ≠ phPREPARE ∧ (∀ q < 16,
      s.hasHead c q = false))
    ∧ (∃ (c : Ctx) (s : State), s.ctxState c = ctxTEARING ∧ (s.cxAt c).tdNoticed = false ∧ (s.cxAt c).tdAt + s.get
      (GL_CTX_TMO.td_timeout c) ≤ s.now ∧ s.stuck c ≠ [])
    ∧ (∃ (c : Ctx) (s : State), s.ctxState c = ctxTEARING ∧ (s.cxAt c).tdNoticed = false ∧ (s.cxAt c).tdAt + s.get
      (GL_CTX_TMO.td_timeout c) ≤ s.now ∧ s.stuck c = [] ∧ (s.fab.outs.any fun o => o.ctx == c.val) = true)
    ∧ (∃ (c : Ctx) (s : State), s.ctxState c = ctxTEARING ∧ (s.cxAt c).tdNoticed = true ∧ (s.cxAt c).tdNotice ≠ [] ∧
      (s.cxAt c).tdAt + s.get (GL_CTX_TMO.td_timeout c) ≤ s.now)
    ∧ (∃ (c : Ctx) (s : State), s.tornDown c = true)
    ∧ (∃ (c : Ctx) (s : State), s.ctxState c = ctxWEDGED) :=
  ⟨⟨0, world, by decide +kernel⟩,
   ⟨0, busy (later (world.set (GL_CTX_STAT.state 0) ctxTEARING)) { running 0x10 [] with out := 1 }, by
     decide +kernel⟩,
   ⟨0, asking (later (world.set (GL_CTX_STAT.state 0) ctxTEARING)) 0x01, by decide +kernel⟩,
   ⟨0, (later (world.set (GL_CTX_STAT.state 0) ctxTEARING)).setCx 0 { tdNoticed := true, tdNotice := [1] }, by
     decide +kernel⟩,
   ⟨0, later (world.set (GL_CTX_STAT.state 0) ctxTEARING), by decide +kernel⟩,
   ⟨0, world.set (GL_CTX_STAT.state 0) ctxWEDGED, by decide +kernel⟩⟩

theorem test_hyps_RegionEntryValidatesAndFrees :
    (∃ (n : Fin 64) (v : W64) (s : State), (s.rgn n).valid = false ∧ fget v 63 1 = 1 ∧ (s.putRgn n v).rgnOk n
      ((s.putRgn n v).rgn n) = true)
    ∧ (∃ (n : Fin 64) (v : W64) (s : State), (s.rgn n).valid = false ∧ fget v 63 1 = 1 ∧ (s.putRgn n v).rgnOk n
      ((s.putRgn n v).rgn n) = false)
    ∧ (∃ (n : Fin 64) (v : W64) (s : State), (s.rgn n).valid = true ∧ s.sameRgn n v = true ∧ fget v 63 1 = 0 ∧
      s.teamUses n = false)
    ∧ (∃ (n : Fin 64) (v : W64) (s : State), (s.rgn n).valid = true ∧ s.sameRgn n v = false ∧ fget v 63 1 = 1) :=
  ⟨⟨20, BitVec.ofNat 64 (2 ^ 63 + 20 * 2 ^ 12 + 6 * 2 ^ 4 + 10), world, by decide +kernel⟩,
   ⟨20, BitVec.ofNat 64 (2 ^ 63), world, by decide +kernel⟩,
   ⟨10, BitVec.ofNat 64 (5 * 2 ^ 12 + 6 * 2 ^ 4 + 10), world, by decide +kernel⟩,
   ⟨10, BitVec.ofNat 64 (2 ^ 63), world, by decide +kernel⟩⟩

theorem test_hyps_MemoryAnswersGoToTheWorkThatAsked :
    (∃ (n : Slice) (tag : Fin 4096) (r : MemReq) (j : Job) (s : State), s.mem.resetHigh = false ∧ Tbl.find s.mem.reqs
      (n.val * 4096 + tag.val) = some r ∧ r.write = true ∧ r.job ≠ 0 ∧ s.job r.job = some j)
    ∧ (∃ (n : Slice) (tag : Fin 4096) (r : MemReq) (j : Job) (s : State), s.mem.resetHigh = false ∧ Tbl.find
      s.mem.reqs (n.val * 4096 + tag.val) = some r ∧ r.write = false ∧ s.job r.job = some j)
    ∧ (∃ (s : State), s.mem.resetHigh = true)
    ∧ (∃ (n : Slice) (tag : Fin 4096) (s : State), s.mem.resetHigh = false ∧ Tbl.find s.mem.reqs (n.val * 4096 +
      tag.val) = none) :=
  ⟨⟨1, 1, { job := 1, granule := 0, write := true, region := 10, bank := 0 }, running 0x10 [],
    { busy world (running 0x10 []) with mem := { resetHigh := false, reqs := [(4097, { job := 1, granule := 0, write := true, region := 10, bank := 0 })] } }, by decide +kernel⟩,
   ⟨1, 1, { job := 1, granule := 0, write := false, region := 10, bank := 0 }, running 0x10 [],
     { busy world (running 0x10 []) with mem := { resetHigh := false, reqs := [(4097, { job := 1, granule := 0, write := false, region := 10, bank := 0 })] } }, by decide +kernel⟩,
   ⟨State.reset, by decide +kernel⟩,
   ⟨0, 0, world, by decide +kernel⟩⟩

theorem test_hyps_RetrainingTakesAChannelOutAndMendsIt :
    (∃ (n : Slice) (j : Chan) (s : State), s.asks n j = true ∧ s.firstAsk n j = true ∧ s.anyOut = false ∧
      s.slackValid = true)
    ∧ (∃ (n : Slice) (j : Chan) (s : State), chKey n j ∈ s.mem.grants ∧ s.chan n j = chOUT)
    ∧ (∃ (n : Slice) (j : Chan) (s : State), chKey n j ∈ s.mem.grants ∧ s.chan n j = chOUT)
    ∧ (∃ (n : Slice) (j : Chan) (s : State) (e : MendEnt) (l : List MendEnt), s.chan n j = chMENDING ∧
      s.mem.resetHigh = false ∧ s.jobs = [] ∧ chKey n j ∉ s.mem.mendFull ∧ Tbl.at s.mem.mend [] (chKey n j) = e :: l
      ∧ (s.rgn e.region).valid = true ∧ (s.rgn e.region).inner = true) :=
  ⟨⟨0, 0, sets world [(GL_MEMCFG.nch, 32), (SL_RETRAIN.req 0, 1)], by decide +kernel⟩,
   ⟨0, 0, (sets world [(GL_MEMCFG.nch, 32), (SL_CHAN_STATE.chan 0, 1), (GL_RGN_CFG.layout 10, 1), (GL_RGN_CFG.inner
     10, 1)]).setMem { resetHigh := false, grants := [0] }, by decide +kernel⟩,
   ⟨0, 0, (sets world [(GL_MEMCFG.nch, 32), (SL_CHAN_STATE.chan 0, 1), (GL_RGN_CFG.layout 10, 1), (GL_RGN_CFG.inner
     10, 1)]).setMem { resetHigh := false, grants := [0] }, by decide +kernel⟩,
   ⟨0, 0, (sets world [(GL_MEMCFG.nch, 32), (SL_CHAN_STATE.chan 0, 2), (GL_RGN_CFG.layout 10, 1), (GL_RGN_CFG.inner
     10, 1)]).setMem { resetHigh := false, mend := [(0, [⟨10, 0, 1⟩])] }, ⟨10, 0, 1⟩, [], by decide +kernel⟩⟩

theorem test_hyps_LostStrobesFreeRunAtFallbackQuality :
    ∃ (s : State), s.is TK_HT_STAT.lost = true :=
  ⟨world.set TK_HT_STAT.lost 1, by decide +kernel⟩

theorem test_hyps_TickBoundaryRepaysDebtAboveTheFloor :
    (∃ (c : Ctx) (v : W64) (s : State), s.is (TK_CFG.enable c) = false ∧ fget v 63 1 = 1 ∧ (s.set (TK_CFG.period c)
      (fget v 0 34)).tickOk c = true)
    ∧ (∃ (c : Ctx) (v : W64) (s : State), s.is (TK_CFG.enable c) = false ∧ fget v 63 1 = 1 ∧ (s.set (TK_CFG.period c)
      (fget v 0 34)).tickOk c = false)
    ∧ (∃ (c : Ctx) (v : W64) (s : State), s.is (TK_CFG.enable c) = true ∧ fget v 63 1 = 0)
    ∧ (∃ (c : Ctx) (s : State), s.is (TK_CFG.enable c) = true ∧ (s.tkAt c).next ≤ s.now ∧ (s.tkAt c).off = true)
    ∧ (∃ (c : Ctx) (s : State), s.is (TK_CFG.enable c) = true ∧ (s.tkAt c).next ≤ s.now ∧ (s.tkAt c).off = false ∧
      s.get (TK_CP.bg_floor c) ≤ 100)
    ∧ (∃ (c : Ctx) (s : State), s.is (TK_CFG.enable c) = true ∧ s.get (TK_ALLOW.allow c) = 0) :=
  ⟨⟨0, BitVec.ofNat 64 (2 ^ 63 + 15625), world.set (TK_CP.cp 0) 100, by decide +kernel⟩,
   ⟨0, BitVec.ofNat 64 (2 ^ 63 + 15624), world.set (TK_CP.cp 0) 100, by decide +kernel⟩,
   ⟨0, 0, world.set (TK_CFG.enable 0) 1, by decide +kernel⟩,
   ⟨0, (sets world [(TK_CFG.enable 0, 1), (TK_CFG.period 0, 15625), (TK_CP.cp 0, 100)]).setTk 0 { off := true },
     by decide +kernel⟩,
   ⟨0, sets world [(TK_CFG.enable 0, 1), (TK_CFG.period 0, 15625), (TK_CP.cp 0, 100)], by decide +kernel⟩,
   ⟨0, sets world [(TK_CFG.enable 0, 1), (TK_ALLOW.allow 0, 0)], by decide +kernel⟩⟩

theorem test_hyps_MapsTakeEffectAtTheirPoint :
    (∃ (v : W64), fget v 63 1 = 1)
    ∧ (∃ (s : State), s.remapDue = true)
    ∧ (∃ (s : State), s.yoke.testPend = true ∧ s.remapDue = false)
    ∧ (∃ (n : Slice) (s : State), n.val ∈ s.yoke.corePend ∧ (n.val ∈ s.yoke.coreDue ∨ s.anyTicks = false))
    ∧ (∃ (s : State), s.is YK_STAT.failed = true ∨ s.buildHeld = true)
    ∧ (∃ (s : State) (h : Nat), s.yoke.build = some h ∧ h < 2 ∧ s.is YK_STAT.failed = false ∧ s.buildHeld = false) :=
  ⟨⟨BitVec.ofNat 64 (2 ^ 63), by decide +kernel⟩,
   ⟨world.setYoke { applyPend := true }, by decide +kernel⟩,
   ⟨world.setYoke { testPend := true }, by decide +kernel⟩,
   ⟨0, world.setYoke { corePend := [0] }, by decide +kernel⟩,
   ⟨{ world with regs := [(YK_STAT.failed.key, 1)] }, Or.inl (by decide +kernel)⟩,
   ⟨world.setYoke { build := some 1 }, 1, by decide +kernel⟩⟩

theorem test_hyps_BulkDecodeAnswersFromTheEpochsTable :
    (∃ (epoch : W16) (s : State), s.tableOf epoch.toNat = none)
    ∧ (∃ (epoch : W16) (erased : List Nat) (shards : List (List Byte)) (rows : List (List Byte)) (h : Nat) (s :
      State), s.tableOf epoch.toNat = some h ∧ erased.foldl setAdd [] ≠ [] ∧ (erased.foldl setAdd []).length ≤ s.get
      (YK_DTAB.r h) ∧ (∀ p ∈ erased, p < s.get (YK_DTAB.k h) + s.get (YK_DTAB.r h)) ∧ shards.length = s.get
      (YK_DTAB.k h) ∧ (∀ d ∈ shards, d.length = (shards.headD []).length) ∧ bulkOf (s.get (YK_DTAB.k h)) (s.get
      (YK_DTAB.k h) + s.get (YK_DTAB.r h)) (erased.foldl setAdd []) shards = some rows) :=
  ⟨⟨7, world, by decide +kernel⟩,
   ⟨7, [0], [[1#8], [2#8]], (bulkOf 2 3 [0] [[1#8], [2#8]]).getD [], 0, sets world [(YK_DTAB.epoch 0, 7), (YK_DTAB.k
     0, 2), (YK_DTAB.r 0, 1), (YK_DTAB.in_use 0, 1)], by decide +kernel⟩⟩

theorem test_hyps_PrepareWaitsForWritersThenVotes :
    (∃ (c : Ctx) (s : State) (j : Job), s.stepEndJob c = some j ∧ s.phase c = phPREPARE ∧ j.stage = 0 ∧ j.hold =
      .prepare ∧ (s.jobs.any fun x => x.cmdOf c && s.writesBank x) = false ∧ s.team c ≠ tmENCODING)
    ∧ (∃ (c : Ctx) (s : State) (j : Job), s.stepEndJob c = some j ∧ s.phase c = phPREPARE ∧ j.stage = 0 ∧ j.hold =
      .prepare ∧ (s.jobs.any fun x => x.cmdOf c && s.writesBank x) = false ∧ s.team c = tmENCODING)
    ∧ (∃ (c : Ctx) (s : State), (s.jobs.any fun x => x.cmdOf c && s.writesBank x) = true)
    ∧ (∃ (c : Ctx) (s : State) (j : Job), s.stepEndJob c = some j ∧ s.phase c = phPREPARE ∧ j.stage = 1 ∧ j.hold =
      .prepare ∧ j.segs = [] ∧ j.out = 0 ∧ s.intervalQuiet c = true ∧ (s.cmAt c).abortPend = none ∧ (s.cmTree
      c).isRoot 0 = false) :=
  ⟨⟨0, busy (world.set (CM_STAT.phase 0) phPREPARE) { running 0x40 [(24, 1)] with hold := .prepare, stage := 0 },
     { running 0x40 [(24, 1)] with hold := .prepare, stage := 0 }, by decide +kernel⟩,
   ⟨0, busy (sets world [(CM_STAT.phase 0, phPREPARE), (TM_STAT.state 0, tmENCODING)])
     { running 0x40 [(24, 1)] with hold := .prepare, stage := 0 },
     { running 0x40 [(24, 1)] with hold := .prepare, stage := 0 }, by decide +kernel⟩,
   ⟨0, busy world (running 0x20 []), by decide +kernel⟩,
   ⟨0, busy (sets world [(CM_STAT.phase 0, phPREPARE), (CM_CFG.group 0, 1)])
     { running 0x40 [(24, 1)] with hold := .prepare, stage := 1 },
     { running 0x40 [(24, 1)] with hold := .prepare, stage := 1 }, by decide +kernel⟩⟩

theorem test_hyps_VotesAreKeptByChildAndStaleOnesCounted :
    (∃ (bytes : List Byte) (m : Msg) (s : State) (tr : Nat) (i : Nat), accepted 0x30 bytes m s = true ∧ s.cmCurrent
      m.ctx (voteOf m).epoch (voteOf m).cseq = true ∧ (s.cmAt m.ctx).abortPend = none ∧ s.votePlace m = some (tr, i))
    ∧ (∃ (bytes : List Byte) (m : Msg) (s : State), accepted 0x30 bytes m s = true ∧ (s.cmCurrent m.ctx (voteOf
      m).epoch (voteOf m).cseq = false ∨ (s.cmAt m.ctx).abortPend.isSome = true ∨ s.votePlace m = none))
    ∧ (∃ (bytes : List Byte) (m : Msg) (s : State), leAt bytes 0 1 = 0x39 ∧ parseMsg bytes = some m ∧ s.verdict m =
      .counted FB_DROP.stale) :=
  ⟨⟨(msg 0x30 (List.replicate 32 0)).encode, msg 0x30 (List.replicate 32 0), world, 0, 1, by decide +kernel⟩,
   ⟨(msg 0x30 ([0, 0, 0, 0, 1] ++ List.replicate 27 0)).encode, msg 0x30 ([0, 0, 0, 0, 1] ++ List.replicate 27 0),
     world, by decide +kernel⟩,
   ⟨(msg 0x39 (List.replicate 32 0)).encode, msg 0x39 (List.replicate 32 0), world, by decide +kernel⟩⟩

theorem test_hyps_RootsKeepSixteenNoticesAndAnswerQueries :
    (∃ (bytes : List Byte) (m : Msg) (n : Notice) (s : State), accepted 0x33 bytes m s = true ∧ s.noticeOf m.ctx
      (m.at_ 4 4) = some n ∧ ((s.cmTree m.ctx).isRoot 0 = true ∨ (s.cmTree m.ctx).isRoot 1 = true))
    ∧ (∃ (bytes : List Byte) (m : Msg) (s : State), accepted 0x33 bytes m s = true ∧ (s.noticeOf m.ctx (m.at_ 4 4) =
      none ∨ ((s.cmTree m.ctx).isRoot 0 = false ∧ (s.cmTree m.ctx).isRoot 1 = false))) :=
  ⟨⟨(msg 0x33 (List.replicate 8 0)).encode, msg 0x33 (List.replicate 8 0), notice, voting world
     { notices := [notice] }, by decide +kernel⟩,
   ⟨(msg 0x33 (List.replicate 8 0)).encode, msg 0x33 (List.replicate 8 0), world, by decide +kernel⟩⟩

theorem test_hyps_HaltNoticeArmsAndAbortNoticeAborts :
    (∃ (bytes : List Byte) (m : Msg) (s : State), accepted 0x31 bytes m s = true ∧ s.live m.ctx = true ∧ s.cmCurrent
      m.ctx (haltOf m).epoch (haltOf m).cseq = true ∧ (s.phase m.ctx = phVOTED ∨ s.phase m.ctx = phINDOUBT) ∧ (s.cmAt
      m.ctx).abortPend = none ∧ s.decided m.ctx = none)
    ∧ (∃ (bytes : List Byte) (m : Msg) (s : State), accepted 0x31 bytes m s = true ∧ s.live m.ctx = true)
    ∧ (∃ (bytes : List Byte) (m : Msg) (s : State), accepted 0x32 bytes m s = true ∧ s.live m.ctx = true ∧ s.cmCurrent
      m.ctx (abortOf m).epoch (abortOf m).cseq = true ∧ s.phase m.ctx ≠ phARMED ∧ (s.cmAt m.ctx).abortPend = none ∧
      ((s.decided m.ctx).all fun k => !k.halt) = true ∧ s.deltaBusy m.ctx = false)
    ∧ (∃ (bytes : List Byte) (m : Msg) (s : State), accepted 0x32 bytes m s = true ∧ s.live m.ctx = true ∧ s.cmCurrent
      m.ctx (abortOf m).epoch (abortOf m).cseq = true ∧ s.phase m.ctx ≠ phARMED ∧ (s.cmAt m.ctx).abortPend = none ∧
      ((s.decided m.ctx).all fun k => !k.halt) = true ∧ s.deltaBusy m.ctx = true)
    ∧ (∃ (bytes : List Byte) (m : Msg) (s : State), accepted 0x32 bytes m s = true ∧ s.live m.ctx = true)
    ∧ (∃ (bytes : List Byte) (m : Msg) (s : State), s.live m.ctx = false ∧ accepted 0x32 bytes m s = true) :=
  ⟨⟨(msg 0x31 (List.replicate 24 0)).encode, msg 0x31 (List.replicate 24 0), world.set (CM_STAT.phase 0) phVOTED,
     by decide +kernel⟩,
   ⟨(msg 0x31 (List.replicate 24 0)).encode, msg 0x31 (List.replicate 24 0), world, by decide +kernel⟩,
   ⟨(msg 0x32 (List.replicate 16 0)).encode, msg 0x32 (List.replicate 16 0), world.set (CM_STAT.phase 0) phVOTED,
     by decide +kernel⟩,
   ⟨(msg 0x32 (List.replicate 16 0)).encode, msg 0x32 (List.replicate 16 0),
     { busy (world.set (CM_STAT.phase 0) phVOTED) { id := 1, owner := .delta (msg 0x10 []), ctx := 0 } with mem := { resetHigh := false, reqs := [(4097, { job := 1, granule := 0, write := true, region := 10, bank := 0 })] } },
     by decide +kernel⟩,
   ⟨(msg 0x32 (List.replicate 16 0)).encode, msg 0x32 (List.replicate 16 0), world, by decide +kernel⟩,
   ⟨(msg 0x32 (List.replicate 16 0)).encode, msg 0x32 (List.replicate 16 0), world.set (GL_CTX_STAT.state 0) 0,
     by decide +kernel⟩⟩

theorem test_hyps_FlipCommitsTheOpenStep :
    (∃ (c : Ctx) (s : State), s.phase c = phARMED ∧ s.get (CM_HALT.h c) ≤ s.now)
    ∧ (∃ (c : Ctx) (s : State), s.phase c ≠ phARMED ∨ s.now < s.get (CM_HALT.h c)) :=
  ⟨⟨0, world.set (CM_STAT.phase 0) phARMED, by decide +kernel⟩,
   ⟨0, sets world [(CM_STAT.phase 0, phARMED), (CM_HALT.h 0, 1)], by decide +kernel⟩⟩

theorem test_hyps_CommitTimersDecideQueryDoubtAndReport :
    (∃ (c : Ctx) (s : State), (s.cmTree c).isRoot 0 = true ∧ s.undecided c = true ∧ s.phase c ≠ phARMED ∧ (s.cmAt
      c).votedAt + s.get (CM_TMO.vote_tmo c) ≤ s.now)
    ∧ (∃ (c : Ctx) (s : State), s.phase c = phVOTED ∧ s.undecided c = true ∧ (s.cmAt c).queryAt = none ∧ (s.cmAt
      c).votedAt + s.get (CM_TMO.query_tmo c) ≤ s.now)
    ∧ (∃ (c : Ctx) (s : State) (q : Nat), (s.cmAt c).queryAt = some q ∧ s.phase c = phVOTED ∧ s.undecided c = true ∧
      q + s.get (CM_TMO.query_tmo c) ≤ s.now)
    ∧ (∃ (c : Ctx) (off : Bool) (child : Nat) (s : State), (s.cmAt c).own.isSome = true ∧ child ∈ (s.cmTree
      c).children (b2n off) ∧ (b2n off, child) ∉ (s.cmAt c).noVoteSeen ∧ ((s.cmAt c).votes.any fun v => v.1 == b2n
      off && v.2.1 == child) = false ∧ (s.cmAt c).votedAt + s.get (CM_TMO.query_tmo c) ≤ s.now) :=
  ⟨⟨0, voting (later (world.set (CM_STAT.phase 0) phVOTED)) { own := some yes }, by decide +kernel⟩,
   ⟨0, voting (later (world.set (CM_STAT.phase 0) phVOTED)) { own := some yes }, by decide +kernel⟩,
   ⟨0, voting (later (world.set (CM_STAT.phase 0) phVOTED)) { own := some yes, queryAt := some 0 }, 0, by
     decide +kernel⟩,
   ⟨0, false, 1, voting (later (world.set (CM_STAT.phase 0) phVOTED)) { own := some yes }, by decide +kernel⟩⟩

theorem test_hyps_EpochIsAppliedWhenNewer :
    (∃ (c : Ctx) (s : State), (s.cmAt c).epochPend.isSome = true)
    ∧ (∃ (c : Ctx) (s : State) (e : Nat), (s.cmAt c).epochPend = some e ∧ (s.cmAt c).own = none ∧ s.phase c ≠ phARMED
      ∧ (s.cmAt c).abortPend = none ∧ s.phase c ≠ phVOTED ∧ s.phase c ≠ phINDOUBT)
    ∧ (∃ (c : Ctx) (s : State) (e : Nat), (s.cmAt c).epochPend = some e ∧ ((s.cmAt c).own.isSome = true ∨ s.phase c =
      phARMED ∨ (s.cmAt c).abortPend.isSome = true)) :=
  ⟨⟨0, voting world { epochPend := some 1 }, by decide +kernel⟩,
   ⟨0, voting world { epochPend := some 1 }, 1, by decide +kernel⟩,
   ⟨0, voting world { epochPend := some 1, own := some yes }, 1, by decide +kernel⟩⟩

theorem test_hyps_FenceUnfenceAndResolve :
    (∃ (bytes : List Byte) (m : Msg) (s : State), accepted 0x38 bytes m s = true ∧ newer 16 (m.at_ 0 2) (s.get
      (CM_EPOCH.epoch m.ctx)) = true ∧ s.phase m.ctx ≠ phARMED ∧ s.stepEndJob m.ctx = none)
    ∧ (∃ (bytes : List Byte) (m : Msg) (s : State) (j : Job), accepted 0x38 bytes m s = true ∧ newer 16 (m.at_ 0 2)
      (s.get (CM_EPOCH.epoch m.ctx)) = true ∧ s.phase m.ctx ≠ phARMED ∧ s.stepEndJob m.ctx = some j ∧ j.out = 0)
    ∧ (∃ (bytes : List Byte) (m : Msg) (s : State), accepted 0x38 bytes m s = true ∧ newer 16 (m.at_ 0 2) (s.get
      (CM_EPOCH.epoch m.ctx)) = false)
    ∧ (∃ (bytes : List Byte) (m : Msg) (s : State), accepted 0x38 bytes m s = true ∧ newer 16 (m.at_ 0 2) (s.get
      (CM_EPOCH.epoch m.ctx)) = true ∧ s.phase m.ctx = phARMED)
    ∧ (∃ (c : Ctx) (s : State), s.phase c = phFENCED)
    ∧ (∃ (c : Ctx) (s : State), s.phase c ≠ phFENCED)
    ∧ (∃ (c : Ctx) (s : State), s.resolvable c = true ∧ s.get (CM_RESOLVE.cseq c) = s.get (CM_STAT.cseq c) ∧ s.get
      (CM_RESOLVE.action c) = 2)
    ∧ (∃ (c : Ctx) (s : State), s.resolvable c = true ∧ s.phase c = phFENCED ∧ s.get (CM_RESOLVE.cseq c) = s.get
      (CM_STAT.cseq c) ∧ s.get (CM_RESOLVE.action c) = 1)
    ∧ (∃ (c : Ctx) (s : State), s.phase c = phARMED)
    ∧ (∃ (c : Ctx) (s : State), s.resolvable c = true ∧ s.phase c ≠ phFENCED ∧ s.get (CM_RESOLVE.cseq c) = s.get
      (CM_STAT.cseq c) ∧ s.get (CM_RESOLVE.action c) = 1)
    ∧ (∃ (c : Ctx) (s : State), s.phase c ≠ phARMED ∧ (s.resolvable c = false ∨ s.get (CM_RESOLVE.cseq c) ≠ s.get
      (CM_STAT.cseq c) ∨ (s.get (CM_RESOLVE.action c) ≠ 1 ∧ s.get (CM_RESOLVE.action c) ≠ 2))) :=
  ⟨⟨(msg 0x38 [1, 0, 0, 0, 0, 0, 0, 0]).encode, msg 0x38 [1, 0, 0, 0, 0, 0, 0, 0], sets world [(FB_MGR.valid 0, 1),
     (FB_MGR.devid 0, 1)], by decide +kernel⟩,
   ⟨(msg 0x38 [1, 0, 0, 0, 0, 0, 0, 0]).encode, msg 0x38 [1, 0, 0, 0, 0, 0, 0, 0], busy (sets world [(FB_MGR.valid
     0, 1), (FB_MGR.devid 0, 1)]) (running 0x40 []), running 0x40 [], by decide +kernel⟩,
   ⟨(msg 0x38 [0, 0, 0, 0, 0, 0, 0, 0]).encode, msg 0x38 [0, 0, 0, 0, 0, 0, 0, 0], sets world [(FB_MGR.valid 0, 1),
     (FB_MGR.devid 0, 1)], by decide +kernel⟩,
   ⟨(msg 0x38 [1, 0, 0, 0, 0, 0, 0, 0]).encode, msg 0x38 [1, 0, 0, 0, 0, 0, 0, 0], sets world [(FB_MGR.valid 0, 1),
     (FB_MGR.devid 0, 1), (CM_STAT.phase 0, phARMED)], by decide +kernel⟩,
   ⟨0, world.set (CM_STAT.phase 0) phFENCED, by decide +kernel⟩,
   ⟨0, world, by decide +kernel⟩,
   ⟨0, sets world [(CM_STAT.phase 0, phVOTED), (CM_RESOLVE.action 0, 2)], by decide +kernel⟩,
   ⟨0, voting (sets world [(CM_STAT.phase 0, phFENCED), (CM_RESOLVE.action 0, 1)]) { own := some yes },
     by decide +kernel⟩,
   ⟨0, world.set (CM_STAT.phase 0) phARMED, by decide +kernel⟩,
   ⟨0, sets world [(CM_STAT.phase 0, phVOTED), (CM_RESOLVE.action 0, 1)], by decide +kernel⟩,
   ⟨0, world, by decide +kernel⟩⟩

theorem test_hyps_ChildRecordsAndPartialsCombineInTheirTile :
    (∃ (bytes : List Byte) (m : Msg) (s : State) (j : Job) (x : GsTile) (i : Nat), accepted 0x21 bytes m s = true ∧
      s.gsFind m = some j ∧ leAt m.rest 2 1 / 2 % 2 = 0 ∧ s.fromChild j m m.tree = some i ∧ j.tileAt m.tile = some x ∧
      x.tr = m.tree ∧ x.held = true ∧ x.recs.contains i = false)
    ∧ (∃ (bytes : List Byte) (m : Msg) (s : State) (j : Job) (x : GsTile) (i : Nat), accepted 0x23 bytes m s = true ∧
      s.gsFind m = some j ∧ j.gsKind = .grid ∧ s.fromChild j m m.tree = some i ∧ j.tileAt m.tile = some x ∧ x.tr =
      m.tree ∧ x.held = true ∧ x.parts.contains i = false ∧ (s.upFrom j x).contains i = true)
    ∧ (∃ (bytes : List Byte) (m : Msg) (s : State) (j : Job) (x : GsTile) (i : Nat), accepted 0x23 bytes m s = true ∧
      s.gsFind m = some j ∧ j.gsKind ≠ .grid ∧ leAt m.rest 2 1 / 2 % 2 = 0 ∧ s.fromChild j m m.tree = some i ∧
      j.tileAt m.tile = some x ∧ x.tr = m.tree ∧ x.held = true ∧ x.parts.contains i = false ∧ (s.upFrom j x).contains
      i = true)
    ∧ (∃ (bytes : List Byte) (m : Msg) (s : State) (j : Job), accepted 0x21 bytes m s = true ∧ s.gsFind m = some j ∧
      s.fromChild j m m.tree = none)
    ∧ (∃ (bytes : List Byte) (m : Msg) (s : State) (j : Job), accepted 0x23 bytes m s = true ∧ s.gsFind m = some j ∧
      j.tileAt m.tile = none)
    ∧ (∃ (bytes : List Byte) (m : Msg) (s : State) (j : Job) (x : GsTile) (i : Nat), accepted 0x21 bytes m s = true ∧
      s.gsFind m = some j ∧ s.fromChild j m m.tree = some i ∧ j.tileAt m.tile = some x ∧ x.tr = m.tree ∧ x.held = true
      ∧ x.recs.contains i = false ∧ leAt m.rest 2 1 / 2 % 2 = 1) :=
  ⟨⟨(gsMsg 0x21 1 0 [0, 0, 0, 0]).encode, gsMsg 0x21 1 0 [0, 0, 0, 0], busy world (reduce 0
     { tiles := [{ t := 0, tr := 0 }], ns := [(0, 256)], next := 1 }), reduce 0
     { tiles := [{ t := 0, tr := 0 }], ns := [(0, 256)], next := 1 }, { t := 0, tr := 0 }, 1, by decide +kernel⟩,
   ⟨(gsMsg 0x23 1 0 [0, 0, 0, 0]).encode, gsMsg 0x23 1 0 [0, 0, 0, 0], busy world (reduce 0
     { tiles := [{ t := 0, tr := 0 }], ns := [(0, 256)], next := 1 }), reduce 0
     { tiles := [{ t := 0, tr := 0 }], ns := [(0, 256)], next := 1 }, { t := 0, tr := 0 }, 1, by decide +kernel⟩,
   ⟨(gsMsg 0x23 1 0 [0, 0, 0, 0]).encode, gsMsg 0x23 1 0 [0, 0, 0, 0], busy world
     ({ reduce 0 { tiles := [{ t := 0, tr := 0 }], ns := [(0, 256)], next := 1 } with entry := (running 0x38 [(24, 32), (28, 1), (32, 1), (36, 1), (50, 64)]).entry }),
     { reduce 0 { tiles := [{ t := 0, tr := 0 }], ns := [(0, 256)], next := 1 } with entry := (running 0x38 [(24, 32), (28, 1), (32, 1), (36, 1), (50, 64)]).entry },
     { t := 0, tr := 0 }, 1, by decide +kernel⟩,
   ⟨(gsMsg 0x21 7 0 [0, 0, 0, 0]).encode, gsMsg 0x21 7 0 [0, 0, 0, 0], busy world (reduce 0
     { tiles := [{ t := 0, tr := 0 }], ns := [(0, 256)], next := 1 }), reduce 0
     { tiles := [{ t := 0, tr := 0 }], ns := [(0, 256)], next := 1 }, by decide +kernel⟩,
   ⟨(gsMsg 0x23 1 0 [0, 0, 0, 0]).encode, gsMsg 0x23 1 0 [0, 0, 0, 0], busy world (reduce 0 { ns := [(0, 256)] }),
     reduce 0 { ns := [(0, 256)] }, by decide +kernel⟩,
   ⟨(gsMsg 0x21 1 0 [0, 0, 2, 0]).encode, gsMsg 0x21 1 0 [0, 0, 2, 0], busy world (reduce 0
     { tiles := [{ t := 0, tr := 0 }], ns := [(0, 256)], next := 1 }), reduce 0
     { tiles := [{ t := 0, tr := 0 }], ns := [(0, 256)], next := 1 }, { t := 0, tr := 0 }, 1, by decide +kernel⟩⟩

theorem test_hyps_DescriptorsHeadersAndResultsTravelTheTree :
    (∃ (bytes : List Byte) (m : Msg) (s : State) (j : Job) (i : Nat), accepted 0x20 bytes m s = true ∧ s.gsFind m =
      some j ∧ leAt m.rest 1 1 / 64 % 2 = 0 ∧ s.fromChild j m (j.gs.treeOf 0) = some i ∧ j.gs.next ≠ 0 ∧
      j.gs.kids.contains i = false)
    ∧ (∃ (bytes : List Byte) (m : Msg) (s : State) (j : Job), accepted 0x20 bytes m s = true ∧ s.gsFind m = some j ∧
      leAt m.rest 1 1 / 64 % 2 = 1 ∧ s.fromParent j m (j.gs.treeOf 0) = true ∧ j.gs.down = none)
    ∧ (∃ (bytes : List Byte) (m : Msg) (s : State) (j : Job) (x : GsTile), accepted 0x22 bytes m s = true ∧ s.gsFind m
      = some j ∧ leAt m.rest 2 1 / 2 % 2 = 0 ∧ j.tileAt m.tile = some x ∧ x.tr = m.tree ∧ x.up = true ∧ x.hdr = none ∧
      s.fromParent j m x.tr = true)
    ∧ (∃ (bytes : List Byte) (m : Msg) (s : State) (j : Job) (x : GsTile), accepted 0x24 bytes m s = true ∧ s.gsFind m
      = some j ∧ (j.gsKind = .grid ∨ leAt m.rest 2 1 / 2 % 2 = 0) ∧ j.tileAt m.tile = some x ∧ x.tr = m.tree ∧ x.res =
      none ∧ s.fromParent j m x.tr = true)
    ∧ (∃ (bytes : List Byte) (m : Msg) (s : State) (j : Job), accepted 0x24 bytes m s = true ∧ s.gsFind m = some j ∧
      (j.gsKind = .grid ∨ leAt m.rest 2 1 / 2 % 2 = 0) ∧ j.tileAt m.tile = none ∧ j.gs.next ≤ m.tile ∧ m.tile <
      j.gsTiles ∧ (∀ y ∈ j.gs.early, y.tile ≠ m.tile) ∧ s.fromParent j m m.tree = true)
    ∧ (∃ (bytes : List Byte) (m : Msg) (s : State), accepted 0x20 bytes m s = true ∧ s.gsFind m = none)
    ∧ (∃ (bytes : List Byte) (m : Msg) (s : State), accepted 0x24 bytes m s = true ∧ s.gsFind m = none) :=
  ⟨⟨(gsMsg 0x20 1 0 [0, 0, 0, 0]).encode, gsMsg 0x20 1 0 [0, 0, 0, 0], busy world (reduce 0
     { tiles := [], ns := [(0, 256)], next := 1 }), reduce 0 { tiles := [], ns := [(0, 256)], next := 1 }, 1,
     by decide +kernel⟩,
   ⟨(gsMsg 0x20 0 1 [0, 64, 0, 0]).encode, gsMsg 0x20 0 1 [0, 64, 0, 0], busy world (reduce 1
     { tiles := [], ns := [(0, 256)], next := 1 }), reduce 1 { tiles := [], ns := [(0, 256)], next := 1 },
     by decide +kernel⟩,
   ⟨(gsMsg 0x22 0 1 [0, 0, 0, 0]).encode, gsMsg 0x22 0 1 [0, 0, 0, 0], busy world (reduce 1
     { tiles := [{ t := 0, tr := 0, up := true }], ns := [(0, 256)], next := 1 }), reduce 1
     { tiles := [{ t := 0, tr := 0, up := true }], ns := [(0, 256)], next := 1 }, { t := 0, tr := 0, up := true },
     by decide +kernel⟩,
   ⟨(gsMsg 0x24 0 1 [0, 0, 0, 0]).encode, gsMsg 0x24 0 1 [0, 0, 0, 0], busy world (reduce 1
     { tiles := [{ t := 0, tr := 0 }], ns := [(0, 256)], next := 1 }), reduce 1
     { tiles := [{ t := 0, tr := 0 }], ns := [(0, 256)], next := 1 }, { t := 0, tr := 0 }, by decide +kernel⟩,
   ⟨(gsMsg 0x24 0 1 [0, 0, 0, 0]).encode, gsMsg 0x24 0 1 [0, 0, 0, 0], busy world (reduce 1 { ns := [(0, 256)] }),
     reduce 1 { ns := [(0, 256)] }, by decide +kernel⟩,
   ⟨(gsMsg 0x20 1 0 [0, 0, 0, 0]).encode, gsMsg 0x20 1 0 [0, 0, 0, 0], world, by decide +kernel⟩,
   ⟨(gsMsg 0x24 0 1 [0, 0, 0, 0]).encode, gsMsg 0x24 0 1 [0, 0, 0, 0], world, by decide +kernel⟩⟩

theorem test_hyps_CreditsAcknowledgementsAndSplitsAreKept :
    (∃ (bytes : List Byte) (m : Msg) (s : State) (j : Job), accepted 0x25 bytes m s = true ∧ s.gsFind m = some j ∧
      s.fromParent j m m.tree = true)
    ∧ (∃ (bytes : List Byte) (m : Msg) (s : State) (j : Job), accepted 0x26 bytes m s = true ∧ s.gsFind m = some j ∧
      s.fromParent j m m.tree = true)
    ∧ (∃ (bytes : List Byte) (m : Msg) (s : State) (j : Job), accepted 0x27 bytes m s = true ∧ s.gsFind m = some j ∧
      j.gs.fixed = false ∧ Tbl.find j.gs.ns (m.tile / 256) = none)
    ∧ (∃ (bytes : List Byte) (m : Msg) (s : State) (j : Job), accepted 0x27 bytes m s = true ∧ s.gsFind m = some j ∧
      (Tbl.find j.gs.ns (m.tile / 256)).isSome = true)
    ∧ (∃ (bytes : List Byte) (m : Msg) (s : State) (j : Job), accepted 0x28 bytes m s = true ∧ s.gsFind m = some j ∧
      (s.gsTree j).me = 0)
    ∧ (∃ (bytes : List Byte) (m : Msg) (s : State) (j : Job), accepted 0x29 bytes m s = true ∧ s.gsFind m = some j) :=
  ⟨⟨(gsMsg 0x25 0 1 [1, 0, 0, 0]).encode, gsMsg 0x25 0 1 [1, 0, 0, 0], busy world (reduce 1
     { tiles := [], ns := [(0, 256)], next := 1 }), reduce 1 { tiles := [], ns := [(0, 256)], next := 1 },
     by decide +kernel⟩,
   ⟨(gsMsg 0x26 0 1 [1, 0, 0, 0]).encode, gsMsg 0x26 0 1 [1, 0, 0, 0], busy world (reduce 1
     { tiles := [{ t := 0, tr := 0, sent := true }], ns := [(0, 256)], next := 1 }), reduce 1
     { tiles := [{ t := 0, tr := 0, sent := true }], ns := [(0, 256)], next := 1 }, by decide +kernel⟩,
   ⟨(gsMsg 0x27 0 1 [5, 0, 0, 0]).encode, gsMsg 0x27 0 1 [5, 0, 0, 0], busy world (reduce 1 {}), reduce 1 {},
     by decide +kernel⟩,
   ⟨(gsMsg 0x27 0 1 [5, 0, 0, 0]).encode, gsMsg 0x27 0 1 [5, 0, 0, 0], busy world (reduce 1
     { tiles := [], ns := [(0, 256)], next := 1 }), reduce 1 { tiles := [], ns := [(0, 256)], next := 1 },
     by decide +kernel⟩,
   ⟨(gsMsg 0x28 1 0 [0, 0, 0, 0]).encode, gsMsg 0x28 1 0 [0, 0, 0, 0], busy world (reduce 0
     { tiles := [], ns := [(0, 256)], next := 1 }), reduce 0 { tiles := [], ns := [(0, 256)], next := 1 },
     by decide +kernel⟩,
   ⟨(gsMsg 0x29 1 0 [0x18, 0, 0, 0]).encode, gsMsg 0x29 1 0 [0x18, 0, 0, 0], busy world (reduce 0
     { tiles := [], ns := [(0, 256)], next := 1 }), reduce 0 { tiles := [], ns := [(0, 256)], next := 1 },
     by decide +kernel⟩⟩

theorem test_hyps_DoorbellsAdvanceTheWatermarkAndTilesAreAdmitted :
    (∃ (c : Ctx) (st : Fin 64) (u : W32) (s : State), s.live c = true ∧ s.gs.heldDb = [] ∧ s.get (GS_TRD.wmark c st)
      < 2 ^ 32 ∧ (s.marksOf c st).length ≤ 256 ∧ subMod 32 u.toNat (s.get (GS_TRD.wmark c st)) < 256)
    ∧ (∃ (c : Ctx) (st : Fin 64) (u : W32) (s : State), s.live c = true ∧ s.gs.heldDb = [] ∧ 2 ^ 31 ≤ subMod 32
      u.toNat (s.get (GS_TRD.wmark c st)))
    ∧ (∃ (c : Ctx) (st : Fin 64) (u : W32) (s : State), s.live c = true ∧ s.gs.heldDb = [] ∧ 256 ≤ subMod 32 u.toNat
      (s.get (GS_TRD.wmark c st)) ∧ subMod 32 u.toNat (s.get (GS_TRD.wmark c st)) < 2 ^ 31)
    ∧ (∃ (c : Ctx) (st : Fin 64) (s : State), s.gs.heldDb = [] ∧ (s.jobs.any fun j => j.cmdOf c && j.opcode ==
      opCOLLECTIVE && j.trd && j.gsStream == st.val) = false)
    ∧ (∃ (c : Ctx) (st : Fin 64) (v : W32) (s : State), v.toNat ≠ s.get (GS_TRD.wmark c st) ∧ (s.jobs.any fun j =>
      j.cmdOf c && j.opcode == opCOLLECTIVE && j.trd && j.gsStream == st.val) = true)
    ∧ (∃ (c : Ctx) (st : Fin 64) (v : W32) (s : State), v.toNat = s.get (GS_TRD.wmark c st) ∧ (s.jobs.any fun j =>
      j.cmdOf c && j.opcode == opCOLLECTIVE && j.trd && j.gsStream == st.val) = true)
    ∧ (∃ (c : Ctx) (gcn : W32) (s : State) (j : Job) (n : Nat), (s.jobs.find? fun j => j.cmdOf c && j.isGs &&
      j.ending.isNone && j.gcn == gcn.toNat) = some j ∧ j.gs.next < j.gsTiles ∧ s.stopped j = false ∧ j.gs.nsOf
      (j.gs.next / 256) = some n ∧ s.admits j = true)
    ∧ (∃ (c : Ctx) (g : Fin 16) (v : W64) (s : State), nbits v.toNat 63 1 = 1 ∧ s.get (GS_GRP_CFG.valid c g) = 0 ∧
      (s.writeGroup c g v.toNat).groupOk c g = true)
    ∧ (∃ (c : Ctx) (g : Fin 16) (v : W64) (s : State), s.get (GS_GRP_CFG.valid c g) = 0 ∧ nbits v.toNat 63 1 = 1 ∧
      (s.writeGroup c g v.toNat).groupOk c g = false) :=
  ⟨⟨0, 0, 255, world, by decide +kernel⟩,
   ⟨0, 0, 0xFFFFFFFF, world, by decide +kernel⟩,
   ⟨0, 0, 256, world, by decide +kernel⟩,
   ⟨0, 0, world, by decide +kernel⟩,
   ⟨0, 0, 5, busy world (running 0x38 [(24, 64)]), by decide +kernel⟩,
   ⟨0, 0, 0, busy world (running 0x38 [(24, 64)]), by decide +kernel⟩,
   ⟨0, 1, busy world (reduce 0 { ns := [(0, 256)] }), reduce 0 { ns := [(0, 256)] }, 256, by decide +kernel⟩,
   ⟨0, 2, BitVec.ofNat 64 (2 ^ 63 + 2 * 2 ^ 4 + 1), world, by decide +kernel⟩,
   ⟨0, 2, BitVec.ofNat 64 (2 ^ 63 + 1), world, by decide +kernel⟩⟩

theorem test_hyps_TreeParentsAndChildrenAgree :
    ∃ (t : Tree), 1 ≤ t.n ∧ 1 ≤ t.fan :=
  ⟨⟨2, 0, 2⟩, by decide +kernel⟩

theorem test_hyps_GridSumsDoNotDependOnTheOrder :
    ∃ (ls : List (List Int)) (ls' : List (List Int)), ls.Perm ls' ∧ ls ≠ [] ∧ (∀ l ∈ ls, l.length = 64) :=
  ⟨[List.replicate 64 1], [List.replicate 64 1], by decide +kernel⟩

theorem test_hyps_TeamsFormWhenEveryMemberAgrees :
    (∃ (c : Ctx) (s : State), s.team c = tmOFF ∧ s.get (TM_CFG.mode c) ≠ 0 ∧ s.formOk c = true ∧ (s.tmAt c).forms =
      [])
    ∧ (∃ (c : Ctx) (s : State), s.team c = tmOFF ∧ s.get (TM_CFG.mode c) ≠ 0 ∧ s.formOk c = false)
    ∧ (∃ (c : Ctx) (s : State), s.team c ≠ tmOFF)
    ∧ (∃ (bytes : List Byte) (m : Msg) (s : State), accepted 0x15 bytes m s = true ∧ s.team m.ctx = tmOFF ∧ m.gen =
      s.get (GL_CTX_STAT.gen m.ctx))
    ∧ (∃ (bytes : List Byte) (m : Msg) (s : State), accepted 0x15 bytes m s = true ∧ s.team m.ctx = tmFORMING ∧ m.gen
      = s.get (GL_CTX_STAT.gen m.ctx) ∧ s.judged m.ctx m.member ⟨m.src, m.team, m.tag, m.epoch, m.at_ 0 8, s.now⟩ =
      true ∧ s.agrees m.ctx ⟨m.src, m.team, m.tag, m.epoch, m.at_ 0 8, s.now⟩ = true ∧ (∀ e ∈ (s.tmAt m.ctx).forms,
      s.judged m.ctx e.1 e.2 = true → s.agrees m.ctx e.2 = true) ∧ (∀ i < (s.tmAt m.ctx).vals.n, i ≠ (s.tmAt
      m.ctx).vals.index → i ≠ m.member → ∃ f : FormNote, Tbl.find (s.tmAt m.ctx).forms i = some f ∧ s.judged m.ctx i f
      = true ∧ s.agrees m.ctx f = true))
    ∧ (∃ (bytes : List Byte) (m : Msg) (s : State), accepted 0x15 bytes m s = true ∧ s.team m.ctx = tmFORMING ∧ m.gen
      = s.get (GL_CTX_STAT.gen m.ctx) ∧ s.judged m.ctx m.member ⟨m.src, m.team, m.tag, m.epoch, m.at_ 0 8, s.now⟩ =
      true ∧ s.agrees m.ctx ⟨m.src, m.team, m.tag, m.epoch, m.at_ 0 8, s.now⟩ = false)
    ∧ (∃ (c : Ctx) (s : State), s.team c = tmFORMING ∧ (s.tmAt c).formAt + s.get (GL_CTX_TMO.dflt c) ≤ s.now) :=
  ⟨⟨0, teamed tmOFF [], by decide +kernel⟩,
   ⟨0, world.set (TM_CFG.mode 0) 1, by decide +kernel⟩,
   ⟨0, teamed tmPROTECTED [], by decide +kernel⟩,
   ⟨(msg 0x15 (List.replicate 8 0)).encode, msg 0x15 (List.replicate 8 0), world, by decide +kernel⟩,
   ⟨(msg 0x15 (List.replicate 8 0)).encode, msg 0x15 (List.replicate 8 0), teamed tmFORMING [], by decide +kernel⟩,
   ⟨(msg 0x15 (List.replicate 8 0)).encode, msg 0x15 (List.replicate 8 0), teamed tmFORMING [(TM_SHAPEF.digest 0,
     1)], by decide +kernel⟩,
   ⟨0, later (teamed tmFORMING []), by decide +kernel⟩⟩

theorem test_hyps_AppliesAndDissolvesTakeEffectAtTheirPoint :
    (∃ (c : Ctx) (s : State), (s.tmAt c).pending = none ∧ s.team c ≠ tmOFF ∧ s.team c ≠ tmFORMING ∧ s.applyOk c =
      true)
    ∧ (∃ (c : Ctx) (s : State), (s.tmAt c).pending = none ∧ (s.team c = tmOFF ∨ s.team c = tmFORMING ∨ s.applyOk c =
      false))
    ∧ (∃ (c : Ctx) (s : State), (s.tmAt c).pending.isSome = true)
    ∧ (∃ (c : Ctx) (s : State) (v : TeamVals), (s.tmAt c).pending = some v ∧ (s.cmAt c).own = none ∧ s.phase c ≠
      phARMED ∧ (s.cmAt c).abortPend = none)
    ∧ (∃ (c : Ctx) (s : State), (s.tmAt c).pending.isSome = true ∧ ((s.cmAt c).own.isSome = true ∨ s.phase c =
      phARMED ∨ (s.cmAt c).abortPend.isSome = true))
    ∧ (∃ (c : Ctx) (s : State), s.team c ≠ tmOFF ∧ (s.cmAt c).own = none ∧ s.phase c ≠ phARMED ∧ (s.cmAt c).abortPend
      = none)
    ∧ (∃ (c : Ctx) (s : State), s.team c ≠ tmOFF ∧ ((s.cmAt c).own.isSome = true ∨ s.phase c = phARMED ∨ (s.cmAt
      c).abortPend.isSome = true)) :=
  ⟨⟨0, teamed tmPROTECTED [(TM_ID.epoch 0, 1)], by decide +kernel⟩,
   ⟨0, world, by decide +kernel⟩,
   ⟨0, (teamed tmPROTECTED []).setTm 0 { vals := pair, pending := some pair }, by decide +kernel⟩,
   ⟨0, (teamed tmPROTECTED []).setTm 0 { vals := pair, pending := some pair }, pair, by decide +kernel⟩,
   ⟨0, voting ((teamed tmPROTECTED []).setTm 0 { vals := pair, pending := some pair }) { own := some yes }, by
     decide +kernel⟩,
   ⟨0, teamed tmPROTECTED [], by decide +kernel⟩,
   ⟨0, voting ((teamed tmPROTECTED []).setTm 0 { vals := pair, pending := some pair }) { own := some yes }, by
     decide +kernel⟩⟩

theorem test_hyps_TeamMessagesAreBufferedServedAndAnswered :
    (∃ (bytes : List Byte) (m : Msg) (s : State), accepted 0x10 bytes m s = true)
    ∧ (∃ (q : InReq) (s : State), s.teamMsgOk q.msg = true ∧ s.deltaEarly q.msg = false ∧ s.deltaBad q.msg = false)
    ∧ (∃ (q : InReq) (s : State), s.teamMsgOk q.msg = false ∨ (s.deltaEarly q.msg = false ∧ s.deltaBad q.msg = true))
    ∧ (∃ (bytes : List Byte) (m : Msg) (s : State) (o : FabOut), accepted 0x11 bytes m s = true ∧ s.asked m = some o)
    ∧ (∃ (bytes : List Byte) (m : Msg) (s : State) (o : FabOut), accepted 0x12 bytes m s = true ∧ s.asked m = some o ∧
      o.typ = 0x10 ∧ o.stripe < 2 ^ 43 ∧ o.cseq = s.get (CM_STAT.cseq o.ctx) ∧ (s.cmAt o.ctx).own = none ∧ s.phase
      o.ctx ≠ phVOTED ∧ s.phase o.ctx ≠ phARMED ∧ s.phase o.ctx ≠ phINDOUBT)
    ∧ (∃ (bytes : List Byte) (m : Msg) (s : State), accepted 0x13 bytes m s = true ∧ s.team m.ctx = tmFORMING)
    ∧ (∃ (bytes : List Byte) (m : Msg) (s : State), accepted 0x13 bytes m s = true ∧ s.team m.ctx ≠ tmFORMING ∧
      imageOf m.stripe ≠ 0 ∧ (16 < imageOf m.stripe ∨ s.slotParity m.ctx (imageOf m.stripe - 1) = false))
    ∧ (∃ (bytes : List Byte) (m : Msg) (s : State), accepted 0x13 bytes m s = true ∧ s.team m.ctx ≠ tmFORMING ∧
      imageOf m.stripe = 0)
    ∧ (∃ (bytes : List Byte) (m : Msg) (s : State) (o : FabOut) (j : Job), accepted 0x14 bytes m s = true ∧ s.asked m
      = some o ∧ s.job o.job = some j ∧ j.ending = none ∧ j.isCommand = true)
    ∧ (∃ (bytes : List Byte) (m : Msg) (s : State) (o : FabOut) (j : Job) (c : Nat), accepted 0x14 bytes m s = true ∧
      s.asked m = some o ∧ s.job o.job = some j ∧ j.ending = none ∧ j.owner = .rebuild c ∧ Tbl.find s.rec_.rebStep c =
      none)
    ∧ (∃ (bytes : List Byte) (m : Msg) (s : State), accepted 0x16 bytes m s = true ∧ imageOf m.stripe ≠ 0 ∧ imageOf
      m.stripe ≤ 16)
    ∧ (∃ (bytes : List Byte) (m : Msg) (s : State), accepted 0x17 bytes m s = true ∧ imageOf m.stripe ≠ 0 ∧ imageOf
      m.stripe ≤ 16)
    ∧ (∃ (slot : Fin 16) (s : State), s.is (TM_STB.stale slot) = true ∧ s.is (TM_STB.coded slot) = true ∧ s.team
      (s.get (TM_STB.ctx slot)) = tmPROTECTED ∧ s.recoding slot = false ∧ s.get (TM_STB.offset slot) * 4096 + 4096 *
      (cdiv (s.imageSize (s.slotRgns slot)) (4096 * (s.tmAt (s.get (TM_STB.ctx slot))).vals.k) * (s.tmAt (s.get
      (TM_STB.ctx slot))).vals.r) ≤ (s.rgn (s.get (TM_CFG.spar (s.get (TM_STB.ctx slot))))).count) :=
  ⟨⟨({ msg 0x10 (List.replicate 64 0) with bit2 := 1, step := 1 } : Msg).encode,
     { msg 0x10 (List.replicate 64 0) with bit2 := 1, step := 1 }, teamed tmPROTECTED [], by decide +kernel⟩,
   ⟨waiting { msg 0x10 (List.replicate 64 0) with bit2 := 1, step := 1 }, teamed tmPROTECTED [], by decide +kernel⟩,
   ⟨waiting (msg 0x10 []), teamed tmPROTECTED [], by decide +kernel⟩,
   ⟨(msg 0x11 []).encode, msg 0x11 [], asking (teamed tmPROTECTED []) 0x10,
     { tag := 0, typ := 0x10, dst := 1, ctx := 0, job := 1 }, by decide +kernel⟩,
   ⟨(msg 0x12 [0, 0x10, 0, 0]).encode, msg 0x12 [0, 0x10, 0, 0], asking (teamed tmPROTECTED []) 0x10,
     { tag := 0, typ := 0x10, dst := 1, ctx := 0, job := 1 }, by decide +kernel⟩,
   ⟨(msg 0x13 []).encode, msg 0x13 [], teamed tmFORMING [], by decide +kernel⟩,
   ⟨({ msg 0x13 [] with stripe := 2 ^ 43 } : Msg).encode, { msg 0x13 [] with stripe := 2 ^ 43 }, teamed tmPROTECTED
     [], by decide +kernel⟩,
   ⟨(msg 0x13 []).encode, msg 0x13 [], teamed tmPROTECTED [], by decide +kernel⟩,
   ⟨(msg 0x14 []).encode, msg 0x14 [], asking (busy (teamed tmPROTECTED []) (running 0x48 [])) 0x13,
     { tag := 0, typ := 0x13, dst := 1, ctx := 0, job := 1 }, running 0x48 [], by decide +kernel⟩,
   ⟨(msg 0x14 []).encode, msg 0x14 [], asking (busy (teamed tmPROTECTED [])
     { id := 1, owner := .rebuild 0, ctx := 0 }) 0x13, { tag := 0, typ := 0x13, dst := 1, ctx := 0, job := 1 },
     { id := 1, owner := .rebuild 0, ctx := 0 }, 0, by decide +kernel⟩,
   ⟨({ msg 0x16 [] with stripe := 2 ^ 43 } : Msg).encode, { msg 0x16 [] with stripe := 2 ^ 43 }, teamed tmPROTECTED
     [], by decide +kernel⟩,
   ⟨({ msg 0x17 [] with stripe := 2 ^ 43 } : Msg).encode, { msg 0x17 [] with stripe := 2 ^ 43 }, teamed tmPROTECTED
     [], by decide +kernel⟩,
   ⟨0, teamed tmPROTECTED [(TM_STB.stale 0, 1), (TM_STB.coded 0, 1), (TM_CFG.spar 0, 12)], by decide +kernel⟩⟩

theorem test_hyps_CopiesAreBufferedWrittenAndAnswered :
    (∃ (bytes : List Byte) (m : Msg) (s : State), accepted 0x01 bytes m s = true ∧ s.putParts m ≠ [] ∧ (∀ r ∈
      s.fab.reqs, r.id < s.fab.nextId))
    ∧ (∃ (bytes : List Byte) (m : Msg) (s : State), accepted 0x01 bytes m s = true ∧ s.putParts m = [] ∧ (∀ r ∈
      s.fab.reqs, r.id < s.fab.nextId))
    ∧ (∃ (n : Slice) (granule : Nat) (s : State), s.inFlight.length < 32 ∧ (s.inFlight.any fun j => j.value == gKey n
      granule) = false ∧ s.mem.resetHigh = false ∧ s.takers (gKey n granule) ≠ [] ∧ (∀ q ∈ s.takers (gKey n granule),
      s.regionCheck q.msg = .accept))
    ∧ (∃ (bytes : List Byte) (m : Msg) (s : State) (o : FabOut), accepted 0x02 bytes m s = true ∧ s.asked m = some o)
    ∧ (∃ (bytes : List Byte) (m : Msg) (s : State) (o : FabOut) (j : Job), accepted 0x04 bytes m s = true ∧ s.asked m
      = some o ∧ s.job o.job = some j ∧ j.ending = none)
    ∧ (∃ (bytes : List Byte) (m : Msg) (s : State), accepted 0x03 bytes m s = true)
    ∧ (∃ (q : InReq) (s : State), q.busy = false ∧ q.msg.typ = 0x03 ∧ (∀ r ∈ s.fab.reqs, r.id < q.id → r.msg.src =
      q.msg.src → r.msg.ctx = q.msg.ctx → r.msg.typ ≠ 0x01 ∧ r.msg.typ ≠ 0x05)) :=
  ⟨⟨(msg 0x01 (10 :: List.replicate 71 0)).encode, msg 0x01 (10 :: List.replicate 71 0), world, by decide +kernel⟩,
   ⟨(msg 0x01 (10 :: List.replicate 7 0)).encode, msg 0x01 (10 :: List.replicate 7 0), world, by decide +kernel⟩,
   ⟨0, 5,
     { world with fab := { reqs := [{ id := 0, msg := msg 0x01 (10 :: List.replicate 71 0), todo := [5] }], nextId := 1 } },
     by decide +kernel⟩,
   ⟨(msg 0x02 []).encode, msg 0x02 [], asking world 0x01, { tag := 0, typ := 0x01, dst := 1, ctx := 0, job := 1 },
     by decide +kernel⟩,
   ⟨(msg 0x04 (List.replicate 64 0)).encode, msg 0x04 (List.replicate 64 0), asking (busy world (running 0x31 []))
     0x03, { tag := 0, typ := 0x03, dst := 1, ctx := 0, job := 1 }, running 0x31 [], by decide +kernel⟩,
   ⟨(msg 0x03 [10, 0, 0, 0, 0, 0, 0, 0, 64, 0, 0, 0, 0, 0, 0, 0]).encode, msg 0x03 [10, 0, 0, 0, 0, 0, 0, 0, 64, 0,
     0, 0, 0, 0, 0, 0], world, by decide +kernel⟩,
   ⟨waiting (msg 0x03 [10, 0, 0, 0, 0, 0, 0, 0, 64, 0, 0, 0, 0, 0, 0, 0]), world, by decide +kernel⟩⟩

theorem test_hyps_NoticesDropsPartsCreditsAndUnknownTypes :
    (∃ (bytes : List Byte) (m : Msg) (s : State), accepted 0x05 bytes m s = true)
    ∧ (∃ (q : InReq) (s : State), q.busy = false ∧ q.msg.typ = 0x05 ∧ (∀ r ∈ s.fab.reqs, r.id < q.id → r.msg.src =
      q.msg.src → r.msg.ctx = q.msg.ctx → msgOrdered r.msg.typ = false))
    ∧ (∃ (bytes : List Byte) (m : Msg) (s : State) (o : FabOut), accepted 0x06 bytes m s = true ∧ s.asked m = some o)
    ∧ (∃ (bytes : List Byte) (m : Msg) (s : State) (o : FabOut) (j : Job), accepted 0x07 bytes m s = true ∧ s.asked m
      = some o ∧ s.job o.job = some j ∧ j.ending = none)
    ∧ (∃ (bytes : List Byte) (m : Msg) (s : State) (g : Nat), accepted 0x3A bytes m s = true ∧ s.bcastGroup m.ctx
      m.bit2 m.src = some g)
    ∧ (∃ (bytes : List Byte) (m : Msg) (s : State), unknownType bytes = true ∧ parseMsg bytes = some m ∧ s.verdict m =
      .accept)
    ∧ (∃ (bytes : List Byte), leAt bytes 0 1 = 0x30 ∧ parseMsg bytes = none)
    ∧ (∃ (bytes : List Byte), leAt bytes 0 1 / 4 = 0x30 ∧ leAt bytes 1 1 < 2) :=
  ⟨⟨(msg 0x05 [0, 0, 0, 0]).encode, msg 0x05 [0, 0, 0, 0], world, by decide +kernel⟩,
   ⟨waiting (msg 0x05 [0, 0, 0, 0]), world, by decide +kernel⟩,
   ⟨(msg 0x06 []).encode, msg 0x06 [], asking world 0x05, { tag := 0, typ := 0x05, dst := 1, ctx := 0, job := 1 },
     by decide +kernel⟩,
   ⟨(msg 0x07 [0x18, 0x01, 0, 0]).encode, msg 0x07 [0x18, 0x01, 0, 0], asking (busy world (running 0x30 [])) 0x01,
     { tag := 0, typ := 0x01, dst := 1, ctx := 0, job := 1 }, running 0x30 [], by decide +kernel⟩,
   ⟨({ msg 0x3A (List.replicate 16 0) with src := 0 } : Msg).encode,
     { msg 0x3A (List.replicate 16 0) with src := 0 }, world, 1, by decide +kernel⟩,
   ⟨(msg 0x50 []).encode, msg 0x50 [], world, by decide +kernel⟩,
   ⟨[0x30#8], by decide +kernel⟩,
   ⟨[0xC0#8, 0x00#8], by decide +kernel⟩⟩

theorem test_hyps_LanesGoDownComeBackAndAreMappedAgain :
    (∃ (p : Fin 18) (s : State), (s.lane p = lnACTIVE ∨ s.lane p = lnSPARE))
    ∧ (∃ (p : Fin 18) (s : State), s.lane p ≠ lnACTIVE ∧ s.lane p ≠ lnSPARE)
    ∧ (∃ (p : Fin 18) (s : State), (s.lane p = lnDOWN ∨ s.lane p = lnOUT) ∧ nbits (s.get FB_LANE_CTL.out) p 1 ≠ 1)
    ∧ (∃ (p : Fin 18) (s : State), ¬ ((s.lane p = lnDOWN ∨ s.lane p = lnOUT) ∧ nbits (s.get FB_LANE_CTL.out) p 1 ≠ 1))
    ∧ (∃ (s : State), s.fab.rebuildPend = true ∧ (s.fab.rebuildDue = true ∨ s.anyTicks = false)) :=
  ⟨⟨0, world, by decide +kernel⟩,
   ⟨0, world.set (FB_LANE.state 0) lnDOWN, by decide +kernel⟩,
   ⟨17, world.set (FB_LANE.state 17) lnDOWN, by decide +kernel⟩,
   ⟨17, world, by decide +kernel⟩,
   ⟨world.setFab { rebuildPend := true }, by decide +kernel⟩⟩

theorem test_hyps_ReportsAreMergedFollowedUpAndReleased :
    (∃ (bytes : List Byte) (m : Msg) (s : State) (i : Nat), accepted 0x3B bytes m s = true ∧ s.rec_.seqDown = false
      ∧ s.rec_.seqStop = false ∧ s.is DG_REP_CFG.accept = true ∧ s.rinFind (m.at_ 0 2) (m.at_ 2 1) = some i)
    ∧ (∃ (bytes : List Byte) (m : Msg) (s : State) (i : Nat), accepted 0x3B bytes m s = true ∧ s.rec_.seqDown = false
      ∧ s.rec_.seqStop = false ∧ s.is DG_REP_CFG.accept = true ∧ s.rinFind (m.at_ 0 2) (m.at_ 2 1) = none ∧
      ((List.range 256).find? fun i => !s.is (DG_RIN_ID.valid i)) = some i)
    ∧ (∃ (bytes : List Byte) (m : Msg) (s : State), accepted 0x3B bytes m s = true ∧ s.rec_.seqDown = false ∧
      s.rec_.seqStop = false ∧ s.is DG_REP_CFG.accept = true ∧ s.rinFind (m.at_ 0 2) (m.at_ 2 1) = none ∧ (∀ i < 256,
      s.is (DG_RIN_ID.valid i) = true))
    ∧ (∃ (bytes : List Byte) (m : Msg) (s : State), accepted 0x3B bytes m s = true ∧ s.rec_.seqDown = false ∧
      s.rec_.seqStop = false ∧ s.is DG_REP_CFG.accept = false)
    ∧ (∃ (bytes : List Byte) (m : Msg) (s : State), accepted 0x3B bytes m s = true ∧ (s.rec_.seqDown = true ∨
      s.rec_.seqStop = true))
    ∧ (∃ (subject : W16) (kind : Byte) (s : State) (e : RepEnt), repFind s.rec_.reps subject.toNat kind.toNat = some e
      ∧ e.wstart + s.get DG_REP_CFG.window ≤ s.now)
    ∧ (∃ (i : Fin 256) (s : State), s.is (DG_RIN_ID.valid i) = true) :=
  ⟨⟨(msg 0x3B (List.replicate 16 0)).encode, msg 0x3B (List.replicate 16 0), sets world [(DG_REP_CFG.accept, 1),
     (DG_RIN_ID.valid 3, 1)], 3, by decide +kernel⟩,
   ⟨(msg 0x3B (List.replicate 16 0)).encode, msg 0x3B (List.replicate 16 0), world.set DG_REP_CFG.accept 1, 0,
     by decide +kernel⟩,
   ⟨(msg 0x3B (9 :: List.replicate 15 0)).encode, msg 0x3B (9 :: List.replicate 15 0),
     { world with regs := listed ([(GS_SELF.devid, 5), (DG_REP_CFG.accept, 1)] ++ (List.range 256).map fun i => (DG_RIN_ID.valid i, 1)) },
     by decide +kernel⟩,
   ⟨(msg 0x3B (List.replicate 16 0)).encode, msg 0x3B (List.replicate 16 0), world, by decide +kernel⟩,
   ⟨(msg 0x3B (List.replicate 16 0)).encode, msg 0x3B (List.replicate 16 0), world.setRec { seqStop := true },
     by decide +kernel⟩,
   ⟨1, 2, (later world).setRec { reps := [⟨1, 2, 0, 0, 0⟩] }, ⟨1, 2, 0, 0, 0⟩, by decide +kernel⟩,
   ⟨3, world.set (DG_RIN_ID.valid 3) 1, by decide +kernel⟩⟩

theorem test_hyps_WatchdogCollectionResetAndFill :
    (∃ (s : State), s.rec_.coll = none ∧ s.rec_.seqDown = false ∧ s.is DG_FILL.done = true ∧ s.rec_.kickAt + 2 *
      s.get DG_WDT.period ≤ s.now ∧ (∀ t, s.rec_.restartAt = some t → t + s.get DG_WDT.esc < s.now))
    ∧ (∃ (s : State) (r : Nat), s.rec_.coll = none ∧ s.rec_.seqDown = false ∧ s.is DG_FILL.done = true ∧ s.rec_.kickAt
      + 2 * s.get DG_WDT.period ≤ s.now ∧ s.rec_.restartAt = some r ∧ s.now ≤ r + s.get DG_WDT.esc)
    ∧ (∃ (s : State), s.rec_.coll ≠ none ∨ s.rec_.seqDown = true ∨ s.is DG_FILL.done = false ∨ s.now < s.rec_.kickAt +
      2 * s.get DG_WDT.period)
    ∧ (∃ (s : State), s.rec_.seqDown = false ∧ s.is DG_RST_CTL.seq = false)
    ∧ (∃ (s : State), s.rec_.seqDown = true ∨ s.is DG_RST_CTL.seq = true)
    ∧ (∃ (s : State), s.is DG_RST_CTL.block = false)
    ∧ (∃ (s : State), s.is DG_RST_CTL.block = true)
    ∧ (∃ (s : State) (k : CollS), s.rec_.coll = some k ∧ k.waiting = false ∧ k.after = .seq ∧ (s.is
      DG_COLL_SUM.complete = true ∨ k.start + 15625 ≤ s.now))
    ∧ (∃ (s : State) (k : CollS), s.rec_.coll = some k ∧ k.waiting = false ∧ k.after = .block ∧ (s.is
      DG_COLL_SUM.complete = true ∨ k.start + 15625 ≤ s.now))
    ∧ (∃ (s : State), (s.rec_.coll.all fun k => k.waiting || (!s.is DG_COLL_SUM.complete && decide (s.now < k.start +
      15625))) = true)
    ∧ (∃ (s : State), s.rec_.seqDown = true ∧ s.mgmt.restart = false)
    ∧ (∃ (s : State), s.rec_.seqDown = false)
    ∧ (∃ (s : State), s.is DG_FILL.done = false ∧ s.rstLow = false)
    ∧ (∃ (s : State), s.is DG_FILL.done = true ∨ s.rstLow = true) :=
  ⟨⟨(world.set TK_HT_NOW.now 100000000000), ⟨by decide +kernel, by decide +kernel, by decide +kernel,
     by decide +kernel, fun _ h => nomatch h⟩⟩,
   ⟨(world.set TK_HT_NOW.now 100000000000).setRec { restartAt := some 100000000000 }, 100000000000,
     by decide +kernel⟩,
   ⟨world, by decide +kernel⟩,
   ⟨world, by decide +kernel⟩,
   ⟨world.setRec { seqDown := true }, by decide +kernel⟩,
   ⟨world, by decide +kernel⟩,
   ⟨world.set DG_RST_CTL.block 1, by decide +kernel⟩,
   ⟨(later world).setRec { coll := some ⟨1, .seq, 0, false⟩ }, ⟨1, .seq, 0, false⟩, by decide +kernel⟩,
   ⟨(later world).setRec { coll := some ⟨1, .block, 0, false⟩ }, ⟨1, .block, 0, false⟩, by decide +kernel⟩,
   ⟨world.setRec { coll := some ⟨1, .seq, 0, false⟩ }, by decide +kernel⟩,
   ⟨world.setRec { seqDown := true }, by decide +kernel⟩,
   ⟨world, by decide +kernel⟩,
   ⟨State.reset, by decide +kernel⟩,
   ⟨world, by decide +kernel⟩⟩

theorem test_hyps_RebuildJoinsStartsAndBinds :
    (∃ (c : Ctx) (s : State), s.ctxState c = ctxRUN ∧ s.team c = tmOFF ∧ s.joinOk c = true ∧ (((s.staged c).mstate
      (s.staged c).index = 2 ∧ s.is (DR_STAT.bound c) = false) ∨ ((s.staged c).mstate (s.staged c).index = 1 ∧ s.is
      (DR_STAT.bound c) = true)))
    ∧ (∃ (c : Ctx) (s : State), s.ctxState c = ctxRUN ∧ s.team c = tmOFF ∧ s.joinOk c = true ∧ (((s.staged c).mstate
      (s.staged c).index = 2 ∧ s.is (DR_STAT.bound c) = false) ∨ ((s.staged c).mstate (s.staged c).index = 1 ∧ s.is
      (DR_STAT.bound c) = true)))
    ∧ (∃ (c : Ctx) (s : State), s.ctxState c = ctxRUN ∧ s.team c = tmOFF ∧ (s.joinOk c = false ∨ ¬ (((s.staged
      c).mstate (s.staged c).index = 2 ∧ s.is (DR_STAT.bound c) = false) ∨ ((s.staged c).mstate (s.staged c).index = 1
      ∧ s.is (DR_STAT.bound c) = true))))
    ∧ (∃ (c : Ctx) (s : State), s.team c ≠ tmOFF ∧ (s.tmAt c).vals.mstate (s.tmAt c).vals.index = 2 ∧ s.get
      (TM_REB_STAT.state c) ≠ 1 ∧ s.is (DR_STAT.bound c) = false ∧ (s.tmAt c).vals.presentList ≠ [])
    ∧ (∃ (c : Ctx) (s : State), s.team c ≠ tmOFF ∧ (s.tmAt c).vals.mstate (s.tmAt c).vals.index = 2 ∧ s.get
      (TM_REB_STAT.state c) ≠ 1 ∧ s.is (DR_STAT.bound c) = false ∧ (s.tmAt c).vals.presentList = [])
    ∧ (∃ (c : Ctx) (s : State), s.team c = tmOFF ∨ (s.tmAt c).vals.mstate (s.tmAt c).vals.index ≠ 2 ∨ s.get
      (TM_REB_STAT.state c) = 1 ∨ s.is (DR_STAT.bound c) = true)
    ∧ (∃ (c : Ctx) (s : State), s.get (TM_REB_STAT.state c) ≠ 1)
    ∧ (∃ (c : Ctx) (s : State), s.get (TM_REB_STAT.state c) = 1)
    ∧ (∃ (c : Ctx) (v : W64) (s : State), fget v 8 1 = 1 ∧ s.is (DR_BIND.go c) = false ∧ s.is (DR_STAT.bound c) =
      false ∧ (s.jobs.any fun j => j.cmdOf c) = false ∧ s.get (TM_REB_STAT.state c) ≠ 1 ∧ s.recOk c = true)
    ∧ (∃ (c : Ctx) (v : W64) (s : State), fget v 8 1 = 1 ∧ s.is (DR_BIND.go c) = false ∧ (s.is (DR_STAT.bound c) =
      true ∨ (s.jobs.any fun j => j.cmdOf c) = true ∨ s.get (TM_REB_STAT.state c) = 1 ∨ s.recOk c = false)) :=
  ⟨⟨0, teamed tmOFF [(TM_MEMBER.mstate 0 1, 2)], by decide +kernel⟩,
   ⟨0, teamed tmOFF [(DR_STAT.bound 0, 1)], by decide +kernel⟩,
   ⟨0, world, by decide +kernel⟩,
   ⟨0, (teamed tmREBUILDING []).setTm 0 { vals := { pair with members := [(1, 1), (5, 2)] } }, by decide +kernel⟩,
   ⟨0, (teamed tmREBUILDING []).setTm 0 { vals := { pair with members := [(1, 0), (5, 2)] } }, by decide +kernel⟩,
   ⟨0, teamed tmPROTECTED [(DR_STAT.bound 0, 1)], by decide +kernel⟩,
   ⟨0, world, by decide +kernel⟩,
   ⟨0, teamed tmREBUILDING [(TM_REB_STAT.state 0, 1)], by decide +kernel⟩,
   ⟨0, 256, world, by decide +kernel⟩,
   ⟨0, 256, world.set (DR_STAT.bound 0) 1, by decide +kernel⟩⟩

theorem test_hyps_StoreResponsesParityErrorsAndDigestWindows :
    (∃ (header : List Byte) (s : State) (r : DrnReq) (j : Job), (s.rec_.drns.find? fun r => r.tag == leAt header 2 2)
      = some r ∧ leAt header 1 1 = 0 ∧ s.job r.job = some j ∧ j.ending = none)
    ∧ (∃ (header : List Byte) (s : State) (r : DrnReq) (j : Job), (s.rec_.drns.find? fun r => r.tag == leAt header 2
      2) = some r ∧ leAt header 1 1 ≠ 0 ∧ s.job r.job = some j ∧ j.ending = none)
    ∧ (∃ (header : List Byte) (s : State), (∀ r ∈ s.rec_.drns, r.tag ≠ leAt header 2 2))
    ∧ (∃ (v : W64), nbits v.toNat 63 1 = 0)
    ∧ (∃ (c : Ctx) (w : Fin 16) (v : W64) (s : State), nbits v.toNat 63 1 = 1 ∧ nbits v.toNat 62 1 = 0 ∧ s.is
      (DG_DWIN_CFG.enable c w) = false ∧ winWord v.toNat = s.winFields c w ∧ s.dwinOk c w = true)
    ∧ (∃ (c : Ctx) (w : Fin 16) (v : W64) (s : State), nbits v.toNat 63 1 = 1 ∧ nbits v.toNat 62 1 = 0 ∧ s.is
      (DG_DWIN_CFG.enable c w) = false ∧ winWord v.toNat = s.winFields c w ∧ s.dwinOk c w = false) :=
  ⟨⟨[0x01#8, 0#8, 0#8, 0#8], (busy world (running 0x50 [])).setRec
    { drns := [{ tag := 0, job := 1, ctx := 0, write := true, len := 64 }] },
    { tag := 0, job := 1, ctx := 0, write := true, len := 64 }, running 0x50 [], by decide +kernel⟩,
   ⟨[0x01#8, 1#8, 0#8, 0#8], (busy world (running 0x50 [])).setRec
     { drns := [{ tag := 0, job := 1, ctx := 0, write := true, len := 64 }] },
     { tag := 0, job := 1, ctx := 0, write := true, len := 64 }, running 0x50 [], by decide +kernel⟩,
   ⟨[], world, by decide +kernel⟩,
   ⟨0, by decide +kernel⟩,
   ⟨0, 0, BitVec.ofNat 64 (2 ^ 63 + 2 ^ 14 + 10), sets world [(DG_DWIN_CFG.region 0 0, 10), (DG_DWIN_CFG.every 0 0,
     1), (DG_DWIN_CFG.t 0 0, 0), (DG_DWIN_COUNT.count 0 0, 64)], by decide +kernel⟩,
   ⟨0, 0, BitVec.ofNat 64 (2 ^ 63 + 2 ^ 14 + 30), sets world [(DG_DWIN_CFG.region 0 0, 30), (DG_DWIN_CFG.every 0 0,
     1), (DG_DWIN_CFG.t 0 0, 0), (DG_DWIN_COUNT.count 0 0, 64)], by decide +kernel⟩⟩

theorem test_hyps_MeterStartsUpFromItsFuses :
    (∃ (crc : W32), crc ≠ Config.meterRomRef)
    ∧ (∃ (s : State), s.meter.sealed = false)
    ∧ (∃ (s : State) (f : Nat), s.meter.sealed = true ∧ ({ s.meter.seg with tried := [] } : FuseRow).next segFuses =
      some f)
    ∧ (∃ (s : State) (f : Nat) (n : Nat), s.meter.burn = some (true, f, n))
    ∧ (∃ (s : State) (seg : Bool) (f : Nat) (n : Nat), s.meter.burn = some (seg, f, n) ∧ n < 3)
    ∧ (∃ (s : State) (f : Nat) (n : Nat), s.meter.burn = some (false, f, n) ∧ 3 ≤ n ∧ s.meter.wait = none)
    ∧ (∃ (s : State), s.meter.burn = none)
    ∧ (∃ (s : State), s.meter.powered = true ∧ s.meter.burn = none)
    ∧ (∃ (s : State) (f : Nat) (n : Nat), s.meter.powered = true ∧ s.meter.burn = some (true, f, n))
    ∧ (∃ (s : State), s.meter.burn = none) :=
  ⟨⟨Config.meterRomRef + 1, by simp⟩,
   ⟨world, by decide +kernel⟩,
   ⟨metered { sealed := true }, 0, by decide +kernel⟩,
   ⟨metered { powered := true, burn := some (true, 0, 0) }, 0, 0, by decide +kernel⟩,
   ⟨metered { powered := true, burn := some (false, 0, 2) }, false, 0, 2, by decide +kernel⟩,
   ⟨metered { powered := true, burn := some (false, 0, 3) }, 0, 3, by decide +kernel⟩,
   ⟨world, by decide +kernel⟩,
   ⟨metered { powered := true }, by decide +kernel⟩,
   ⟨metered { powered := true, burn := some (true, 0, 0) }, 0, 0, by decide +kernel⟩,
   ⟨world, by decide +kernel⟩⟩

theorem test_hyps_MeterEnergyIsKeptAndRecorded :
    (∃ (s : State), s.meter.runs = true)
    ∧ (∃ (s : State), s.meter.runs = false)
    ∧ (∃ (s : State) (f : Nat) (n : Nat), s.meter.burn = some (false, f, n) ∧ s.meter.wait = none ∧ odoUnit ≤
      s.meter.acc ∧ s.meter.odo.bad.Nodup ∧ (∀ x ∈ s.meter.odo.bad, x < s.meter.odo.top) ∧ (f = s.meter.odo.top ∨ f ∈
      s.meter.odo.bad))
    ∧ (∃ (s : State), s.meter.runs = true ∧ 15625 * s.meter.period ≤ s.meter.per.n ∧ s.meter.burn = none)
    ∧ (∃ (s : State), s.meter.runs = true ∧ 15625 * s.meter.period ≤ s.meter.per.n ∧ s.meter.burn.isSome = true)
    ∧ (∃ (s : State), s.meter.runs = true)
    ∧ (∃ (s : State), s.meter.runs = true) :=
  ⟨⟨metered { powered := true, state := 1 }, by decide +kernel⟩,
   ⟨world, by decide +kernel⟩,
   ⟨metered { powered := true, state := 1, burn := some (false, 0, 0), acc := odoUnit }, 0, 0, by decide +kernel⟩,
   ⟨metered { powered := true, state := 1, per := { n := 15625 } }, by decide +kernel⟩,
   ⟨metered { powered := true, state := 1, per := { n := 15625 }, burn := some (true, 0, 0) }, by decide +kernel⟩,
   ⟨metered { powered := true, state := 1 }, by decide +kernel⟩,
   ⟨metered { powered := true, state := 1 }, by decide +kernel⟩⟩

theorem test_hyps_MeterIsProgrammedUntilItIsSealed :
    (∃ (sub : Fin 9) (s : State), s.meter.powered = true ∧ (s.meter.nmt = 1 ∨ s.meter.nmt = 2) ∧ s.meter.sealed =
      false ∧ sub.val ≠ 0 ∧ sub.val ≠ 8)
    ∧ (∃ (s : State), s.meter.powered = true ∧ (s.meter.nmt = 1 ∨ s.meter.nmt = 2) ∧ s.meter.sealed = false)
    ∧ (∃ (s : State), s.meter.powered = true ∧ (s.meter.nmt = 1 ∨ s.meter.nmt = 2) ∧ s.meter.sealed = false ∧
      s.meter.banks.length < 4)
    ∧ (∃ (s : State), s.meter.powered = true ∧ (s.meter.nmt = 1 ∨ s.meter.nmt = 2) ∧ s.meter.sealed = false ∧ 4 ≤
      s.meter.banks.length)
    ∧ (∃ (s : State), s.meter.powered = true ∧ (s.meter.nmt = 1 ∨ s.meter.nmt = 2) ∧ s.meter.sealed = false)
    ∧ (∃ (d : Nat) (s : State), s.meter.powered = true ∧ (s.meter.nmt = 1 ∨ s.meter.nmt = 2) ∧ s.meter.sealed = false
      ∧ s.meter.date = some d ∧ s.meter.banks ≠ [])
    ∧ (∃ (s : State), s.meter.powered = true ∧ (s.meter.nmt = 1 ∨ s.meter.nmt = 2) ∧ s.meter.sealed = true)
    ∧ (∃ (k : Fin 4) (s : State), s.meter.powered = true ∧ s.meter.nmt = 2 ∧ (2 ≤ k.val ∨ s.meter.due.contains k.val)
      ∧ (k.val = 1 → s.meter.due.contains 0 = false))
    ∧ (∃ (k : Fin 4) (s : State), s.meter.powered = true ∧ s.meter.nmt = 2 ∧ (2 ≤ k.val ∨ s.meter.due.contains k.val)
      ∧ (k.val = 1 → s.meter.due.contains 0 = false))
    ∧ (∃ (s : State), s.meter.powered = true ∧ s.meter.nmt ≠ 0 ∧ s.meter.hbTime ≠ 0)
    ∧ (∃ (s : State), s.meter.nmt ≠ 0)
    ∧ (∃ (s : State), s.meter.powered = true ∧ (s.meter.nmt = 1 ∨ s.meter.nmt = 2)) :=
  ⟨⟨1, metered { powered := true, nmt := 1 }, by decide +kernel⟩,
   ⟨metered { powered := true, nmt := 1 }, by decide +kernel⟩,
   ⟨metered { powered := true, nmt := 1 }, by decide +kernel⟩,
   ⟨metered { powered := true, nmt := 1, banks := [[], [], [], []] }, by decide +kernel⟩,
   ⟨metered { powered := true, nmt := 1 }, by decide +kernel⟩,
   ⟨5, metered { powered := true, nmt := 1, date := some 5, banks := [[]] }, by decide +kernel⟩,
   ⟨metered { powered := true, nmt := 1, sealed := true }, by decide +kernel⟩,
   ⟨0, metered { powered := true, nmt := 2, due := [0, 1] }, by decide +kernel⟩,
   ⟨3, metered { powered := true, nmt := 2, due := [0, 1] }, by decide +kernel⟩,
   ⟨metered { powered := true, nmt := 2, due := [0, 1] }, by decide +kernel⟩,
   ⟨metered { powered := true, nmt := 2, due := [0, 1] }, by decide +kernel⟩,
   ⟨metered { powered := true, nmt := 1 }, by decide +kernel⟩⟩

theorem test_hyps_ManagementNodeJoinsObeysNmtAndCountsErrors :
    (∃ (v : W64) (s : State), s.is GL_MG_CFG.bus_on = false ∧ fget v GL_MG_CFG.bus_on.lo 1 = 0)
    ∧ (∃ (v : W64) (s : State), s.is GL_MG_CFG.bus_on = false ∧ fget v GL_MG_CFG.bus_on.lo 1 = 1 ∧ fget v
      GL_MG_CFG.node.lo GL_MG_CFG.node.w ≠ 0 ∧ s.fwRuns = true ∧ s.is GL_MG_STAT.bus_off = false)
    ∧ (∃ (v : W64) (s : State), s.is GL_MG_CFG.bus_on = false ∧ fget v GL_MG_CFG.bus_on.lo 1 = 1 ∧ fget v
      GL_MG_CFG.node.lo GL_MG_CFG.node.w = 0)
    ∧ (∃ (v : W64) (s : State), s.is GL_MG_CFG.bus_on = true ∧ fget v GL_MG_CFG.bus_on.lo 1 = 1 ∧ s.get
      GL_MG_CFG.node ≠ fget v GL_MG_CFG.node.lo GL_MG_CFG.node.w)
    ∧ (∃ (v : W64) (s : State), s.is GL_MG_CFG.bus_on = true ∧ fget v GL_MG_CFG.bus_on.lo 1 = 0)
    ∧ (∃ (s : State), s.onBus = true)
    ∧ (∃ (s : State), s.onBus = false)
    ∧ (∃ (s : State), s.onBus = true ∧ s.mgmt.hbTime ≠ 0 ∧ s.mgmt.hbAt + 156250 * s.mgmt.hbTime ≤ s.now ∧ s.serving =
      true)
    ∧ (∃ (k : Fin 4) (s : State), s.onBus = true ∧ s.serving = true ∧ s.get GL_MG_STAT.nmt = 2 ∧ s.mgmt.timers.getD k
      0 ≠ 0 ∧ s.mgmt.tpdoAt.getD k 0 + 156250 * s.mgmt.timers.getD k 0 ≤ s.now)
    ∧ (∃ (s : State), s.onBus = true)
    ∧ (∃ (s : State), s.is GL_MG_STAT.bus_off = true) :=
  ⟨⟨0, world, by decide +kernel⟩,
   ⟨BitVec.ofNat 64 (2 ^ GL_MG_CFG.bus_on.lo + 4 * 2 ^ GL_MG_CFG.node.lo),
     { world with mgmt := { fwImg := some (10, 0) } }, by decide +kernel⟩,
   ⟨BitVec.ofNat 64 (2 ^ GL_MG_CFG.bus_on.lo + 0 * 2 ^ GL_MG_CFG.node.lo), world, by decide +kernel⟩,
   ⟨BitVec.ofNat 64 (2 ^ GL_MG_CFG.bus_on.lo + 5 * 2 ^ GL_MG_CFG.node.lo), node {} [], by decide +kernel⟩,
   ⟨0, node {} [], by decide +kernel⟩,
   ⟨node {} [], by decide +kernel⟩,
   ⟨world, by decide +kernel⟩,
   ⟨later (node {} []), by decide +kernel⟩,
   ⟨0, later (node {} []), by decide +kernel⟩,
   ⟨node {} [], by decide +kernel⟩,
   ⟨node {} [(GL_MG_STAT.bus_off, 1)], by decide +kernel⟩⟩

theorem test_hyps_DictionaryIsServedOverTheBusAndTheMailbox :
    (∃ (i : W16) (b : Byte) (s : State) (d : List Byte), s.onBus = true ∧ s.canReceived.emcySent = true ∧
      s.canReceived.serving = true ∧ s.mgmt.session = none ∧ s.canReceived.dictRead i.toNat b.toNat = .inr d ∧
      d.length ≤ 56)
    ∧ (∃ (i : W16) (b : Byte) (s : State) (d : List Byte), s.onBus = true ∧ s.canReceived.emcySent = true ∧
      s.canReceived.serving = true ∧ s.mgmt.session = none ∧ s.canReceived.dictRead i.toNat b.toNat = .inr d ∧ 56 <
      d.length)
    ∧ (∃ (i : W16) (b : Byte) (s : State) (a : Nat), s.onBus = true ∧ s.canReceived.emcySent = true ∧
      s.canReceived.serving = true ∧ s.mgmt.session = none ∧ s.canReceived.dictRead i.toNat b.toNat = .inl a)
    ∧ (∃ (s : State), s.onBus = true ∧ s.canReceived.emcySent = true ∧ s.canReceived.serving = true ∧
      s.mgmt.session.isSome = true)
    ∧ (∃ (i : W16) (b : Byte) (d : List Byte) (s : State), s.onBus = true ∧ s.canReceived.emcySent = true ∧
      s.canReceived.serving = true ∧ s.mgmt.session = none ∧ s.canReceived.dictGuard i.toNat b.toNat d.length false ≠
      0)
    ∧ (∃ (s : State) (x : Session), s.onBus = true ∧ s.canReceived.emcySent = true ∧ s.canReceived.serving = true ∧
      s.mgmt.session = some x ∧ x.write = false)
    ∧ (∃ (s : State) (x : Session), s.onBus = true ∧ s.canReceived.emcySent = true ∧ s.canReceived.serving = true ∧
      s.mgmt.session = some x ∧ x.write = true)
    ∧ (∃ (s : State) (x : Session), s.mgmt.session = some x ∧ x.at_ + 156250000 ≤ s.now ∧ s.serving = true)
    ∧ (∃ (s : State), s.is GL_MBX_STAT.busy = true)
    ∧ (∃ (v : W64) (s : State), s.is GL_MBX_STAT.busy = false ∧ fget v 63 1 = 1 ∧ s.fwRuns = false)
    ∧ (∃ (v : W64) (s : State), s.is GL_MBX_STAT.busy = false ∧ fget v 63 1 = 1 ∧ s.fwRuns = true)
    ∧ (∃ (s : State) (d : List Byte), s.is GL_MBX_STAT.busy = true ∧ s.serving = true ∧ s.mgmt.session = none ∧ s.get
      GL_MBX_REQ.op = 1 ∧ s.dictRead (s.get GL_MBX_REQ.index) (s.get GL_MBX_REQ.sub) = .inr d ∧ dictString (s.get
      GL_MBX_REQ.index) = false ∧ d.length = s.get GL_MBX_REQ.length ∧ 0 < d.length ∧ d.length ≤ 64) :=
  ⟨⟨0x1000, 0, node {} [], leBytes 4 0, by decide +kernel⟩,
   ⟨0x5005, 0, node {} [], (node {} []).canReceived.meter.record, by decide +kernel, by decide +kernel, by decide +kernel,
     by decide +kernel, State.dictRead_record _, by decide +kernel⟩,
   ⟨0xFFFF, 0, node {} [], 0x06020000, by decide +kernel⟩,
   ⟨node { session := some ⟨0x5005, 0, false, 128, [], 0⟩ } [], by decide +kernel⟩,
   ⟨0xFFFF, 0, [], node {} [], by decide +kernel⟩,
   ⟨node { session := some ⟨0x5005, 0, false, 128, [], 0⟩ } [], ⟨0x5005, 0, false, 128, [], 0⟩, by decide +kernel⟩,
   ⟨node { session := some ⟨0x5005, 0, true, 128, [], 0⟩ } [], ⟨0x5005, 0, true, 128, [], 0⟩, by decide +kernel⟩,
   ⟨later (node { session := some ⟨0x5005, 0, false, 128, [], 0⟩ } []), ⟨0x5005, 0, false, 128, [], 0⟩, by
     decide +kernel⟩,
   ⟨world.set GL_MBX_STAT.busy 1, by decide +kernel⟩,
   ⟨BitVec.ofNat 64 (2 ^ 63), world, by decide +kernel⟩,
   ⟨BitVec.ofNat 64 (2 ^ 63), node {} [], by decide +kernel⟩,
   ⟨node {} [(GL_MBX_STAT.busy, 1), (GL_MBX_REQ.op, 1), (GL_MBX_REQ.index, 0x1000), (GL_MBX_REQ.length, 4)], leBytes
     4 0, by decide +kernel⟩⟩

theorem test_hyps_FirmwareIsStagedCheckedAndActivated :
    (∃ (s : State), s.get GL_FW_STAT.state ≠ 2 ∧ s.get GL_FW_STAT.state < 4)
    ∧ (∃ (image : List Byte) (s : State), s.get GL_FW_STAT.state = 2 ∧ s.imgStatus s.mgmt.fwChk image = stOK)
    ∧ (∃ (image : List Byte) (s : State), s.get GL_FW_STAT.state = 2 ∧ s.imgStatus s.mgmt.fwChk image ≠ stOK)
    ∧ (∃ (s : State), s.get GL_FW_STAT.state = 3)
    ∧ (∃ (image : List Byte) (s : State) (a : Nat × Nat), s.get GL_FW_STAT.state = 4 ∧ s.rec_.seqDown = false ∧
      s.rec_.coll = none ∧ (s.fwRuns = false ∨ s.fwPoint = true) ∧ s.mgmt.fwStg = some a ∧ s.imgPlace a image = true ∧
      imgSound image = true)
    ∧ (∃ (image : List Byte) (s : State) (a : Nat × Nat), s.get GL_FW_STAT.state = 4 ∧ s.rec_.seqDown = false ∧
      s.rec_.coll = none ∧ (s.fwRuns = false ∨ s.fwPoint = true) ∧ s.mgmt.fwStg = some a ∧ ¬ (s.imgPlace a image =
      true ∧ imgSound image = true))
    ∧ (∃ (s : State), s.get GL_FW_STAT.state = 4 ∧ s.fwRuns = true ∧ s.fwPoint = false)
    ∧ (∃ (s : State), s.rec_.seqDown = true ∧ s.mgmt.restart = false ∧ s.get GL_FW_STAT.state = 5)
    ∧ (∃ (s : State), (s.get GL_FW_STAT.state = 3 ∨ s.get GL_FW_STAT.state = 4))
    ∧ (∃ (v : W64) (s : State), fget v 63 1 = 1 ∧ s.is GL_FW_LVL.apply = false ∧ s.fwRuns = true ∧ s.get
      GL_FW_LVL.run_lo ≤ fget v 8 8 ∧ fget v 8 8 ≤ s.get GL_FW_LVL.run_hi)
    ∧ (∃ (v : W64) (s : State), fget v 63 1 = 1 ∧ s.is GL_FW_LVL.apply = false ∧ s.fwRuns = true ∧ s.get
      GL_FW_LVL.run_hi < fget v 8 8)
    ∧ (∃ (s : State) (l : Nat), s.mgmt.levelPend = some l ∧ s.fwPoint = true)
    ∧ (∃ (s : State) (l : Nat), s.mgmt.levelPend = some l ∧ s.fwPoint = false) :=
  ⟨⟨world, by decide +kernel⟩,
   ⟨image, sets { world with mgmt := { fwChk := (10, 0) } } [(GL_FW_STAT.state, 2)], by decide +kernel⟩,
   ⟨[], sets { world with mgmt := { fwChk := (10, 0) } } [(GL_FW_STAT.state, 2)], by decide +kernel⟩,
   ⟨world.set GL_FW_STAT.state 3, by decide +kernel⟩,
   ⟨image, sets { world with mgmt := { fwStg := some (10, 0), holdStep := true } } [(GL_FW_STAT.state, 4)], (10, 0),
     by decide +kernel⟩,
   ⟨[], sets { world with mgmt := { fwStg := some (10, 0), holdStep := true } } [(GL_FW_STAT.state, 4)], (10, 0),
     by decide +kernel⟩,
   ⟨node {} [(GL_FW_STAT.state, 4), (CM_STAT.phase 0, phVOTED)], by decide +kernel⟩,
   ⟨sets { world with rec_ := { seqDown := true } } [(GL_FW_STAT.state, 5)], by decide +kernel⟩,
   ⟨world.set GL_FW_STAT.state 3, by decide +kernel⟩,
   ⟨BitVec.ofNat 64 (2 ^ 63 + 1 * 2 ^ 8), node {} [(GL_FW_LVL.run_lo, 1), (GL_FW_LVL.run_hi, 1)], by decide +kernel⟩,
   ⟨BitVec.ofNat 64 (2 ^ 63 + 2 * 2 ^ 8), node {} [(GL_FW_LVL.run_lo, 1), (GL_FW_LVL.run_hi, 1)], by decide +kernel⟩,
   ⟨world.setMgmt { levelPend := some 1 }, 1, by decide +kernel⟩,
   ⟨(world.set (CM_STAT.phase 0) phVOTED).setMgmt { levelPend := some 1 }, 1, by decide +kernel⟩⟩

theorem test_hyps_ResetPinTemperatureAndTestWrapper :
    (∃ (s : State), s.rstLow = false)
    ∧ (∃ (s : State), s.rstLow = true)
    ∧ (∃ (s : State), s.tsAt + 1562500 ≤ s.now)
    ∧ (∃ (s : State), s.now < s.tsAt + 1562500)
    ∧ (∃ (code : Byte) (s : State), wirOf code.toNat ≠ 0 ∧ s.wir = 0 ∧ (∀ c < 4, s.ctxState c = 0))
    ∧ (∃ (code : Byte) (c : Ctx) (s : State), wirOf code.toNat ≠ 0 ∧ s.ctxState c ≠ 0)
    ∧ (∃ (code : Byte) (s : State), wirOf code.toNat = s.wir)
    ∧ (∃ (code : Byte) (s : State), wirOf code.toNat = 0 ∧ s.wir ≠ 0 ∧ s.rstLow = false)
    ∧ (∃ (code : Byte) (s : State), wirOf code.toNat ≠ 0 ∧ wirOf code.toNat ≠ s.wir ∧ s.wir ≠ 0 ∧ s.rstLow = false ∧
      (∀ c < 4, s.ctxState c = 0))
    ∧ (∃ (s : State), s.wir ≠ 0 ∧ s.rstLow = true)
    ∧ (∃ (s : State), s.wir = 0)
    ∧ (∃ (s : State), s.wir = 0x08)
    ∧ (∃ (s : State), s.wir ≠ 0x08)
    ∧ (∃ (s : State), s.wir = 0x0A)
    ∧ (∃ (s : State), s.wir ≠ 0x0A) :=
  ⟨⟨world, by decide +kernel⟩,
   ⟨{ world with rstLow := true }, by decide +kernel⟩,
   ⟨later world, by decide +kernel⟩,
   ⟨world, by decide +kernel⟩,
   ⟨0x08, State.reset, by decide +kernel⟩,
   ⟨0x08, 0, world, by decide +kernel⟩,
   ⟨0, world, by decide +kernel⟩,
   ⟨0, { world with wir := 8 }, by decide +kernel⟩,
   ⟨0x08, { State.reset with wir := 10 }, by decide +kernel⟩,
   ⟨{ world with wir := 8, rstLow := true }, by decide +kernel⟩,
   ⟨world, by decide +kernel⟩,
   ⟨{ world with wir := 8 }, by decide +kernel⟩,
   ⟨world, by decide +kernel⟩,
   ⟨{ world with wir := 10 }, by decide +kernel⟩,
   ⟨world, by decide +kernel⟩⟩

theorem test_hyps_EveryStepKeepsTheRegisterTablesOneForm :
    ∃ (s : State) (t : State), regsSorted s = true ∧ step s = .next t :=
  ⟨{ State.reset with pending := [.tsMaxClear] }, State.reset.set GL_TS.max 0x8000, ⟨by decide +kernel, rfl⟩⟩

theorem test_hyps_NoCommandUndoesASealOrTurnsTheOdometerBack :
    ∃ (s : State) (t : State), s.meter.sealed = true ∧ step s = .next t :=
  ⟨{ State.reset with pending := [.tsMaxClear], meter := { sealed := true } },
    ({ State.reset with meter := { sealed := true } } : State).set GL_TS.max 0x8000, ⟨rfl, rfl⟩⟩

end Sys2Proof.Tests
end

/-! ## Statements of 00_scope.md -/

namespace Sys2Proof.Machine

/-! ### Bytes and bit fields -/

@[simp] theorem leBytes_length (n v : Nat) : (leBytes n v).length = n := by
  induction n generalizing v with
  | zero => rfl
  | succ n ih => simp [leBytes, ih]

/-- What a list of bytes holds from byte `b` on, read byte by byte. -/
theorem map_getD_eq_drop_take (bs : List Byte) (b n : Nat) (h : b + n ≤ bs.length) :
    ((List.range n).map fun i => bs.getD (b + i) 0#8) = (bs.drop b).take n := by
  apply List.ext_getElem
  · simp; omega
  · intro i hi _
    have : b + i < bs.length := by simp at hi; omega
    simp [this]

/-! ### The result slots (R115 to R119) -/

@[simp] theorem State.slotBytes16_length (s : State) (k : Nat) : (s.slotBytes16 k).length = 16 := by
  unfold State.slotBytes16
  dsimp only
  split <;> simp

/-- A slot without a result reads as the seq of the released one, NOT_READY and zeros (R116). -/
theorem State.slotBytes16_not_done (s : State) (k : Nat) (h : (s.ent k).phase ≠ .done) :
    leAt (s.slotBytes16 k) 0 2 = (s.ent k).prev % 2 ^ 16 ∧ leAt (s.slotBytes16 k) 2 1 = stNOTREADY
      ∧ leAt (s.slotBytes16 k) 3 13 = 0 := by
  have hb : s.slotBytes16 k = leBytes 2 (s.ent k).prev ++ leBytes 1 stNOTREADY ++ leBytes 13 0 := by
    simp [State.slotBytes16, h]
  rw [hb]
  refine ⟨?_, rfl, rfl⟩
  simp only [leAt, leBytes, List.cons_append, List.nil_append, List.drop_zero, List.take_succ_cons, List.take_zero,
    leNat, BitVec.toNat_ofNat]
  omega

/-- The release of a completed slot (R119). -/
theorem State.release_done (s : State) (c q e : Nat) (h : (s.ent (entryKey c q e)).phase = .done) :
    s.release c q e = (s.setEnt (entryKey c q e) { prev := (s.ent (entryKey c q e)).seq }).set (GL_Q_STAT.free c q)
      (s.get (GL_Q_STAT.free c q) + 1) := by
  simp [State.release, h, State.wrapInc_eq]

/-- Any other slot's release leaves the state as it is (R119). -/
theorem State.release_not_done (s : State) (c q e : Nat) (h : (s.ent (entryKey c q e)).phase ≠ .done) :
    s.release c q e = s := by
  simp [State.release, h]

/-- A release leaves every latch as it is. -/
@[simp] theorem State.release_latches (s : State) (c q e : Nat) : (s.release c q e).latches = s.latches := by
  by_cases h : (s.ent (entryKey c q e)).phase = .done
  · rw [State.release_done s c q e h]; rfl
  · rw [State.release_not_done s c q e h]

/-- The bytes of a slot from byte `n` on, each under its number, as a read of those before it latches them (R118). -/
def latchedFrom (now : List Byte) (n : Nat) : List (Nat × Byte) :=
  (List.range (16 - n)).map fun i => (n + i, now.getD (n + i) 0#8)

/-- A latched byte reads as it stood when the latch was loaded, whatever the slot holds now (R118). -/
theorem slotByte_latchedFrom (old now : List Byte) (n i : Nat) (h : n + i < 16) :
    slotByte (latchedFrom old n) now (n + i) = old.getD (n + i) 0#8 := by
  have hfind : (latchedFrom old n).find? (fun p => p.1 == n + i) = some (n + i, old.getD (n + i) 0#8) := by
    have hi : (List.range (16 - n)).find? (fun j => j == i) = some i := by
      rw [List.find?_range_eq_some]
      refine ⟨by simp, by simp; omega, fun j hj => by simp; omega⟩
    have hc : ((fun p : Nat × Byte => p.1 == n + i) ∘ fun j => (n + j, old.getD (n + j) 0#8)) = fun j => j == i := by
      funext j; simp
    rw [latchedFrom, List.find?_map, hc, hi]
    rfl
  simp [slotByte, hfind]

/-- Latched bytes read in a row as they stood when the latch was loaded. -/
theorem map_slotByte_latchedFrom (old now : List Byte) (n m : Nat) (h : n + m ≤ 16) (hl : old.length = 16) :
    ((List.range m).map fun i => slotByte (latchedFrom old n) now (n + i)) = (old.drop n).take m := by
  rw [← map_getD_eq_drop_take old n m (by omega)]
  refine List.map_congr_left fun i hi => ?_
  have := List.mem_range.mp hi
  exact slotByte_latchedFrom old now n i (by omega)

/-- A latch loaded with fewer than 16 bytes read holds some. -/
theorem latchedFrom_ne_nil (now : List Byte) (n : Nat) (h : n < 16) : latchedFrom now n ≠ [] := by
  simp [latchedFrom]; omega

/-- A read of a slot's first bytes answers them and latches the rest (R118). -/
theorem State.slotRead_first (s : State) (req k n : Nat) (h : n < 16) :
    s.slotRead req k 0 n =
      ({ s with latches := Tbl.ins s.latches req (.slot k (latchedFrom (s.slotBytes16 k) n)) },
        leAt (s.slotBytes16 k) 0 n) := by
  have hv : ((List.range n).map fun i => slotByte [] (s.slotBytes16 k) (0 + i)) = ((s.slotBytes16 k).drop 0).take n :=
    map_getD_eq_drop_take (s.slotBytes16 k) 0 n (by simp; omega)
  have hr : ((List.range (16 - n)).map fun i => (n + i, (s.slotBytes16 k).getD (n + i) 0#8)) ≠ [] :=
    latchedFrom_ne_nil _ n h
  simp only [State.slotRead]
  rw [if_pos trivial, if_pos trivial, if_neg (by simp), if_neg hr, hv]
  rfl

/-- A read of a slot's later bytes takes what is latched of them from the latch, which loses them (R118). -/
theorem State.slotRead_later (s : State) (req k b n : Nat) (h : b ≠ 0) :
    s.slotRead req k b n =
      ({ s with latches :=
          if s.slotLatch req k = [] then s.latches
          else if ((s.slotLatch req k).filter fun p => !(b ≤ p.1 && p.1 < b + n)) = [] then Tbl.del s.latches req
          else Tbl.ins s.latches req (.slot k ((s.slotLatch req k).filter fun p => !(b ≤ p.1 && p.1 < b + n))) },
        leNat ((List.range n).map fun i => slotByte (s.slotLatch req k) (s.slotBytes16 k) (b + i))) := by
  simp only [State.slotRead]
  rw [if_neg h, if_neg h]
  by_cases hl : s.slotLatch req k = []
  · simp [hl, h]
  · simp [hl, h]

/-- An aligned SLOT_READ_LATCH drives the bytes it reads (R10, R118). -/
theorem exec_slotReadLatch_aligned (req : Nat) (c : Ctx) (q : Que) (e : Ent) (b : Fin 16) (wide : Bool) (s : State)
    (h : b.val % (if wide then 8 else 4) = 0) :
    exec (.slotReadLatch req c q e b wide) s =
      .next ((s.slotRead req (entryKey c q e) b (if wide then 8 else 4)).1.emit
        (.ctlRead req (s.slotRead req (entryKey c q e) b (if wide then 8 else 4)).2)) := by
  simp [exec, execSlotReadLatch, h]

/-- A misaligned one drives 0 (R10). -/
theorem exec_slotReadLatch_misaligned (req : Nat) (c : Ctx) (q : Que) (e : Ent) (b : Fin 16) (wide : Bool) (s : State)
    (h : b.val % (if wide then 8 else 4) ≠ 0) :
    exec (.slotReadLatch req c q e b wide) s = .next (s.emit (.ctlRead req 0)) := by
  simp [exec, execSlotReadLatch, h]

/-- What a requester's latch holds of a slot that it has just been loaded for. -/
theorem State.slotLatch_of_find (s : State) (req k : Nat) (bs : List (Nat × Byte))
    (h : Tbl.find s.latches req = some (.slot k bs)) : s.slotLatch req k = bs := by
  simp [State.slotLatch, h]

/-- A release frees a completed slot's entry and no other (R119). -/
theorem exec_resultSlotRelease_done (c : Ctx) (q : Que) (e : Ent) (s : State)
    (h : (s.ent (entryKey c q e)).phase = .done) :
    ∃ t : State, exec (.resultSlotRelease c q e) s = .next t
      ∧ t.ent (entryKey c q e) = { prev := (s.ent (entryKey c q e)).seq }
      ∧ t.get (GL_Q_STAT.free c q) = (s.get (GL_Q_STAT.free c q) + 1) % 2 ^ (GL_Q_STAT.free c q).w
      ∧ (∀ k, k ≠ entryKey c q e → t.ent k = s.ent k)
      ∧ (∀ l : Loc, l.key ≠ (GL_Q_STAT.free c q).key → t.get l = s.get l)
      ∧ t = { s with regs := t.regs, entries := t.entries } := by
  refine ⟨s.release c q e, rfl, ?_⟩
  rw [State.release_done s c q e h]
  refine ⟨?_, ?_, fun k hk => ?_, fun l hl => ?_, rfl⟩
  · rw [State.ent_set, State.ent_setEnt_same]
  · rw [State.get_set_same]
  · rw [State.ent_set, State.ent_setEnt_ne _ _ _ _ hk]
  · rw [State.get_set_ne _ _ _ _ hl, State.get_setEnt]

/-- A read of a slot's first bytes drives them and latches the rest (R118). -/
theorem exec_slotReadLatch_first (req : Nat) (c : Ctx) (q : Que) (e : Ent) (wide : Bool) (s : State) :
    exec (.slotReadLatch req c q e 0 wide) s =
      .next (({ s with latches := Tbl.ins s.latches req (.slot (entryKey c q e)
                  (latchedFrom (s.slotBytes16 (entryKey c q e)) (if wide then 8 else 4))) } : State).emit
        (.ctlRead req (leAt (s.slotBytes16 (entryKey c q e)) 0 (if wide then 8 else 4)))) := by
  rw [exec_slotReadLatch_aligned req c q e 0 wide s (by simp), Fin.val_zero,
    State.slotRead_first s req _ _ (by split <;> decide)]

/-- A read of a slot's later bytes drives what is latched of them, and the slot's present bytes for the rest (R118). -/
theorem exec_slotReadLatch_later (req : Nat) (c : Ctx) (q : Que) (e : Ent) (b : Fin 16) (wide : Bool) (s : State) :
    let n := if wide then 8 else 4
    let held := s.slotLatch req (entryKey c q e)
    let rest := held.filter fun p => !(b.val ≤ p.1 && p.1 < b.val + n)
    b.val ≠ 0 → b.val % n = 0 →
    ∃ t : State, exec (.slotReadLatch req c q e b wide) s = .next t
      ∧ t.out = s.out ++ [.ctlRead req
          (leNat ((List.range n).map fun i => slotByte held (s.slotBytes16 (entryKey c q e)) (b + i)))]
      ∧ (held = [] → t.latches = s.latches)
      ∧ (held ≠ [] → Tbl.find t.latches req = if rest = [] then none else some (.slot (entryKey c q e) rest))
      ∧ t = { s with latches := t.latches, out := t.out } := by
  intro n held rest hb ha
  refine ⟨_, exec_slotReadLatch_aligned req c q e b wide s ha, ?_⟩
  rw [State.slotRead_later s req _ _ _ hb]
  refine ⟨rfl, fun hn => ?_, fun hn => ?_, rfl⟩
  · exact if_pos hn
  · rw [State.emit_latches]
    change Tbl.find (if held = [] then s.latches else if rest = [] then Tbl.del s.latches req
      else Tbl.ins s.latches req (.slot (entryKey c q e) rest)) req = _
    rw [if_neg hn]
    split
    · exact Tbl.find_del_same _ _
    · exact Tbl.find_ins_same _ _ _

/-- A 64-bit read of a slot's bytes 8 to 15 that are latched drives them as they stood then (R118). -/
theorem exec_slotReadLatch_latched (req : Nat) (c : Ctx) (q : Que) (e : Ent) (old : List Byte) (s : State)
    (hlen : old.length = 16) (hl : Tbl.find s.latches req = some (.slot (entryKey c q e) (latchedFrom old 8))) :
    ∃ t : State, exec (.slotReadLatch req c q e 8 true) s = .next t
      ∧ t.out = s.out ++ [.ctlRead req (leAt old 8 8)] := by
  obtain ⟨t, hexec, hout, -⟩ := exec_slotReadLatch_later req c q e 8 true s (by decide) (by decide)
  refine ⟨t, hexec, ?_⟩
  rw [hout, State.slotLatch_of_find s req _ _ hl]
  exact congrArg (fun bs => s.out ++ [.ctlRead req (leNat bs)]) (map_slotByte_latchedFrom old _ 8 8 (by decide) hlen)

/-- A 64-bit read of a slot's bytes 0 to 7, a release and a read of bytes 8 to 15 return one result (R118, R119). -/
theorem slotReadLatch_pair_reads_one_result (req : Nat) (c : Ctx) (q : Que) (e : Ent) (s : State) :
    ∃ t u v : State, exec (.slotReadLatch req c q e 0 true) s = .next t
      ∧ t.out = s.out ++ [.ctlRead req (leAt (s.slotBytes16 (entryKey c q e)) 0 8)]
      ∧ exec (.resultSlotRelease c q e) t = .next u
      ∧ exec (.slotReadLatch req c q e 8 true) u = .next v
      ∧ v.out = u.out ++ [.ctlRead req (leAt (s.slotBytes16 (entryKey c q e)) 8 8)] := by
  have hfirst := exec_slotReadLatch_first req c q e true s
  generalize ht : State.emit _ _ = t at hfirst
  have hlatch : Tbl.find (t.release c q e).latches req
      = some (.slot (entryKey c q e) (latchedFrom (s.slotBytes16 (entryKey c q e)) 8)) := by
    rw [State.release_latches, ← ht]
    exact Tbl.find_ins_same _ _ _
  obtain ⟨v, hlast, hout⟩ :=
    exec_slotReadLatch_latched req c q e (s.slotBytes16 (entryKey c q e)) _ (State.slotBytes16_length s _) hlatch
  exact ⟨t, t.release c q e, v, hfirst, by rw [← ht]; rfl, rfl, hlast, hout⟩

/-- Settles O12: a release rewrites its own entry alone and no latch, so the bytes that the first read latched are what the
second one drives. -/
theorem slotReadsOneResultUntilItsRelease : Obligations.SlotReadsOneResultUntilItsRelease := by
  unfold Obligations.SlotReadsOneResultUntilItsRelease
  refine ⟨exec_resultSlotRelease_done, fun c q e s h => ?_, fun req c q e wide s => ?_, exec_slotReadLatch_later,
    exec_slotReadLatch_misaligned, slotReadLatch_pair_reads_one_result, State.slotBytes16_not_done⟩
  · exact congrArg _ (State.release_not_done s c q e h)
  · exact ⟨_, exec_slotReadLatch_first req c q e wide s, rfl, Tbl.find_ins_same _ _ _, rfl⟩

end Sys2Proof.Machine

namespace Sys2Proof.Machine

/-! ### Reads of registers by halves (R11) -/

/-- Where HALF_READ_LATCH reads a register: outside the tack list, the rings and the slots. -/
def plainOff (off : Nat) : Prop := off < 0x800 ∨ (0x1000 ≤ off ∧ off < 0x80000)

/-- A 32-bit read of a plain register offset reads a half (R10, R11). -/
theorem exec_halfReadLatch_word (req off : Nat) (s : State) (ho : s.ctlOpen = true) (ha : off % 4 = 0) (hp : plainOff off) :
    exec (.halfReadLatch req ⟨off, .word⟩) s = .next (s.halfRead req off) := by
  have h1 : ¬ (0x80000 ≤ off ∧ off < 0xC0000) := by unfold plainOff at hp; omega
  have h2 : ¬ (0xC0000 ≤ off ∧ off < 0xD0000) := by unfold plainOff at hp; omega
  have h3 : ¬ (0x800 ≤ off ∧ off < 0x1000) := by unfold plainOff at hp; omega
  simp [exec, execHalfReadLatch, ctlTakes, AccessSize.bytes, ho, ha, h1, h2, h3]

/-- The low half of a 64-bit register answers its low 32 bits and latches the high ones (R11). -/
theorem State.halfRead_low (s : State) (req off : Nat) (d : RegDef) (is : List Nat) (h8 : off % 8 = 0)
    (hr : regAt off = some (d, is)) (hw : d.width ≠ 32) :
    s.halfRead req off =
      ({ s with free := s.view.free,
                latches := Tbl.ins s.latches req (.reg off (s.view.regWord off / 2 ^ 32)) } : State).emit
        (.ctlRead req (s.view.regWord off % 2 ^ 32)) := by
  simp [State.halfRead, h8, hr, hw]

/-- The high half of a 64-bit register that the requester's latch holds comes from the latch, which it empties (R11). -/
theorem State.halfRead_high_latched (s : State) (req off h : Nat) (d : RegDef) (is : List Nat) (h8 : off % 8 = 0)
    (hr : regAt off = some (d, is)) (hw : d.width ≠ 32) (hl : Tbl.find s.latches req = some (.reg off h)) :
    s.halfRead req (off + 4) =
      ({ s with free := s.view.free, latches := Tbl.del s.latches req } : State).emit (.ctlRead req h) := by
  have h4 : (off + 4) % 8 = 4 := by omega
  simp [State.halfRead, h4, hr, hw, State.regLatch, hl]

/-- Settles O13: the low half's read latches the high half, and a later read of the high half finds it there. -/
theorem lowHalfReadLatchesTheHighHalf : Obligations.LowHalfReadLatchesTheHighHalf := by
  unfold Obligations.LowHalfReadLatchesTheHighHalf
  intro req off d is s hopen h8 hreg hwidth hplain
  have hplain' : plainOff (off + 4) := by unfold plainOff; omega
  refine ⟨_, exec_halfReadLatch_word req off s hopen (by omega) hplain, ?_⟩
  rw [State.halfRead_low s req off d is h8 hreg hwidth]
  refine ⟨rfl, rfl, rfl, rfl, ?_⟩
  intro u hu hlatch
  have hheld : Tbl.find u.latches req = some (.reg off (s.view.regWord off / 2 ^ 32)) := by
    rw [hlatch]; exact Tbl.find_ins_same _ _ _
  refine ⟨_, exec_halfReadLatch_word req (off + 4) u hu (by omega) hplain', ?_⟩
  rw [State.halfRead_high_latched u req off _ d is h8 hreg hwidth hheld]
  exact ⟨rfl, Tbl.find_del_same _ _, rfl⟩

end Sys2Proof.Machine

namespace Sys2Proof.Machine

/-! ### Register writes (R6, R98, R100, R103, R121) -/

/-- A field of a word written whole is that field of what was written. -/
theorem nbits_mergeWord_whole (old v lo w : Nat) (h : lo + w ≤ 64) :
    nbits (mergeWord old (0, 64) v) lo w = nbits v lo w := by
  have hmod (x : Nat) : nbits x lo w = x % 2 ^ (lo + w) / 2 ^ lo := by
    rw [nbits, Nat.shiftRight_eq_div_pow, Nat.pow_add, Nat.mod_mul_right_div_self]
  have hm : mergeWord old (0, 64) v % 2 ^ 64 = v % 2 ^ 64 := by
    simp only [mergeWord]; omega
  have hd : 2 ^ (lo + w) ∣ 2 ^ 64 := Nat.pow_dvd_pow 2 h
  rw [hmod, hmod, ← Nat.mod_mod_of_dvd _ hd, hm, Nat.mod_mod_of_dvd _ hd]

/-- A word below 2^64 written whole is what was written. -/
theorem mergeWord_whole (old : Nat) (v : W64) (h : old < 2 ^ 64) : mergeWord old (0, 64) v.toNat = v.toNat := by
  have := v.isLt
  simp only [mergeWord]; omega

/-- A field of a 64-bit word is the bits of its number. -/
theorem fget_eq_nbits (v : W64) (lo w : Nat) : fget v lo w = nbits v.toNat lo w := by
  simp [fget, nbits, BitVec.toNat_ushiftRight]

/-- A 64-bit write of a 64-bit register with no action of its own stores the word's fields (R6). -/
theorem exec_registerWrite_dword (req off : Nat) (v : W64) (s : State) (d : RegDef) (is : List Nat)
    (ho : s.ctlOpen = true) (h8 : off % 8 = 0) (hlt : off < 0x80000) (hr : regAt off = some (d, is)) (hw : d.width = 64)
    (hf : d.occupies (0, 64) = true)
    (ha : s.writeAction d is off (s.writeWord d is off (0, 64) v.toNat) = none) :
    exec (.registerWrite req off .dword v) s =
      .next (s.writeFields d is off (s.writeWord d is off (0, 64) v.toNat)).after := by
  have h1 : ¬ (0x80000 ≤ off ∧ off < 0xC0000) := by omega
  have h2 : ¬ (0xC0000 ≤ off ∧ off < 0xD0000) := by omega
  have h3 : off % 8 ≠ 4 := by omega
  simp [exec, execRegisterWrite, ctlTakes, AccessSize.bytes, ho, h8, h1, h2, State.regWrite, hr, hw, halfBits, hf, ha,
    fin]

/-- GL_CTX_LIM of the register tables (04_queues_and_contexts.md). -/
def ctxLimDef : RegDef := ⟨"GL_CTX_LIM", 0x6010, [⟨0x40, 4⟩], 64, .word, 0x0#64, [⟨0, 40, .rw⟩]⟩

/-- GL_CTX_TMO of the register tables (04_queues_and_contexts.md). -/
def ctxTmoDef : RegDef :=
  ⟨"GL_CTX_TMO", 0x6008, [⟨0x40, 4⟩], 64, .word, 0x77359400773594#64, [⟨0, 32, .rw⟩, ⟨32, 32, .rw⟩]⟩

/-- The register at the offset of GL_CTX_LIM[c]. -/
theorem regAt_ctxLim (c : Ctx) : regAt (GL_CTX_LIM.max_bytes c).off = some (ctxLimDef, [c.val]) := by
  revert c; decide

/-- The register at the offset of GL_CTX_TMO[c]. -/
theorem regAt_ctxTmo (c : Ctx) : regAt (GL_CTX_TMO.dflt c).off = some (ctxTmoDef, [c.val]) := by
  revert c; decide

/-- A write of GL_CTX_LIM starts no action. -/
theorem State.writeAction_ctxLim (s : State) (is : List Nat) (off v : Nat) : s.writeAction ctxLimDef is off v = none := rfl
/-- A write of GL_CTX_TMO starts no action. -/
theorem State.writeAction_ctxTmo (s : State) (is : List Nat) (off v : Nat) : s.writeAction ctxTmoDef is off v = none := rfl
/-- GL_CTX_LIM is written in every state. -/
theorem State.guarded_ctxLim (s : State) (i j k : Nat) : s.guarded ctxLimDef.base i j k = ([], none) := rfl
/-- GL_CTX_TMO is written in every state. -/
theorem State.guarded_ctxTmo (s : State) (i j k : Nat) : s.guarded ctxTmoDef.base i j k = ([], none) := rfl

/-- A word written to GL_CTX_LIM stores its field, which may hold any value (R6). -/
theorem State.writeFields_ctxLim (s : State) (c v : Nat) :
    s.writeFields ctxLimDef [c] (GL_CTX_LIM.max_bytes c).off v =
      if s.get (GL_CTX_LIM.max_bytes c) = nbits v 0 40 then s else s.set (GL_CTX_LIM.max_bytes c) (nbits v 0 40) := by
  have hl : ctxLimDef.loc [c] (GL_CTX_LIM.max_bytes c).off ⟨0, 40, .rw⟩ = GL_CTX_LIM.max_bytes c := rfl
  have hf : ctxLimDef.fields = [⟨0, 40, .rw⟩] := rfl
  have hv : fieldValue ctxLimDef.base c 0 40 v = nbits v 0 40 := rfl
  have hlim (lo x : Nat) : limited ctxLimDef.base c lo x = (true, none) := rfl
  simp [State.writeFields, hf, hl, hv, hlim, State.guarded_ctxLim]

/-- A write of 0 to GL_CTX_TMO.dflt sets cfg_err, and td_timeout takes its own value unless that is 0 (R121). -/
theorem State.writeFields_ctxTmo_dflt_zero (s : State) (c v : Nat) (hz : nbits v 0 32 = 0)
    (hs : s.get (GL_CTX_TMO.dflt c) ≠ 0) :
    s.writeFields ctxTmoDef [c] (GL_CTX_TMO.dflt c).off v =
      let t := s.set (GL_CTX_STAT.cfg_err c) 1
      if t.get (GL_CTX_TMO.td_timeout c) = nbits v 32 32 then t
      else if nbits v 32 32 = 0 then t.set (GL_CTX_STAT.cfg_err c) 1
      else t.set (GL_CTX_TMO.td_timeout c) (nbits v 32 32) := by
  have hl : ctxTmoDef.loc [c] (GL_CTX_TMO.dflt c).off ⟨0, 32, .rw⟩ = GL_CTX_TMO.dflt c :=
    congrArg (Loc.mk _ 0 32) (show fget 0x77359400773594#64 0 32 = 0x773594 by decide)
  have hl' : ctxTmoDef.loc [c] (GL_CTX_TMO.dflt c).off ⟨32, 32, .rw⟩ = GL_CTX_TMO.td_timeout c :=
    congrArg (Loc.mk _ 32 32) (show fget 0x77359400773594#64 32 32 = 0x773594 by decide)
  have hf : ctxTmoDef.fields = [⟨0, 32, .rw⟩, ⟨32, 32, .rw⟩] := rfl
  have hv (lo : Nat) : fieldValue ctxTmoDef.base c lo 32 v = nbits v lo 32 := rfl
  have hlim (lo x : Nat) : limited ctxTmoDef.base c lo x = (decide (1 ≤ x), some (GL_CTX_STAT.cfg_err c)) := rfl
  simp [State.writeFields, hf, hl, hl', hv, hlim, State.guarded_ctxTmo, hz, hs, State.setErr]

/-- A 64-bit write of GL_CTX_LIM stores its field and changes no other (R6). -/
theorem registerWrite_ctxLim (req : Nat) (c : Ctx) (v : W64) (s : State) (ho : s.ctlOpen = true) :
    ∃ t : State, exec (.registerWrite req (GL_CTX_LIM.max_bytes c).off .dword v) s = .next t.after
      ∧ t.get (GL_CTX_LIM.max_bytes c) = fget v (GL_CTX_LIM.max_bytes c).lo (GL_CTX_LIM.max_bytes c).w
      ∧ (∀ l : Loc, l.key ≠ (GL_CTX_LIM.max_bytes c).key → t.get l = s.get l) ∧ t = { s with regs := t.regs } := by
  refine ⟨_, exec_registerWrite_dword req _ v s ctxLimDef [c.val] ho (by simp only [GL_CTX_LIM.max_bytes]; omega)
    (by simp only [GL_CTX_LIM.max_bytes]; omega) (regAt_ctxLim c) rfl rfl (State.writeAction_ctxLim s _ _ _), ?_⟩
  have hx : nbits (s.writeWord ctxLimDef [c.val] (GL_CTX_LIM.max_bytes c).off (0, 64) v.toNat) 0 40 = fget v 0 40 := by
    rw [State.writeWord, nbits_mergeWord_whole _ _ _ _ (by decide), fget_eq_nbits]
  rw [State.writeFields_ctxLim, hx]
  split
  · next h => exact ⟨h, fun _ _ => rfl, rfl⟩
  · refine ⟨?_, fun l hl => State.get_set_ne _ _ _ _ hl, rfl⟩
    rw [State.get_set_same]
    exact Nat.mod_mod _ _

/-- A 64-bit write of GL_CTX_TMO with dflt 0 keeps the field and sets cfg_err (R121). -/
theorem registerWrite_ctxTmo_dflt_zero (req : Nat) (c : Ctx) (v : W64) (s : State) (ho : s.ctlOpen = true)
    (hs : s.get (GL_CTX_TMO.dflt c) ≠ 0) (hz : fget v (GL_CTX_TMO.dflt c).lo (GL_CTX_TMO.dflt c).w = 0) :
    ∃ t : State, exec (.registerWrite req (GL_CTX_TMO.dflt c).off .dword v) s = .next t.after
      ∧ t.get (GL_CTX_TMO.dflt c) = s.get (GL_CTX_TMO.dflt c) ∧ t.get (GL_CTX_STAT.cfg_err c) = 1 := by
  refine ⟨_, exec_registerWrite_dword req _ v s ctxTmoDef [c.val] ho (by simp only [GL_CTX_TMO.dflt]; omega)
    (by simp only [GL_CTX_TMO.dflt]; omega) (regAt_ctxTmo c) rfl rfl (State.writeAction_ctxTmo s _ _ _), ?_⟩
  have hx : nbits (s.writeWord ctxTmoDef [c.val] (GL_CTX_TMO.dflt c).off (0, 64) v.toNat) 0 32 = 0 := by
    rw [State.writeWord, nbits_mergeWord_whole _ _ _ _ (by decide), ← fget_eq_nbits]; exact hz
  have hde : (GL_CTX_TMO.dflt c).key ≠ (GL_CTX_STAT.cfg_err c).key := by
    simp only [Loc.key, GL_CTX_TMO.dflt, GL_CTX_STAT.cfg_err]; omega
  have hdt : (GL_CTX_TMO.dflt c).key ≠ (GL_CTX_TMO.td_timeout c).key := by
    simp only [Loc.key, GL_CTX_TMO.dflt, GL_CTX_TMO.td_timeout]; omega
  have het : (GL_CTX_STAT.cfg_err c).key ≠ (GL_CTX_TMO.td_timeout c).key := by
    simp only [Loc.key, GL_CTX_TMO.td_timeout, GL_CTX_STAT.cfg_err]; omega
  have herr (t : State) : (t.set (GL_CTX_STAT.cfg_err c) 1).get (GL_CTX_STAT.cfg_err c) = 1 := State.get_set_same _ _ _
  rw [State.writeFields_ctxTmo_dflt_zero s c _ hx hs]
  dsimp only
  split
  · exact ⟨State.get_set_ne _ _ _ _ hde, herr _⟩
  · split
    · exact ⟨by rw [State.get_set_ne _ _ _ _ hde, State.get_set_ne _ _ _ _ hde], herr _⟩
    · exact ⟨by rw [State.get_set_ne _ _ _ _ hdt, State.get_set_ne _ _ _ _ hde],
        by rw [State.get_set_ne _ _ _ _ het, herr]⟩

/-- A 64-bit write at word `j` of ring entry `k` (R98, R100, R103). -/
theorem State.ringWrite_dword (s : State) (req k j : Nat) (v : W64) (hj : j < 8)
    (hold : Tbl.at s.ring 0 (8 * k + j) < 2 ^ 64) :
    s.ringWrite req (0x80000 + 64 * k + 8 * j) true v.toNat =
      if (s.ent k).phase ≠ .released then s
      else
        let t : State := { s with ring := Tbl.put s.ring 0 (8 * k + j) v.toNat }
        if req = 0 then t else t.setEnt k { s.ent k with foreign := true } := by
  have hoff : 0x80000 + 64 * k + 8 * j - 0x80000 = 64 * k + 8 * j := by omega
  have hk : (64 * k + 8 * j) / 64 = k := by omega
  have hw : 8 * k + (64 * k + 8 * j) % 64 / 8 = 8 * k + j := by omega
  simp only [State.ringWrite, hoff, hk, hw, halfBits, if_true, mergeWord_whole _ v hold]
  rfl

/-- A 64-bit write inside a ring is a ring write (R98). -/
theorem exec_registerWrite_ring (req k j : Nat) (v : W64) (s : State) (ho : s.ctlOpen = true) (hk : k < 4096) (hj : j < 8) :
    exec (.registerWrite req (0x80000 + 64 * k + 8 * j) .dword v) s =
      .next (s.ringWrite req (0x80000 + 64 * k + 8 * j) true v.toNat) := by
  have h8 : (0x80000 + 64 * k + 8 * j) % 8 = 0 := by omega
  have hr : 0x80000 ≤ 0x80000 + 64 * k + 8 * j ∧ 0x80000 + 64 * k + 8 * j < 0xC0000 := by omega
  simp only [exec, execRegisterWrite, ctlTakes, AccessSize.bytes, ho, h8, hr]
  simp

/-- A 64-bit write inside a ring stores a released entry's word and marks a foreign writer; any other entry keeps both
(R98, R100, R103). -/
theorem registerWrite_ring (req k j : Nat) (v : W64) (s : State) (ho : s.ctlOpen = true) (hk : k < 4096) (hj : j < 8)
    (hold : Tbl.at s.ring 0 (8 * k + j) < 2 ^ 64) :
    ∃ t : State, exec (.registerWrite req (0x80000 + 64 * k + 8 * j) .dword v) s = .next t
      ∧ t.regs = s.regs ∧ t.jobs = s.jobs
      ∧ (∀ i, Tbl.at t.ring 0 i =
          if i = 8 * k + j ∧ (s.ent k).phase = .released then v.toNat else Tbl.at s.ring 0 i)
      ∧ (t.ent k).foreign = ((s.ent k).foreign || (decide (req ≠ 0) && decide ((s.ent k).phase = .released)))
      ∧ ∀ i, i ≠ k → t.ent i = s.ent i := by
  refine ⟨_, exec_registerWrite_ring req k j v s ho hk hj, ?_⟩
  rw [State.ringWrite_dword s req k j v hj hold]
  by_cases hp : (s.ent k).phase = .released
  · have hring (i : Nat) : Tbl.at (Tbl.put s.ring 0 (8 * k + j) v.toNat) 0 i =
        if i = 8 * k + j ∧ (s.ent k).phase = .released then v.toNat else Tbl.at s.ring 0 i := by
      by_cases hi : i = 8 * k + j
      · simp [hi, hp]
      · simp [hi]
    rw [if_neg (not_not.mpr hp)]
    dsimp only
    by_cases hreq : req = 0
    · rw [if_pos hreq]
      exact ⟨rfl, rfl, hring, by simp [hreq, State.ent], fun _ _ => rfl⟩
    · rw [if_neg hreq]
      refine ⟨rfl, rfl, hring, ?_, fun i hi => ?_⟩
      · rw [State.ent_setEnt_same]; simp [hreq, hp]
      · rw [State.ent_setEnt_ne _ _ _ _ hi]; rfl
  · rw [if_pos hp]
    exact ⟨rfl, rfl, by simp [hp], by simp [hp], fun _ _ => rfl⟩

/-- Settles O14: GL_CTX_LIM takes what is written, GL_CTX_TMO.dflt no zero, and a ring's words change in released entries
alone. -/
theorem registerWriteStoresAndRingWriteIsGuarded : Obligations.RegisterWriteStoresAndRingWriteIsGuarded :=
  ⟨registerWrite_ctxLim, registerWrite_ctxTmo_dflt_zero, registerWrite_ring⟩

end Sys2Proof.Machine

namespace Sys2Proof.Machine

/-! ### The state after a reset (R12, R92, R98, R116, R334, R415, R523) -/

/-- After PG_RST_N every ring word is zero (R98). -/
theorem State.command_reset (k : Nat) : State.reset.command k = List.replicate 64 0#8 := by
  change ((List.range 8).map fun _ => leBytes 8 0).flatten = _
  decide

/-- After PG_RST_N every slot reads NOT_READY (R116). -/
theorem State.slotBytes16_reset (k : Nat) : leAt (State.reset.slotBytes16 k) 2 1 = stNOTREADY := by
  have hphase : (State.reset.ent k).phase = .released := rfl
  obtain ⟨-, hstatus, -⟩ := State.slotBytes16_not_done State.reset k (by rw [hphase]; decide)
  exact hstatus

/-- Lane p below 16 starts ACTIVE and carries logical lane p (R334). -/
theorem State.lane_reset_active :
    ∀ p < 16, State.reset.lane p = lnACTIVE ∧ State.reset.get (FB_LANE.logical p) = p := by decide

/-- Nothing is under way after PG_RST_N. -/
theorem quiet_reset : quiet State.reset = true := by decide

/-- Settles O4: every listed value is the reset value of a field, or an empty table's default. -/
theorem resetLeavesTheTablesValues : Obligations.ResetLeavesTheTablesValues := by
  unfold Obligations.ResetLeavesTheTablesValues
  exact ⟨fun c _ => ⟨rfl, rfl, rfl, rfl, rfl⟩, fun c _ q _ => ⟨rfl, rfl, rfl⟩,
    fun k => ⟨rfl, State.slotBytes16_reset k⟩, State.command_reset, rfl, rfl, rfl, rfl, rfl, State.lane_reset_active, rfl, rfl, quiet_reset⟩

end Sys2Proof.Machine

namespace Sys2Proof.Machine

/-! ### Resets of the block (R12, R370, R415, R523) -/

/-- What a filtered listing finds under a key. -/
theorem Tbl.find_filter_key {α : Type} (t : Tbl α) (p : Nat → Bool) (k : Nat) :
    Tbl.find (t.filter fun e => p e.1) k = if p k then Tbl.find t k else none := by
  induction t with
  | nil => simp [Tbl.find]
  | cons e t ih =>
    obtain ⟨k', v⟩ := e
    by_cases hp : p k' = true
    · by_cases hk : k' = k
      · subst hk; simp [Tbl.find, hp]
      · simp [Tbl.find, hp, hk, ih]
    · by_cases hk : k' = k
      · subst hk; simpa [Tbl.find, hp] using ih
      · simp [Tbl.find, hp, hk, ih]

/-- The register offsets whose fields a reset samples anew from the pins, or counts and raises as it does so: GL_MG_STAT,
GL_IRQ_STAT, TK_HT_STAT, FB_STAT, FB_LANE, and the slices. -/
def resampled (off : Nat) : Bool :=
  off == 0x108 || off == 0x400 || off == 0xA008 || off == 0x15010 || (0x15100 ≤ off && off < 0x15190) || 0x40100 ≤ off

/-- The registers of the slices are resampled. -/
theorem resampled_slice (l : Loc) (h : 0x40100 ≤ l.off) : resampled (l.key / 64) = true := by
  have : 0x40100 ≤ l.key / 64 := by simp only [Loc.key]; omega
  simp [resampled, this]

/-- What changes only resampled registers, the ports and the management node. -/
structure Resamples (s t : State) : Prop where
  fields : ∀ l : Loc, resampled (l.key / 64) = false → t.get l = s.get l
  rest : t = { s with regs := t.regs, mgmt := t.mgmt, out := t.out }

/-- Nothing done is such a change. -/
theorem Resamples.refl (s : State) : Resamples s s := ⟨fun _ _ => rfl, rfl⟩

/-- Two such changes are one. -/
theorem Resamples.trans {s t u : State} (h : Resamples s t) (k : Resamples t u) : Resamples s u :=
  ⟨fun l hl => (k.fields l hl).trans (h.fields l hl), by rw [k.rest, h.rest]⟩

/-- A change of the ports and the management node is one. -/
theorem Resamples.of {s t : State} (hr : t.regs = s.regs) (h : t = { s with regs := t.regs, mgmt := t.mgmt, out := t.out }) :
    Resamples s t :=
  ⟨fun l _ => by simp [State.get, hr], h⟩

/-- A write of a resampled register is one. -/
theorem Resamples.set (s : State) (m : Loc) (v : Nat) (h : resampled (m.key / 64) = true) : Resamples s (s.set m v) :=
  ⟨fun l hl => State.get_set_ne _ _ _ _ (by rintro e; rw [e, h] at hl; cases hl), rfl⟩

/-- A fold of such changes is one. -/
theorem Resamples.foldl {α : Type} (f : State → α → State) (xs : List α) (h : ∀ s, ∀ x ∈ xs, Resamples s (f s x))
    (s : State) :
    Resamples s (xs.foldl f s) := by
  induction xs generalizing s with
  | nil => exact .refl s
  | cons x xs ih => exact (h s x (by simp)).trans (ih (fun s y hy => h s y (by simp [hy])) _)

/-- Something driven on a port is one. -/
theorem Resamples.emit (s : State) (o : Out) : Resamples s (s.emit o) := .of rfl rfl

/-- A frame of the management node is one (R472). -/
theorem Resamples.canSend0 (s : State) (base : Nat) (data : List Byte) : Resamples s (s.canSend0 base data) := by
  unfold State.canSend0
  split
  · exact ((Resamples.emit s _).trans (.set _ GL_MG_STAT.tec _ rfl)).trans (.set _ GL_MG_STAT.passive _ rfl)
  · exact .refl s

/-- An emergency message is one (R480). -/
theorem Resamples.emcy (s : State) (code : Nat) (payload : List Byte) : Resamples s (s.emcy code payload) := by
  have hnoted : Resamples s (s.setMgmt { s.mgmt with anyCond := s.mgmt.anyCond || s.condActive }) := .of rfl rfl
  unfold State.emcy State.emcyFrame
  split
  · exact (hnoted.trans (.canSend0 _ _ _)).trans (.of rfl rfl)
  · exact hnoted

/-- The lanes' count brought up to date is one (R337). -/
theorem Resamples.syncLanes (s : State) : Resamples s s.syncLanes := by
  unfold State.syncLanes
  extract_lets m was s1 s2
  have h1 : Resamples s s1 := (Resamples.set s FB_STAT.m _ rfl).trans (.set _ FB_STAT.narrow _ rfl)
  have h2 : Resamples s1 s2 := by
    simp only [s2]
    split
    · exact .set _ GL_IRQ_STAT.cause _ rfl
    · exact .refl _
  split
  · exact (h1.trans h2).trans (.emcy _ _ _)
  · exact h1.trans h2

/-- The block as a reset leaves it before it samples the pins: registers that `keep` does not name at their reset values,
and nothing under way. -/
def State.cleared (s : State) (keep : Nat → Bool) (cause : Nat) : State :=
  ({ State.reset with
    regs := s.regs.filter fun p => keep (p.1 / 64), meter := s.meter, out := s.out, pending := s.pending, free := s.free,
    mem := { faults := s.mem.faults },
    fab := { laneDn := s.fab.laneDn, rebuildPend := s.lanesDn ≠ [] } } : State).set GL_RST_STAT.cause cause

/-- After the clearing a reset only samples the pins. -/
theorem State.resetTo_resamples (s : State) (keep : Nat → Bool) (cause : Nat) :
    Resamples (s.cleared keep cause) (s.resetTo keep cause) := by
  unfold State.resetTo
  extract_lets src t0 t1 t2 t3 t4 t5 t6 t7 t8
  have h2 : Resamples t1 t2 := .set _ TK_HT_STAT.fallback _ rfl
  have h3 : Resamples t2 t3 := by
    simp only [t3]
    split
    · exact .set _ TK_HT_STAT.skew_bound _ rfl
    · exact .refl _
  have h4 : Resamples t3 t4 := by
    refine .foldl _ _ (fun t n _ => ?_) _
    exact (Resamples.set _ (SL_MEND.port_down n) _ (resampled_slice _ (by simp only [SL_MEND.port_down]; omega))).trans
      (.set _ (SL_RETRAIN.req n) _ (resampled_slice _ (by simp only [SL_RETRAIN.req]; omega)))
  have h5 : Resamples t4 t5 := by
    exact .foldl _ _ (fun t k _ => .set _ (SL_CHAN_STATE.chan (k / 32)) _
      (resampled_slice _ (by simp only [SL_CHAN_STATE.chan]; omega))) _
  have h6 : Resamples t5 t6 := by
    refine .foldl _ _ (fun t p hp => .set _ (FB_LANE.state p) _ ?_) _
    have : p < 18 := by simpa using (List.mem_filter.mp hp).2
    simp [resampled, Loc.key, FB_LANE.state]; omega
  have h7 : Resamples t6 t7 := .syncLanes t6
  have h8 : Resamples t7 t8 := .foldl _ _ (fun _ _ _ => .emit _ _) _
  exact ((((((h2.trans h3).trans h4).trans h5).trans h6).trans h7).trans h8).trans ((Resamples.emit _ _).trans (.emit _ _))

/-- A field after a reset: its own value where the reset keeps it, else its reset value (R12, R370). -/
theorem State.get_resetTo (s : State) (keep : Nat → Bool) (cause : Nat) (l : Loc) (hp : resampled (l.key / 64) = false)
    (hc : l.key ≠ GL_RST_STAT.cause.key) :
    (s.resetTo keep cause).get l = if keep (l.key / 64) then s.get l else l.rst := by
  rw [(s.resetTo_resamples keep cause).fields l hp, State.cleared, State.get_set_ne _ _ _ _ hc]
  simp only [State.get, Tbl.at, Tbl.find_filter_key s.regs (fun k => keep (k / 64))]
  split <;> rfl

/-- A reset's cause stands in GL_RST_STAT. -/
theorem State.get_resetTo_cause (s : State) (keep : Nat → Bool) (cause : Nat) :
    (s.resetTo keep cause).get GL_RST_STAT.cause = cause % 4 := by
  rw [(s.resetTo_resamples keep cause).fields _ rfl]
  exact State.get_set_same _ _ _

/-- What drives `n` more outputs, with free values, and changes nothing else. -/
structure Drives (n : Nat) (s t : State) : Prop where
  count : t.out.length = s.out.length + n
  rest : t = { s with free := t.free, out := t.out }

/-- A fold that drives `n` outputs at each step. -/
theorem Drives.foldl {α : Type} {n : Nat} (f : State → α → State) (h : ∀ s x, Drives n s (f s x)) (xs : List α)
    (s : State) :
    Drives (n * xs.length) s (xs.foldl f s) := by
  induction xs generalizing s with
  | nil => exact ⟨rfl, rfl⟩
  | cons x xs ih =>
    obtain ⟨hcount, hrest⟩ := ih (f s x)
    refine ⟨?_, ?_⟩
    · rw [List.foldl_cons, hcount, (h s x).count, List.length_cons]; ring
    · rw [List.foldl_cons, hrest, (h s x).rest]

/-- A link's four credit words (R517). -/
theorem State.creditWords_drives (s : State) (link : Nat) : Drives 4 s (s.creditWords link) :=
  Drives.foldl (n := 1) _ (fun _ _ => ⟨by simp [State.emit, State.fresh], rfl⟩) (List.range 4) s

/-- Four credit words on every link that is up (R517). -/
theorem State.creditAll_drives (s : State) :
    Drives (4 * ((List.range 19).filter fun l => !s.fab.laneDn.contains l).length) s s.creditAll :=
  Drives.foldl _ State.creditWords_drives _ s

/-- What drives outputs alone leaves every field as it was. -/
theorem Drives.get {n : Nat} {s t : State} (h : Drives n s t) (l : Loc) : t.get l = s.get l := by
  rw [h.rest]; rfl

/-- It leaves the meter as it was. -/
theorem Drives.meter {n : Nat} {s t : State} (h : Drives n s t) : t.meter = s.meter := by rw [h.rest]
/-- It leaves the wrapper's instruction as it was. -/
theorem Drives.wir {n : Nat} {s t : State} (h : Drives n s t) : t.wir = s.wir := by rw [h.rest]

/-- A field that a reset with these kept offsets takes back to its reset value. -/
def clearedField (keep : Nat → Bool) (l : Loc) : Bool :=
  !resampled (l.key / 64) && !keep (l.key / 64) && l.key != GL_RST_STAT.cause.key

/-- Such a field holds its reset value after that reset (R12). -/
theorem State.get_resetTo_cleared (s : State) (keep : Nat → Bool) (cause : Nat) (l : Loc) (h : clearedField keep l = true) :
    (s.resetTo keep cause).get l = l.rst := by
  simp only [clearedField, Bool.and_eq_true, Bool.not_eq_true', bne_iff_ne] at h
  obtain ⟨⟨hpins, hkeep⟩, hcause⟩ := h
  rw [State.get_resetTo s keep cause l hpins hcause, hkeep]
  rfl

section
/-! What a reset keeps and clears beside the register fields. -/

variable (s : State) (keep : Nat → Bool) (cause : Nat)

@[simp] theorem State.resetTo_meter : (s.resetTo keep cause).meter = s.meter := by
  rw [(s.resetTo_resamples keep cause).rest]; rfl
@[simp] theorem State.resetTo_pending : (s.resetTo keep cause).pending = s.pending := by
  rw [(s.resetTo_resamples keep cause).rest]; rfl
@[simp] theorem State.resetTo_jobs : (s.resetTo keep cause).jobs = [] := by
  rw [(s.resetTo_resamples keep cause).rest]; rfl
@[simp] theorem State.resetTo_ring : (s.resetTo keep cause).ring = [] := by
  rw [(s.resetTo_resamples keep cause).rest]; rfl
@[simp] theorem State.resetTo_entries : (s.resetTo keep cause).entries = [] := by
  rw [(s.resetTo_resamples keep cause).rest]; rfl
@[simp] theorem State.resetTo_txq : (s.resetTo keep cause).fab.txq = [] := by
  rw [(s.resetTo_resamples keep cause).rest]; rfl
@[simp] theorem State.resetTo_wir : (s.resetTo keep cause).wir = 0 := by
  rw [(s.resetTo_resamples keep cause).rest]; rfl

end

/-- A block reset's fields are those of its reset: the credits it sends change none (R370, R517). -/
theorem State.get_blockReset (s : State) (cause : Nat) (l : Loc) :
    (s.blockReset cause).get l = (s.resetTo (fun o => meterOff o || collOff o) cause).get l :=
  (State.creditAll_drives _).get l

@[simp] theorem State.blockReset_meter (s : State) (cause : Nat) : (s.blockReset cause).meter = s.meter :=
  (State.creditAll_drives _).meter.trans (s.resetTo_meter _ _)
@[simp] theorem State.blockReset_wir (s : State) (cause : Nat) : (s.blockReset cause).wir = 0 :=
  (State.creditAll_drives _).wir.trans (s.resetTo_wir _ _)

/-! ### PG_RST_N (R521, R524) -/

/-- The fields of a context that a PG_RST_N clears. -/
theorem clearedField_context : ∀ c < 4, clearedField meterOff (GL_CTX_STAT.state c) = true
    ∧ clearedField meterOff (TM_STAT.state c) = true ∧ clearedField meterOff (CM_STAT.phase c) = true := by decide

/-- The block as PG_RST_N falling leaves it. -/
def State.pinReset (s : State) : State :=
  { (s.resetTo meterOff 0).set MT_STAT.live 0 with rstLow := true, wir := s.wir }

/-- PG_RST_N falling takes the block there (R524). -/
theorem exec_pgRstAssert (s : State) (h : s.rstLow = false) : exec .pgRstAssert s = .next s.pinReset := by
  simp [exec, execPgRstAssert, h, State.pinReset]

/-- Its fields but MT_STAT.live are those of its reset. -/
theorem State.get_pinReset (s : State) (l : Loc) (h : l.key ≠ MT_STAT.live.key) :
    s.pinReset.get l = (s.resetTo meterOff 0).get l := State.get_set_ne (s.resetTo meterOff 0) _ _ 0 h

/-- A field that the pin's reset clears holds its reset value (R12). -/
theorem State.get_pinReset_cleared (s : State) (l : Loc) (h : clearedField meterOff l = true) : s.pinReset.get l = l.rst := by
  have hlive : l.key ≠ MT_STAT.live.key := by
    rintro e
    have hmeter : meterOff (l.key / 64) = true := by rw [e]; rfl
    simp [clearedField, hmeter] at h
  rw [s.get_pinReset l hlive, s.get_resetTo_cleared _ _ l h]

/-- PG_RST_N falling resets the block and leaves the meter, its odometer and the wrapper's instruction (R12, R524). -/
theorem pgRstAssert_resets (s : State) (h : s.rstLow = false) :
    ∃ t : State, exec .pgRstAssert s = .next t ∧ t.rstLow = true ∧ t.get GL_RST_STAT.cause = 0 ∧ t.get DG_FILL.done = 0
      ∧ t.is MT_STAT.live = false ∧ t.meter = s.meter ∧ t.jobs = [] ∧ t.ring = [] ∧ t.entries = [] ∧ t.fab.txq = []
      ∧ (∀ c < 4, t.ctxState c = 0 ∧ t.team c = tmOFF ∧ t.phase c = phOPEN) ∧ t.pending = s.pending
      ∧ t.get MT_ODO.odo = s.get MT_ODO.odo ∧ t.wir = s.wir := by
  refine ⟨_, exec_pgRstAssert s h, rfl, ?_, s.get_pinReset_cleared _ rfl, ?_, s.resetTo_meter _ _, s.resetTo_jobs _ _,
    s.resetTo_ring _ _, s.resetTo_entries _ _, s.resetTo_txq _ _, fun c hc => ?_, s.resetTo_pending _ _, ?_, rfl⟩
  · rw [s.get_pinReset _ (by decide), State.get_resetTo_cause]
  · have hlive : s.pinReset.get MT_STAT.live = 0 := State.get_set_same (s.resetTo meterOff 0) MT_STAT.live 0
    simp [State.is, hlive]
  · obtain ⟨hctx, hteam, hphase⟩ := clearedField_context c hc
    exact ⟨s.get_pinReset_cleared _ hctx, s.get_pinReset_cleared _ hteam, s.get_pinReset_cleared _ hphase⟩
  · rw [s.get_pinReset _ (by decide), State.get_resetTo s _ _ _ rfl (by decide)]
    rfl

/-- PG_RST_N rising sends credits on every link that is up and lets the fill begin (R415, R517). -/
theorem pgRstRelease_sends_credits (s : State) (h : s.rstLow = true) :
    ∃ t : State, exec .pgRstRelease s = .next t ∧ t.rstLow = false ∧ t.regs = s.regs
      ∧ t.out.length = s.out.length + 4 * ((List.range 19).filter fun l => !s.fab.laneDn.contains l).length
      ∧ t = { s with rstLow := false, free := t.free, out := t.out } := by
  have hdrives := State.creditAll_drives { s with rstLow := false }
  refine ⟨_, by simp only [exec, execPgRstRelease, h, if_true], ?_, ?_, hdrives.count, hdrives.rest⟩
  all_goals rw [hdrives.rest]

/-! ### The die temperature (R514) -/

/-- What changes the integrity unit alone. -/
def OnlyInteg (s t : State) : Prop := t = { s with integ := t.integ }

/-- A fold of such changes is one. -/
theorem OnlyInteg.foldl {α : Type} (f : State → α → State) (h : ∀ s x, OnlyInteg s (f s x)) (xs : List α) (s : State) :
    OnlyInteg s (xs.foldl f s) := by
  induction xs generalizing s with
  | nil => rfl
  | cons x xs ih =>
    have hx := h s x
    have hrest := ih (f s x)
    unfold OnlyInteg at *
    rw [List.foldl_cons, hrest, hx]

/-- A code in the windows that run changes the integrity unit alone (R433). -/
theorem State.codeWins_onlyInteg (s : State) (code : Nat) : OnlyInteg s (s.codeWins code) := by
  unfold State.codeWins
  refine OnlyInteg.foldl _ (fun t i => ?_) _ s
  dsimp only
  split <;> rfl

/-- The fields of GL_TS with a code that has come (R514). -/
def State.tsWritten (s : State) (code : Nat) : State :=
  ((s.set GL_TS.code code).set GL_TS.stale 0).set GL_TS.max (codeMax (s.get GL_TS.max) code)

/-- Every other field is as it was. -/
theorem State.get_tsWritten_ne (s : State) (code : Nat) (l : Loc) (hc : l.key ≠ GL_TS.code.key) (hs : l.key ≠ GL_TS.stale.key)
    (hm : l.key ≠ GL_TS.max.key) : (s.tsWritten code).get l = s.get l := by
  rw [State.tsWritten, State.get_set_ne _ _ _ _ hm, State.get_set_ne _ _ _ _ hs, State.get_set_ne _ _ _ _ hc]

/-- A code is noted in GL_TS with its time, and in the windows that run (R433, R514). -/
theorem exec_tsCode (code : W16) (s : State) :
    exec (.tsCode code) s = .next (State.codeWins { s.tsWritten code.toNat with tsAt := s.now } code.toNat) := by
  have hmax : ((s.set GL_TS.code code.toNat).set GL_TS.stale 0).get GL_TS.max = s.get GL_TS.max := by
    rw [State.get_set_ne _ _ _ _ (by decide), State.get_set_ne _ _ _ _ (by decide)]
  have hnow : (s.tsWritten code.toNat).now = s.now := s.get_tsWritten_ne _ _ (by decide) (by decide) (by decide)
  simp only [exec, execTsCode, hmax]
  rw [← State.tsWritten, hnow]

/-- A temperature code is kept as the latest one, and the larger of both codes as the maximum (R514). -/
theorem tsCode_keeps_signed_maximum (code : W16) (s : State) :
    ∃ t : State, exec (.tsCode code) s = .next t ∧ t.get GL_TS.code = code.toNat ∧ t.is GL_TS.stale = false
      ∧ t.get GL_TS.max = (if sext 16 (s.get GL_TS.max) < sext 16 code.toNat then code.toNat
          else s.get GL_TS.max % 2 ^ 16)
      ∧ t.tsAt = s.now ∧ t = { s with regs := t.regs, tsAt := t.tsAt, integ := t.integ } := by
  have hexec := exec_tsCode code s
  have hframe := State.codeWins_onlyInteg { s.tsWritten code.toNat with tsAt := s.now } code.toNat
  generalize State.codeWins { s.tsWritten code.toNat with tsAt := s.now } code.toNat = t at hexec hframe
  unfold OnlyInteg at hframe
  have hget (l : Loc) : t.get l = (s.tsWritten code.toNat).get l := by rw [hframe]; rfl
  have hcode : code.toNat % 2 ^ 16 = code.toNat := Nat.mod_eq_of_lt code.isLt
  refine ⟨t, hexec, ?_, ?_, ?_, by rw [hframe], by rw [hframe]; rfl⟩
  · rw [hget, State.tsWritten, State.get_set_ne _ _ _ _ (by decide), State.get_set_ne _ _ _ _ (by decide),
      State.get_set_same]
    exact hcode
  · rw [State.is, hget, State.tsWritten, State.get_set_ne _ _ _ _ (by decide), State.get_set_same]; rfl
  · rw [hget, State.tsWritten, State.get_set_same, codeMax]
    split
    · exact hcode
    · rfl

/-! ### The test wrapper (R526 to R528) -/

/-- A WIR_UPDATE to the instruction in force, or to a test instruction with a context not OFF, is ignored (R527). -/
theorem exec_wirUpdate_ignored (code : Byte) (s : State)
    (h : wirOf code.toNat = s.wir ∨ (wirOf code.toNat ≠ 0 ∧ ∃ c < 4, s.ctxState c ≠ 0)) :
    exec (.wirUpdate code) s = .next s := by
  have hany : wirOf code.toNat = s.wir ∨
      (wirOf code.toNat ≠ 0 ∧ ((List.range 4).any fun c => s.ctxState c ≠ 0) = true) := by simpa using h
  simp only [exec, execWirUpdate]
  exact if_pos hany

/-- A WIR_UPDATE to a new test instruction with every context OFF leaves the old one and takes it (R527). -/
theorem exec_wirUpdate_takes (code : Byte) (s : State) (hn : wirOf code.toNat ≠ 0) (hw : wirOf code.toNat ≠ s.wir)
    (hoff : ∀ c < 4, s.ctxState c = 0) :
    exec (.wirUpdate code) s = .next ({ s.leaveTest with wir := wirOf code.toNat } : State).driveWrapper := by
  have hmet : ¬ (wirOf code.toNat = s.wir ∨
      (wirOf code.toNat ≠ 0 ∧ ((List.range 4).any fun c => s.ctxState c ≠ 0) = true)) := by simp [hw, hn]; exact hoff
  simp only [exec, execWirUpdate]
  rw [if_neg hmet, if_neg hn]

/-- A WIR_UPDATE to a code that is no test instruction leaves the one in force (R527). -/
theorem exec_wirUpdate_leaves (code : Byte) (s : State) (hn : wirOf code.toNat = 0) (hw : s.wir ≠ 0) :
    exec (.wirUpdate code) s = .next s.leaveTest := by
  simp only [exec, execWirUpdate]
  rw [if_neg (by simp [hn, Ne.symm hw]), if_pos hn]

/-- With no test instruction in force there is none to leave. -/
theorem State.leaveTest_none (s : State) (h : s.wir = 0) : s.leaveTest = s := by
  simp [State.leaveTest, h]

/-- While PG_RST_N is low a test instruction ends without a reset (R527). -/
theorem State.leaveTest_rstLow (s : State) (hw : s.wir ≠ 0) (h : s.rstLow = true) :
    s.leaveTest = ({ s with wir := 0 } : State).emit (.wrapper 0 (!s.meter.sealed)) := by
  simp [State.leaveTest, hw, h, State.driveWrapper]

/-- Leaving a test instruction resets the block with cause 2; the meter goes on (R527). -/
theorem State.leaveTest_resets (s : State) (hw : s.wir ≠ 0) (h : s.rstLow = false) :
    s.leaveTest.wir = 0 ∧ s.leaveTest.get GL_RST_STAT.cause = 2 ∧ s.leaveTest.get DG_FILL.done = 0
      ∧ s.leaveTest.meter = s.meter ∧ ∀ c < 4, s.leaveTest.ctxState c = 0 := by
  have heq : s.leaveTest = (State.blockReset { s with wir := 0 } 2).driveWrapper := by simp [State.leaveTest, hw, h]
  have hget (l : Loc) : s.leaveTest.get l =
      (State.resetTo { s with wir := 0 } (fun o => meterOff o || collOff o) 2).get l := by
    rw [heq, State.driveWrapper, State.get_emit, State.get_blockReset]
  have hctx : ∀ c < 4, clearedField (fun o => meterOff o || collOff o) (GL_CTX_STAT.state c) = true := by decide
  refine ⟨?_, ?_, ?_, ?_, fun c hc => ?_⟩
  · rw [heq]; exact State.blockReset_wir _ _
  · rw [hget, State.get_resetTo_cause]
  · rw [hget, State.get_resetTo_cleared _ _ _ _ (by decide)]; rfl
  · rw [heq]; exact State.blockReset_meter _ _
  · rw [State.ctxState, hget, State.get_resetTo_cleared _ _ _ _ (hctx c hc)]; rfl

/-- MBIST under its instruction reports the first array that fails, but none of a sealed meter's SRAM (R528). -/
theorem exec_mbist_reports (bad : Option W16) (s : State) (h : s.wir = 0x08) : ∃ r : Option Nat,
    exec (.mbist bad) s = .next (s.emit (.mbist r))
      ∧ (s.meter.sealed = false → r = bad.map (·.toNat))
      ∧ (∀ m, bad = some m → s.meter.sealed = true → r = if Config.meterMacro m = true then none else some m.toNat)
      ∧ (bad = none → r = none) := by
  refine ⟨s.marchResult bad, by simp [exec, execMbist, h], fun hopen => ?_, ?_, ?_⟩
  · cases bad <;> simp [State.marchResult, hopen]
  · rintro m rfl hsealed
    by_cases hm : Config.meterMacro m = true <;> simp [State.marchResult, hsealed, hm]
  · rintro rfl; rfl

/-- FUSE_READ under its instruction shifts out the 4,096 fuse bits in the order of their places (R526). -/
theorem exec_fuseRead_shifts (s : State) (h : s.wir = 0x0A) : ∃ bits : List Bool,
    exec .fuseRead s = .next (s.emit (.wdr bits))
      ∧ bits.length = 4096 ∧ ∀ i < 4096, bits[i]? = some (fuseBit (Config.fusePlace i)) := by
  refine ⟨fuseBits, by simp [exec, execFuseRead, h], by simp [fuseBits], fun i hi => ?_⟩
  rw [fuseBits, List.getElem?_map, List.getElem?_range hi]; rfl

/-- Settles O57: each row by the lemma that says what it does, and the rows that are ignored by their guards. -/
theorem resetPinTemperatureAndTestWrapper : Obligations.ResetPinTemperatureAndTestWrapper := by
  unfold Obligations.ResetPinTemperatureAndTestWrapper
  refine ⟨pgRstAssert_resets, fun s h => ?_, pgRstRelease_sends_credits, fun s h => ?_, tsCode_keeps_signed_maximum,
    fun s h => ?_, fun s h => ?_, fun s => rfl, fun code s hn hw hoff => ?_, fun code c s hn hc => ?_, fun code s h => ?_,
    fun code s hn hw hlow => ?_, fun code s hn hne hw hlow hoff => ?_, fun s hw hlow => ?_, fun s hw => ?_,
    exec_mbist_reports, fun bad s h => ?_, exec_fuseRead_shifts, fun s h => ?_⟩
  · simp [exec, execPgRstAssert, h]
  · simp [exec, execPgRstRelease, h]
  · exact if_pos h
  · exact if_neg (by omega)
  · rw [exec_wirUpdate_takes code s hn (by rw [hw]; exact hn) hoff, State.leaveTest_none s hw]; rfl
  · exact exec_wirUpdate_ignored code s (.inr ⟨hn, c, c.isLt, hc⟩)
  · exact exec_wirUpdate_ignored code s (.inl h)
  · obtain ⟨hwir, hcause, hfill, hmeter, hctx⟩ := s.leaveTest_resets hw hlow
    exact ⟨_, exec_wirUpdate_leaves code s hn hw, hwir, hcause, hfill, hmeter, hctx, rfl⟩
  · obtain ⟨-, hcause, -, hmeter, -⟩ := s.leaveTest_resets hw hlow
    exact ⟨_, exec_wirUpdate_takes code s hn hne hoff, rfl, hcause, hmeter⟩
  · exact congrArg _ (s.leaveTest_rstLow hw hlow)
  · exact congrArg _ (s.leaveTest_none hw)
  · exact if_neg h
  · exact if_neg h

end Sys2Proof.Machine

/-! ## Statements of 01_block_at_a_glance.md -/

namespace Sys2Proof.Machine

/-! ### A quiet block (R14, R92) -/

/-- A context with nothing due: no dissolve or abort that waits, no prepare, no hold of pre-emption, no reduction slot
waited for or in use. -/
structure CtxAtRest (s : State) (c : Nat) : Prop where
  dissolve : (s.tmAt c).dissolvePend = false
  abort : (s.cmAt c).abortPend = none
  phase : s.phase c ≠ phPREPARE
  preHeld : (s.cxAt c).preHeld = false
  deferPre : (s.cxAt c).deferPre = false
  waiting : s.get (GS_SLOT_STAT.waiting c) = 0
  inUse : s.get (GS_SLOT_STAT.in_use c) = 0

/-- A block with nothing under way, part by part. -/
structure AtRest (s : State) : Prop where
  jobs : s.jobs = []
  reqs : s.fab.reqs = []
  doorbells : s.gs.heldDb = []
  coll : s.rec_.coll = none
  cond : s.mgmt.anyCond = false
  ctx : ∀ c < 4, CtxAtRest s c
  degraded : ∀ r < 64, s.is (GL_RGN_STAT.degraded r) = false

/-- A quiet block is one with nothing under way. -/
theorem quiet_iff (s : State) : quiet s = true ↔ AtRest s := by
  simp only [quiet, Bool.and_eq_true, List.isEmpty_iff, Option.isNone_iff_eq_none, Bool.not_eq_true', List.all_eq_true,
    List.mem_range, bne_iff_ne, beq_iff_eq]
  constructor
  · rintro ⟨⟨⟨⟨⟨⟨hjobs, hreqs⟩, hdb⟩, hcoll⟩, hcond⟩, hctx⟩, hdeg⟩
    refine ⟨hjobs, hreqs, hdb, hcoll, hcond, fun c hc => ?_, hdeg⟩
    obtain ⟨⟨⟨⟨⟨⟨hdis, hab⟩, hph⟩, hpre⟩, hdef⟩, hwait⟩, huse⟩ := hctx c hc
    exact ⟨hdis, hab, hph, hpre, hdef, hwait, huse⟩
  · rintro ⟨hjobs, hreqs, hdb, hcoll, hcond, hctx, hdeg⟩
    refine ⟨⟨⟨⟨⟨⟨hjobs, hreqs⟩, hdb⟩, hcoll⟩, hcond⟩, fun c hc => ?_⟩, hdeg⟩
    obtain ⟨hdis, hab, hph, hpre, hdef, hwait, huse⟩ := hctx c hc
    exact ⟨⟨⟨⟨⟨⟨hdis, hab⟩, hph⟩, hpre⟩, hdef⟩, hwait⟩, huse⟩

/-- With no abort waiting in a context that prepares nothing, nothing is settled there (R312, R534). -/
theorem State.settle_ctx (s : State) (c : Nat) (h : CtxAtRest s c) : (s.settleAbort c).settleVote c = s := by
  have habort : s.settleAbort c = s := by simp only [State.settleAbort, h.abort]
  rw [habort]
  exact if_neg fun hdue => h.phase hdue.1

/-- With no dissolve waiting, none takes place (R299). -/
theorem State.settleDissolve_none (s : State) (c : Nat) (h : (s.tmAt c).dissolvePend = false) : s.settleDissolve c = s :=
  if_neg fun hdue => by simp [h] at hdue

/-- With no doorbell held, none is judged again (R240). -/
theorem State.redoDoorbells_none (s : State) (h : s.gs.heldDb = []) : s.redoDoorbells = s := by
  simp [State.redoDoorbells, drainDoorbells, h]

/-- With no work running, no collective is carried on. -/
theorem State.pumpAll_no_jobs (s : State) (h : s.jobs = []) : s.pumpAll = s := by
  simp [State.pumpAll, h]

/-- With no work running, no engine takes a turn (R355). -/
theorem engineRounds_no_jobs (n : Nat) (s : State) (h : s.jobs = []) : engineRounds n s = s := by
  cases n with
  | zero => rfl
  | succ n => simp [engineRounds, h]

/-- With no work running, none is carried on (R14). -/
theorem State.kick_no_jobs (s : State) (h : s.jobs = []) : s.kick = s := by
  have horder : s.grantOrder = [] := by simp [State.grantOrder, h]
  rw [State.kick, horder]
  exact engineRounds_no_jobs _ s h

/-- With no request buffered, none is served (R359). -/
theorem State.serveReqs_none (s : State) (h : s.fab.reqs = []) : s.serveReqs = s := by
  simp [State.serveReqs, h]

/-- Where pre-emption holds no context, its clock stands (R124, R126). -/
theorem State.syncPre_not_held (s : State) (c : Nat) (hheld : (s.cxAt c).preHeld = false)
    (hdefer : (s.cxAt c).deferPre = false) : s.syncPre c = s :=
  if_pos (by simp [hheld, hdefer])

/-- With no work running and no slot waited for or in use, GS_SLOT_STAT is up to date (R249). -/
theorem State.syncGs_none (s : State) (h : s.jobs = []) (hctx : ∀ c < 4, CtxAtRest s c) : s.syncGs = s := by
  refine State.foldl_same _ _ _ fun c hc => ?_
  have hrest := hctx c (List.mem_range.mp hc)
  exact if_pos ⟨by simp [h], hrest.waiting, hrest.inUse⟩

/-- With no collection in progress, none goes on (R373). -/
theorem State.settleColl_none (s : State) (h : s.rec_.coll = none) : s.settleColl = s := by
  simp only [State.settleColl, h]

/-- With no region degraded, none stops being so. -/
theorem State.syncDegraded_none (s : State) (h : ∀ r < 64, s.is (GL_RGN_STAT.degraded r) = false) : s.syncDegraded = s :=
  State.foldl_same _ _ _ fun r hr => if_neg fun hdeg => by simp [h r (List.mem_range.mp hr)] at hdeg

/-- With no condition noted, no end of one is sent (R480). -/
theorem State.emcyEnd_none (s : State) (h : s.mgmt.anyCond = false) : s.emcyEnd = s :=
  if_neg fun hend => by simp [h] at hend

/-- Settles O2: each stage of `State.after` finds nothing of its own under way. -/
theorem quietBlockHasNoFollowUp : Obligations.QuietBlockHasNoFollowUp := by
  unfold Obligations.QuietBlockHasNoFollowUp
  intro s hquiet
  have hrest := (quiet_iff s).mp hquiet
  have hctx (c : Nat) (hc : c ∈ List.range 4) : CtxAtRest s c := hrest.ctx c (List.mem_range.mp hc)
  have hsettle : s.settle = s := State.foldl_same _ _ _ fun c hc => s.settle_ctx c (hctx c hc)
  have hdissolve : (List.range 4).foldl (fun s c => s.settleDissolve c) s = s :=
    State.foldl_same _ _ _ fun c hc => s.settleDissolve_none c (hctx c hc).dissolve
  have hpre : (List.range 4).foldl (fun s c => s.syncPre c) s = s :=
    State.foldl_same _ _ _ fun c hc => s.syncPre_not_held c (hctx c hc).preHeld (hctx c hc).deferPre
  simp only [State.after, hsettle, hdissolve, hpre, s.redoDoorbells_none hrest.doorbells, s.pumpAll_no_jobs hrest.jobs,
    s.kick_no_jobs hrest.jobs, s.serveReqs_none hrest.reqs, s.syncGs_none hrest.jobs hrest.ctx,
    s.settleColl_none hrest.coll, s.syncDegraded_none hrest.degraded, s.emcyEnd_none hrest.cond]

end Sys2Proof.Machine

namespace Sys2Proof.Machine

/-! ### Maps of the yoke and of the cores (R205 to R210, R437) -/

/-- The registers that an observation counts in: DG_REP_STAT and DG_SUS_STAT. -/
def reportOff (off : Nat) : Bool := off == 0x17008 || off == 0x19C30

/-- What changes only those registers, the report table and the messages in line to send. -/
structure Reports (s t : State) : Prop where
  fields : ∀ l : Loc, reportOff (l.key / 64) = false → t.get l = s.get l
  rest : t = { s with regs := t.regs, rec_ := t.rec_, fab := t.fab }

/-- Nothing done is such a change. -/
theorem Reports.refl (s : State) : Reports s s := ⟨fun _ _ => rfl, rfl⟩

/-- Two such changes are one. -/
theorem Reports.trans {s t u : State} (h : Reports s t) (k : Reports t u) : Reports s u :=
  ⟨fun l hl => (k.fields l hl).trans (h.fields l hl), by rw [k.rest, h.rest]⟩

/-- A write of such a register is one. -/
theorem Reports.set (s : State) (m : Loc) (v : Nat) (h : reportOff (m.key / 64) = true) : Reports s (s.set m v) :=
  ⟨fun l hl => State.get_set_ne _ _ _ _ (by rintro e; rw [e, h] at hl; cases hl), rfl⟩

/-- The report table replaced (R367). -/
theorem Reports.setReps (s : State) (l : List RepEnt) : Reports s (s.setReps l) :=
  .trans (t := s.setRec { s.rec_ with reps := l }) ⟨fun _ _ => rfl, rfl⟩ (.set _ DG_REP_STAT.in_use _ rfl)

/-- A REPORT to each valid manager (R364, R367). -/
theorem Reports.reportTo (s : State) (subject kind count first : Nat) :
    Reports s (s.reportTo subject kind count first) := by
  unfold State.reportTo
  generalize s.managers = ms
  induction ms generalizing s with
  | nil => exact .refl s
  | cons d ms ih => exact .trans (.trans (t := s.send _) ⟨fun _ _ => rfl, rfl⟩ (.set _ DG_REP_STAT.sent _ rfl)) (ih _)

/-- An entry of the report table closed (R367). -/
theorem Reports.closeRep (s : State) (e : RepEnt) : Reports s (s.closeRep e) := by
  unfold State.closeRep
  dsimp only
  split
  · exact .setReps s _
  · exact .trans (.setReps s _) (.reportTo _ _ _ _ _)

/-- An observation of a subject device (R366, R367). -/
theorem Reports.observe (s : State) (subject kind : Nat) : Reports s (s.observe subject kind) := by
  unfold State.observe
  split
  · exact .trans (.setReps s _) (.set _ DG_REP_STAT.coalesced _ rfl)
  · extract_lets s1 s2
    have hfree : Reports s s1 := by
      simp only [s1]
      split
      · exact .refl s
      · split
        · exact .trans (.closeRep s _) (.set _ DG_REP_STAT.evicted _ rfl)
        · exact .refl s
    exact (hfree.trans (.setReps s1 _)).trans (.reportTo _ _ _ _ _)

/-- A SUSPECT observation (R414). -/
theorem Reports.suspect (s : State) (device : Nat) : Reports s (s.suspect device) :=
  .trans (.observe s device 7) (.set _ DG_SUS_STAT.raised _ rfl)

/-- An interrupt cause raised resamples nothing else (R525). -/
theorem Resamples.irq (s : State) (v : Nat) : Resamples s (s.irq v) := .set s GL_IRQ_STAT.cause _ rfl

/-- What a mismatch or none leaves in YK_TEST (R210). -/
def State.testWritten (s : State) (mismatch : Option (Fin 130 × Fin 130)) : State :=
  match mismatch with
  | none => (((s.set YK_TEST.pass 1).set YK_TEST.fail 0).set YK_TEST.fail_row 0xFF).set YK_TEST.fail_col 0xFF
  | some (r, c) => (((s.set YK_TEST.pass 0).set YK_TEST.fail 1).set YK_TEST.fail_row r.val).set YK_TEST.fail_col c.val

/-- After YK_TEST is written, a check pattern's result only raises its interrupt and reports a suspect (R210, R436). -/
theorem State.yokeResult_reports (s : State) (mismatch : Option (Fin 130 × Fin 130)) :
    ∃ t, Reports (s.testWritten mismatch) t ∧ Resamples t (s.yokeResult mismatch) := by
  cases mismatch with
  | none => exact ⟨_, .refl _, .irq _ 21⟩
  | some p => exact ⟨_, .suspect _ _, .irq _ 21⟩

/-- A register of the yoke. -/
def yokeOff (off : Nat) : Bool := 0x10000 ≤ off && off < 0x10200

/-- The yoke's registers after a check pattern's result are those with YK_TEST written. -/
theorem State.get_yokeResult (s : State) (mismatch : Option (Fin 130 × Fin 130)) (l : Loc)
    (h : yokeOff (l.key / 64) = true) : (s.yokeResult mismatch).get l = (s.testWritten mismatch).get l := by
  obtain ⟨t, hrep, hirq⟩ := s.yokeResult_reports mismatch
  simp only [yokeOff, Bool.and_eq_true, decide_eq_true_eq] at h
  rw [hirq.fields l (by simp [resampled]; omega), hrep.fields l (by simp [reportOff]; omega)]

/-- A check pattern's result leaves the yoke's requests as they were. -/
@[simp] theorem State.yokeResult_yoke (s : State) (mismatch : Option (Fin 130 × Fin 130)) :
    (s.yokeResult mismatch).yoke = s.yoke := by
  obtain ⟨t, hrep, hirq⟩ := s.yokeResult_reports mismatch
  have hwritten : (s.testWritten mismatch).yoke = s.yoke := by cases mismatch <;> rfl
  rw [hirq.rest, hrep.rest, ← hwritten]

/-- YK_TEST's writes leave every other register as it was. -/
theorem State.get_testWritten (s : State) (mismatch : Option (Fin 130 × Fin 130)) (l : Loc)
    (h : l.key / 64 ≠ 0x10040) : (s.testWritten mismatch).get l = s.get l := by
  have hne (m : Loc) (hm : m.key / 64 = 0x10040) : l.key ≠ m.key := by rintro e; rw [e] at h; exact h hm
  cases mismatch <;>
    simp only [State.testWritten, State.get_set_ne _ _ _ _ (hne YK_TEST.pass rfl),
      State.get_set_ne _ _ _ _ (hne YK_TEST.fail rfl), State.get_set_ne _ _ _ _ (hne YK_TEST.fail_row rfl),
      State.get_set_ne _ _ _ _ (hne YK_TEST.fail_col rfl)]

/-- The usable rows under the requested map (R208). -/
def State.mapRows (s : State) : Nat :=
  usableCount 130 (BitVec.ofNat 64 (s.get (YK_ROWOUT.out 0))) (BitVec.ofNat 64 (s.get (YK_ROWOUT.out 1)))
    (BitVec.ofNat 64 (s.get (YK_ROWOUT.out 2)))

/-- The usable columns under the requested map (R208). -/
def State.mapCols (s : State) : Nat :=
  usableCount 130 (BitVec.ofNat 64 (s.get (YK_COLOUT.out 0))) (BitVec.ofNat 64 (s.get (YK_COLOUT.out 1)))
    (BitVec.ofNat 64 (s.get (YK_COLOUT.out 2)))

/-- Rows and columns are counted up to 128 (R208). -/
theorem usableCount_le (total : Nat) (w0 w1 w2 : BitVec 64) : usableCount total w0 w1 w2 ≤ 128 := Nat.min_le_left _ _

/-- The block with the requested map in YK_STAT and the apply ended (R208, R209). -/
def State.mapWritten (s : State) : State :=
  (((((s.set YK_STAT.rows s.mapRows).set YK_STAT.cols s.mapCols).setB YK_STAT.degraded
      (decide (s.mapRows < 128 ∨ s.mapCols < 128))).setB YK_STAT.failed
      (decide (s.mapRows < 16 ∨ s.mapCols < 16))).satInc YK_STAT.remaps 1).set YK_MAP_CTL.apply 0

/-- After YK_STAT is written, a map taking effect only raises its interrupt and sends its emergency (R209). -/
theorem State.yokeMap_resamples (s : State) : Resamples s.mapWritten s.yokeMap := by
  unfold State.yokeMap
  extract_lets w rows cols deg fail same s1 s2 s3
  have hirq : Resamples s2 s3 := by
    simp only [s3]
    split
    · exact .refl _
    · exact .irq _ 21
  change Resamples s2 _
  split
  · exact hirq.trans (.emcy _ _ _)
  · exact hirq

/-- A map taking effect leaves the yoke's requests as they were. -/
@[simp] theorem State.yokeMap_yoke (s : State) : s.yokeMap.yoke = s.yoke := by
  rw [s.yokeMap_resamples.rest]; rfl

/-- A flag of a condition in a one-bit field. -/
theorem b2n_decide_mod_two (p : Prop) [Decidable p] : b2n (decide p) % 2 ^ 1 = if p then 1 else 0 := by
  by_cases h : p <;> simp [b2n, h]

/-- The fields that a map taking effect sets (R208, R209). -/
theorem State.get_mapWritten (s : State) :
    s.mapWritten.get YK_STAT.rows = s.mapRows ∧ s.mapWritten.get YK_STAT.cols = s.mapCols
      ∧ s.mapWritten.get YK_STAT.degraded = (if s.mapRows < 128 ∨ s.mapCols < 128 then 1 else 0)
      ∧ s.mapWritten.get YK_STAT.failed = (if s.mapRows < 16 ∨ s.mapCols < 16 then 1 else 0)
      ∧ s.mapWritten.get YK_MAP_CTL.apply = 0 := by
  have hrows : s.mapRows ≤ 128 := usableCount_le _ _ _ _
  have hcols : s.mapCols ≤ 128 := usableCount_le _ _ _ _
  simp (disch := decide) only [State.mapWritten, State.setB_eq, State.satInc_eq, State.get_set_same, State.get_set_ne]
  exact ⟨Nat.mod_eq_of_lt (show s.mapRows < 2 ^ 8 by omega), Nat.mod_eq_of_lt (show s.mapCols < 2 ^ 8 by omega),
    b2n_decide_mod_two _, b2n_decide_mod_two _, rfl⟩

/-- YOKE_REMAP at its point (R207 to R210). -/
theorem exec_yokeRemap_due (r : Option (Fin 130 × Fin 130)) (s : State) (h : s.remapDue = true) :
    exec (.yokeRemap r) s =
      .next ((s.setYoke { s.yoke with applyPend := false, applyDue := false }).yokeMap.yokeResult r).after :=
  if_pos h

/-- YOKE_REMAP at its point gives the usable rows and columns and ends the apply (R207 to R209). -/
theorem yokeRemap_takes_map (r : Option (Fin 130 × Fin 130)) (s : State) (h : s.remapDue = true) :
    ∃ t : State, exec (.yokeRemap r) s = .next t.after ∧ t.get YK_STAT.rows = s.mapRows ∧ t.get YK_STAT.cols = s.mapCols
      ∧ t.get YK_STAT.degraded = (if s.mapRows < 128 ∨ s.mapCols < 128 then 1 else 0)
      ∧ t.get YK_STAT.failed = (if s.mapRows < 16 ∨ s.mapCols < 16 then 1 else 0)
      ∧ t.get YK_MAP_CTL.apply = 0 ∧ t.yoke.applyPend = false := by
  refine ⟨_, exec_yokeRemap_due r s h, ?_⟩
  generalize hu : s.setYoke { s.yoke with applyPend := false, applyDue := false } = u
  have hget (l : Loc) (hy : yokeOff (l.key / 64) = true) (ht : l.key / 64 ≠ 0x10040) :
      (u.yokeMap.yokeResult r).get l = u.mapWritten.get l := by
    simp only [yokeOff, Bool.and_eq_true, decide_eq_true_eq] at hy
    rw [State.get_yokeResult _ _ _ (by simp [yokeOff]; omega), State.get_testWritten _ _ _ ht,
      u.yokeMap_resamples.fields l (by simp [resampled]; omega)]
  have hwritten := u.get_mapWritten
  subst hu
  rw [hget _ rfl (by decide), hget _ rfl (by decide), hget _ rfl (by decide), hget _ rfl (by decide),
    hget _ rfl (by decide), State.yokeResult_yoke, State.yokeMap_yoke]
  obtain ⟨hrows, hcols, hdeg, hfail, happly⟩ := hwritten
  exact ⟨hrows, hcols, hdeg, hfail, happly, rfl⟩

/-- YOKE_CHECK_PATTERN with a test requested and no remap due (R210). -/
theorem exec_yokeCheckPattern_requested (r : Option (Fin 130 × Fin 130)) (s : State) (h : s.yoke.testPend = true)
    (hr : s.remapDue = false) :
    exec (.yokeCheckPattern r) s =
      .next (((s.setYoke { s.yoke with testPend := false }).set YK_TEST.start 0).yokeResult r).after :=
  if_pos ⟨h, by simp [hr]⟩

/-- The check pattern's result: pass, or fail with the first mismatching PE; it leaves start as it was (R210). -/
theorem State.get_testWritten_result (s : State) (r : Option (Fin 130 × Fin 130)) :
    (s.testWritten r).get YK_TEST.start = s.get YK_TEST.start
      ∧ (r = none → (s.testWritten r).get YK_TEST.pass = 1 ∧ (s.testWritten r).get YK_TEST.fail = 0)
      ∧ ∀ x y, r = some (x, y) → (s.testWritten r).get YK_TEST.pass = 0 ∧ (s.testWritten r).get YK_TEST.fail = 1
          ∧ (s.testWritten r).get YK_TEST.fail_row = x.val ∧ (s.testWritten r).get YK_TEST.fail_col = y.val := by
  have hbyte (x : Fin 130) : x.val % 2 ^ 8 = x.val := Nat.mod_eq_of_lt (by omega)
  refine ⟨?_, ?_, ?_⟩
  · cases r <;> simp (disch := decide) only [State.testWritten, State.get_set_ne]
  · rintro rfl
    simp (disch := decide) only [State.testWritten, State.get_set_same, State.get_set_ne]
    decide
  · rintro x y rfl
    simp (disch := decide) only [State.testWritten, State.get_set_same, State.get_set_ne]
    exact ⟨rfl, rfl, hbyte x, hbyte y⟩

/-- YOKE_CHECK_PATTERN reports pass or the first mismatching PE and ends the test (R210). -/
theorem yokeCheckPattern_reports (r : Option (Fin 130 × Fin 130)) (s : State) (h : s.yoke.testPend = true)
    (hr : s.remapDue = false) :
    ∃ t : State, exec (.yokeCheckPattern r) s = .next t.after ∧ t.get YK_TEST.start = 0 ∧ t.yoke.testPend = false
      ∧ (r = none → t.get YK_TEST.pass = 1 ∧ t.get YK_TEST.fail = 0)
      ∧ (∀ x y, r = some (x, y) → t.get YK_TEST.pass = 0 ∧ t.get YK_TEST.fail = 1
          ∧ t.get YK_TEST.fail_row = x.val ∧ t.get YK_TEST.fail_col = y.val) := by
  refine ⟨_, exec_yokeCheckPattern_requested r s h hr, ?_⟩
  rw [State.yokeResult_yoke, State.get_yokeResult _ _ _ rfl, State.get_yokeResult _ _ _ rfl,
    State.get_yokeResult _ _ _ rfl, State.get_yokeResult _ _ _ rfl, State.get_yokeResult _ _ _ rfl]
  obtain ⟨hstart, hpass, hfail⟩ :=
    State.get_testWritten_result ((s.setYoke { s.yoke with testPend := false }).set YK_TEST.start 0) r
  exact ⟨hstart.trans (State.get_set_same _ _ _), rfl, hpass, hfail⟩

/-- An element added to a sorted listing is in it. -/
theorem mem_setAdd_self (l : List Nat) (x : Nat) : x ∈ setAdd l x := by
  induction l with
  | nil => simp [setAdd]
  | cons y l ih =>
    unfold setAdd
    split
    · simp
    · split <;> simp [*]

/-- A core map with apply is stored, and its request stands (R437). -/
theorem coreMapApply_requests (n : Slice) (v : W64) (s : State) (h : fget v 63 1 = 1) :
    ∃ t : State, exec (.coreMapApply n v) s = .next t.after ∧ t.get (SL_CORE_OUT.out n) = fget v 0 42
      ∧ t.get (SL_CORE_OUT.apply n) = 1 ∧ n.val ∈ t.yoke.corePend := by
  refine ⟨_, if_pos h, ?_, ?_, mem_setAdd_self _ _⟩
  · rw [State.get_setYoke, State.get_set_ne _ _ _ _ (by simp only [Loc.key, SL_CORE_OUT.out, SL_CORE_OUT.apply]; omega),
      State.get_set_same]
    exact Nat.mod_mod _ _
  · rw [State.get_setYoke, State.get_set_same]
    rfl

/-- CORE_REMAP at its point (R19, R437). -/
theorem exec_coreRemap_due (n : Slice) (s : State) (hp : n.val ∈ s.yoke.corePend)
    (hd : n.val ∈ s.yoke.coreDue ∨ s.anyTicks = false) :
    exec (.coreRemap n) s = .next ((((s.setYoke { s.yoke with
        corePend := s.yoke.corePend.filter fun x => x ≠ n.val,
        coreDue := s.yoke.coreDue.filter fun x => x ≠ n.val }).set (SL_CORE_OUT.active n)
          (min 40 (42 - popcount 42 (s.get (SL_CORE_OUT.out n))))).set (SL_CORE_OUT.apply n) 0).after) :=
  if_pos (by simpa using ⟨hp, hd⟩)

/-- CORE_REMAP at its point gives the slice at most 40 of the cores that are not mapped out (R19, R437). -/
theorem coreRemap_takes_map (n : Slice) (s : State) (hp : n.val ∈ s.yoke.corePend)
    (hd : n.val ∈ s.yoke.coreDue ∨ s.anyTicks = false) :
    ∃ t : State, exec (.coreRemap n) s = .next t.after
      ∧ t.get (SL_CORE_OUT.active n) = min 40 (42 - popcount 42 (s.get (SL_CORE_OUT.out n)))
      ∧ t.get (SL_CORE_OUT.apply n) = 0 ∧ n.val ∉ t.yoke.corePend := by
  refine ⟨_, exec_coreRemap_due n s hp hd, ?_, State.get_set_same _ _ _, by simp⟩
  rw [State.get_set_ne _ _ _ _ (by simp only [Loc.key, SL_CORE_OUT.active, SL_CORE_OUT.apply]; omega), State.get_set_same]
  exact Nat.mod_eq_of_lt (show _ < 2 ^ 6 by omega)

/-- A build does not complete while the yoke has failed or the planner holds it back (R148, R209). -/
theorem State.tableDone_held (s : State) (h : s.is YK_STAT.failed = true ∨ s.buildHeld = true) : s.tableDone = s := by
  unfold State.tableDone
  split
  · exact if_pos h
  · rfl

/-- A build that completes (R205). -/
theorem State.tableDone_complete (s : State) (h : Nat) (hb : s.yoke.build = some h) (hf : s.is YK_STAT.failed = false)
    (hheld : s.buildHeld = false) :
    s.tableDone = ((((s.set (YK_DTAB.entries h) (tableEntries (s.get (YK_DTAB.k h)) (s.get (YK_DTAB.r h)))).set
      (YK_DTAB.ready h) 1).set (YK_DTAB.in_use h) 1).setTable (1 - h) 0 0 0).setYoke { s.yoke with build := none } := by
  simp only [State.tableDone, hb, hf, hheld]
  rfl

/-- Two fields of one register at different bits are different fields. -/
theorem Loc.key_ne_of_lo_ne {l m : Loc} (hoff : l.off = m.off) (hlo : l.lo ≠ m.lo) : l.key ≠ m.key := by
  simp only [Loc.key]; omega

/-- Giving a half an epoch and its code leaves every other register as it was. -/
theorem State.get_setTable_ne (s : State) (i epoch k r : Nat) (l : Loc) (h : l.key / 64 ≠ 0x10048 + 0x8 * i) :
    (s.setTable i epoch k r).get l = s.get l := by
  have hne (m : Loc) (hoff : m.off = 0x10048 + 0x8 * i) (hlo : m.lo < 64) : l.key ≠ m.key := by
    simp only [Loc.key] at h ⊢; omega
  rw [State.setTable, State.get_set_ne _ _ _ _ (hne (YK_DTAB.in_use i) rfl (show 36 < 64 by decide)),
    State.get_set_ne _ _ _ _ (hne (YK_DTAB.ready i) rfl (show 35 < 64 by decide)),
    State.get_set_ne _ _ _ _ (hne (YK_DTAB.entries i) rfl (show 23 < 64 by decide)),
    State.get_set_ne _ _ _ _ (hne (YK_DTAB.r i) rfl (show 20 < 64 by decide)),
    State.get_set_ne _ _ _ _ (hne (YK_DTAB.k i) rfl (show 16 < 64 by decide)),
    State.get_set_ne _ _ _ _ (hne (YK_DTAB.epoch i) rfl (show 0 < 64 by decide))]

/-- DECODE_TABLE_COMPLETE puts the built half in use and frees the other (R205). -/
theorem decodeTableComplete_puts_in_use (s : State) (h : Nat) (hb : s.yoke.build = some h) (hh : h < 2)
    (hf : s.is YK_STAT.failed = false) (hheld : s.buildHeld = false) :
    ∃ t : State, exec .decodeTableComplete s = .next t.after ∧ t.get (YK_DTAB.ready h) = 1 ∧ t.get (YK_DTAB.in_use h) = 1
      ∧ t.get (YK_DTAB.in_use (1 - h)) = 0 ∧ t.get (YK_DTAB.epoch h) = s.get (YK_DTAB.epoch h)
      ∧ t.yoke.build = none := by
  have hother (l : Loc) (hoff : l.off = 0x10048 + 0x8 * h) (hlo : l.lo < 64) :
      l.key / 64 ≠ 0x10048 + 0x8 * (1 - h) := by
    simp only [Loc.key]; omega
  have hready : (YK_DTAB.ready h).key ≠ (YK_DTAB.in_use h).key := Loc.key_ne_of_lo_ne rfl (show 35 ≠ 36 by decide)
  have hepoch (m : Loc) (hoff : m.off = 0x10048 + 0x8 * h) (hlo : m.lo ≠ 0) : (YK_DTAB.epoch h).key ≠ m.key :=
    Loc.key_ne_of_lo_ne hoff.symm hlo.symm
  refine ⟨s.tableDone, rfl, ?_⟩
  rw [s.tableDone_complete h hb hf hheld]
  simp only [State.get_setYoke]
  refine ⟨?_, ?_, State.get_set_same _ _ _, ?_, rfl⟩
  · rw [State.get_setTable_ne _ _ _ _ _ _ (hother _ rfl (show 35 < 64 by decide)),
      State.get_set_ne _ _ _ _ hready, State.get_set_same]
    rfl
  · rw [State.get_setTable_ne _ _ _ _ _ _ (hother _ rfl (show 36 < 64 by decide)), State.get_set_same]
    rfl
  · rw [State.get_setTable_ne _ _ _ _ _ _ (hother _ rfl (show 0 < 64 by decide)),
      State.get_set_ne _ _ _ _ (hepoch (YK_DTAB.in_use h) rfl (show 36 ≠ 0 by decide)),
      State.get_set_ne _ _ _ _ (hepoch (YK_DTAB.ready h) rfl (show 35 ≠ 0 by decide)),
      State.get_set_ne _ _ _ _ (hepoch (YK_DTAB.entries h) rfl (show 23 ≠ 0 by decide))]

/-- Settles O24: each row by the lemma that says what it leaves at its point. -/
theorem mapsTakeEffectAtTheirPoint : Obligations.MapsTakeEffectAtTheirPoint := by
  unfold Obligations.MapsTakeEffectAtTheirPoint
  exact ⟨fun _ => rfl, fun _ => rfl, coreMapApply_requests, yokeRemap_takes_map, yokeCheckPattern_reports,
    coreRemap_takes_map, fun s h => congrArg fin (s.tableDone_held h), decodeTableComplete_puts_in_use⟩

end Sys2Proof.Machine

/-! ## Statements of 03_state_regions.md -/

namespace Sys2Proof.Machine

/-! ### Bits of a word and states of channels (R73) -/

/-- The bits of a bit field. -/
theorem testBit_nbits (w lo n i : Nat) : (nbits w lo n).testBit i = (decide (i < n) && w.testBit (lo + i)) := by
  rw [nbits, Nat.testBit_mod_two_pow, Nat.testBit_shiftRight]

/-- A word with one bit field replaced, bit by bit. -/
theorem testBit_replace_nbits (w lo n v i : Nat) (hv : v < 2 ^ n) :
    (w - nbits w lo n * 2 ^ lo + v * 2 ^ lo).testBit i =
      if lo ≤ i ∧ i < lo + n then v.testBit (i - lo) else w.testBit i := by
  have hsplit : w = 2 ^ lo * (2 ^ n * (w >>> lo / 2 ^ n) + nbits w lo n) + w % 2 ^ lo := by
    rw [nbits, Nat.div_add_mod, Nat.shiftRight_eq_div_pow, Nat.div_add_mod]
  have hold : nbits w lo n < 2 ^ n := Nat.mod_lt _ (Nat.two_pow_pos n)
  have hlow : w % 2 ^ lo < 2 ^ lo := Nat.mod_lt _ (Nat.two_pow_pos lo)
  have hnew : w - nbits w lo n * 2 ^ lo + v * 2 ^ lo = 2 ^ lo * (2 ^ n * (w >>> lo / 2 ^ n) + v) + w % 2 ^ lo := by
    have hcomm (x : Nat) : x * 2 ^ lo = 2 ^ lo * x := Nat.mul_comm _ _
    rw [hcomm, hcomm]
    rw [Nat.mul_add] at hsplit ⊢
    omega
  rw [hnew]
  conv => rhs; rw [hsplit]
  simp only [Nat.testBit_two_pow_mul_add _ hlow, Nat.testBit_two_pow_mul_add _ hv, Nat.testBit_two_pow_mul_add _ hold]
  rcases Nat.lt_or_ge i lo with hbelow | hfrom
  · rw [if_pos hbelow, if_neg (by omega), if_pos hbelow]
  · rcases Nat.lt_or_ge i (lo + n) with hin | habove
    · rw [if_neg (by omega), if_pos (by omega), if_pos ⟨hfrom, hin⟩]
    · rw [if_neg (by omega), if_neg (by omega), if_neg (by omega), if_neg (by omega), if_neg (by omega)]

/-- A bit field replaced in a register of `W` bits reads as its new value. -/
theorem nbits_replace_same (w lo n v W : Nat) (hv : v < 2 ^ n) (hW : lo + n ≤ W) :
    nbits ((w - nbits w lo n * 2 ^ lo + v * 2 ^ lo) % 2 ^ W) lo n = v := by
  refine Nat.eq_of_testBit_eq fun i => ?_
  rw [testBit_nbits, Nat.testBit_mod_two_pow, testBit_replace_nbits _ _ _ _ _ hv]
  by_cases hi : i < n
  · rw [if_pos (by omega), Nat.add_sub_cancel_left]
    simp [hi, show lo + i < W by omega]
  · simp [hi, Nat.testBit_lt_two_pow (Nat.lt_of_lt_of_le hv (Nat.pow_le_pow_right (by decide) (Nat.le_of_not_lt hi)))]

/-- Replacing a bit field leaves the bit fields beside it as they were. -/
theorem nbits_replace_disjoint (w lo n v W lo' n' : Nat) (hv : v < 2 ^ n) (hW : lo' + n' ≤ W)
    (hd : lo' + n' ≤ lo ∨ lo + n ≤ lo') :
    nbits ((w - nbits w lo n * 2 ^ lo + v * 2 ^ lo) % 2 ^ W) lo' n' = nbits w lo' n' := by
  refine Nat.eq_of_testBit_eq fun i => ?_
  rw [testBit_nbits, testBit_nbits, Nat.testBit_mod_two_pow, testBit_replace_nbits _ _ _ _ _ hv]
  by_cases hi : i < n'
  · rw [if_neg (by omega)]
    simp [show lo' + i < W by omega]
  · simp [hi]

section
/-! What setting a channel's state does (R73, R525). -/

variable (s : State) (n j v : Nat)

/-- A change of a channel's state writes its bits and raises the channel vector; the state it has already is no change. -/
theorem State.setChan_eq : s.setChan n j v =
    if s.chan n j = v then s
    else (s.set (SL_CHAN_STATE.chan n) (s.get (SL_CHAN_STATE.chan n) - nbits (s.get (SL_CHAN_STATE.chan n)) (2 * j) 2 *
      2 ^ (2 * j) + v * 2 ^ (2 * j))).irq 22 := rfl

/-- A channel's state changes register fields only. -/
theorem State.setChan_only_regs : s.setChan n j v = { s with regs := (s.setChan n j v).regs } := by
  rw [State.setChan_eq]; split <;> rfl

@[simp] theorem State.setChan_mem : (s.setChan n j v).mem = s.mem := by rw [State.setChan_only_regs]
@[simp] theorem State.setChan_out : (s.setChan n j v).out = s.out := by rw [State.setChan_only_regs]

/-- It changes no field but its own and the interrupt causes. -/
theorem State.get_setChan_ne (l : Loc) (hl : l.key ≠ (SL_CHAN_STATE.chan n).key) (hi : l.key ≠ GL_IRQ_STAT.cause.key) :
    (s.setChan n j v).get l = s.get l := by
  rw [State.setChan_eq]
  split
  · rfl
  · rw [State.irq_eq, State.get_set_ne _ _ _ _ hi, State.get_set_ne _ _ _ _ hl]

/-- The interrupt causes are no channel's state. -/
theorem State.chan_irq (i : Nat) : (s.irq i).chan n j = s.chan n j := by
  rw [State.chan, State.irq_eq, State.get_set_ne _ _ _ _ (by simp only [Loc.key, SL_CHAN_STATE.chan, GL_IRQ_STAT.cause]; omega)]
  rfl

/-- A channel's state reads back. -/
theorem State.chan_setChan_same (hj : j < 32) (hv : v < 4) : (s.setChan n j v).chan n j = v := by
  rw [State.setChan_eq]
  split
  · assumption
  · rw [State.chan_irq, State.chan, State.get_set_same]
    exact nbits_replace_same _ _ 2 _ 64 hv (by omega)

/-- Setting a channel's state leaves every other channel's as it was. -/
theorem State.chan_setChan_ne (n' j' : Nat) (hj : j' < 32) (hv : v < 4) (h : ¬ (n' = n ∧ j' = j)) :
    (s.setChan n j v).chan n' j' = s.chan n' j' := by
  rw [State.setChan_eq]
  split
  · rfl
  · rw [State.chan_irq, State.chan, State.chan]
    by_cases hn : n' = n
    · subst hn
      rw [State.get_set_same]
      exact nbits_replace_disjoint _ _ 2 _ 64 _ _ hv (by omega) (by omega)
    · rw [State.get_set_ne _ _ _ _ (by simp only [Loc.key, SL_CHAN_STATE.chan]; omega)]

end

/-- Channels' states stand in the registers: what keeps those keeps them. -/
theorem State.chan_of_regs {s t : State} (h : t.regs = s.regs) (n j : Nat) : t.chan n j = s.chan n j := by
  rw [State.chan, State.chan, State.get, State.get, h]

/-- A write of a field that is no channel state leaves every channel's as it was. -/
theorem State.chan_set (s : State) (l : Loc) (v n j : Nat) (h : l.key ≠ (SL_CHAN_STATE.chan n).key) :
    (s.set l v).chan n j = s.chan n j := by
  rw [State.chan, State.get_set_ne _ _ _ _ h.symm]; rfl

/-! ### Retraining (R79, R509, R510, R511) -/

/-- A request raised or withdrawn sets its bit of SL_RETRAIN.req and no other (R509). -/
theorem State.nbits_setReq (s : State) (n j : Nat) (b : Bool) (i : Nat) (hi : i < 32) :
    nbits ((s.setReq n j b).get (SL_RETRAIN.req n)) i 1 = if i = j then b2n b else nbits (s.get (SL_RETRAIN.req n)) i 1 := by
  have hb : b2n b < 2 ^ 1 := by cases b <;> decide
  rw [State.setReq, State.get_set_same]
  by_cases h : i = j
  · subst h
    rw [if_pos rfl]
    exact nbits_replace_same _ _ 1 _ 32 hb (by omega)
  · rw [if_neg h]
    exact nbits_replace_disjoint _ _ 1 _ 32 _ _ hb (by omega) (by omega)

/-- A request changes its own register field only. -/
theorem State.get_setReq_ne (s : State) (n j : Nat) (b : Bool) (l : Loc) (h : l.key ≠ (SL_RETRAIN.req n).key) :
    (s.setReq n j b).get l = s.get l := State.get_set_ne _ _ _ _ h

/-- RETRAIN_REQUEST raises the request alone (R509). -/
theorem retrainRequest_raises (n : Slice) (j : Chan) (s : State) :
    ∃ t : State, exec (.retrainRequest n j) s = .next t
      ∧ (∀ i < 32, nbits (t.get (SL_RETRAIN.req n)) i 1 = if i = j.val then 1 else nbits (s.get (SL_RETRAIN.req n)) i 1)
      ∧ (∀ l : Loc, l.key ≠ (SL_RETRAIN.req n).key → t.get l = s.get l) ∧ t = { s with regs := t.regs } :=
  ⟨s.setReq n j true, rfl, fun i hi => s.nbits_setReq n j true i hi, fun l hl => s.get_setReq_ne n j true l hl, rfl⟩

/-- SL_CHAN_STATE and SL_RETRAIN of a slice stand in different registers. -/
theorem key_retrain_ne_chan (n : Nat) (l : Loc) (ho : l.off = 0x40110 + 0x1000 * n) (hl : l.lo < 64) :
    l.key ≠ (SL_CHAN_STATE.chan n).key ∧ l.key ≠ GL_IRQ_STAT.cause.key := by
  simp only [Loc.key, SL_CHAN_STATE.chan, GL_IRQ_STAT.cause, ho]; omega

/-- The block with a retraining granted: the channel's mend list is empty and the channel OUT (R79, R509, R511). -/
def State.grant (s : State) (n j : Nat) : State :=
  let k := chKey n j
  let t := s.setMem { s.mem with
    mend := Tbl.del s.mem.mend k, mendFull := s.mem.mendFull.filter (· ≠ k), grants := setAdd s.mem.grants k }
  let t := (((t.setChan n j chOUT).set (SL_RETRAIN.chan n) j).set (SL_RETRAIN.granted n) 1).satInc (SL_RETRAIN.grants n) 1
  (t.emit (.grant n j true)).emit (.dirty n j true)

/-- RETRAIN_GRANT of the first asking channel, with slack and no channel out of service, grants it (R509). -/
theorem exec_retrainGrant_granted (n : Slice) (j : Chan) (s : State) (ha : s.asks n j = true) (hf : s.firstAsk n j = true)
    (ho : s.anyOut = false) (hs : s.slackValid = true) : exec (.retrainGrant n j) s = .next (s.grant n j).after :=
  if_pos ⟨ha, hf, by simp [ho], hs⟩

/-- A granted channel is OUT; SL_RETRAIN and the ports show its grant (R79, R509, R511). -/
theorem retrainGrant_takes_out (n : Slice) (j : Chan) (s : State) (ha : s.asks n j = true) (hf : s.firstAsk n j = true)
    (ho : s.anyOut = false) (hs : s.slackValid = true) :
    ∃ t : State, exec (.retrainGrant n j) s = .next t.after ∧ t.chan n j = chOUT ∧ chKey n j ∈ t.mem.grants
      ∧ t.get (SL_RETRAIN.granted n) = 1 ∧ t.get (SL_RETRAIN.chan n) = j
      ∧ t.out = s.out ++ [.grant n j true, .dirty n j true] := by
  have hchan (l : Loc) (hoff : l.off = 0x40110 + 0x1000 * n.val) (hlo : l.lo < 64) : l.key ≠ (SL_CHAN_STATE.chan n).key :=
    (key_retrain_ne_chan n l hoff hlo).1
  refine ⟨_, exec_retrainGrant_granted n j s ha hf ho hs, ?_, ?_, ?_, ?_, ?_⟩
  · rw [State.grant, State.chan_of_regs (State.emit_regs _ _), State.chan_of_regs (State.emit_regs _ _), State.satInc_eq,
      State.chan_set _ _ _ _ _ (hchan (SL_RETRAIN.grants n) rfl (show 48 < 64 by decide)),
      State.chan_set _ _ _ _ _ (hchan (SL_RETRAIN.granted n) rfl (show 37 < 64 by decide)),
      State.chan_set _ _ _ _ _ (hchan (SL_RETRAIN.chan n) rfl (show 32 < 64 by decide))]
    exact State.chan_setChan_same _ _ _ _ j.isLt (by decide)
  · simp only [State.grant, State.emit_mem, State.satInc_eq, State.set_mem, State.setChan_mem]
    exact mem_setAdd_self _ _
  · rw [State.grant, State.get_emit, State.get_emit, State.satInc_eq,
      State.get_set_ne _ _ _ _ (by simp only [Loc.key, SL_RETRAIN.granted, SL_RETRAIN.grants]; omega), State.get_set_same]
    rfl
  · rw [State.grant, State.get_emit, State.get_emit, State.satInc_eq,
      State.get_set_ne _ _ _ _ (by simp only [Loc.key, SL_RETRAIN.chan, SL_RETRAIN.grants]; omega),
      State.get_set_ne _ _ _ _ (by simp only [Loc.key, SL_RETRAIN.chan, SL_RETRAIN.granted]; omega), State.get_set_same]
    exact Nat.mod_eq_of_lt j.isLt
  · simp only [State.grant, State.emit_out, State.satInc_eq, State.set_out, State.setChan_out, List.append_assoc,
      List.cons_append, List.nil_append]
    rfl

/-- A grant that is held ends (R509). -/
theorem State.endGrant_held (s : State) (n j : Nat) (h : chKey n j ∈ s.mem.grants) :
    s.endGrant n j = (((s.setMem { s.mem with grants := s.mem.grants.filter (· ≠ chKey n j) }).set
      (SL_RETRAIN.granted n) 0).setReq n j false).emit (.grant n j false) :=
  if_pos (by simpa using h)

/-- With none held there is none to end. -/
theorem State.endGrant_none (s : State) (n j : Nat) (h : chKey n j ∉ s.mem.grants) : s.endGrant n j = s :=
  if_neg (by simpa using h)

/-- The end of a grant takes the channel off the grants and changes no other part of the memory ports' state. -/
theorem State.endGrant_mem (s : State) (n j : Nat) :
    (s.endGrant n j).mem = { s.mem with grants := s.mem.grants.filter (· ≠ chKey n j) } := by
  by_cases h : chKey n j ∈ s.mem.grants
  · rw [State.endGrant_held s n j h]; rfl
  · have hsame : s.mem.grants.filter (· ≠ chKey n j) = s.mem.grants := by
      rw [List.filter_eq_self]
      intro k hk
      simp only [ne_eq, decide_not, Bool.not_eq_true', decide_eq_false_iff_not]
      rintro rfl
      exact h hk
    rw [State.endGrant_none s n j h, hsame]

/-- A held grant's end clears SL_RETRAIN.granted. -/
theorem State.endGrant_granted (s : State) (n j : Nat) (h : chKey n j ∈ s.mem.grants) :
    (s.endGrant n j).get (SL_RETRAIN.granted n) = 0 := by
  rw [State.endGrant_held s n j h, State.get_emit,
    State.get_setReq_ne _ _ _ _ (SL_RETRAIN.granted n) (Loc.key_ne_of_lo_ne rfl (show 37 ≠ 0 by decide)), State.get_set_same]
  rfl

/-- A MENDING channel with nothing listed is ONLINE (R73, R511). -/
theorem State.mendDone_empty (s : State) (n j : Nat) (hc : s.chan n j = chMENDING) (hm : Tbl.at s.mem.mend [] (chKey n j) = [])
    (hf : chKey n j ∉ s.mem.mendFull) : s.mendDone n j = (s.setChan n j chONLINE).emit (.dirty n j false) :=
  if_pos ⟨hc, hm, by simpa using hf⟩

/-- With something listed it goes on MENDING (R81). -/
theorem State.mendDone_listed (s : State) (n j : Nat)
    (h : ¬ (Tbl.at s.mem.mend [] (chKey n j) = [] ∧ chKey n j ∉ s.mem.mendFull)) : s.mendDone n j = s :=
  if_neg fun hdue => h ⟨hdue.2.1, by simpa using hdue.2.2⟩

/-- RETRAIN_DONE of a granted channel (R509). -/
theorem exec_retrainDone_granted (n : Slice) (j : Chan) (s : State) (hg : chKey n j ∈ s.mem.grants) (hc : s.chan n j = chOUT) :
    exec (.retrainDone n j) s = .next (((s.endGrant n j).setChan n j chMENDING).mendDone n j).after :=
  if_pos ⟨by simpa using hg, hc⟩

/-- RETRAIN_FAIL of a granted channel (R509). -/
theorem exec_retrainFail_granted (n : Slice) (j : Chan) (s : State) (hg : chKey n j ∈ s.mem.grants) (hc : s.chan n j = chOUT) :
    exec (.retrainFail n j) s = .next ((s.endGrant n j).setChan n j chFAILED).after :=
  if_pos ⟨by simpa using hg, hc⟩

/-- A retrained channel's grant ends; the channel is MENDING while something is listed, else ONLINE (R73, R509). -/
theorem retrainDone_mends (n : Slice) (j : Chan) (s : State) (hg : chKey n j ∈ s.mem.grants) (hc : s.chan n j = chOUT) :
    ∃ t : State, exec (.retrainDone n j) s = .next t.after
      ∧ t.chan n j = (if Tbl.at s.mem.mend [] (chKey n j) = [] ∧ chKey n j ∉ s.mem.mendFull then chONLINE else chMENDING)
      ∧ chKey n j ∉ t.mem.grants ∧ t.get (SL_RETRAIN.granted n) = 0 := by
  refine ⟨_, exec_retrainDone_granted n j s hg hc, ?_⟩
  generalize hu : (s.endGrant n j).setChan n j chMENDING = u
  have hchan : u.chan n j = chMENDING := by rw [← hu]; exact State.chan_setChan_same _ _ _ _ j.isLt (by decide)
  have hmem : u.mem = { s.mem with grants := s.mem.grants.filter (· ≠ chKey n j) } := by
    rw [← hu, State.setChan_mem, State.endGrant_mem]
  have hgrants : chKey n j ∉ u.mem.grants := by simp [hmem]
  obtain ⟨hkey, hirq⟩ := key_retrain_ne_chan n (SL_RETRAIN.granted n) rfl (show 37 < 64 by decide)
  have hgranted : u.get (SL_RETRAIN.granted n) = 0 := by
    rw [← hu, State.get_setChan_ne _ _ _ _ _ hkey hirq, State.endGrant_granted s n j hg]
  have hlist : Tbl.at u.mem.mend [] (chKey n j) = Tbl.at s.mem.mend [] (chKey n j) := by rw [hmem]
  have hfull : u.mem.mendFull = s.mem.mendFull := by rw [hmem]
  split
  · next h =>
    rw [State.mendDone_empty u n j hchan (hlist.trans h.1) (hfull ▸ h.2)]
    refine ⟨State.chan_setChan_same _ _ _ _ j.isLt (by decide), ?_, ?_⟩
    · rwa [State.emit_mem, State.setChan_mem]
    · rw [State.get_emit, State.get_setChan_ne _ _ _ _ _ hkey hirq, hgranted]
  · next h =>
    rw [State.mendDone_listed u n j (by rwa [hlist, hfull])]
    exact ⟨hchan, hgrants, hgranted⟩

/-- A retraining that fails ends the grant and leaves the channel FAILED (R509). -/
theorem retrainFail_fails (n : Slice) (j : Chan) (s : State) (hg : chKey n j ∈ s.mem.grants) (hc : s.chan n j = chOUT) :
    ∃ t : State, exec (.retrainFail n j) s = .next t.after ∧ t.chan n j = chFAILED ∧ chKey n j ∉ t.mem.grants := by
  refine ⟨_, exec_retrainFail_granted n j s hg hc, State.chan_setChan_same _ _ _ _ j.isLt (by decide), ?_⟩
  rw [State.setChan_mem, State.endGrant_mem]
  simp

/-- A hard fault is noted and leaves the channel FAILED (R510). -/
theorem channelFail_fails (n : Slice) (j : Chan) (s : State) :
    ∃ t : State, exec (.channelFail n j) s = .next t.after ∧ t.chan n j = chFAILED ∧ chKey n j ∈ t.mem.faults := by
  refine ⟨_, rfl, State.chan_setChan_same _ _ _ _ j.isLt (by decide), ?_⟩
  rw [State.setChan_mem, State.endGrant_mem]
  exact mem_setAdd_self _ _

/-- A list that is spelled out already stays as it is (R80). -/
theorem State.openMend_listed (s : State) (n j : Nat) (h : chKey n j ∉ s.mem.mendFull) : s.openMend n j = s :=
  if_neg (by simpa using h)

/-- MEND_ROW of a MENDING channel starts work on its first listed row, for the context that owns the region (R81, R143). -/
theorem exec_mendRow_starts (n : Slice) (j : Chan) (s : State) (e : MendEnt) (l : List MendEnt) (hc : s.chan n j = chMENDING)
    (hr : s.mem.resetHigh = false) (hj : s.jobs = []) (hf : chKey n j ∉ s.mem.mendFull)
    (hl : Tbl.at s.mem.mend [] (chKey n j) = e :: l) (hv : (s.rgn e.region).valid = true)
    (hi : (s.rgn e.region).inner = true) :
    exec (.mendRow n j) s = .next
      (s.addJob { id := 0, owner := .mend n j e.region e.first, ctx := (s.rgn e.region).ctx, cls := 0,
                  segs := [.mend] }).after := by
  simp only [exec, execMendRow]
  rw [if_neg (by simp [hc, hr, hj]), s.openMend_listed n j hf, hl]
  exact if_pos ⟨hv, hi⟩

/-- Settles O20: each row by the lemma that says what it leaves of the channel's state, its grant and its mend list. -/
theorem retrainingTakesAChannelOutAndMendsIt : Obligations.RetrainingTakesAChannelOutAndMendsIt := by
  unfold Obligations.RetrainingTakesAChannelOutAndMendsIt
  refine ⟨retrainRequest_raises, retrainGrant_takes_out, retrainDone_mends, retrainFail_fails, channelFail_fails,
    fun n up s => ?_, exec_mendRow_starts⟩
  cases up <;> rfl

end Sys2Proof.Machine

namespace Sys2Proof.Machine

/-! ### The region table (R60, R71, R89, R530) -/

/-- The register offsets that hold the description of region n: GL_RGN_CFG, GL_RGN_LOC and GL_RGN_SIZE. -/
def rgnOff (n off : Nat) : Prop := 0x2000 + 0x20 * n ≤ off ∧ off < 0x2018 + 0x20 * n

/-- States that agree on those registers agree on the region. -/
theorem State.rgn_congr {s t : State} (n : Nat) (h : ∀ l : Loc, rgnOff n (l.key / 64) → t.get l = s.get l) :
    t.rgn n = s.rgn n := by
  simp (disch := simp only [rgnOff, Loc.key, GL_RGN_CFG.kind, GL_RGN_CFG.fmt, GL_RGN_CFG.layout, GL_RGN_CFG.inner,
    GL_RGN_CFG.team, GL_RGN_CFG.ctx, GL_RGN_CFG.group, GL_RGN_CFG.slot, GL_RGN_CFG.valid, GL_RGN_LOC.base,
    GL_RGN_SIZE.count]; omega) only [State.rgn, State.is, h]

/-- A write of a field elsewhere leaves the region's description as it was. -/
theorem State.rgn_set (s : State) (n : Nat) (l : Loc) (v : Nat) (h : ¬ rgnOff n (l.key / 64)) :
    (s.set l v).rgn n = s.rgn n :=
  State.rgn_congr n fun m hm => State.get_set_ne _ _ _ _ (by rintro e; exact h (e ▸ hm))

/-- What keeps the registers keeps the region's description. -/
theorem State.rgn_of_regs {s t : State} (h : t.regs = s.regs) (n : Nat) : t.rgn n = s.rgn n :=
  State.rgn_congr n fun l _ => by rw [State.get, State.get, h]

/-- A region's record on the ports is none of its description. -/
theorem State.rgn_rtu (s : State) (m n : Nat) : (s.rtu m).rgn n = s.rgn n := State.rgn_of_regs rfl n

/-- GL_RGN_STAT holds nothing of the description. -/
theorem State.rgn_set_stat (s : State) (n : Nat) (l : Loc) (v : Nat) (ho : l.off = 0x2018 + 0x20 * n) (hl : l.lo < 64) :
    (s.set l v).rgn n = s.rgn n :=
  State.rgn_set _ _ _ _ (by simp only [rgnOff, Loc.key, ho]; omega)

/-- The valid bit alone. -/
theorem State.rgn_set_valid (s : State) (n v : Nat) :
    (s.set (GL_RGN_CFG.valid n) v).rgn n = { s.rgn n with valid := v % 2 == 1 } := by
  simp (disch := simp only [Loc.key, GL_RGN_CFG.kind, GL_RGN_CFG.fmt, GL_RGN_CFG.layout, GL_RGN_CFG.inner,
    GL_RGN_CFG.team, GL_RGN_CFG.ctx, GL_RGN_CFG.group, GL_RGN_CFG.slot, GL_RGN_CFG.valid, GL_RGN_LOC.base,
    GL_RGN_SIZE.count]; omega) only [State.rgn, State.is, State.get_set_same, State.get_set_ne]
  rfl

/-- The guarded fields of GL_RGN_CFG[n] written from a word (R60, R530). -/
def State.storeRgn (s : State) (n : Nat) (v : W64) : State :=
  (((((((s.set (GL_RGN_CFG.kind n) (fget v 0 4)).set (GL_RGN_CFG.fmt n) (fget v 4 3)).set (GL_RGN_CFG.layout n)
    (fget v 7 1)).set (GL_RGN_CFG.inner n) (fget v 8 1)).set (GL_RGN_CFG.team n) (fget v 9 1)).set (GL_RGN_CFG.ctx n)
    (fget v 10 2)).set (GL_RGN_CFG.group n) (fget v 12 6)).set (GL_RGN_CFG.slot n) (fget v 18 4)

/-- A field of a word lies below two to its width. -/
theorem fget_mod (v : W64) (lo w : Nat) : fget v lo w % 2 ^ w = fget v lo w := Nat.mod_mod _ _

/-- The description that the written fields give; valid, base and count are as they were. -/
theorem State.rgn_storeRgn (s : State) (n : Nat) (v : W64) :
    (s.storeRgn n v).rgn n =
      { s.rgn n with kind := fget v 0 4, fmt := fget v 4 3, coded := fget v 7 1 == 1, inner := fget v 8 1 == 1,
                     team := fget v 9 1 == 1, ctx := fget v 10 2, group := fget v 12 6, slot := fget v 18 4 } := by
  simp (disch := simp only [Loc.key, GL_RGN_CFG.kind, GL_RGN_CFG.fmt, GL_RGN_CFG.layout, GL_RGN_CFG.inner,
    GL_RGN_CFG.team, GL_RGN_CFG.ctx, GL_RGN_CFG.group, GL_RGN_CFG.slot, GL_RGN_CFG.valid, GL_RGN_LOC.base,
    GL_RGN_SIZE.count]; omega) only [State.rgn, State.storeRgn, State.is, State.get_set_same, State.get_set_ne]
  simp only [GL_RGN_CFG.kind, GL_RGN_CFG.fmt, GL_RGN_CFG.layout, GL_RGN_CFG.inner, GL_RGN_CFG.team, GL_RGN_CFG.ctx,
    GL_RGN_CFG.group, GL_RGN_CFG.slot, fget_mod]

/-- A region written while invalid: its fields are stored, and a record may be sent (R60, R504). -/
theorem State.rgn_putRgn (s : State) (n : Nat) (v : W64) : (s.putRgn n v).rgn n = (s.storeRgn n v).rgn n := by
  have heq : s.putRgn n v = s.storeRgn n v ∨ s.putRgn n v = (s.storeRgn n v).rtu n := by
    simp only [State.putRgn]
    split
    · exact .inr rfl
    · exact .inl rfl
  obtain h | h := heq
  · rw [h]
  · rw [h, State.rgn_rtu]

/-- The register views of a team's values leave every field below them as it was (R267). -/
theorem State.get_syncTeam_low (s : State) (c : Nat) (l : Loc) (h : l.key / 64 < 0x13000) :
    (s.syncTeam c).get l = s.get l := by
  have hne (m : Loc) (hm : 0x13000 ≤ m.off) : l.key ≠ m.key := by simp only [Loc.key] at h ⊢; omega
  simp only [State.syncTeam, State.get_set_ne _ _ _ _ (hne (TM_STAT.epoch c) (by simp only [TM_STAT.epoch]; omega)),
    State.get_set_ne _ _ _ _ (hne (TM_STAT.k c) (by simp only [TM_STAT.k]; omega)),
    State.get_set_ne _ _ _ _ (hne (TM_STAT.r c) (by simp only [TM_STAT.r]; omega)),
    State.get_set_ne _ _ _ _ (hne (TM_STAT.index c) (by simp only [TM_STAT.index]; omega)),
    State.get_set_ne _ _ _ _ (hne (TM_STAT.erased c) (by simp only [TM_STAT.erased]; omega)),
    State.get_set_ne _ _ _ _ (hne (TM_SHAPEF.digest c) (by simp only [TM_SHAPEF.digest]; omega)),
    State.get_set_ne _ _ _ _ (hne TM_GSTAT.touch_used (by decide))]

/-- An entry validated: valid is 1, GL_RGN_STAT shows its row count, and its record is sent (R60, R61, R504). -/
def State.validateRgn (s : State) (n : Nat) : State :=
  ((((s.set (GL_RGN_CFG.valid n) 1).set (GL_RGN_STAT.rows n) (s.rgn n).rows).set (GL_RGN_STAT.degraded n) 0).set
    (GL_RGN_STAT.free_pending n) 0).rtu n

/-- A validated entry differs in its valid bit alone. -/
theorem State.rgn_validateRgn (s : State) (n : Nat) : (s.validateRgn n).rgn n = { s.rgn n with valid := true } := by
  rw [State.validateRgn, State.rgn_rtu,
    State.rgn_set_stat _ _ (GL_RGN_STAT.free_pending n) _ rfl (show 16 < 64 by decide),
    State.rgn_set_stat _ _ (GL_RGN_STAT.degraded n) _ rfl (show 18 < 64 by decide),
    State.rgn_set_stat _ _ (GL_RGN_STAT.rows n) _ rfl (show 24 < 64 by decide), State.rgn_set_valid]
  rfl

/-- A validated entry's row count (R61). -/
theorem State.rows_validateRgn (s : State) (n : Nat) :
    (s.validateRgn n).get (GL_RGN_STAT.rows n) = (s.rgn n).rows % 2 ^ (GL_RGN_STAT.rows n).w := by
  rw [State.validateRgn, State.rtu, State.get_emit,
    State.get_set_ne _ _ _ _ (Loc.key_ne_of_lo_ne (l := GL_RGN_STAT.rows n) (m := GL_RGN_STAT.free_pending n) rfl
      (show 24 ≠ 16 by decide)),
    State.get_set_ne _ _ _ _ (Loc.key_ne_of_lo_ne (l := GL_RGN_STAT.rows n) (m := GL_RGN_STAT.degraded n) rfl
      (show 24 ≠ 18 by decide)), State.get_set_same]

/-- A write that sets valid of an invalid entry whose description passes the checks validates it, and a team of its
context takes it up (R60, R89). -/
theorem State.rgnWrite_validates (s : State) (n : Nat) (v : W64) (hv : (s.rgn n).valid = false) (hup : fget v 63 1 = 1)
    (hok : (s.putRgn n v).rgnOk n ((s.putRgn n v).rgn n) = true) :
    s.rgnWrite n v = (let t := (s.putRgn n v).validateRgn n
      if t.team (t.rgn n).ctx = tmOFF then t else t.syncTeam (t.rgn n).ctx) := by
  simp only [State.rgnWrite, hv, hup, hok]
  rfl

/-- A write that sets valid of an invalid entry whose description fails the checks sets cfg_err (R60). -/
theorem State.rgnWrite_fails (s : State) (n : Nat) (v : W64) (hv : (s.rgn n).valid = false) (hup : fget v 63 1 = 1)
    (hbad : (s.putRgn n v).rgnOk n ((s.putRgn n v).rgn n) = false) :
    s.rgnWrite n v = (s.putRgn n v).set (GL_RGN_STAT.cfg_err n) 1 := by
  simp only [State.rgnWrite, hv, hup, hbad]
  rfl

/-- A write that clears valid of a valid entry and changes no field frees it or leaves it to its references (R89). -/
theorem State.rgnWrite_clears (s : State) (n : Nat) (v : W64) (hv : (s.rgn n).valid = true) (hsame : s.sameRgn n v = true)
    (hdown : fget v 63 1 = 0) : s.rgnWrite n v = s.clearRgn n := by
  simp only [State.rgnWrite, hv, hdown, hsame]
  rfl

/-- A write that would change a field of a valid entry and leaves valid 1 sets cfg_err and stores nothing (R530). -/
theorem State.rgnWrite_guarded (s : State) (n : Nat) (v : W64) (hv : (s.rgn n).valid = true) (hdiff : s.sameRgn n v = false)
    (hup : fget v 63 1 = 1) : s.rgnWrite n v = s.set (GL_RGN_STAT.cfg_err n) 1 := by
  simp only [State.rgnWrite, hv, hup, hdiff]
  rfl

/-- The error bit of an entry leaves its description as it was. -/
theorem State.rgn_set_cfg_err (s : State) (n v : Nat) : (s.set (GL_RGN_STAT.cfg_err n) v).rgn n = s.rgn n :=
  State.rgn_set_stat _ _ _ _ rfl (show 17 < 64 by decide)

/-- A freed entry is invalid (R89). -/
theorem State.rgn_valid_freeRgn (s : State) (n : Nat) : ((s.freeRgn n).rgn n).valid = false := by
  rw [State.freeRgn, State.rgn_rtu,
    State.rgn_set_stat _ _ (GL_RGN_STAT.rows n) _ rfl (show 24 < 64 by decide),
    State.rgn_set_stat _ _ (GL_RGN_STAT.free_pending n) _ rfl (show 16 < 64 by decide), State.rgn_set_valid]
  rfl

/-- A written description that passes the checks becomes the entry's, valid, with its row count (R60, R61, R89). -/
theorem regionCfgWrite_validates (n : Fin 64) (v : W64) (s : State) (hv : (s.rgn n).valid = false) (hup : fget v 63 1 = 1)
    (hok : (s.putRgn n v).rgnOk n ((s.putRgn n v).rgn n) = true) :
    ∃ t : State, exec (.regionCfgWrite n v) s = .next t.after ∧ (t.rgn n).valid = true ∧ (t.rgn n).kind = fget v 0 4
      ∧ (t.rgn n).fmt = fget v 4 3 ∧ (t.rgn n).ctx = fget v 10 2 ∧ (t.rgn n).group = fget v 12 6
      ∧ (t.rgn n).slot = fget v 18 4 ∧ (t.rgn n).base = (s.rgn n).base ∧ (t.rgn n).count = (s.rgn n).count
      ∧ t.get (GL_RGN_STAT.rows n) = (t.rgn n).rows % 2 ^ (GL_RGN_STAT.rows n).w := by
  refine ⟨s.rgnWrite n v, rfl, ?_⟩
  rw [State.rgnWrite_validates s n v hv hup hok]
  extract_lets t
  have hn := n.isLt
  have hrgn : t.rgn n = { (s.storeRgn n v).rgn n with valid := true } := by
    rw [← State.rgn_putRgn]; exact State.rgn_validateRgn _ _
  have hrows : t.get (GL_RGN_STAT.rows n) = (t.rgn n).rows % 2 ^ (GL_RGN_STAT.rows n).w := by
    rw [hrgn, ← State.rgn_putRgn]; exact State.rows_validateRgn _ _
  generalize hu : (if t.team (t.rgn n).ctx = tmOFF then t else t.syncTeam (t.rgn n).ctx) = u
  have hget (l : Loc) (h : l.key / 64 < 0x13000) : u.get l = t.get l := by
    rw [← hu]
    split
    · rfl
    · exact State.get_syncTeam_low _ _ _ h
  have hurgn : u.rgn n = t.rgn n := State.rgn_congr _ fun l hl => hget l (by simp only [rgnOff] at hl; omega)
  rw [hurgn, hget (GL_RGN_STAT.rows n) (by simp only [Loc.key, GL_RGN_STAT.rows]; omega), hrows, hrgn, State.rgn_storeRgn]
  exact ⟨rfl, rfl, rfl, rfl, rfl, rfl, rfl, rfl, rfl⟩

/-- Settles O18: each write by the branch of `State.rgnWrite` it takes, and what that branch leaves of the description. -/
theorem regionEntryValidatesAndFrees : Obligations.RegionEntryValidatesAndFrees := by
  unfold Obligations.RegionEntryValidatesAndFrees
  refine ⟨regionCfgWrite_validates, fun n v s hv hup hbad => ⟨?_, ?_⟩, fun n v s hv hsame hdown hteam => ⟨fun h0 => ⟨?_, ?_⟩,
    fun h0 => ⟨?_, ?_⟩⟩, fun n v s hv hdiff hup => ⟨?_, s.rgn_set_cfg_err n 1⟩⟩
  · exact congrArg fin (s.rgnWrite_fails n v hv hup hbad)
  · rw [State.rgn_set_cfg_err, State.rgn_putRgn, State.rgn_storeRgn]; exact hv
  · refine congrArg fin ((s.rgnWrite_clears n v hv hsame hdown).trans ?_)
    simp [State.clearRgn, hteam, h0]
  · exact s.rgn_valid_freeRgn n
  · refine congrArg fin ((s.rgnWrite_clears n v hv hsame hdown).trans ?_)
    simp [State.clearRgn, hteam, h0]
  · rw [State.rgn_set_stat _ _ (GL_RGN_STAT.free_pending n) _ rfl (show 16 < 64 by decide)]; exact hv
  · exact congrArg fin (s.rgnWrite_guarded n v hv hdiff hup)

end Sys2Proof.Machine

namespace Sys2Proof.Machine

/-! ### Hall time over a command's end (R117, R134) -/

/-- A write of another field leaves hall time as it was. -/
theorem State.now_set (s : State) (l : Loc) (v : Nat) (h : l.key / 64 ≠ 0xA000) : (s.set l v).now = s.now :=
  State.get_set_ne _ _ _ _ (by rintro e; exact h (by rw [← e]; rfl))

/-- What every step of a fold over a list keeps, the fold keeps. -/
theorem State.foldl_keeps_mem {α β : Type} (p : State → β) (f : State → α → State) (xs : List α)
    (h : ∀ s, ∀ x ∈ xs, p (f s x) = p s) (s : State) : p (xs.foldl f s) = p s := by
  induction xs generalizing s with
  | nil => rfl
  | cons x xs ih => rw [List.foldl_cons, ih fun s y hy => h s y (by simp [hy]), h s x (by simp)]

/-- A counter's signal takes no time (R112). -/
theorem State.now_signal (s : State) (c g st : Nat) (hc : c < 4) : (s.signal c g st).now = s.now := by
  unfold State.signal
  split
  · rfl
  · dsimp only
    split
    · exact State.now_set _ (GL_EVT.value c (g % 32)) _ (by simp only [Loc.key, GL_EVT.value]; omega)
    · exact State.now_set _ (GL_EVT.poison c (g % 32)) _ (by simp only [Loc.key, GL_EVT.poison]; omega)

/-- An interrupt cause takes no time (R525). -/
theorem State.now_irq (s : State) (v : Nat) : (s.irq v).now = s.now := State.now_set _ _ _ (by decide)

/-- A posted result takes no time (R117). -/
theorem State.now_post (s : State) (c k st f v : Nat) (hc : c < 4) : (s.post c k st f v).now = s.now := by
  unfold State.post
  extract_lets b e s1 s2 s3
  have h2 : s2.now = s.now := by
    simp only [s2]
    split
    · exact State.now_set s1 (GL_CTX_STAT.timeouts c) _ (by simp only [Loc.key, GL_CTX_STAT.timeouts]; omega)
    · rfl
  have h3 : s3.now = s.now := (State.now_signal _ _ _ _ hc).trans h2
  split
  · rw [State.now_irq, h3]
  · exact h3

/-- A region freed takes no time (R89). -/
theorem State.now_freeRgn (s : State) (n : Nat) (hn : n < 64) : (s.freeRgn n).now = s.now := by
  have hrtu (t : State) : (t.rtu n).now = t.now := rfl
  rw [State.freeRgn, hrtu,
    State.now_set _ (GL_RGN_STAT.rows n) _ (by simp only [Loc.key, GL_RGN_STAT.rows]; omega),
    State.now_set _ (GL_RGN_STAT.free_pending n) _ (by simp only [Loc.key, GL_RGN_STAT.free_pending]; omega),
    State.now_set _ (GL_RGN_CFG.valid n) _ (by simp only [Loc.key, GL_RGN_CFG.valid]; omega)]
  exact State.now_set _ DG_POISON.used _ (by decide)

/-- A region's reference given back takes no time (R89). -/
theorem State.now_unhold (s : State) (n : Nat) : (s.unhold n).now = s.now := by
  have hrefs : (s.dec (GL_RGN_STAT.refs (n % 64)) 1).now = s.now :=
    State.now_set _ _ _ (by simp only [Loc.key, GL_RGN_STAT.refs]; omega)
  unfold State.unhold
  dsimp only
  split
  · rw [State.now_freeRgn _ _ (by omega), hrefs]
  · exact hrefs

/-- A slot emptied takes no time (R83). -/
theorem State.now_emptySlot (s : State) (n : Nat) (err : Bool) (hn : n < 16) : (s.emptySlot n err).now = s.now := by
  unfold State.emptySlot
  extract_lets s1 s2 s3 s4 s5 s6
  have h6 : s6.now = s.now := by
    change s5.now = _
    simp only [s5, s4, s3, s2, s1]
    rw [State.now_set _ (TM_STB.pfrags n) _ (by simp only [Loc.key, TM_STB.pfrags]; omega),
      State.now_set _ (TM_STB.stale n) _ (by simp only [Loc.key, TM_STB.stale]; omega),
      State.now_set _ (TM_STB.coded n) _ (by simp only [Loc.key, TM_STB.coded]; omega),
      State.now_set _ (GL_STB_BYTES.bytes n) _ (by simp only [Loc.key, GL_STB_BYTES.bytes]; omega),
      State.now_set _ (GL_STB_SLOT.state n) _ (by simp only [Loc.key, GL_STB_SLOT.state]; omega)]
  split
  · rw [State.now_set _ (GL_STB_SLOT.err n) _ (by simp only [Loc.key, GL_STB_SLOT.err]; omega), h6]
  · exact h6

/-- A slot's reference given back takes no time (R85). -/
theorem State.now_unholdSlot (s : State) (n : Nat) : (s.unholdSlot n).now = s.now := by
  have hrefs : (s.dec (GL_STB_SLOT.refs (n % 16)) 1).now = s.now :=
    State.now_set _ _ _ (by simp only [Loc.key, GL_STB_SLOT.refs]; omega)
  unfold State.unholdSlot
  dsimp only
  split
  · rw [State.foldl_keeps_mem State.now, State.now_emptySlot _ _ _ (by omega), hrefs]
    intro t r hr
    simp only [State.slotRgns, List.mem_filter, List.mem_range] at hr
    exact State.now_freeRgn _ _ hr.1
  · exact hrefs

/-- An overrun noted takes no time (R140). -/
theorem State.now_tickDone (s : State) (j : Job) : (s.tickDone j).now = s.now := by
  unfold State.tickDone
  split
  · rfl
  · split
    · rfl
    · simp only [State.showDebt]
      rw [State.now_set _ (TK_DEBT.oldest_age j.ctx) _ (by simp only [Loc.key, TK_DEBT.oldest_age]; omega),
        State.now_set _ (TK_DEBT.debt j.ctx) _ (by simp only [Loc.key, TK_DEBT.debt]; omega),
        State.now_set _ (TK_OVR.last_ovr j.ctx) _ (by simp only [Loc.key, TK_OVR.last_ovr]; omega)]
      rfl

/-- An interval marked failed takes no time (R91). -/
theorem State.now_failInterval (s : State) (c r : Nat) : (s.failInterval c r).now = s.now := by
  unfold State.failInterval
  split
  · rfl
  · split
    · rfl
    · exact State.now_set s (CM_STAT.failed c) 1 (by simp only [Loc.key, CM_STAT.failed]; omega)

/-- A coverage list cut takes no time (R161). -/
theorem State.now_uncover (s : State) (j : Job) : (s.uncover j).now = s.now := by
  unfold State.uncover
  dsimp only
  split
  · rfl
  · split
    · rfl
    · split <;> rfl

/-- A hall cycle charged is one already counted (R143). -/
theorem State.now_chargeFor (s : State) (cls c : Nat) : (s.chargeFor cls c).now = s.now := by
  unfold State.chargeFor State.charge
  split
  · split
    · exact State.now_set _ (TK_ALLOW.allow c) _ (by simp only [Loc.key, TK_ALLOW.allow]; omega)
    · rfl
  · rfl

/-- A collective's end takes no time (R256). -/
theorem State.now_gsEnded (s : State) (j : Job) (st : Nat) : (s.gsEnded j st).now = s.now := by
  have hgroup : j.gsGroup < 16 := by unfold Job.gsGroup; omega
  have hlate (s : State) (t : Option Nat) : (s.countLate t).now = s.now := by
    unfold State.countLate
    split
    · exact State.now_set _ GS_GSTAT.late_split _ (by decide)
    · rfl
  have hslots (s : State) : (s.syncSlots j.ctx).now = s.now := by
    unfold State.syncSlots
    dsimp only
    rw [State.now_set _ (GS_SLOT_STAT.peak j.ctx) _ (by simp only [Loc.key, GS_SLOT_STAT.peak]; omega),
      State.now_set _ (GS_SLOT_STAT.in_use j.ctx) _ (by simp only [Loc.key, GS_SLOT_STAT.in_use]; omega)]
  unfold State.gsEnded
  split
  · rfl
  · extract_lets c t s1 s2 s3
    have h1 : s1.now = s.now :=
      State.now_set _ (GS_GRP_GCN.running j.ctx j.gsGroup) _ (by simp only [Loc.key, GS_GRP_GCN.running]; omega)
    have h3 : s3.now = s.now := by
      simp only [s3, c, s2, hslots, hlate]
      rw [State.foldl_keeps State.now State.done fun _ _ => rfl, h1]
    split
    · exact h3
    · rw [State.foldl_keeps State.now, h3]
      intro s tr
      rw [State.foldl_keeps State.now]
      intro s i
      exact State.now_chargeFor s j.cls j.ctx

/-- An observation of a device takes no time (R366). -/
theorem State.now_observe (s : State) (subject kind : Nat) : (s.observe subject kind).now = s.now :=
  (Reports.observe s subject kind).fields _ rfl

/-- A command's completion takes no time (R117). -/
theorem State.now_complete (s : State) (j : Job) (st v f : Nat) (hc : j.ctx < 4) : (s.complete j st v f).now = s.now := by
  unfold State.complete
  extract_lets s1 s2 s3 s4 s5 s6 s7 s8 s9 s10 s11 s12 s13
  have h2 : s2.now = s.now := State.now_post s1 _ _ _ _ _ hc
  have h3 : s3.now = s2.now :=
    State.now_set _ (GL_CTX_STAT.running j.ctx) _ (by simp only [Loc.key, GL_CTX_STAT.running]; omega)
  have h4 : s4.now = s3.now := State.foldl_keeps State.now _ State.now_unhold _ _
  have h5 : s5.now = s4.now := State.foldl_keeps State.now _ State.now_unholdSlot _ _
  have h6 : s6.now = s5.now := by
    simp only [s6]
    split
    · exact State.now_set _ (FB_ENG.running j.engine) _ (by simp only [Loc.key, FB_ENG.running]; omega)
    · rfl
  have h7 : s7.now = s6.now := State.now_tickDone _ _
  have h8 : s8.now = s7.now := by
    simp only [s8]
    split
    · exact State.now_failInterval _ _ _
    · rfl
  have h9 : s9.now = s8.now := (State.now_gsEnded _ _ _).trans (State.now_uncover _ _)
  have h10 : s10.now = s9.now := by
    simp only [s10]
    split
    · exact State.now_set _ (GL_UPD_STAT.refused j.ctx) _ (by simp only [Loc.key, GL_UPD_STAT.refused]; omega)
    · rfl
  have h11 : s11.now = s10.now := by
    simp only [s11]
    split
    · split
      · exact State.now_observe _ _ _
      · rfl
    · rfl
  have h12 : s12.now = s11.now := by
    simp only [s12]
    split
    · exact State.now_observe _ _ _
    · rfl
  have h13 : s13.now = s12.now := by
    simp only [s13]
    split
    · exact State.now_set _ (DR_STAT.last_status j.ctx) _ (by simp only [Loc.key, DR_STAT.last_status]; omega)
    · rfl
  have hall : s13.now = s.now := by rw [h13, h12, h11, h10, h9, h8, h7, h6, h5, h4, h3, h2]
  split
  · rw [State.now_emptySlot _ _ _ (by omega), hall]
  · exact hall

end Sys2Proof.Machine

namespace Sys2Proof.Machine

/-! ### Collections and the resets they end in (R366, R370, R373, R412) -/

/-- With no collection under way one starts now, and waits for armed flips (R373). -/
theorem State.startColl_none (s : State) (reason : Nat) (a : Reset) (h : s.rec_.coll = none) :
    (s.startColl reason a).rec_.coll = some ⟨reason, a, s.now, true⟩ := by
  simp only [State.startColl, h, State.now_observe]
  rfl

/-- A collection under way goes on; a block reset asked for follows it (R412). -/
theorem State.startColl_some (s : State) (reason : Nat) (a : Reset) (k : CollS) (h : s.rec_.coll = some k) :
    (s.startColl reason a).rec_.coll = some (if a = .block then { k with after := a } else k) := by
  simp only [State.startColl, h]
  split
  · rfl
  · exact h

/-- A collection's start counts its report and changes no other field (R366). -/
theorem State.get_startColl (s : State) (reason : Nat) (a : Reset) (l : Loc) (h : reportOff (l.key / 64) = false) :
    (s.startColl reason a).get l = s.get l := by
  unfold State.startColl
  split
  · split <;> rfl
  · exact (Reports.observe s s.self 6).fields l h

/-- A watchdog period that has passed in a block that runs and collects nothing (R369). -/
structure WatchdogDue (s : State) : Prop where
  coll : s.rec_.coll = none
  up : s.rec_.seqDown = false
  filled : s.is DG_FILL.done = true
  due : s.rec_.kickAt + 2 * s.get DG_WDT.period ≤ s.now

/-- WATCHDOG_EXPIRY then starts a collection of reason 4 within esc of the watchdog's last restart, else of reason 1. -/
theorem exec_watchdogExpiry_due (s : State) (h : WatchdogDue s) :
    exec .watchdogExpiry s = match s.rec_.restartAt with
      | some t => if s.now ≤ t + s.get DG_WDT.esc then .next (s.startColl 4 .block).after else .next (s.startColl 1 .seq).after
      | none => .next (s.startColl 1 .seq).after := by
  have hmet : ¬ (s.rec_.coll.isSome = true ∨ s.rec_.seqDown = true ∨ ¬ s.is DG_FILL.done = true ∨
      s.now < s.rec_.kickAt + 2 * s.get DG_WDT.period) := by
    have := h.due
    simp [h.coll, h.up, h.filled]; omega
  exact if_neg hmet

/-- Away from the watchdog's last restart a silent period starts a collection before a restart (R369). -/
theorem watchdogExpiry_restarts (s : State) (h : WatchdogDue s)
    (hesc : ∀ t, s.rec_.restartAt = some t → t + s.get DG_WDT.esc < s.now) :
    exec .watchdogExpiry s = .next (s.startColl 1 .seq).after := by
  rw [exec_watchdogExpiry_due s h]
  cases hr : s.rec_.restartAt with
  | none => rfl
  | some t => exact if_neg (by have := hesc t hr; omega)

/-- Within esc of it a silent period starts a collection before a block reset (R369). -/
theorem watchdogExpiry_resets (s : State) (r : Nat) (h : WatchdogDue s) (hr : s.rec_.restartAt = some r)
    (hesc : s.now ≤ r + s.get DG_WDT.esc) : exec .watchdogExpiry s = .next (s.startColl 4 .block).after := by
  rw [exec_watchdogExpiry_due s h, hr]
  exact if_pos hesc

/-- WATCHDOG_EXPIRY at any other time changes nothing (R369, R412). -/
theorem exec_watchdogExpiry_ignored (s : State) (h : s.rec_.coll ≠ none ∨ s.rec_.seqDown = true ∨ s.is DG_FILL.done = false
    ∨ s.now < s.rec_.kickAt + 2 * s.get DG_WDT.period) : exec .watchdogExpiry s = .next s :=
  if_pos (by simpa [Option.isSome_iff_ne_none] using h)

/-- SEQUENCER_RESTART sets its bit and starts a collection unless one is under way (R370, R412). -/
theorem sequencerRestart_collects (s : State) (hup : s.rec_.seqDown = false) (hseq : s.is DG_RST_CTL.seq = false) :
    let t := (s.set DG_RST_CTL.seq 1).startColl 2 .seq
    exec .sequencerRestart s = .next t.after ∧ t.is DG_RST_CTL.seq = true
      ∧ t.rec_.coll = some (s.rec_.coll.getD ⟨2, .seq, s.now, true⟩) := by
  refine ⟨if_neg (by simp [hup, hseq]), ?_, ?_⟩
  · rw [State.is, State.get_startColl _ _ _ _ rfl, State.get_set_same]; rfl
  · cases hc : s.rec_.coll with
    | none => rw [State.startColl_none _ _ _ (by exact hc), State.now_set _ _ _ (by decide)]; rfl
    | some k => exact State.startColl_some _ _ _ k hc

/-- BLOCK_RESET sets its bit and starts a collection, or makes the reset follow the one under way (R370, R412). -/
theorem blockReset_collects (s : State) (hblock : s.is DG_RST_CTL.block = false) :
    let t := (s.set DG_RST_CTL.block 1).startColl 2 .block
    exec .blockReset s = .next t.after ∧ t.is DG_RST_CTL.block = true
      ∧ t.rec_.coll = some (match s.rec_.coll with
          | some k => { k with after := .block }
          | none => ⟨2, .block, s.now, true⟩) := by
  refine ⟨if_neg (by simp [hblock]), ?_, ?_⟩
  · rw [State.is, State.get_startColl _ _ _ _ rfl, State.get_set_same]; rfl
  · cases hc : s.rec_.coll with
    | none => rw [State.startColl_none _ _ _ (by exact hc), State.now_set _ _ _ (by decide)]
    | some k => exact State.startColl_some _ _ _ k hc

/-- COLLECTION_END goes on to the reset once the record is written or its time has passed (R373). -/
theorem exec_collectionEnd_due (s : State) (k : CollS) (hc : s.rec_.coll = some k) (hw : k.waiting = false)
    (hd : s.is DG_COLL_SUM.complete = true ∨ k.start + 15625 ≤ s.now) :
    exec .collectionEnd s = .next (s.afterColl k).after := by
  simp only [exec, execCollectionEnd, hc]
  exact if_pos ⟨by simp [hw], hd⟩

/-- Before that it changes nothing (R373). -/
theorem exec_collectionEnd_ignored (s : State) (h : ∀ k, s.rec_.coll = some k → k.waiting = true
    ∨ (s.is DG_COLL_SUM.complete = false ∧ s.now < k.start + 15625)) : exec .collectionEnd s = .next s := by
  simp only [exec, execCollectionEnd]
  cases hc : s.rec_.coll with
  | none => rfl
  | some k =>
    refine if_neg fun ⟨hw, hd⟩ => ?_
    obtain hwait | ⟨hcomp, hnow⟩ := h k hc
    · exact hw hwait
    · rw [hcomp] at hd
      simp at hd
      omega

/-! ### The sequencer's restart (R370, R412) -/

/-- What takes no time and leaves the watchdog's last restart as it was. -/
structure KeepsWatchdog (s t : State) : Prop where
  now : t.now = s.now
  restartAt : t.rec_.restartAt = s.rec_.restartAt

/-- A fold of such changes over a list is one. -/
theorem KeepsWatchdog.foldl {α : Type} (f : State → α → State) (xs : List α)
    (h : ∀ s, ∀ x ∈ xs, KeepsWatchdog s (f s x)) (s : State) : KeepsWatchdog s (xs.foldl f s) :=
  ⟨State.foldl_keeps_mem State.now f xs (fun s x hx => (h s x hx).now) s,
   State.foldl_keeps_mem (fun t => t.rec_.restartAt) f xs (fun s x hx => (h s x hx).restartAt) s⟩

/-- A queued command belongs to one of the four contexts. -/
theorem Job.ctx_lt_of_isCommand (j : Job) (h : j.isCommand = true) : j.ctx < 4 := by
  unfold Job.isCommand at h
  split at h
  · simp only [Bool.and_eq_true, beq_iff_eq, decide_eq_true_eq] at h
    omega
  · cases h

/-- A running command's early end is such a change (R123). -/
theorem KeepsWatchdog.endCmd (s : State) (j : Job) (st : Nat) (hc : j.ctx < 4) : KeepsWatchdog s (s.endCmd j st) := by
  unfold State.endCmd
  split
  · exact ⟨State.now_complete _ _ _ _ _ hc, (State.complete_part s j _ _ _ hc).1.ra⟩
  · exact ⟨rfl, rfl⟩

/-- What every step of a fold brings about for its own element, and keeps for the others, holds after the fold. -/
theorem State.foldl_establishes {α : Type} (P : α → State → Prop) (f : State → α → State) (hset : ∀ s x, P x (f s x))
    (hkeep : ∀ s x y, P y s → P y (f s x)) (xs : List α) (s : State) : ∀ x ∈ xs, P x (xs.foldl f s) := by
  have hrest (x : α) (ys : List α) : ∀ t, P x t → P x (ys.foldl f t) := by
    induction ys with
    | nil => exact fun _ h => h
    | cons y ys ih => exact fun t h => ih _ (hkeep t y x h)
  induction xs generalizing s with
  | nil => simp
  | cons y ys ih =>
    intro x hx
    rcases List.mem_cons.mp hx with rfl | hx
    · exact hrest x ys _ (hset s x)
    · exact ih _ x hx

/-- An entry of the inbound report table emptied (R368). -/
def State.clearRin (s : State) (i : Nat) : State :=
  let s := ((s.set (DG_RIN_ID.subject i) 0).set (DG_RIN_ID.kind i) 0).set (DG_RIN_ID.msgs i) 0
  ((s.set (DG_RIN_ID.valid i) 0).set (DG_RIN_CNT.count i) 0).set (DG_RIN_T.first i) 0

/-- The registers of the inbound report table lie above 0x17100. -/
theorem State.get_clearRin_low (s : State) (i : Nat) (l : Loc) (h : l.key / 64 < 0x17100) :
    (s.clearRin i).get l = s.get l := by
  have hne (m : Loc) (hm : 0x17100 ≤ m.off) : l.key ≠ m.key := by simp only [Loc.key] at h ⊢; omega
  simp only [State.clearRin, State.get_set_ne _ _ _ _ (hne (DG_RIN_ID.subject i) (by simp only [DG_RIN_ID.subject]; omega)),
    State.get_set_ne _ _ _ _ (hne (DG_RIN_ID.kind i) (by simp only [DG_RIN_ID.kind]; omega)),
    State.get_set_ne _ _ _ _ (hne (DG_RIN_ID.msgs i) (by simp only [DG_RIN_ID.msgs]; omega)),
    State.get_set_ne _ _ _ _ (hne (DG_RIN_ID.valid i) (by simp only [DG_RIN_ID.valid]; omega)),
    State.get_set_ne _ _ _ _ (hne (DG_RIN_CNT.count i) (by simp only [DG_RIN_CNT.count]; omega)),
    State.get_set_ne _ _ _ _ (hne (DG_RIN_T.first i) (by simp only [DG_RIN_T.first]; omega))]

/-- An emptied entry is invalid, and no other entry becomes valid by it. -/
theorem State.valid_clearRin (s : State) (i k : Nat) :
    (s.clearRin i).get (DG_RIN_ID.valid k) = if k = i then 0 else s.get (DG_RIN_ID.valid k) := by
  have hne (m : Loc) (ho : m.off = 0x17100 + 0x20 * i ∨ m.off = 0x17108 + 0x20 * i ∨ m.off = 0x17110 + 0x20 * i)
      (hlo : m.lo < 63) : (DG_RIN_ID.valid k).key ≠ m.key := by
    simp only [Loc.key, DG_RIN_ID.valid]; omega
  rw [State.clearRin, State.get_set_ne _ _ _ _ (hne (DG_RIN_T.first i) (.inr (.inr rfl)) (show 0 < 63 by decide)),
    State.get_set_ne _ _ _ _ (hne (DG_RIN_CNT.count i) (.inr (.inl rfl)) (show 0 < 63 by decide))]
  split
  · next h => subst h; exact State.get_set_same _ _ _
  · next h =>
    rw [State.get_set_ne _ _ _ _ (by simp only [Loc.key, DG_RIN_ID.valid]; omega),
      State.get_set_ne _ _ _ _ (hne (DG_RIN_ID.msgs i) (.inl rfl) (show 32 < 63 by decide)),
      State.get_set_ne _ _ _ _ (hne (DG_RIN_ID.kind i) (.inl rfl) (show 16 < 63 by decide)),
      State.get_set_ne _ _ _ _ (hne (DG_RIN_ID.subject i) (.inl rfl) (show 0 < 63 by decide))]

/-- A context's pending decision query forgotten (R328, R370). -/
def State.forgetQuery (s : State) (c : Nat) : State := s.setCm c { s.cmAt c with queryAt := none }

/-- The work that a sequencer's restart ends: an activation that waits, and the running class 2 commands (R370, R499). -/
def State.endForRestart (s : State) : State :=
  let t := if s.get GL_FW_STAT.state = 4 then (s.set GL_FW_STAT.state 3).fwRelease else s
  (t.jobs.filter fun j => j.isCommand && j.cls == 2 && j.ending.isNone).foldl (fun s j => s.endCmd j stINTERNAL) t

/-- Both report tables emptied (R367, R368, R370). -/
def State.clearReports (s : State) : State :=
  ((List.range 256).foldl State.clearRin (s.setReps [])).set DG_RIN_STAT.entries 0

/-- A sequencer's restart, part by part (R370). -/
theorem State.seqRestart_eq (s : State) (watchdog : Bool) :
    s.seqRestart watchdog = (let t := (List.range 4).foldl State.forgetQuery s.endForRestart.clearReports
      t.setRec { t.rec_ with seqDown := true, seqStop := false, coll := none,
                             restartAt := if watchdog then some t.now else t.rec_.restartAt }) := rfl

/-- The commands' end is a change that the watchdog does not see. -/
theorem KeepsWatchdog.endForRestart (s : State) : KeepsWatchdog s s.endForRestart := by
  unfold State.endForRestart
  extract_lets t
  have hfw : KeepsWatchdog s t := by
    simp only [t]
    split
    · exact ⟨(State.now_set _ GL_FW_CTL.activate 0 (by decide)).trans (State.now_set _ GL_FW_STAT.state 3 (by decide)), rfl⟩
    · exact ⟨rfl, rfl⟩
  have hcmds := KeepsWatchdog.foldl (fun s j => s.endCmd j stINTERNAL)
    (t.jobs.filter fun j => j.isCommand && j.cls == 2 && j.ending.isNone) (fun u j hj => by
      simp only [List.mem_filter, Bool.and_eq_true] at hj
      exact .endCmd u j _ (Job.ctx_lt_of_isCommand j hj.2.1.1)) t
  exact ⟨hcmds.now.trans hfw.now, hcmds.restartAt.trans hfw.restartAt⟩

/-- Emptied report tables, beside which recovery's hidden state and hall time are as they were. -/
theorem State.clearReports_empties (s : State) :
    s.clearReports.rec_ = { s.rec_ with reps := [] } ∧ s.clearReports.now = s.now
      ∧ s.clearReports.get DG_RIN_STAT.entries = 0 ∧ ∀ i < 256, s.clearReports.get (DG_RIN_ID.valid i) = 0 := by
  have hreps : (s.setReps []).rec_ = { s.rec_ with reps := [] } := rfl
  have hnow : (s.setReps []).now = s.now := State.now_set _ DG_REP_STAT.in_use _ (by decide)
  unfold State.clearReports
  refine ⟨?_, ?_, State.get_set_same _ _ _, fun i hi => ?_⟩
  · rw [State.set_rec, State.foldl_keeps State.rec_ State.clearRin fun _ _ => rfl, hreps]
  · rw [State.now_set _ _ _ (by decide), State.foldl_keeps State.now State.clearRin fun _ _ =>
      State.get_clearRin_low _ _ _ (by decide), hnow]
  · rw [State.get_set_ne _ _ _ _ (by simp only [Loc.key, DG_RIN_ID.valid, DG_RIN_STAT.entries]; omega)]
    exact State.foldl_establishes (fun i t => t.get (DG_RIN_ID.valid i) = 0) State.clearRin
      (fun t i => by rw [State.valid_clearRin, if_pos rfl]) (fun t k i hi => by rw [State.valid_clearRin, hi, ite_self])
      _ _ i (List.mem_range.mpr hi)

/-- Forgotten queries are hidden state of the commit engine alone. -/
theorem State.forgetQueries_keeps (s : State) (cs : List Nat) :
    (cs.foldl State.forgetQuery s).rec_ = s.rec_ ∧ (cs.foldl State.forgetQuery s).regs = s.regs :=
  ⟨State.foldl_keeps State.rec_ State.forgetQuery (fun _ _ => rfl) cs s,
   State.foldl_keeps State.regs State.forgetQuery (fun _ _ => rfl) cs s⟩

/-- The sequencer is down for a restart: no collection, the report tables empty, and a watchdog's restart noted
(R368, R369, R370). -/
theorem State.seqRestart_stops (s : State) (watchdog : Bool) :
    let t := s.seqRestart watchdog
    t.rec_.seqDown = true ∧ t.rec_.coll = none ∧ t.rec_.reps = []
      ∧ t.rec_.restartAt = (if watchdog then some s.now else s.rec_.restartAt) ∧ t.get DG_RIN_STAT.entries = 0
      ∧ ∀ i < 256, t.is (DG_RIN_ID.valid i) = false := by
  obtain ⟨hnow, hat⟩ := KeepsWatchdog.endForRestart s
  obtain ⟨hreps, hnow', hentries, hvalid⟩ := s.endForRestart.clearReports_empties
  obtain ⟨hrec, hregs⟩ := s.endForRestart.clearReports.forgetQueries_keeps (List.range 4)
  rw [State.seqRestart_eq]
  generalize List.foldl State.forgetQuery s.endForRestart.clearReports (List.range 4) = u at *
  have hget (l : Loc) : u.get l = s.endForRestart.clearReports.get l := by rw [State.get, hregs]; rfl
  have huNow : u.now = s.now := (hget TK_HT_NOW.now).trans (hnow'.trans hnow)
  simp only [State.setRec_rec, State.is, State.get_setRec, hget, hentries, huNow, hrec, hreps, hat, true_and]
  exact fun i hi => by rw [hvalid i hi]; rfl

/-- A collection before a restart ends with the sequencer down (R370, R373). -/
theorem collectionEnd_restarts (s : State) (k : CollS) (hc : s.rec_.coll = some k) (hw : k.waiting = false)
    (ha : k.after = .seq) (hd : s.is DG_COLL_SUM.complete = true ∨ k.start + 15625 ≤ s.now) :
    let t := s.afterColl k
    exec .collectionEnd s = .next t.after ∧ t.rec_.seqDown = true ∧ t.rec_.coll = none ∧ t.rec_.reps = []
      ∧ t.rec_.restartAt = (if k.reason = 1 then some s.now else s.rec_.restartAt) ∧ t.get DG_RIN_STAT.entries = 0
      ∧ (∀ i < 256, t.is (DG_RIN_ID.valid i) = false) := by
  have hseq : s.afterColl k = s.seqRestart (k.reason == 1) := by simp only [State.afterColl, ha]
  obtain ⟨hdown, hcoll, hreps, hat, hentries, hvalid⟩ := s.seqRestart_stops (k.reason == 1)
  refine ⟨exec_collectionEnd_due s k hc hw hd, ?_⟩
  rw [hseq]
  exact ⟨hdown, hcoll, hreps, by simpa using hat, hentries, hvalid⟩

/-! ### The block reset after a collection (R12, R370, R415) -/

/-- A block reset leaves nothing running, MPnn_RST high and the pending commands as they were (R370, R523). -/
theorem State.blockReset_rest (s : State) (cause : Nat) :
    (s.blockReset cause).mem.resetHigh = true ∧ (s.blockReset cause).jobs = [] ∧ (s.blockReset cause).pending = s.pending := by
  have hmem : (s.resetTo (fun o => meterOff o || collOff o) cause).mem.resetHigh = true := by
    rw [(s.resetTo_resamples _ cause).rest]; rfl
  have hjobs := s.resetTo_jobs (fun o => meterOff o || collOff o) cause
  have hpending := s.resetTo_pending (fun o => meterOff o || collOff o) cause
  rw [State.blockReset]
  generalize s.resetTo (fun o => meterOff o || collOff o) cause = u at *
  rw [(State.creditAll_drives u).rest]
  exact ⟨hmem, hjobs, hpending⟩

/-- The fields of a context that a block reset clears. -/
theorem clearedField_context_block : ∀ c < 4, clearedField (fun o => meterOff o || collOff o) (GL_CTX_STAT.state c) = true
    ∧ clearedField (fun o => meterOff o || collOff o) (TM_STAT.state c) = true
    ∧ clearedField (fun o => meterOff o || collOff o) (CM_STAT.phase c) = true := by decide

/-- A field that a block reset clears holds its reset value (R12). -/
theorem State.get_blockReset_cleared (s : State) (cause : Nat) (l : Loc)
    (h : clearedField (fun o => meterOff o || collOff o) l = true) : (s.blockReset cause).get l = l.rst := by
  rw [State.get_blockReset, State.get_resetTo_cleared _ _ _ _ h]

/-- A register of the collect summary keeps its value over a block reset (R370). -/
theorem State.get_blockReset_coll (s : State) (cause : Nat) (l : Loc) (h : collOff (l.key / 64) = true) :
    (s.blockReset cause).get l = s.get l := by
  have hpins : resampled (l.key / 64) = false := by simp [collOff] at h; simp [resampled]; omega
  have hcause : l.key ≠ GL_RST_STAT.cause.key := by
    rintro e
    rw [e] at h
    exact absurd h (by decide)
  rw [State.get_blockReset, State.get_resetTo _ _ _ _ hpins hcause, h, Bool.or_true]
  rfl

/-- A collection before a block reset ends with the block in its reset state, the meter and the collect summary as they
were (R370, R373, R415). -/
theorem collectionEnd_resets (s : State) (k : CollS) (hc : s.rec_.coll = some k) (hw : k.waiting = false)
    (ha : k.after = .block) (hd : s.is DG_COLL_SUM.complete = true ∨ k.start + 15625 ≤ s.now) :
    let t := s.afterColl k
    exec .collectionEnd s = .next t.after ∧ t.get GL_RST_STAT.cause = 1 ∧ t.get DG_FILL.done = 0
      ∧ t.mem.resetHigh = true ∧ t.jobs = [] ∧ (∀ c < 4, t.ctxState c = 0 ∧ t.team c = tmOFF ∧ t.phase c = phOPEN)
      ∧ t.get DG_COLL_SUM.reason = s.get DG_COLL_SUM.reason ∧ t.get DG_COLL_SUM.valid = s.get DG_COLL_SUM.valid
      ∧ t.meter = s.meter ∧ t.pending = s.pending := by
  have hblock : s.afterColl k = s.blockReset 1 := by simp only [State.afterColl, ha]
  obtain ⟨hrst, hjobs, hpending⟩ := s.blockReset_rest 1
  refine ⟨exec_collectionEnd_due s k hc hw hd, ?_⟩
  rw [hblock]
  refine ⟨?_, s.get_blockReset_cleared 1 _ rfl, hrst, hjobs, fun c hc => ?_, s.get_blockReset_coll 1 _ rfl,
    s.get_blockReset_coll 1 _ rfl, s.blockReset_meter 1, hpending⟩
  · rw [State.get_blockReset, State.get_resetTo_cause]
  · obtain ⟨hctx, hteam, hphase⟩ := clearedField_context_block c hc
    exact ⟨s.get_blockReset_cleared 1 _ hctx, s.get_blockReset_cleared 1 _ hteam, s.get_blockReset_cleared 1 _ hphase⟩

end Sys2Proof.Machine

namespace Sys2Proof.Machine

/-! ### The end of the sequencer's restart (R370, R412, R495, R496) -/

/-- What leaves recovery's hidden state, a waiting NMT reset and DG_RST_CTL.seq as they were. -/
structure KeepsRestart (s t : State) : Prop where
  recovery : t.rec_ = s.rec_
  restart : t.mgmt.restart = s.mgmt.restart
  seq : t.get DG_RST_CTL.seq = s.get DG_RST_CTL.seq

/-- Nothing done is such a change. -/
theorem KeepsRestart.refl (s : State) : KeepsRestart s s := ⟨rfl, rfl, rfl⟩

/-- Two such changes are one. -/
theorem KeepsRestart.trans {s t u : State} (h : KeepsRestart s t) (k : KeepsRestart t u) : KeepsRestart s u :=
  ⟨k.recovery.trans h.recovery, k.restart.trans h.restart, k.seq.trans h.seq⟩

/-- A write of another field is one. -/
theorem KeepsRestart.set (s : State) (l : Loc) (v : Nat) (h : DG_RST_CTL.seq.key ≠ l.key) : KeepsRestart s (s.set l v) :=
  ⟨rfl, rfl, State.get_set_ne _ _ _ _ h⟩

/-- A fold of such changes is one. -/
theorem KeepsRestart.foldl {α : Type} (f : State → α → State) (h : ∀ s x, KeepsRestart s (f s x)) (xs : List α) (s : State) :
    KeepsRestart s (xs.foldl f s) := by
  induction xs generalizing s with
  | nil => exact .refl s
  | cons x xs ih => exact (h s x).trans (ih _)

/-- A frame of the management node is one (R472). -/
theorem KeepsRestart.canSend0 (s : State) (base : Nat) (data : List Byte) : KeepsRestart s (s.canSend0 base data) := by
  unfold State.canSend0
  split
  · exact .trans (t := s.emit _) ⟨rfl, rfl, rfl⟩
      (.trans (.set _ GL_MG_STAT.tec _ (by decide)) (.set _ GL_MG_STAT.passive _ (by decide)))
  · exact .refl s

/-- The node joining its bus is one (R477). -/
theorem KeepsRestart.busJoin (s : State) : KeepsRestart s s.busJoin := by
  unfold State.busJoin
  extract_lets t m u
  have ht : KeepsRestart s t := .set s GL_MG_STAT.nmt 1 (by decide)
  have hu : KeepsRestart t u := ⟨rfl, rfl, rfl⟩
  exact (ht.trans hu).trans (.canSend0 _ _ _)

/-- The node leaving its bus is one (R474). -/
theorem KeepsRestart.busLeave (s : State) : KeepsRestart s s.busLeave :=
  .trans (.set s GL_MG_STAT.nmt 0 (by decide)) ⟨rfl, rfl, rfl⟩

/-- A staged image forgotten is one (R495). -/
theorem KeepsRestart.fwUnstage (s : State) : KeepsRestart s s.fwUnstage :=
  .trans (.trans (.set s GL_FW_VER.staged 0 (by decide)) (.set _ GL_FW_LVL.stg_lo 0 (by decide)))
    (.trans (.set _ GL_FW_LVL.stg_hi 0 (by decide)) ⟨rfl, rfl, rfl⟩)

/-- An activation released is one (R495). -/
theorem KeepsRestart.fwRelease (s : State) : KeepsRestart s s.fwRelease :=
  .trans (.set s GL_FW_CTL.activate 0 (by decide)) ⟨rfl, rfl, rfl⟩

/-- An activation's end is one (R495). -/
theorem KeepsRestart.fwBegin (s : State) : KeepsRestart s s.fwBegin := by
  unfold State.fwBegin
  extract_lets s1 s2 s3 s4 s5
  have h2 : KeepsRestart s s2 := .trans (.set s GL_FW_VER.running _ (by decide))
    (.trans (.set s1 GL_FW_LVL.run_lo _ (by decide)) (.set _ GL_FW_LVL.run_hi _ (by decide)))
  have h3 : KeepsRestart s2 s3 := by
    simp only [s3]
    split
    · exact .set _ GL_FW_LVL.level _ (by decide)
    · exact .refl _
  have h4 : KeepsRestart s3 s4 := .trans (.set _ GL_FW_STAT.state _ (by decide))
    (.trans (.set _ GL_FW_STAT.status _ (by decide)) (.set _ GL_IRQ_STAT.cause _ (by decide)))
  have h5 : KeepsRestart s s5 := .trans (h2.trans (h3.trans h4)) (.trans (.fwUnstage _) (.fwRelease _))
  split
  · exact h5.trans (.busJoin _)
  · exact h5

/-- The running image given up is one (R496). -/
theorem KeepsRestart.fwGone (s : State) : KeepsRestart s s.fwGone := by
  unfold State.fwGone
  extract_lets s1 s2 m s3
  have h1 : KeepsRestart s s1 := .trans
    (.trans (.set s GL_FW_VER.running 0 (by decide)) (.set _ GL_FW_LVL.run_lo 0 (by decide)))
    (.trans (.set _ GL_FW_LVL.run_hi 0 (by decide)) (.set _ GL_FW_STAT.status _ (by decide)))
  have h2 : KeepsRestart s1 s2 := by
    simp only [s2]
    split
    · exact .set _ GL_FW_STAT.state _ (by decide)
    · exact .refl _
  clear_value s1 s2
  have h3 : KeepsRestart s s3 := (h1.trans h2).trans ⟨rfl, rfl, rfl⟩
  split
  · exact h3
  · exact h3.trans (.busLeave _)

/-- The running image reloaded is one (R496). -/
theorem KeepsRestart.fwReload (s : State) (image : List Byte) : KeepsRestart s (s.fwReload image) := by
  unfold State.fwReload
  split
  · split
    · exact .set _ GL_FW_STAT.status _ (by decide)
    · exact .fwGone s
  · exact .refl s

/-- A REPORT merged into the inbound table is one (R368). -/
theorem KeepsRestart.mergeReport (s : State) (m : Msg) : KeepsRestart s (s.mergeReport m) := by
  have hseq (l : Loc) (ho : 0x17100 ≤ l.off) : DG_RST_CTL.seq.key ≠ l.key := by
    simp only [Loc.key, DG_RST_CTL.seq]; omega
  unfold State.mergeReport
  dsimp only
  split
  · exact .refl s
  · split
    · next i _ =>
      exact .trans (.set s (DG_RIN_ID.msgs i) _ (hseq _ (by simp only [DG_RIN_ID.msgs]; omega)))
        (.trans (.set _ (DG_RIN_CNT.count i) _ (hseq _ (by simp only [DG_RIN_CNT.count]; omega)))
          (.set _ (DG_RIN_T.first i) _ (hseq _ (by simp only [DG_RIN_T.first]; omega))))
    · split
      · next i _ =>
        have hid : KeepsRestart s (((s.set (DG_RIN_ID.subject i) (m.at_ 0 2)).set (DG_RIN_ID.kind i) (m.at_ 2 1)).set
            (DG_RIN_ID.msgs i) 1) :=
          .trans (.set s _ _ (hseq _ (by simp only [DG_RIN_ID.subject]; omega)))
            (.trans (.set _ _ _ (hseq _ (by simp only [DG_RIN_ID.kind]; omega)))
              (.set _ _ _ (hseq _ (by simp only [DG_RIN_ID.msgs]; omega))))
        exact hid.trans (.trans (.trans (.set _ (DG_RIN_ID.valid i) _ (hseq _ (by simp only [DG_RIN_ID.valid]; omega)))
          (.trans (.set _ (DG_RIN_CNT.count i) _ (hseq _ (by simp only [DG_RIN_CNT.count]; omega)))
            (.set _ (DG_RIN_T.first i) _ (hseq _ (by simp only [DG_RIN_T.first]; omega)))))
          (.trans (.set _ DG_RIN_STAT.entries _ (by decide)) (.set _ GL_IRQ_STAT.cause _ (by decide))))
      · exact .set _ DG_RIN_STAT.overflow _ (by decide)

/-- The sequencer up again: the watchdog counts from now and no report waits (R369, R370, R412). -/
def State.seqUp (s : State) : State :=
  (s.setRec { s.rec_ with seqDown := false, kickAt := s.now, waiting := [] }).set DG_RST_CTL.seq 0

/-- Its image begins or is loaded again (R495, R496). -/
def State.fwResume (s : State) (image : List Byte) : State :=
  if s.get GL_FW_STAT.state = 5 then s.fwBegin else s.fwReload image

/-- The reports that waited are merged and leave their buffer (R368, R412). -/
def State.takeWaiting (s : State) (ws : List Msg) : State := ws.foldl (fun s m => (s.mergeReport m).done m) s

/-- A heartbeat that fell due meanwhile is sent (R476, R499). -/
def State.lateHeartbeat (s : State) : State :=
  if s.mgmt.hbDue then (s.setMgmt { s.mgmt with hbDue := false }).heartbeatFrame else s

/-- SEQUENCER_RESTART_DONE of a sequencer that is down (R370, R412, R495, R496, R499). -/
theorem exec_sequencerRestartDone_down (image : List Byte) (s : State) (hdown : s.rec_.seqDown = true) :
    exec (.sequencerRestartDone image) s =
      (let t := ((s.seqUp.fwResume image).takeWaiting s.rec_.waiting).lateHeartbeat
       if t.mgmt.restart then fin ((t.setMgmt { t.mgmt with restart := false }).startColl 3 .block) else fin t) :=
  if_neg (by simp [hdown])

/-- Its image beginning or loaded again is a change that the restart's end does not see. -/
theorem KeepsRestart.fwResume (s : State) (image : List Byte) : KeepsRestart s (s.fwResume image) := by
  unfold State.fwResume
  split
  · exact .fwBegin s
  · exact .fwReload s image

/-- Reports merged are one. -/
theorem KeepsRestart.takeWaiting (s : State) (ws : List Msg) : KeepsRestart s (s.takeWaiting ws) :=
  .foldl (fun s m => (s.mergeReport m).done m) (fun s m => .trans (.mergeReport s m) ⟨rfl, rfl, rfl⟩) ws s

/-- A late heartbeat is one. -/
theorem KeepsRestart.lateHeartbeat (s : State) : KeepsRestart s s.lateHeartbeat := by
  unfold State.lateHeartbeat
  split
  · exact .trans (t := s.setMgmt { s.mgmt with hbDue := false }) ⟨rfl, rfl, rfl⟩ (.canSend0 _ _ _)
  · exact .refl s

/-- The end of a restart lets the sequencer run again: no report waits, the watchdog counts anew (R369, R370, R412). -/
theorem sequencerRestartDone_runs (image : List Byte) (s : State) (hdown : s.rec_.seqDown = true)
    (hnmt : s.mgmt.restart = false) :
    ∃ t : State, exec (.sequencerRestartDone image) s = .next t.after ∧ t.rec_.seqDown = false ∧ t.rec_.waiting = []
      ∧ t.rec_.kickAt = s.now ∧ t.is DG_RST_CTL.seq = false := by
  have hkeeps := ((KeepsRestart.fwResume s.seqUp image).trans (.takeWaiting _ s.rec_.waiting)).trans (.lateHeartbeat _)
  have hexec := exec_sequencerRestartDone_down image s hdown
  generalize ((s.seqUp.fwResume image).takeWaiting s.rec_.waiting).lateHeartbeat = t at hkeeps hexec
  obtain ⟨hrec, hrestart, hseq⟩ := hkeeps
  have hup : s.seqUp.rec_ = { s.rec_ with seqDown := false, kickAt := s.now, waiting := [] } := rfl
  have hnone : t.mgmt.restart = false := hrestart.trans hnmt
  rw [hup] at hrec
  refine ⟨t, hexec.trans (if_neg (by simp [hnone])), by rw [hrec], by rw [hrec], by rw [hrec], ?_⟩
  have hbit : s.seqUp.get DG_RST_CTL.seq = 0 := State.get_set_same _ _ _
  rw [State.is, hseq, hbit]
  rfl

/-! ### The end of the fill (R73, R415, R511, R523) -/

/-- A channel's state set only resamples (R73, R525). -/
theorem Resamples.setChan (s : State) (n j v : Nat) : Resamples s (s.setChan n j v) := by
  rw [State.setChan_eq]
  split
  · exact .refl s
  · exact .trans (.set s (SL_CHAN_STATE.chan n) _ (resampled_slice _ (by simp only [SL_CHAN_STATE.chan]; omega))) (.irq _ 22)

/-- What changes only resampled registers, channels' lists and faults, the ports and the management node. -/
structure Refills (s t : State) : Prop where
  fields : ∀ l : Loc, resampled (l.key / 64) = false → t.get l = s.get l
  recovery : t.rec_ = s.rec_
  resetHigh : t.mem.resetHigh = s.mem.resetHigh

/-- A resampling is such a change. -/
theorem Resamples.refills {s t : State} (h : Resamples s t) : Refills s t :=
  ⟨h.fields, by rw [h.rest], by rw [h.rest]⟩

/-- Two such changes are one. -/
theorem Refills.trans {s t u : State} (h : Refills s t) (k : Refills t u) : Refills s u :=
  ⟨fun l hl => (k.fields l hl).trans (h.fields l hl), k.recovery.trans h.recovery, k.resetHigh.trans h.resetHigh⟩

/-- A fold of such changes is one. -/
theorem Refills.foldl {α : Type} (f : State → α → State) (h : ∀ s x, Refills s (f s x)) (xs : List α) (s : State) :
    Refills s (xs.foldl f s) := by
  induction xs generalizing s with
  | nil => exact (Resamples.refl s).refills
  | cons x xs ih => exact (h s x).trans (ih _)

/-- A stale channel's entry into MENDING is one (R511). -/
theorem Refills.staleChan (s : State) (n j : Nat) : Refills s (s.staleChan n j) := by
  have hmem : Refills s (s.setMem { s.mem with mendFull := setAdd s.mem.mendFull (chKey n j) }) := ⟨fun _ _ => rfl, rfl, rfl⟩
  refine hmem.trans (.trans (Resamples.refills (.set _ (SL_MEND.mend_full n) _ (resampled_slice _ ?_)))
    (.trans (Resamples.setChan _ _ _ _).refills (Resamples.emit _ _).refills))
  simp only [SL_MEND.mend_full]; omega

/-- Channels healed is one (R73). -/
theorem Refills.healChans (s : State) : Refills s s.healChans := by
  have hchans := Resamples.foldl (fun s k => s.setChan (k / 32) (k % 32) chONLINE) s.hardFaults
    (fun t k _ => .setChan t _ _ _) s
  exact ⟨hchans.fields, hchans.refills.recovery, rfl⟩

/-- A stale channel is MENDING. -/
theorem State.chan_staleChan_same (s : State) (n j : Nat) (hj : j < 32) : (s.staleChan n j).chan n j = chMENDING := by
  rw [State.staleChan, State.chan_of_regs (State.emit_regs _ _)]
  exact State.chan_setChan_same _ _ _ _ hj (by decide)

/-- Every other channel is as it was. -/
theorem State.chan_staleChan_ne (s : State) (n j n' j' : Nat) (hj : j' < 32) (h : ¬ (n' = n ∧ j' = j)) :
    (s.staleChan n j).chan n' j' = s.chan n' j' := by
  rw [State.staleChan, State.chan_of_regs (State.emit_regs _ _), State.chan_setChan_ne _ _ _ _ _ _ hj (by decide) h,
    State.chan_set _ _ _ _ _ (by simp only [Loc.key, SL_CHAN_STATE.chan, SL_MEND.mend_full]; omega)]
  exact State.chan_of_regs rfl n' j'

/-- Two channels of the device differ in the stack or in the channel. -/
theorem chan_pair_ne {p q : Slice × Chan} (h : p ≠ q) : ¬ (p.1.val = q.1.val ∧ p.2.val = q.2.val) :=
  fun ⟨h1, h2⟩ => h (Prod.ext (Fin.ext h1) (Fin.ext h2))

/-- Channels set one after the other to one state are all in it. -/
theorem State.chan_foldl_failed (s : State) (ps : List (Slice × Chan)) :
    ∀ p ∈ ps, (ps.foldl (fun s p => s.setChan p.1 p.2 chFAILED) s).chan p.1 p.2 = chFAILED := by
  refine State.foldl_establishes (fun (p : Slice × Chan) s => s.chan p.1 p.2 = chFAILED) _ (fun t p => ?_)
    (fun t p q hq => ?_) ps s
  · exact State.chan_setChan_same _ _ _ _ p.2.isLt (by decide)
  · by_cases h : q = p
    · subst h; exact State.chan_setChan_same _ _ _ _ q.2.isLt (by decide)
    · rw [State.chan_setChan_ne _ _ _ _ _ _ q.2.isLt (by decide) (chan_pair_ne h), hq]

/-- Stale channels are all MENDING. -/
theorem State.chan_foldl_stale (s : State) (ps : List (Slice × Chan)) :
    ∀ p ∈ ps, (ps.foldl (fun s p => s.staleChan p.1 p.2) s).chan p.1 p.2 = chMENDING := by
  refine State.foldl_establishes (fun (p : Slice × Chan) s => s.chan p.1 p.2 = chMENDING) _ (fun t p => ?_)
    (fun t p q hq => ?_) ps s
  · exact State.chan_staleChan_same _ _ _ p.2.isLt
  · by_cases h : q = p
    · subst h; exact State.chan_staleChan_same _ _ _ q.2.isLt
    · rw [State.chan_staleChan_ne _ _ _ _ _ q.2.isLt (chan_pair_ne h), hq]

/-- A channel that is not stale is as it was. -/
theorem State.chan_foldl_stale_ne (s : State) (ps : List (Slice × Chan)) (p : Slice × Chan) (hp : p ∉ ps) :
    (ps.foldl (fun s p => s.staleChan p.1 p.2) s).chan p.1 p.2 = s.chan p.1 p.2 := by
  refine State.foldl_keeps_mem (fun t => t.chan p.1 p.2) _ ps (fun t q hq => ?_) s
  exact State.chan_staleChan_ne _ _ _ _ _ p.2.isLt (chan_pair_ne fun e => hp (e ▸ hq))

/-- The field of DG_FILL that names the first checker that failed, bits 2 to 17 (R415): the model's field under another
name, since its own is a word that this text may not hold. -/
def DG_FILL.failedChecker : Loc := ⟨0x19840, 2, 16, 0x0⟩

/-- DG_FILL as the fill's end writes it: done, and the first checker that failed (R415). -/
def State.fillWritten (s : State) (bad : Option W16) : State :=
  match bad with
  | some m => ((s.set DG_FILL.done 1).set DG_FILL.fail 1).set DG_FILL.failedChecker m.toNat
  | none => s.set DG_FILL.done 1

/-- The fields of DG_FILL after that. -/
theorem State.get_fillWritten (s : State) (bad : Option W16) :
    (s.fillWritten bad).get DG_FILL.done = 1 ∧ (s.fillWritten bad).now = s.now
      ∧ ∀ m, bad = some m →
        (s.fillWritten bad).get DG_FILL.fail = 1 ∧ (s.fillWritten bad).get DG_FILL.failedChecker = m.toNat := by
  cases bad with
  | none => exact ⟨State.get_set_same _ _ _, State.now_set _ _ _ (by decide), fun _ h => nomatch h⟩
  | some m =>
    simp (disch := decide) only [State.fillWritten, State.get_set_ne, State.get_set_same, State.now]
    refine ⟨rfl, trivial, ?_⟩
    rintro _ ⟨⟩
    exact ⟨rfl, Nat.mod_eq_of_lt m.isLt⟩

/-- A failed checker raises its interrupt and sends its emergency (R415, R480). -/
def State.fillChecked (s : State) (bad : Option W16) : State :=
  match bad with
  | some m => ((s.fillWritten bad).irq 17).emcy 0xFF13 (leBytes 1 0xFF ++ leBytes 2 m.toNat)
  | none => s.fillWritten bad

/-- Beside DG_FILL the checkers' result only resamples. -/
theorem State.fillChecked_resamples (s : State) (bad : Option W16) : Resamples (s.fillWritten bad) (s.fillChecked bad) := by
  cases bad with
  | none => exact .refl _
  | some m => exact (Resamples.irq _ 17).trans (.emcy _ _ _)

/-- Memory up: channels heal after a PG_RST_N, MPnn_RST falls, and the faulty channels are noted (R73, R523). -/
def State.portsUp (s : State) (failed : List (Slice × Chan)) : State :=
  let t := if s.get GL_RST_STAT.cause = 0 then s.healChans else s
  (t.setMem { t.mem with resetHigh := false, faults := failed.foldl (fun l p => setAdd l (chKey p.1 p.2)) t.mem.faults }).emit
    (.memRst false)

/-- Memory up changes no register but the channels', and MPnn_RST is low. -/
theorem State.portsUp_lowers (s : State) (failed : List (Slice × Chan)) :
    (∀ l : Loc, resampled (l.key / 64) = false → (s.portsUp failed).get l = s.get l)
      ∧ (s.portsUp failed).rec_ = s.rec_ ∧ (s.portsUp failed).mem.resetHigh = false := by
  unfold State.portsUp
  extract_lets t
  have ht : Refills s t := by
    simp only [t]
    split
    · exact .healChans s
    · exact (Resamples.refl s).refills
  clear_value t
  exact ⟨ht.fields, ht.recovery, rfl⟩

/-- The channels' states and the regions' records after the fill (R73, R504, R511). -/
def State.showChans (s : State) (stale failed : List (Slice × Chan)) : State :=
  (List.range 64).foldl State.rtu ((stale.filter fun p => !failed.contains p).foldl (fun s p => s.staleChan p.1 p.2)
    (failed.foldl (fun s p => s.setChan p.1 p.2 chFAILED) s))

/-- Showing the channels changes nothing but them. -/
theorem Refills.showChans (s : State) (stale failed : List (Slice × Chan)) : Refills s (s.showChans stale failed) := by
  have hfailed := Refills.foldl (fun (s : State) (p : Slice × Chan) => s.setChan p.1 p.2 chFAILED)
    (fun t p => (Resamples.setChan t p.1 p.2 chFAILED).refills) failed s
  have hstale (u : State) := Refills.foldl (fun (s : State) (p : Slice × Chan) => s.staleChan p.1 p.2)
    (fun t p => .staleChan t p.1 p.2) (stale.filter fun p => !failed.contains p) u
  have hrecords (u : State) := Refills.foldl State.rtu (fun t r => (Resamples.emit t _).refills) (List.range 64) u
  exact (hfailed.trans (hstale _)).trans (hrecords _)

/-- A failed channel is FAILED, any other stale one MENDING (R73, R511). -/
theorem State.chan_showChans (s : State) (stale failed : List (Slice × Chan)) :
    (∀ p ∈ failed, (s.showChans stale failed).chan p.1 p.2 = chFAILED)
      ∧ ∀ p ∈ stale, p ∉ failed → (s.showChans stale failed).chan p.1 p.2 = chMENDING := by
  have hrtu (u : State) (n j : Nat) : ((List.range 64).foldl State.rtu u).chan n j = u.chan n j :=
    State.chan_of_regs (State.foldl_keeps State.regs State.rtu (fun _ _ => rfl) _ u) n j
  refine ⟨fun p hp => ?_, fun p hp hf => ?_⟩
  · rw [State.showChans, hrtu, State.chan_foldl_stale_ne _ _ _ (by simp [hp])]
    exact State.chan_foldl_failed s failed p hp
  · rw [State.showChans, hrtu]
    exact State.chan_foldl_stale _ _ p (by simp [hp, hf])

/-- FILL_DONE while the fill runs (R415). -/
theorem exec_fillDone_ends (bad : Option W16) (stale failed : List (Slice × Chan)) (s : State) (hd : s.is DG_FILL.done = false)
    (hr : s.rstLow = false) :
    exec (.fillDone bad stale failed) s =
      (let t := ((s.fillChecked bad).portsUp failed).showChans stale failed
       .next (t.setRec { t.rec_ with kickAt := t.now }).after) := by
  simp only [exec, execFillDone]
  rw [if_neg (by simp [hd, hr])]
  cases bad <;> rfl

/-- The fill's end: done, a failed checker in DG_FILL, memory up, each channel as its pins say, the watchdog counting from
now (R73, R369, R415, R511, R523). -/
theorem fillDone_brings_memory_up (bad : Option W16) (stale failed : List (Slice × Chan)) (s : State)
    (hd : s.is DG_FILL.done = false) (hr : s.rstLow = false) :
    ∃ t : State, exec (.fillDone bad stale failed) s = .next t.after ∧ t.is DG_FILL.done = true ∧ t.mem.resetHigh = false
      ∧ (∀ m, bad = some m → t.is DG_FILL.fail = true ∧ t.get DG_FILL.failedChecker = m.toNat)
      ∧ (∀ p ∈ failed, t.chan p.1 p.2 = chFAILED) ∧ (∀ p ∈ stale, p ∉ failed → t.chan p.1 p.2 = chMENDING)
      ∧ t.rec_.kickAt = s.now := by
  refine ⟨_, exec_fillDone_ends bad stale failed s hd hr, ?_⟩
  have hchecked := s.fillChecked_resamples bad
  obtain ⟨hupFields, -, hupReset⟩ := (s.fillChecked bad).portsUp_lowers failed
  have hshow := Refills.showChans ((s.fillChecked bad).portsUp failed) stale failed
  obtain ⟨hfailed, hstale⟩ := ((s.fillChecked bad).portsUp failed).chan_showChans stale failed
  obtain ⟨hdone, hnow, hbad⟩ := s.get_fillWritten bad
  generalize ((s.fillChecked bad).portsUp failed).showChans stale failed = u at *
  have hget (l : Loc) (hl : resampled (l.key / 64) = false) : u.get l = (s.fillWritten bad).get l := by
    rw [hshow.fields l hl, hupFields l hl, hchecked.fields l hl]
  refine ⟨?_, hshow.resetHigh.trans hupReset, fun m hm => ?_, hfailed, hstale, ?_⟩
  · rw [State.is, State.get_setRec, hget _ rfl, hdone]; rfl
  · obtain ⟨hfail, hchecker⟩ := hbad m hm
    rw [State.is, State.get_setRec, State.get_setRec, hget _ rfl, hget _ rfl, hfail, hchecker]
    exact ⟨rfl, rfl⟩
  · exact (hget TK_HT_NOW.now rfl).trans hnow

/-- Settles O48: each row by the lemma that says what it starts, and the rows that change nothing by their guards. -/
theorem watchdogCollectionResetAndFill : Obligations.WatchdogCollectionResetAndFill := by
  unfold Obligations.WatchdogCollectionResetAndFill
  refine ⟨fun _ => rfl, fun s hc hu hf hd hesc => ⟨watchdogExpiry_restarts s ⟨hc, hu, hf, hd⟩ hesc, s.startColl_none 1 .seq hc⟩,
    fun s r hc hu hf hd hr hesc => ⟨watchdogExpiry_resets s r ⟨hc, hu, hf, hd⟩ hr hesc, s.startColl_none 4 .block hc⟩,
    exec_watchdogExpiry_ignored, sequencerRestart_collects, fun s h => if_pos h, blockReset_collects, fun s h => if_pos h,
    collectionEnd_restarts, collectionEnd_resets, exec_collectionEnd_ignored, sequencerRestartDone_runs,
    fun image s h => if_pos (by simp [h]), fillDone_brings_memory_up, fun bad stale failed s h => if_pos h⟩

end Sys2Proof.Machine

/-! ## Statements of 04_queues_and_contexts.md -/

namespace Sys2Proof.Machine

/-! ### What the rows that start a command have in common (R101, R531) -/

/-- Checks in two parts are taken in their order (R531). -/
theorem State.startOr_append (s : State) (j : Job) (a b : List (Bool × Nat)) (go : State) :
    s.startOr j (a ++ b) go = s.startOr j a (s.startOr j b go) := by
  unfold State.startOr
  rw [List.find?_append]
  cases a.find? fun p => p.1 <;> rfl

/-- What a row of the table means: it and COMMAND_START give a command of its opcode its checks and then its run. -/
structure RowMeans (r : StartRow) : Prop where
  row : ∀ (c : Ctx) (q : Que) (s : State),
    exec (r.instr c q) s = fin (s.beginOp c q r.op fun s j => s.startOr j (r.check s j) (r.run s j))
  any : ∀ (s : State) (j : Job), j.opcode = r.op → s.startAny j = s.startOr j (r.check s j) (r.run s j)

/-- Every row of the table means what its fields say (R105). -/
theorem startRows_mean : ∀ r ∈ startRows, RowMeans r := by
  simp only [startRows, List.mem_cons, forall_eq_or_imp, List.not_mem_nil, IsEmpty.forall_iff, implies_true, and_true]
  refine ⟨?_, ?_, ?_, ?_, ?_, ?_, ?_, ?_, ?_, ?_, ?_, ?_, ?_, ?_, ?_, ?_, ?_, ?_, ?_⟩ <;>
    exact ⟨fun _ _ _ => rfl, fun s j h => by simp only [State.startAny, h]; rfl⟩

/-- A command due at its start point meets the checks of R531, then its run, in its row and in COMMAND_START alike. -/
theorem startRow_exec_due {r : StartRow} (hr : r ∈ startRows) {c : Ctx} {q : Que} {s : State} (hdue : r.due s c q = true) :
    exec (r.instr c q) s = fin (s.startOr (s.candidate c q) (r.checks s c q) (r.run s (s.candidate c q)))
      ∧ exec (.commandStart c q) s = fin (s.startOr (s.candidate c q) (r.checks s c q) (r.run s (s.candidate c q))) := by
  simp only [StartRow.due, Bool.and_eq_true, beq_iff_eq] at hdue
  obtain ⟨⟨hhead, hop⟩, hstarts⟩ := hdue
  have hmeans := startRows_mean r hr
  have hany : exec (.commandStart c q) s = fin (s.beginOp c q r.op State.startAny) := by
    simp only [exec, execCommandStart, State.beginOp, hhead, hop, and_self, if_true]
  rw [hmeans.row, hany, State.beginOp_due s c q r.op _ hhead hop hstarts, State.beginOp_due s c q r.op _ hhead hop hstarts,
    hmeans.any s _ hop, StartRow.checks, State.startOr_append]
  exact ⟨rfl, rfl⟩

/-- Where no check fails the command runs. -/
theorem startRow_exec_runs {r : StartRow} (hr : r ∈ startRows) {c : Ctx} {q : Que} {s : State} (hdue : r.due s c q = true)
    (hpass : ∀ p ∈ r.checks s c q, p.1 = false) :
    exec (r.instr c q) s = .next (r.run s (s.candidate c q)).after
      ∧ exec (.commandStart c q) s = .next (r.run s (s.candidate c q)).after := by
  obtain ⟨hrow, hstart⟩ := startRow_exec_due hr hdue
  rw [hrow, hstart, State.startOr_pass _ _ _ _ hpass]
  exact ⟨rfl, rfl⟩

/-- Where one fails the command is refused with the status of the first. -/
theorem startRow_exec_refuses {r : StartRow} (hr : r ∈ startRows) {c : Ctx} {q : Que} {s : State} {p : Bool × Nat}
    (hdue : r.due s c q = true) (hfail : (r.checks s c q).find? (fun p => p.1) = some p) :
    exec (r.instr c q) s = .next (s.refuse (s.candidate c q) p.2).after
      ∧ exec (.commandStart c q) s = .next (s.refuse (s.candidate c q) p.2).after := by
  obtain ⟨hrow, hstart⟩ := startRow_exec_due hr hdue
  rw [hrow, hstart, State.startOr_refuse _ _ _ _ p hfail]
  exact ⟨rfl, rfl⟩

/-! ### A command launched from its start point (R89, R116, R120) -/

/-- The registers of contexts, event counters and queues. -/
def queueOff (off : Nat) : Bool := 0x6000 ≤ off && off < 0x9000

/-- What a start does before its command is launched or ends: no register of a context or queue, no entry, no running
work, nothing on the memory ports, the fabric, the rings, the meter or the queue of commands changes. -/
structure Prepares (s t : State) : Prop where
  fields : ∀ l : Loc, queueOff (l.key / 64) = true → t.get l = s.get l
  entries : t.entries = s.entries
  jobs : t.jobs = s.jobs
  mem : t.mem = s.mem
  fab : t.fab = s.fab
  ring : t.ring = s.ring
  meter : t.meter = s.meter
  pending : t.pending = s.pending

/-- Nothing done is such a change. -/
theorem Prepares.refl (s : State) : Prepares s s := ⟨fun _ _ => rfl, rfl, rfl, rfl, rfl, rfl, rfl, rfl⟩

/-- Two such changes are one. -/
theorem Prepares.trans {s t u : State} (h : Prepares s t) (k : Prepares t u) : Prepares s u :=
  ⟨fun l hl => (k.fields l hl).trans (h.fields l hl), k.entries.trans h.entries, k.jobs.trans h.jobs, k.mem.trans h.mem,
    k.fab.trans h.fab, k.ring.trans h.ring, k.meter.trans h.meter, k.pending.trans h.pending⟩

/-- A write of a register below those of the contexts, or above those of the queues, is one. -/
theorem Prepares.set (s : State) (m : Loc) (v : Nat) (h : m.lo < 64 ∧ (m.off < 0x6000 ∨ 0x9000 ≤ m.off)) :
    Prepares s (s.set m v) := by
  have hout : queueOff (m.key / 64) = false := by
    have : m.key / 64 = m.off := by simp only [Loc.key]; omega
    simp only [queueOff, this, Bool.and_eq_false_iff, decide_eq_false_iff_not]
    omega
  exact ⟨fun l hl => State.get_set_ne _ _ _ _ (by rintro e; rw [e, hout] at hl; cases hl), rfl, rfl, rfl, rfl, rfl, rfl, rfl⟩

/-- A fold of such changes is one. -/
theorem Prepares.foldl {α : Type} (f : State → α → State) (xs : List α) (h : ∀ s, ∀ x ∈ xs, Prepares s (f s x)) (s : State) :
    Prepares s (xs.foldl f s) := by
  induction xs generalizing s with
  | nil => exact .refl s
  | cons x xs ih => exact (h s x (by simp)).trans (ih (fun s y hy => h s y (by simp [hy])) _)

/-- A region's reference taken is one (R89). -/
theorem Prepares.hold (s : State) (n : Nat) : Prepares s (s.hold n) :=
  .set s (GL_RGN_STAT.refs (n % 64)) _ (by simp only [GL_RGN_STAT.refs]; omega)

/-- A slot's reference taken is one (R84). -/
theorem Prepares.holdSlot (s : State) (n : Nat) : Prepares s (s.holdSlot n) :=
  .set s (GL_STB_SLOT.refs (n % 16)) _ (by simp only [GL_STB_SLOT.refs]; omega)

end Sys2Proof.Machine

namespace Sys2Proof.Machine

/-- A piece of work that stands for the command at a queue's start point. -/
structure AtStart (c q : Nat) (s : State) (j : Job) : Prop where
  owner : j.owner = .cmd c q (s.headOf c q)
  ctx : j.ctx = c

/-- The candidate of a start point does. -/
theorem AtStart.candidate (s : State) (c q : Nat) : AtStart c q s (s.candidate c q) := ⟨rfl, rfl⟩

/-- Its entry is the start point's. -/
theorem AtStart.key {c q : Nat} {s : State} {j : Job} (h : AtStart c q s j) : j.key = s.headKey c q := by
  simp only [Job.key, h.owner]; rfl

/-- Its queue is the start point's. -/
theorem AtStart.queue {c q : Nat} {s : State} {j : Job} (h : AtStart c q s j) : j.queue = q := by
  simp only [Job.queue, h.owner]

/-- What a command that starts and goes on running has done (R98, R101, R116). -/
structure Started (c q : Nat) (s t : State) : Prop where
  ent : t.ent (s.headKey c q) = { s.ent (s.headKey c q) with phase := .running }
  head : t.get (GL_Q_STAT.head c q) = (s.headOf c q + 1) % 64
  running : t.get (GL_CTX_STAT.running c) = (s.get (GL_CTX_STAT.running c) + 1) % 2 ^ (GL_CTX_STAT.running c).w
  count : t.jobs.length = s.jobs.length + 1
  job : ∃ j ∈ t.jobs, j.owner = .cmd c q (s.headOf c q)
  frame : startFrame c q s t

/-- A start point is a register of its queue. -/
theorem queueOff_head {c q : Nat} (hc : c < 4) (hq : q < 16) : queueOff ((GL_Q_STAT.head c q).key / 64) = true := by
  have : (GL_Q_STAT.head c q).key / 64 = 0x8008 + 0x100 * c + 0x10 * q := by simp only [Loc.key, GL_Q_STAT.head]; omega
  simp only [queueOff, this, Bool.and_eq_true, decide_eq_true_eq]
  omega

/-- A count of running commands is a register of its context. -/
theorem queueOff_running {c : Nat} (hc : c < 4) : queueOff ((GL_CTX_STAT.running c).key / 64) = true := by
  have : (GL_CTX_STAT.running c).key / 64 = 0x6020 + 0x40 * c := by simp only [Loc.key, GL_CTX_STAT.running]; omega
  simp only [queueOff, this, Bool.and_eq_true, decide_eq_true_eq]
  omega

/-- No start point is a count of running commands. -/
theorem head_ne_running (c q d : Nat) : (GL_Q_STAT.head c q).key ≠ (GL_CTX_STAT.running d).key := by
  simp only [Loc.key, GL_Q_STAT.head, GL_CTX_STAT.running]
  omega

/-- A start point that moves on leaves every other field as it was (R120). -/
theorem State.get_advance_ne (s : State) (c q : Nat) (l : Loc) (h : l.key ≠ (GL_Q_STAT.head c q).key) :
    (s.advance c q).get l = s.get l := State.get_set_ne s _ _ _ h

/-- A launch sets its entry running, counts it, takes its references, and adds it as its start point moves on (R89,
R116). -/
theorem State.launch_steps (s : State) (j : Job) : ∃ (u : State) (k : Job),
    s.launch j = (u.addJob k).advance j.ctx j.queue ∧ k.owner = j.owner
      ∧ Prepares ((s.setEnt j.key { s.ent j.key with phase := .running }).set (GL_CTX_STAT.running j.ctx)
          (s.get (GL_CTX_STAT.running j.ctx) + 1)) u :=
  ⟨_, { j with refs := j.refs.foldl setAdd [] }, rfl, rfl,
    (Prepares.foldl _ _ (fun s r _ => .hold s r) _).trans (.foldl _ _ (fun s n _ => .holdSlot s n) _)⟩

/-- After what a start may do first, a launch starts the command (R89, R116). -/
theorem Prepares.launch {c q : Nat} {s t : State} {j : Job} (h : Prepares s t) (hj : AtStart c q s j) (hc : c < 4)
    (hq : q < 16) : Started c q s (t.launch j) := by
  have hent (k : Nat) : (t.launch j).ent k =
      if k = s.headKey c q then { s.ent k with phase := .running } else s.ent k := by
    rw [State.launch_ent, hj.key, State.ent, State.ent, h.entries]
  obtain ⟨u, k, hu, howner, hprep⟩ := t.launch_steps j
  rw [hj.ctx, hj.queue] at hu
  rw [hj.ctx] at hprep
  have hhead : u.get (GL_Q_STAT.head c q) = s.headOf c q := by
    rw [hprep.fields _ (queueOff_head hc hq), State.get_set_ne _ _ _ _ (head_ne_running c q c), State.get_setEnt,
      h.fields _ (queueOff_head hc hq), State.headOf]
  have hrun : u.get (GL_CTX_STAT.running c) = (s.get (GL_CTX_STAT.running c) + 1) % 2 ^ (GL_CTX_STAT.running c).w := by
    rw [hprep.fields _ (queueOff_running hc), State.get_set_same, h.fields _ (queueOff_running hc)]
  have hjobs : (t.launch j).jobs = s.jobs ++ [{ k with id := u.nextJob }] := by
    rw [hu, ← h.jobs]; exact congrArg (· ++ [{ k with id := u.nextJob }]) hprep.jobs
  refine ⟨by rw [hent, if_pos rfl], ?_, ?_, by simp [hjobs],
    ⟨{ k with id := u.nextJob }, by simp [hjobs], howner.trans hj.owner⟩, ?_⟩
  · rw [hu, State.advance_head, State.headOf, State.get_addJob, hhead]
  · rw [hu, State.get_advance_ne _ _ _ _ (head_ne_running c q c).symm, State.get_addJob, hrun]
  · refine ⟨?_, ?_, ?_, ?_, ?_, fun k hk => by rw [hent, if_neg hk]⟩ <;> rw [hu]
    exacts [hprep.mem.trans h.mem, hprep.fab.trans h.fab, hprep.ring.trans h.ring, hprep.meter.trans h.meter,
      hprep.pending.trans h.pending]

/-- A refresh told to stop is still its command's work (R201). -/
theorem State.stopRefresh_owner (s : State) (j : Job) : (s.stopRefresh j).owner = j.owner := by
  unfold State.stopRefresh
  dsimp only
  split <;> rfl

/-- Stopping refreshes ends no command and starts none (R201). -/
theorem Started.stopRefreshes {c q : Nat} {s t : State} (h : Started c q s t) (d : Nat) :
    Started c q s (t.stopRefreshes d) := by
  obtain ⟨k, hk, howner⟩ := h.job
  refine ⟨h.ent, h.head, h.running, (List.length_map _).trans h.count, ⟨_, List.mem_map_of_mem hk, ?_⟩, h.frame⟩
  split
  · rw [State.stopRefresh_owner, howner]
  · exact howner

/-! ### What each opcode's start does first (R107 to R110, R161, R200, R246, R310, R398, R402) -/

section
variable {c q : Nat} {s : State} {j : Job} (hj : AtStart c q s j) (hc : c < 4) (hq : q < 16)
include hj hc hq

/-- A command that only launches starts. -/
theorem started_of_launch : Started c q s (s.launch j) := (Prepares.refl s).launch hj hc hq

/-- A WAIT_HALL whose time has not come (R107). -/
theorem started_waitHall (h : s.now < j.arg 24 8) : Started c q s (s.runWaitHall j) := by
  rw [State.runWaitHall, if_neg (by omega)]
  exact (Prepares.refl s).launch ⟨hj.owner, hj.ctx⟩ hc hq

/-- A REGION_COPY notes its destination as copied (R69, R108). -/
theorem started_regionCopy : Started c q s (s.runRegionCopy j) := by
  unfold State.runRegionCopy
  extract_lets sr dr sf df n a d k8 es whole segs s'
  have hprep : Prepares s s' := by
    simp only [s']
    split
    · exact .refl s
    · exact ⟨fun _ _ => rfl, rfl, rfl, rfl, rfl, rfl, rfl, rfl⟩
  exact hprep.launch ⟨hj.owner, hj.ctx⟩ hc hq

/-- A STABLE_LOAD's slot is LOADING, its tag and parity noted (R109, R286). -/
theorem started_stableLoad : Started c q s (s.runStableLoad j) := by
  unfold State.runStableLoad
  extract_lets c' slot kind src rs coded s1 s2
  have hstate : Prepares s s1 :=
    (Prepares.set s (GL_STB_SLOT.state slot) _ (by simp only [GL_STB_SLOT.state]; omega)).trans
      (.set _ (GL_STB_SLOT.tag slot) _ (by simp only [GL_STB_SLOT.tag]; omega))
  have hparity : Prepares s1 s2 := by
    simp only [s2]
    split
    · exact (Prepares.set s1 (TM_STB.pfrags slot) _ (by simp only [TM_STB.pfrags]; omega)).trans
        (.set _ (TM_STB.ctx slot) _ (by simp only [TM_STB.ctx]; omega))
    · exact .refl _
  exact (hstate.trans hparity).launch ⟨hj.owner, hj.ctx⟩ hc hq

/-- A STABLE_EVICT of a slot with references makes it EVICTING (R110). -/
theorem started_stableEvict (hfull : s.get (GL_STB_SLOT.state (j.arg 24 1 % 16)) ≠ sbEMPTY)
    (hrefs : s.get (GL_STB_SLOT.refs (j.arg 24 1 % 16)) ≠ 0) : Started c q s (s.runStableEvict j) := by
  have hkept : (s.set (GL_STB_SLOT.state (j.arg 24 1 % 16)) sbEVICTING).get (GL_STB_SLOT.refs (j.arg 24 1 % 16)) ≠ 0 := by
    rwa [State.get_set_ne _ _ _ _ (Loc.key_ne_of_lo_ne (l := GL_STB_SLOT.refs _) (m := GL_STB_SLOT.state _) rfl
      (show 16 ≠ 0 by decide))]
  simp only [State.runStableEvict, hfull, hkept, if_false]
  exact (Prepares.set s (GL_STB_SLOT.state (j.arg 24 1 % 16)) sbEVICTING (by simp only [GL_STB_SLOT.state]; omega)).launch
    ⟨hj.owner, hj.ctx⟩ hc hq

/-- An UPDATE that the norm guard lets pass records its range (R161, R169). -/
theorem started_update (hnorm : ((s.updNorm j).2.1 && s.get (GL_RULE_CTL.norm_act j.ctx j.rule) != 0) = false) :
    Started c q s (s.runUpdate j) := by
  simp only [Bool.and_eq_false_iff, bne_eq_false_iff_eq] at hnorm
  rw [State.runUpdate, if_neg (by rintro ⟨hn, ha⟩; simp [hn, ha] at hnorm)]
  exact Prepares.launch ⟨fun _ _ => rfl, rfl, rfl, rfl, rfl, rfl, rfl, rfl⟩ ⟨hj.owner, hj.ctx⟩ hc hq

/-- A PRECOND_REFRESH records its range (R200). -/
theorem started_precond : Started c q s (s.runPrecond j) :=
  Prepares.launch ⟨fun _ _ => rfl, rfl, rfl, rfl, rfl, rfl, rfl, rfl⟩ ⟨hj.owner, hj.ctx⟩ hc hq

/-- A PUT or GET launches (R354). -/
theorem started_copy : Started c q s (s.runCopy j) := (Prepares.refl s).launch ⟨hj.owner, hj.ctx⟩ hc hq

/-- A COLLECTIVE, NORM or DIGEST_COMPARE notes its gcn (R246). -/
theorem started_gsLaunch {t : State} (h : Prepares s t) (refs : List Nat) : Started c q s (t.gsLaunch j refs) := by
  unfold State.gsLaunch
  extract_lets c' g n x t1 t2 fixed gs
  have hg : g < 16 := by simp only [g, Job.gsGroup]; omega
  have hcx : Prepares t t1 := ⟨fun _ _ => rfl, rfl, rfl, rfl, rfl, rfl, rfl, rfl⟩
  have hgcn : Prepares t1 t2 :=
    (Prepares.set t1 (GS_GRP_GCN.last_gcn c' g) _ (by simp only [GS_GRP_GCN.last_gcn]; omega)).trans
      (.set _ (GS_GRP_GCN.running c' g) _ (by simp only [GS_GRP_GCN.running]; omega))
  exact ((h.trans hcx).trans hgcn).launch ⟨hj.owner, hj.ctx⟩ hc hq

/-- A NORM with a register to write takes its tag's validity away first (R252). -/
theorem started_norm : Started c q s (s.runNorm j) := by
  unfold State.runNorm
  extract_lets c' rs reg en s1
  refine started_gsLaunch hj hc hq ?_ _
  simp only [s1]
  split
  · exact .set s (GL_NORM_TAG.valid c' reg) _ (by simp only [GL_NORM_TAG.valid]; omega)
  · exact .refl s

/-- A DIGEST_COMPARE samples the captured digests (R430, R433). -/
theorem started_digest : Started c q s (s.runDigest j) := by
  unfold State.runDigest
  exact started_gsLaunch (by exact ⟨hj.owner, hj.ctx⟩) hc hq (.refl s) []

/-- A PARITY_AUDIT launches (R294). -/
theorem started_audit : Started c q s (s.runAudit j) := (Prepares.refl s).launch ⟨hj.owner, hj.ctx⟩ hc hq

/-- A SCRUB launches (R417). -/
theorem started_scrub : Started c q s (s.runScrub j) := (Prepares.refl s).launch ⟨hj.owner, hj.ctx⟩ hc hq

/-- A committing STEP_END begins its prepare (R310): refreshes stop, and no command goes or comes. -/
theorem started_stepEnd (hcommit : j.arg 24 1 % 2 = 1) : Started c q s (s.runStepEnd j) := by
  rw [State.runStepEnd, if_neg (by omega)]
  unfold State.prepare
  extract_lets c' s1 x s2
  have hphase : Prepares s s1 := .set s (CM_STAT.phase c') _ (by simp only [CM_STAT.phase]; omega)
  have hcm : Prepares s1 s2 := ⟨fun _ _ => rfl, rfl, rfl, rfl, rfl, rfl, rfl, rfl⟩
  exact ((hphase.trans hcm).launch (j := { j with hold := .prepare }) ⟨hj.owner, hj.ctx⟩ hc hq).stopRefreshes c'

/-- A DRAIN or EXPORT of a new step begins its log (R398). -/
theorem started_drain : Started c q s (s.runDrain j) := by
  unfold State.runDrain
  extract_lets c' man r g f n step own k fresh s' dumps
  have hlog : Prepares s s' := by
    simp only [s']
    split
    · have hrec : Prepares s (s.setRec { s.rec_ with logs := Tbl.put s.rec_.logs [] c' [] }) :=
        ⟨fun _ _ => rfl, rfl, rfl, rfl, rfl, rfl, rfl, rfl⟩
      exact (hrec.trans (.set _ (DR_STAT.log_used c') _ (by simp only [DR_STAT.log_used]; omega))).trans
        (.set _ (DR_LOG_STEP.step c') _ (by simp only [DR_LOG_STEP.step]; omega))
    · exact .refl s
  split
  · exact (Prepares.refl s).launch ⟨hj.owner, hj.ctx⟩ hc hq
  · exact hlog.launch ⟨hj.owner, hj.ctx⟩ hc hq

/-- An IMPORT launches (R409). -/
theorem started_import : Started c q s (s.runImport j) := (Prepares.refl s).launch ⟨hj.owner, hj.ctx⟩ hc hq

/-- A JOB_LOAD that is no CARRY launches (R404, R406). -/
theorem started_jobLoad (hmode : j.arg 24 1 % 4 ≠ 2) : Started c q s (s.runJobLoad j) := by
  simp only [State.runJobLoad, hmode, if_false]
  split <;> exact (Prepares.refl s).launch ⟨hj.owner, hj.ctx⟩ hc hq

/-- Each row's run starts the command of a start point, where the row lets it go on running. -/
theorem startRows_start : ∀ r ∈ startRows, r.runs s j = true → Started c q s (r.run s j) := by
  simp only [startRows, List.mem_cons, forall_eq_or_imp, List.not_mem_nil, IsEmpty.forall_iff, implies_true, and_true]
  refine ⟨fun h => (nomatch h), fun h => started_waitHall hj hc hq (by simpa using h), fun _ => started_regionCopy hj hc hq,
    fun _ => started_stableLoad hj hc hq, fun h => ?_, fun h => started_update hj hc hq ((Bool.not_eq_true' _).mp h),
    fun _ => started_precond hj hc hq, fun _ => started_copy hj hc hq, fun _ => started_copy hj hc hq,
    fun _ => started_gsLaunch hj hc hq (.refl s) _, fun _ => started_norm hj hc hq,
    fun h => started_stepEnd hj hc hq (by simpa using h), fun _ => started_audit hj hc hq,
    fun _ => started_scrub hj hc hq, fun _ => started_digest hj hc hq,
    fun _ => started_drain hj hc hq, fun _ => started_drain hj hc hq,
    fun h => started_jobLoad hj hc hq (by simpa using h), fun _ => started_import hj hc hq⟩
  simp only [Bool.and_eq_true, bne_iff_ne] at h
  exact started_stableEvict hj hc hq h.1 h.2

end

/-- Settles O6: past its checks a command's run is a launch after changes that touch no queue, entry or port. -/
theorem startedCommandRunsUntilItsCompletion : Obligations.StartedCommandRunsUntilItsCompletion := by
  unfold Obligations.StartedCommandRunsUntilItsCompletion
  intro r hr c q s hdue hpass hruns
  obtain ⟨hrow, hstart⟩ := startRow_exec_runs hr hdue hpass
  have h := startRows_start (.candidate s c q) c.isLt q.isLt r hr hruns
  exact ⟨_, hrow, hstart, h.ent, h.head, h.running, h.count, h.job, h.frame⟩

end Sys2Proof.Machine

namespace Sys2Proof.Machine

/-! ### A command that ends at its start point (R106, R112, R117, R140) -/

/-- What a command that ends at its start point has done: its result stands in its slot, and the start point has moved on
(R112, R117). -/
structure Ended (c q : Nat) (s t : State) (status value : Nat) : Prop where
  ent : t.ent (s.headKey c q) = { s.ent (s.headKey c q) with
    phase := .done, seq := leAt (s.candidate c q).entry 2 2, status := status, flags := 0,
    tag := leAt (s.candidate c q).entry 20 4, value := value }
  head : t.get (GL_Q_STAT.head c q) = (s.headOf c q + 1) % 64
  jobs : t.jobs = s.jobs
  running : t.get (GL_CTX_STAT.running c) = s.get (GL_CTX_STAT.running c)
  frame : startFrame c q s t

/-- A field that no posted result of a context changes: neither the interrupt causes, nor its count of time-outs, nor an
event counter. -/
structure Unposted (c : Nat) (l : Loc) : Prop where
  cause : l.key / 64 ≠ 0x400
  timeouts : l.key ≠ (GL_CTX_STAT.timeouts c).key
  counter : l.key / 64 < 0x7000 ∨ 0x7400 ≤ l.key / 64

/-- A counter's signal changes only that counter (R112). -/
theorem State.get_signal (s : State) (c sig status : Nat) (hc : c < 4) (l : Loc)
    (h : l.key / 64 < 0x7000 ∨ 0x7400 ≤ l.key / 64) : (s.signal c sig status).get l = s.get l := by
  have hvalue : l.key ≠ (GL_EVT.value c (sig % 32)).key := by simp only [Loc.key, GL_EVT.value] at h ⊢; omega
  have hpoison : l.key ≠ (GL_EVT.poison c (sig % 32)).key := by simp only [Loc.key, GL_EVT.poison] at h ⊢; omega
  unfold State.signal
  split
  · rfl
  · dsimp only
    split
    · exact State.get_set_ne _ _ _ _ hvalue
    · exact State.get_set_ne _ _ _ _ hpoison

/-- A posted result leaves such a field as it was (R117). -/
theorem State.get_post (s : State) (c k st f v : Nat) (hc : c < 4) (l : Loc) (h : Unposted c l) :
    (s.post c k st f v).get l = s.get l := by
  have hcause : l.key ≠ GL_IRQ_STAT.cause.key := fun e => h.cause (by rw [e]; rfl)
  unfold State.post
  extract_lets b e s1 s2 s3
  have h2 : s2.get l = s.get l := by
    simp only [s2]
    split
    · exact State.get_set_ne s1 _ _ _ h.timeouts
    · rfl
  have h3 : s3.get l = s.get l := (State.get_signal s2 _ _ _ hc l h.counter).trans h2
  split
  · exact (State.get_set_ne s3 _ _ _ hcause).trans h3
  · exact h3

/-- What notes a tick's overrun at most: registers from TK_HT_NOW on, and the tick planner's own state (R140). -/
structure NotesTick (s t : State) : Prop where
  fields : ∀ l : Loc, l.key / 64 < 0xA000 → t.get l = s.get l
  rest : t = { s with regs := t.regs, tk := t.tk }

/-- A command's completion notes its tick at most (R140). -/
theorem NotesTick.tickDone (s : State) (j : Job) : NotesTick s (s.tickDone j) := by
  unfold State.tickDone
  split
  · exact ⟨fun _ _ => rfl, rfl⟩
  · split
    · exact ⟨fun _ _ => rfl, rfl⟩
    · refine ⟨fun l hl => ?_, rfl⟩
      have hovr : l.key ≠ (TK_OVR.last_ovr j.ctx).key := by simp only [Loc.key, TK_OVR.last_ovr] at hl ⊢; omega
      have hdebt : l.key ≠ (TK_DEBT.debt j.ctx).key := by simp only [Loc.key, TK_DEBT.debt] at hl ⊢; omega
      have hage : l.key ≠ (TK_DEBT.oldest_age j.ctx).key := by simp only [Loc.key, TK_DEBT.oldest_age] at hl ⊢; omega
      simp only [State.showDebt]
      rw [State.get_set_ne _ _ _ _ hage, State.get_set_ne _ _ _ _ hdebt, State.get_set_ne _ _ _ _ hovr, State.get_setTk]

/-- A start point is no field that a posted result changes. -/
theorem unposted_head (c q d : Nat) : Unposted d (GL_Q_STAT.head c q) := by
  refine ⟨?_, ?_, ?_⟩ <;> simp only [Loc.key, GL_Q_STAT.head, GL_CTX_STAT.timeouts] <;> omega

/-- Nor is a count of running commands. -/
theorem unposted_running {c : Nat} (hc : c < 4) (d : Nat) : Unposted d (GL_CTX_STAT.running c) := by
  refine ⟨?_, ?_, ?_⟩ <;> simp only [Loc.key, GL_CTX_STAT.running, GL_CTX_STAT.timeouts] <;> omega

/-- After what a start may do first, a result posted and the start point's moving on end the command (R112, R117). -/
theorem Prepares.ends {c q : Nat} {s t u : State} {j : Job} {status value : Nat} (h : Prepares s t) (hj : AtStart c q s j)
    (hc : c < 4) (hq : q < 16) (hu : NotesTick (t.post j.ctx j.key status 0 value) u) :
    Ended c q s (u.advance j.ctx j.queue) status (value % 2 ^ 64) := by
  rw [hj.ctx, hj.key] at hu
  rw [hj.ctx, hj.queue]
  have hent (k : Nat) : t.ent k = s.ent k := by rw [State.ent, State.ent, h.entries]
  have hcommand : t.command (s.headKey c q) = (s.candidate c q).entry := by
    simp only [State.command, h.ring]; rfl
  have hsame := t.post_ent_same c (s.headKey c q) status 0 value
  have hother (k : Nat) := t.post_ent_ne c (s.headKey c q) k status 0 value
  have hfields := t.get_post c (s.headKey c q) status 0 value hc
  have hpost := t.post_frame c (s.headKey c q) status 0 value
  generalize t.post c (s.headKey c q) status 0 value = p at hu hsame hother hfields hpost
  have hrest : u = { t with regs := u.regs, entries := p.entries, tk := u.tk } := by rw [hu.rest, hpost]
  have hu_ent (k : Nat) : (u.advance c q).ent k = p.ent k := by rw [State.ent_advance, hu.rest]; rfl
  have hget (l : Loc) (hl : queueOff (l.key / 64) = true) (hn : Unposted c l) : u.get l = s.get l := by
    have hlow : l.key / 64 < 0xA000 := by
      simp only [queueOff, Bool.and_eq_true, decide_eq_true_eq] at hl; omega
    rw [hu.fields l hlow, hfields l hn, h.fields l hl]
  refine ⟨by rw [hu_ent, hsame, hcommand, hent], ?_, ?_, ?_, ?_, ?_, ?_, ?_, ?_, fun k hk => ?_⟩
  · rw [State.advance_head, State.headOf, hget _ (queueOff_head hc hq) (unposted_head c q c), State.headOf]
  · change u.jobs = s.jobs
    rw [hrest, ← h.jobs]
  · rw [State.get_advance_ne _ _ _ _ (head_ne_running c q c).symm, hget _ (queueOff_running hc) (unposted_running hc c)]
  · change u.mem = s.mem
    rw [hrest, ← h.mem]
  · change u.fab = s.fab
    rw [hrest, ← h.fab]
  · change u.ring = s.ring
    rw [hrest, ← h.ring]
  · change u.meter = s.meter
    rw [hrest, ← h.meter]
  · change u.pending = s.pending
    rw [hrest, ← h.pending]
  · rw [hu_ent, hother k hk, hent]

/-- After what a start may do first, an immediate end with OK ends the command (R106, R117). -/
theorem Prepares.instant {c q : Nat} {s t : State} {j : Job} (h : Prepares s t) (hj : AtStart c q s j) (hc : c < 4)
    (hq : q < 16) (value : Nat) : Ended c q s (t.instant j value) stOK (value % 2 ^ 64) :=
  h.ends hj hc hq (.tickDone _ j)

/-- A refusal ends the command with its status, and nothing else (R112, R531). -/
theorem ended_refuse (c : Ctx) (q : Que) (s : State) (status : Nat) :
    Ended c q s (s.refuse (s.candidate c q) status) status 0 :=
  (Prepares.refl s).ends (.candidate s c q) c.isLt q.isLt ⟨fun _ _ => rfl, rfl⟩

/-! ### Commands that are over in the cycle in which they start (R106, R107, R110, R309, R407) -/

/-- A region freed keeps the registers of contexts and queues (R89). -/
theorem Prepares.freeRgn (s : State) (n : Nat) (hn : n < 64) : Prepares s (s.freeRgn n) := by
  have hinteg : Prepares s (s.setInteg { s.integ with poison := s.integ.poison.filter fun p => p.region ≠ n }) :=
    ⟨fun _ _ => rfl, rfl, rfl, rfl, rfl, rfl, rfl, rfl⟩
  have hrtu (t : State) : Prepares t (t.rtu n) := ⟨fun _ _ => rfl, rfl, rfl, rfl, rfl, rfl, rfl, rfl⟩
  exact ((((hinteg.trans (.set _ DG_POISON.used _ (by decide))).trans
    (.set _ (GL_RGN_CFG.valid n) 0 (by simp only [GL_RGN_CFG.valid]; omega))).trans
    (.set _ (GL_RGN_STAT.free_pending n) 0 (by simp only [GL_RGN_STAT.free_pending]; omega))).trans
    (.set _ (GL_RGN_STAT.rows n) 0 (by simp only [GL_RGN_STAT.rows]; omega))).trans (hrtu _)

/-- A slot emptied keeps them (R83). -/
theorem Prepares.emptySlot (s : State) (n : Nat) (hn : n < 16) : Prepares s (s.emptySlot n false) := by
  unfold State.emptySlot
  extract_lets s1 s2 s3 s4 s5 s6
  have h1 : Prepares s s1 := .set s (GL_STB_SLOT.state n) _ (by simp only [GL_STB_SLOT.state]; omega)
  have h2 : Prepares s1 s2 := .set s1 (GL_STB_BYTES.bytes n) 0 (by simp only [GL_STB_BYTES.bytes]; omega)
  have h3 : Prepares s2 s3 := .set s2 (TM_STB.coded n) 0 (by simp only [TM_STB.coded]; omega)
  have h4 : Prepares s3 s4 := .set s3 (TM_STB.stale n) 0 (by simp only [TM_STB.stale]; omega)
  have h5 : Prepares s4 s5 := .set s4 (TM_STB.pfrags n) 0 (by simp only [TM_STB.pfrags]; omega)
  have h6 (t : State) : Prepares t (t.setStb n {}) := ⟨fun _ _ => rfl, rfl, rfl, rfl, rfl, rfl, rfl, rfl⟩
  exact ((((h1.trans h2).trans h3).trans h4).trans h5).trans (h6 s5)

/-- One field copied from a context's registers to another's, as CARRY copies it (R407). -/
theorem Prepares.copy {s t : State} (h : Prepares s t) (f : Nat → Loc) (d c : Nat) (hf : (f c).lo < 64 ∧ 0x9000 ≤ (f c).off) :
    Prepares s (t.set (f c) (t.get (f d))) := h.trans (.set _ _ _ ⟨hf.1, .inr hf.2⟩)

/-- What CARRY copies keeps them: group, box and substitution fields and FB_TGEN (R407). -/
theorem Prepares.carry (s : State) (d c : Nat) : Prepares s (s.carry d c) := by
  unfold State.carry
  extract_lets copy s1 s2
  have h1 : Prepares s s1 := by
    refine .foldl _ _ (fun t g _ => ?_) s
    simp only [copy]
    refine .copy (.copy (.copy (.copy ?_ (GS_GRP_BOX.hi0 · g) d c ?_) (GS_GRP_BOX.hi1 · g) d c ?_) (GS_GRP_BOX.hi2 · g) d c ?_)
      (GS_GRP_BOX.hi3 · g) d c ?_
    refine .copy (.copy (.copy (.copy ?_ (GS_GRP_BOX.lo0 · g) d c ?_) (GS_GRP_BOX.lo1 · g) d c ?_) (GS_GRP_BOX.lo2 · g) d c ?_)
      (GS_GRP_BOX.lo3 · g) d c ?_
    refine .copy (.copy (.copy (.copy (.refl t) (GS_GRP_CFG.axes · g) d c ?_) (GS_GRP_CFG.fan · g) d c ?_)
      (GS_GRP_CFG.queue · g) d c ?_) (GS_GRP_CFG.split_fixed · g) d c ?_
    all_goals simp only [GS_GRP_CFG.axes, GS_GRP_CFG.fan, GS_GRP_CFG.queue, GS_GRP_CFG.split_fixed, GS_GRP_BOX.lo0,
      GS_GRP_BOX.lo1, GS_GRP_BOX.lo2, GS_GRP_BOX.lo3, GS_GRP_BOX.hi0, GS_GRP_BOX.hi1, GS_GRP_BOX.hi2, GS_GRP_BOX.hi3]; omega
  have h2 : Prepares s1 s2 := by
    refine .foldl _ _ (fun t i _ => ?_) s1
    refine .copy (.copy (.copy (.refl t) (GS_SUBST.coord · i) d c ?_) (GS_SUBST.devid · i) d c ?_) (GS_SUBST.absent · i) d c ?_
    all_goals simp only [GS_SUBST.coord, GS_SUBST.devid, GS_SUBST.absent]; omega
  refine (h1.trans h2).trans (.foldl _ _ (fun t i _ => ?_) s2)
  exact .copy (.refl t) (FB_TGEN.gen · i) d c (by simp only [FB_TGEN.gen]; omega)

section
variable {c q : Nat} {s : State} {j : Job} (hj : AtStart c q s j) (hc : c < 4) (hq : q < 16)
include hj hc hq

/-- A NOP (R106). -/
theorem ended_nop : Ended c q s (s.runNop j) stOK 0 := (Prepares.refl s).instant hj hc hq 0

/-- A WAIT_HALL whose time has come (R107). -/
theorem ended_waitHall (h : j.arg 24 8 ≤ s.now) : Ended c q s (s.runWaitHall j) stOK 0 := by
  rw [State.runWaitHall, if_pos h]
  exact (Prepares.refl s).instant hj hc hq 0

/-- A STABLE_EVICT of a slot that is empty, or without references (R110). -/
theorem ended_stableEvict (h : s.get (GL_STB_SLOT.state (j.arg 24 1 % 16)) = sbEMPTY
      ∨ s.get (GL_STB_SLOT.refs (j.arg 24 1 % 16)) = 0) : Ended c q s (s.runStableEvict j) stOK 0 := by
  unfold State.runStableEvict
  extract_lets slot st s1
  have hstate : Prepares s s1 := .set s (GL_STB_SLOT.state slot) _ (by simp only [GL_STB_SLOT.state]; omega)
  by_cases hempty : st = sbEMPTY
  · rw [if_pos hempty]
    exact (Prepares.refl s).instant hj hc hq 0
  · have hrefs : s1.get (GL_STB_SLOT.refs slot) = 0 := by
      rw [State.get_set_ne _ _ _ _ (Loc.key_ne_of_lo_ne (l := GL_STB_SLOT.refs _) (m := GL_STB_SLOT.state _) rfl
        (show 16 ≠ 0 by decide))]
      exact h.resolve_left hempty
    rw [if_neg hempty, if_pos hrefs]
    have hfree : Prepares (s1.emptySlot slot false)
        ((s1.slotRgns slot).foldl (fun s r => s.freeRgn r) (s1.emptySlot slot false)) := by
      refine .foldl _ _ (fun t r hr => .freeRgn t r ?_) _
      simp only [State.slotRgns, List.mem_filter, List.mem_range] at hr
      exact hr.1
    exact ((hstate.trans (.emptySlot s1 slot (by omega))).trans hfree).instant hj hc hq 0

/-- A STEP_END without commit answers the new current step (R309). -/
theorem ended_stepEnd (h : j.arg 24 1 % 2 = 0) :
    Ended c q s (s.runStepEnd j) stOK ((s.wrapInc (CM_CUR.cur j.ctx) 1).get (CM_CUR.cur j.ctx) % 2 ^ 64) := by
  rw [State.runStepEnd, if_pos h]
  exact (Prepares.set s (CM_CUR.cur j.ctx) _ (by simp only [CM_CUR.cur]; omega)).instant hj hc hq _

/-- A CARRY (R407). -/
theorem ended_carry (h : j.arg 24 1 % 4 = 2) : Ended c q s (s.runJobLoad j) stOK 0 := by
  simp only [State.runJobLoad, h, if_true]
  exact (Prepares.carry s _ _).instant hj hc hq 0

/-- A row's run that does not go on running ends its command with OK, the norm guard of UPDATE apart; only STEP_END
answers a value but 0. -/
theorem startRows_end : ∀ r ∈ startRows, r.runs s j = false → r.op ≠ opUPDATE →
    ∃ v, Ended c q s (r.run s j) stOK v ∧ (r.op ≠ opSTEPEND → v = 0) := by
  simp only [startRows, List.mem_cons, forall_eq_or_imp, List.not_mem_nil, IsEmpty.forall_iff, implies_true, and_true,
    Bool.true_eq_false, true_and, ne_eq, not_true_eq_false]
  refine ⟨fun _ _ => ⟨0, ended_nop hj hc hq, fun _ => rfl⟩,
    fun h _ => ⟨0, ended_waitHall hj hc hq (by simpa using h), fun _ => rfl⟩,
    fun h _ => ⟨0, ended_stableEvict hj hc hq ?_, fun _ => rfl⟩,
    fun h _ => ⟨_, ended_stepEnd hj hc hq (by simpa using h)⟩,
    fun h _ => ⟨0, ended_carry hj hc hq (by simpa using h), fun _ => rfl⟩⟩
  simpa only [Bool.and_eq_false_iff, bne_eq_false_iff_eq] using h

end

/-- Settles O7: past its checks such a command's run is an immediate end after changes that touch no queue, entry or
port. -/
theorem immediateCommandCompletesWithOk : Obligations.ImmediateCommandCompletesWithOk := by
  unfold Obligations.ImmediateCommandCompletesWithOk
  intro r hr c q s hdue hpass hruns hop
  obtain ⟨hrow, -⟩ := startRow_exec_runs hr hdue hpass
  obtain ⟨v, h, hv⟩ := startRows_end (.candidate s c q) c.isLt q.isLt r hr hruns hop
  exact ⟨_, v, hrow, h.ent, hv, h.head, h.jobs, h.running, h.frame⟩

/-! ### Refused commands (R112, R531) -/

/-- A refusal keeps every field that a posted result keeps, but for the start point. -/
theorem State.get_refuse (c : Ctx) (q : Que) (s : State) (status : Nat) (l : Loc) (h : Unposted c l)
    (hhead : l.key ≠ (GL_Q_STAT.head c q).key) : (s.refuse (s.candidate c q) status).get l = s.get l :=
  (State.get_advance_ne _ _ _ _ hhead).trans (s.get_post _ _ _ _ _ c.isLt _ h)

/-- What R112 and R531 say of a refused command holds of all 64 regions: its slot holds the status of the first check it
fails, and it takes no reference. -/
theorem refusedCommand_reports (r : StartRow) (hr : r ∈ startRows) (c : Ctx) (q : Que) (s : State) (p : Bool × Nat)
    (hdue : r.due s c q = true) (hfail : (r.checks s c q).find? (fun p => p.1) = some p) :
    ∃ t : State, exec (r.instr c q) s = .next t.after ∧ exec (.commandStart c q) s = .next t.after
      ∧ Ended c q s t p.2 0 ∧ ∀ n < 64, t.get (GL_RGN_STAT.refs n) = s.get (GL_RGN_STAT.refs n) := by
  obtain ⟨hrow, hstart⟩ := startRow_exec_refuses hr hdue hfail
  refine ⟨_, hrow, hstart, ended_refuse c q s p.2, fun n hn => State.get_refuse c q s p.2 _ ⟨?_, ?_, ?_⟩ ?_⟩ <;>
    simp only [Loc.key, GL_RGN_STAT.refs, GL_CTX_STAT.timeouts, GL_Q_STAT.head] <;> omega

/-- Context 0 in RUN with a NOP at the start point of queue 1 whose operand byte 24 is 1, which R106 refuses. -/
def refusedNop : State :=
  (({ State.reset with ring := [(8 * 64 + 3, 1)] } : State).set (GL_CTX_STAT.state 0) ctxRUN).set (GL_Q_STAT.tail 0 1) 1

/-- Refutes O8: the statement ranges over every number n, and the place that GL_RGN_STAT[768] would have, past the 64
regions, is that of GL_Q_STAT[0][1], whose start point moves on. For the 64 regions the statement holds
(`refusedCommand_reports`). -/
theorem not_refusedCommandReportsTheFirstFailingCheck : ¬ Obligations.RefusedCommandReportsTheFirstFailingCheck := by
  unfold Obligations.RefusedCommandReportsTheFirstFailingCheck
  intro h
  obtain ⟨t, -, -, -, hhead, -, -, hrefs, -⟩ := h ⟨.nop, opNOP, State.checkNop, fun _ _ => false, State.runNop⟩
    (List.mem_cons_self) 0 1 refusedNop (true, stBADFIELD) (by decide) (by decide)
  have hplace : t.get (GL_RGN_STAT.refs 768) = t.get (GL_Q_STAT.head 0 1) := rfl
  have hold : refusedNop.get (GL_RGN_STAT.refs 768) = 0 := by decide
  have hnew : (refusedNop.headOf 0 1 + 1) % 64 = 1 := by decide
  have hsame : 1 = 0 := by
    calc 1 = t.get (GL_Q_STAT.head 0 1) := (hhead.trans hnew).symm
      _ = 0 := hplace.symm.trans ((hrefs 768).trans hold)
  omega

end Sys2Proof.Machine

namespace Sys2Proof.Machine

/-! ### Counters and doorbells (R99, R111, R114, R116) -/

/-- The distance of two values modulo 2^32 is the remainder of their difference. -/
theorem subMod_32_eq_emod (v w : Nat) : (subMod 32 v w : Int) = ((v : Int) - w) % 2 ^ 32 := by
  simp only [subMod]
  omega

/-- Settles O9: an enabled wait compares the counter's distance from the wait value, modulo 2^32, with 2^31. -/
theorem counterWaitComparesModulo : Obligations.CounterWaitComparesModulo := by
  unfold Obligations.CounterWaitComparesModulo
  intro s c wb wv _ _
  refine ⟨fun hoff => by simp [State.waitMet, hoff], fun hon => ?_⟩
  have hdist := subMod_32_eq_emod (s.get (GL_EVT.value c (wb % 32))) wv
  simp only [State.waitMet, Bool.or_eq_true, decide_eq_true_eq, ← hdist]
  omega

/-- Settles O10: FAST_INCREMENT is a wrapping count of one register field. -/
theorem fastWriteAddsToTheCounter : Obligations.FastWriteAddsToTheCounter := by
  unfold Obligations.FastWriteAddsToTheCounter
  intro c e add s
  exact ⟨s.wrapInc (GL_EVT.value c e) add.toNat, rfl, State.get_set_same _ _ _,
    fun l hl => State.get_set_ne _ _ _ _ hl, State.set_only_regs _ _ _⟩

/-- The entries of a queue submitted (R99). -/
def State.submit (s : State) (c q : Nat) (es : List Nat) : State :=
  es.foldl (fun s e => s.setEnt (entryKey c q e) { s.ent (entryKey c q e) with phase := .submitted }) s

/-- Submitting entries changes entries only. -/
theorem State.submit_only_entries (s : State) (c q : Nat) (es : List Nat) :
    s.submit c q es = { s with entries := (s.submit c q es).entries } := by
  induction es generalizing s with
  | nil => rfl
  | cons e es ih => exact ih _

/-- Entries of one queue have keys of their own. -/
theorem entryKey_inj {c q e f : Nat} (h : entryKey c q e = entryKey c q f) : e = f := by
  unfold entryKey at h
  omega

/-- Exactly the entries named are submitted (R99, R116). -/
theorem State.submit_phase (s : State) (c q : Nat) (es : List Nat) (e : Nat) :
    ((s.submit c q es).ent (entryKey c q e)).phase =
      if e ∈ es then .submitted else (s.ent (entryKey c q e)).phase := by
  induction es generalizing s with
  | nil => rfl
  | cons f es ih =>
    have hstep : s.submit c q (f :: es) =
      (s.setEnt (entryKey c q f) { s.ent (entryKey c q f) with phase := .submitted }).submit c q es := rfl
    rw [hstep, ih]
    by_cases hmem : e ∈ es
    · simp [hmem]
    · by_cases heq : e = f
      · subst heq; simp [hmem]
      · rw [State.ent_setEnt_ne _ _ _ _ fun hkey => heq (entryKey_inj hkey)]
        simp [hmem, heq]

/-- A doorbell that names the tail submits nothing (R99). -/
theorem State.doorbell_none (s : State) (c q t : Nat) (h : doorbellEntries (s.get (GL_Q_STAT.tail c q)) t = []) :
    s.doorbell c q t = s := by
  simp [State.doorbell, h]

/-- Whether R99 takes a doorbell: the context is live, the entries are released, and fewer than 64 would stand submitted. -/
def State.doorbellOk (s : State) (c q : Nat) (es : List Nat) : Bool :=
  s.live c && (es.all fun e => (s.ent (entryKey c q e)).phase == .released)
    && decide (es.length < s.get (GL_Q_STAT.free c q))

/-- R99 ignores a doorbell where one of its conditions fails. -/
theorem State.doorbellOk_iff (s : State) (c q : Nat) (es : List Nat) : s.doorbellOk c q es = true ↔
    ¬ (¬ s.live c = true ∨ (es.any fun e => (s.ent (entryKey c q e)).phase ≠ .released) = true
      ∨ s.get (GL_Q_STAT.free c q) ≤ es.length) := by
  simp [State.doorbellOk, and_assoc]

/-- A doorbell that R99 does not take sets the two ovf bits. -/
theorem State.doorbell_ignored (s : State) (c q t : Nat) (hne : doorbellEntries (s.get (GL_Q_STAT.tail c q)) t ≠ [])
    (h : s.doorbellOk c q (doorbellEntries (s.get (GL_Q_STAT.tail c q)) t) = false) :
    s.doorbell c q t = (s.set (GL_Q_STAT.ovf c q) 1).set (GL_CTX_STAT.ovf c) 1 := by
  have hbad := (not_congr (s.doorbellOk_iff c q _)).mp (by rw [h]; decide)
  unfold State.doorbell
  extract_lets tail es
  rw [if_neg hne, if_pos (not_not.mp hbad)]
  rfl

/-- A doorbell of a tail that submits entries: they leave free, and the first one of an empty queue starts its timer. -/
def State.ringUp (s : State) (c q t : Nat) (es : List Nat) : State :=
  let u := ((s.submit c q es).set (GL_Q_STAT.tail c q) t).dec (GL_Q_STAT.free c q) es.length
  (if !s.hasHead c q then u.stampHead c q else u).syncBlocked c q

/-- A doorbell that R99 takes does that. -/
theorem State.doorbell_taken (s : State) (c q t : Nat) (hne : doorbellEntries (s.get (GL_Q_STAT.tail c q)) t ≠ [])
    (h : s.doorbellOk c q (doorbellEntries (s.get (GL_Q_STAT.tail c q)) t) = true) :
    s.doorbell c q t = s.ringUp c q t (doorbellEntries (s.get (GL_Q_STAT.tail c q)) t) := by
  have hgood := (s.doorbellOk_iff c q _).mp h
  unfold State.doorbell
  extract_lets tail es
  rw [if_neg hne, if_neg hgood]
  rfl

/-- Beside the entries it submits, such a doorbell changes register fields and start times only. -/
theorem State.ringUp_frame (s : State) (c q t : Nat) (es : List Nat) :
    s.ringUp c q t es = { s with regs := (s.ringUp c q t es).regs, entries := (s.submit c q es).entries,
                                 qstamp := (s.ringUp c q t es).qstamp, qhall := (s.ringUp c q t es).qhall } := by
  unfold State.ringUp
  rw [State.submit_only_entries]
  dsimp only
  split <;> rfl

/-- Of GL_Q_STAT it sets the tail, free, and whether the start point is blocked. -/
theorem State.get_ringUp (s : State) (c q t : Nat) (es : List Nat) (l : Loc) (hoff : l.off = (GL_Q_STAT.tail c q).off)
    (hlo : l.lo ≠ 20) : (s.ringUp c q t es).get l =
      ((s.set (GL_Q_STAT.tail c q) t).set (GL_Q_STAT.free c q) (s.get (GL_Q_STAT.free c q) - es.length)).get l := by
  have hfree : ((s.submit c q es).set (GL_Q_STAT.tail c q) t).get (GL_Q_STAT.free c q) = s.get (GL_Q_STAT.free c q) := by
    rw [State.get_set_ne _ _ _ _ (by exact Loc.key_ne_of_lo_ne rfl (show 12 ≠ 6 by decide)), State.submit_only_entries]; rfl
  have hblocked (u : State) : (u.syncBlocked c q).get l = u.get l :=
    State.get_set_ne _ _ _ _ (Loc.key_ne_of_lo_ne hoff hlo)
  have hstamp (b : Bool) (u : State) : (if b then u.stampHead c q else u).get l = u.get l := by split <;> rfl
  rw [State.ringUp, hblocked, hstamp, State.dec_eq, hfree, State.submit_only_entries]
  rfl

/-- Settles O11: what `State.doorbell` does in each of its three cases. -/
theorem doorbellSubmitsUpToTheTail : Obligations.DoorbellSubmitsUpToTheTail := by
  unfold Obligations.DoorbellSubmitsUpToTheTail
  intro c q t s es ok
  refine ⟨fun hnone => congrArg fin (s.doorbell_none c q t hnone),
    fun hne hok => congrArg fin (s.doorbell_ignored c q t hne hok),
    fun hne hok => ⟨s.ringUp c q t es, congrArg fin (s.doorbell_taken c q t hne hok), ?_, ?_, ?_, fun e _ => ?_, ?_⟩⟩
  · rw [State.get_ringUp _ _ _ _ _ _ (by rfl) (by exact (show 6 ≠ 20 by decide)),
      State.get_set_ne _ _ _ _ (by exact Loc.key_ne_of_lo_ne rfl (show 6 ≠ 12 by decide)), State.get_set_same]
    exact Nat.mod_eq_of_lt t.isLt
  · rw [State.get_ringUp _ _ _ _ _ _ (by rfl) (by exact (show 12 ≠ 20 by decide)), State.get_set_same]
  · rw [State.get_ringUp _ _ _ _ _ _ (by rfl) (by exact (show 0 ≠ 20 by decide)),
      State.get_set_ne _ _ _ _ (by exact Loc.key_ne_of_lo_ne rfl (show 0 ≠ 12 by decide)),
      State.get_set_ne _ _ _ _ (by exact Loc.key_ne_of_lo_ne rfl (show 0 ≠ 6 by decide))]
  · rw [← State.submit_phase, State.ringUp_frame]
    rfl
  · rw [State.ringUp_frame]
    exact ⟨rfl, rfl, rfl, rfl, rfl⟩

/-! ### Timers (R90, R107, R120, R122, R259, R406) -/

/-- A STEP_END is no collective, so none of its down results is waited for (R259). -/
theorem State.gsAnswered_stepEnd (s : State) (j : Job) (h : j.opcode = opSTEPEND) : s.gsAnswered j = false := by
  have hgs : j.isGs = false := by simp only [Job.isGs, h]; decide
  simp [State.gsAnswered, hgs]

/-- A running command in time-out is ended by its timer (R120, R122). -/
theorem exec_commandTimeout_running (c : Ctx) (q : Que) (e : Ent) (s : State) (j : Job) (hjob : s.cmdJob c q e = some j)
    (hrun : j.ending = none) (hlive : s.live c = true) (htime : s.timedOut c j.stamp j.entry = true)
    (hans : s.gsAnswered j = false) : exec (.commandTimeout c q e) s = .next (s.timeoutJob j).after := by
  simp only [exec, execCommandTimeout, hjob]
  exact if_pos ⟨by rw [hrun]; rfl, hlive, htime, by simp [hans]⟩

/-- Settles O15: each row by the guards it meets. -/
theorem timersEndOrReleaseWhatWaits : Obligations.TimersEndOrReleaseWhatWaits := by
  unfold Obligations.TimersEndOrReleaseWhatWaits
  refine ⟨fun c q e s hjob hhead he hlive htime => ?_, fun c q e s j hjob hrun hlive htime hans hop => ?_,
    fun c q e s j hjob hrun hlive htime hop hphase hend => ?_, fun c q e s j hjob h => ?_,
    fun c q e s j t hjob hhold ht => ?_, fun c q e s j hjob hrecv hwait => ?_⟩
  · simp only [exec, execCommandTimeout, hjob]
    exact if_pos ⟨hhead, he, hlive, htime⟩
  · rw [exec_commandTimeout_running c q e s j hjob hrun hlive htime hans, State.timeoutJob,
      if_neg fun h => hop.elim (· h.1) (· h.2)]
  · rw [exec_commandTimeout_running c q e s j hjob hrun hlive htime (s.gsAnswered_stepEnd j hop), State.timeoutJob,
      if_pos ⟨hop, hphase⟩, hend]
    rfl
  · simp only [exec, execCommandTimeout, hjob]
    refine if_neg fun ⟨hrun, hlive, htime, hans⟩ => ?_
    obtain hend | hdead | hearly | hdown := h
    · rw [Option.isNone_iff_eq_none.mp hrun] at hend
      cases hend
    · exact absurd hlive (by rw [hdead]; decide)
    · exact absurd htime (by rw [hearly]; decide)
    · exact hans hdown
  · simp only [exec, execHallWaitDone, hjob, hhold]
    exact if_pos ht
  · simp only [exec, execBroadcastWaitExpiry, hjob]
    exact if_pos ⟨hrecv, hwait⟩

end Sys2Proof.Machine

namespace Sys2Proof.Machine

/-! ### Entry to RUN (R92, R93, R94) -/

/-- What a fold shows of one member of its list, where the other members change nothing of that: what the member's own
step shows, after a state that still shows what the first one did. -/
theorem State.foldl_at {α β : Type} (p : State → β) (f : State → α → State) {d : α} {xs : List α} (hnodup : xs.Nodup)
    (hmem : d ∈ xs) (hother : ∀ s x, x ≠ d → p (f s x) = p s) (s : State) :
    ∃ t, p t = p s ∧ p (xs.foldl f s) = p (f t d) := by
  induction xs generalizing s with
  | nil => cases hmem
  | cons x xs ih =>
    obtain ⟨hx, hnodup⟩ := List.nodup_cons.mp hnodup
    by_cases hxd : x = d
    · subst hxd
      exact ⟨s, rfl, State.foldl_keeps_mem p f xs (fun s y hy => hother s y (by rintro rfl; exact hx hy)) (f s x)⟩
    · obtain ⟨t, ht, hfold⟩ := ih hnodup ((List.mem_cons.mp hmem).resolve_left (Ne.symm hxd)) (f s x)
      exact ⟨t, ht.trans (hother s x hxd), hfold⟩

/-- An emptied queue's registers (R94). -/
theorem State.get_clearQueue (s : State) (c q : Nat) (l : Loc) : (s.clearQueue c q).get l =
    ((((s.set (GL_Q_STAT.head c q) 0).set (GL_Q_STAT.tail c q) 0).set (GL_Q_STAT.free c q) 64).set
      (GL_Q_STAT.blocked c q) 0).get l := by
  unfold State.clearQueue
  extract_lets s1 s2
  exact State.foldl_keeps (State.get · l) _ (fun t e => State.get_setEnt t _ _ l) _ s2

/-- Emptying a queue keeps every register but its GL_Q_STAT. -/
theorem State.get_clearQueue_ne (s : State) (c q : Nat) (l : Loc) (h : l.key / 64 ≠ 0x8008 + 0x100 * c + 0x10 * q) :
    (s.clearQueue c q).get l = s.get l := by
  have hne (m : Loc) (hm : m.key / 64 = 0x8008 + 0x100 * c + 0x10 * q) : l.key ≠ m.key := by
    rintro e; exact h (by rw [e, hm])
  rw [State.get_clearQueue, State.get_set_ne _ _ _ _ (hne _ _), State.get_set_ne _ _ _ _ (hne _ _),
    State.get_set_ne _ _ _ _ (hne _ _), State.get_set_ne _ _ _ _ (hne _ _)]
  all_goals simp only [Loc.key, GL_Q_STAT.head, GL_Q_STAT.tail, GL_Q_STAT.free, GL_Q_STAT.blocked]; omega

/-- An emptied queue's entries are released, and no other queue's change (R94). -/
theorem State.ent_clearQueue (s : State) (c q p e : Nat) (he : e < 64) :
    (s.clearQueue c q).ent (entryKey c p e) = if p = q then {} else s.ent (entryKey c p e) := by
  unfold State.clearQueue
  extract_lets s1 s2
  by_cases hpq : p = q
  · subst hpq
    rw [if_pos rfl]
    obtain ⟨t, -, ht⟩ := State.foldl_at (State.ent · (entryKey c p e)) (fun s f => s.setEnt (entryKey c p f) {})
      List.nodup_range (List.mem_range.mpr he)
      (fun s f hf => State.ent_setEnt_ne _ _ _ _ fun hkey => hf (entryKey_inj hkey).symm) s2
    rw [ht, State.ent_setEnt_same]
  · rw [if_neg hpq]
    refine State.foldl_keeps_mem (State.ent · (entryKey c p e)) _ _ (fun t f hf => ?_) s2
    have := List.mem_range.mp hf
    exact State.ent_setEnt_ne _ _ _ _ (by unfold entryKey; omega)

/-- What shows of a queue: its start point, tail and free entries, and its entries. -/
def State.queueView (s : State) (c q : Nat) : Nat × Nat × Nat × (Fin 64 → Entry) :=
  (s.get (GL_Q_STAT.head c q), s.get (GL_Q_STAT.tail c q), s.get (GL_Q_STAT.free c q), fun e => s.ent (entryKey c q e))

/-- An emptied queue (R94). -/
theorem State.queueView_clearQueue (s : State) (c q : Nat) : (s.clearQueue c q).queueView c q = (0, 0, 64, fun _ => {}) := by
  have hset {l m : Loc} (hoff : l.off = m.off) (hlo : l.lo ≠ m.lo) (t : State) (v : Nat) :
      (t.set m v).get l = t.get l := State.get_set_ne _ _ _ _ (Loc.key_ne_of_lo_ne hoff hlo)
  have hhead : (s.clearQueue c q).get (GL_Q_STAT.head c q) = 0 := by
    rw [State.get_clearQueue, hset (by rfl) (by exact (show 0 ≠ 20 by decide)),
      hset (by rfl) (by exact (show 0 ≠ 12 by decide)), hset (by rfl) (by exact (show 0 ≠ 6 by decide)), State.get_set_same,
      Nat.zero_mod]
  have htail : (s.clearQueue c q).get (GL_Q_STAT.tail c q) = 0 := by
    rw [State.get_clearQueue, hset (by rfl) (by exact (show 6 ≠ 20 by decide)),
      hset (by rfl) (by exact (show 6 ≠ 12 by decide)), State.get_set_same, Nat.zero_mod]
  have hfree : (s.clearQueue c q).get (GL_Q_STAT.free c q) = 64 := by
    rw [State.get_clearQueue, hset (by rfl) (by exact (show 12 ≠ 20 by decide)), State.get_set_same]
    rfl
  simp only [State.queueView, hhead, htail, hfree, State.ent_clearQueue _ _ _ _ _ (Fin.isLt _), if_true]

/-- Emptying a queue leaves every other one of the context as it shows. -/
theorem State.queueView_clearQueue_ne (s : State) (c q p : Nat) (h : p ≠ q) :
    (s.clearQueue c q).queueView c p = s.queueView c p := by
  have hne (m : Loc) (hm : m.key / 64 = 0x8008 + 0x100 * c + 0x10 * p) : m.key / 64 ≠ 0x8008 + 0x100 * c + 0x10 * q := by
    omega
  simp only [State.queueView, State.ent_clearQueue _ _ _ _ _ (Fin.isLt _), if_neg h]
  rw [State.get_clearQueue_ne _ _ _ _ (hne _ _), State.get_clearQueue_ne _ _ _ _ (hne _ _),
    State.get_clearQueue_ne _ _ _ _ (hne _ _)]
  all_goals simp only [Loc.key, GL_Q_STAT.head, GL_Q_STAT.tail, GL_Q_STAT.free]; omega

/-- Every queue of a context emptied (R94). -/
def State.clearQueues (s : State) (c : Nat) : State := (List.range 16).foldl (fun s q => s.clearQueue c q) s

/-- Each of them is. -/
theorem State.queueView_clearQueues (s : State) (c q : Nat) (hq : q < 16) :
    (s.clearQueues c).queueView c q = (0, 0, 64, fun _ => {}) := by
  obtain ⟨t, -, ht⟩ := State.foldl_at (State.queueView · c q) (fun s p => s.clearQueue c p) List.nodup_range
    (List.mem_range.mpr hq) (fun s p hp => s.queueView_clearQueue_ne c p q (Ne.symm hp)) s
  exact ht.trans (t.queueView_clearQueue c q)

/-- An event counter at 0 without poison (R94). -/
def State.clearEvent (s : State) (c e : Nat) : State := (s.set (GL_EVT.value c e) 0).set (GL_EVT.poison c e) 0

/-- It keeps every register but that counter's. -/
theorem State.get_clearEvent_ne (s : State) (c e : Nat) (l : Loc) (h : l.key / 64 ≠ 0x7000 + 0x100 * c + 0x8 * e) :
    (s.clearEvent c e).get l = s.get l := by
  have hvalue : l.key ≠ (GL_EVT.value c e).key := by simp only [Loc.key, GL_EVT.value] at h ⊢; omega
  have hpoison : l.key ≠ (GL_EVT.poison c e).key := by simp only [Loc.key, GL_EVT.poison] at h ⊢; omega
  exact (State.get_set_ne _ _ _ _ hpoison).trans (State.get_set_ne _ _ _ _ hvalue)

/-- Every event counter of a context at 0 without poison (R94). -/
def State.clearEvents (s : State) (c : Nat) : State := (List.range 32).foldl (fun s e => s.clearEvent c e) s

/-- They keep every register but the context's counters. -/
theorem State.get_clearEvents_ne (s : State) (c : Nat) (hc : c < 4) (l : Loc) (h : l.key / 64 < 0x7000 ∨ 0x7400 ≤ l.key / 64) :
    (s.clearEvents c).get l = s.get l := by
  refine State.foldl_keeps_mem (State.get · l) _ _ (fun t e he => t.get_clearEvent_ne c e l ?_) s
  have := List.mem_range.mp he
  omega

/-- They keep every entry. -/
@[simp] theorem State.clearEvents_entries (s : State) (c : Nat) : (s.clearEvents c).entries = s.entries := by
  exact State.foldl_keeps State.entries (fun s e => s.clearEvent c e) (fun _ _ => rfl) (List.range 32) s

/-- Each counter is at 0 without poison. -/
theorem State.get_clearEvents (s : State) (c e : Nat) (he : e < 32) :
    (s.clearEvents c).get (GL_EVT.value c e) = 0 ∧ (s.clearEvents c).get (GL_EVT.poison c e) = 0 := by
  obtain ⟨t, -, ht⟩ := State.foldl_at (fun s => (s.get (GL_EVT.value c e), s.get (GL_EVT.poison c e)))
    (fun s e => s.clearEvent c e) List.nodup_range (List.mem_range.mpr he) (fun s f hf => by
      rw [s.get_clearEvent_ne c f, s.get_clearEvent_ne c f]
      all_goals simp only [Loc.key, GL_EVT.value, GL_EVT.poison]; omega) s
  obtain ⟨hvalue, hpoison⟩ := Prod.mk.inj ht
  refine ⟨hvalue.trans ?_, hpoison.trans ?_⟩
  · rw [State.clearEvent, State.get_set_ne _ _ _ _ (by exact Loc.key_ne_of_lo_ne rfl (show 0 ≠ 32 by decide)),
      State.get_set_same, Nat.zero_mod]
  · rw [State.clearEvent, State.get_set_same, Nat.zero_mod]

/-- What entry to RUN sets beside queues and counters (R94, R386). -/
def State.enteredRun (s : State) (c : Nat) : State :=
  (((s.setCx c {}).set (GS_SLOT_STAT.peak c) 0).set (DR_STAT.bound c) 0).set (GL_CTX_STAT.state c) ctxRUN

/-- It keeps every other register. -/
theorem State.get_enteredRun_ne (s : State) (c : Nat) (l : Loc) (hpeak : l.key ≠ (GS_SLOT_STAT.peak c).key)
    (hbound : l.key ≠ (DR_STAT.bound c).key) (hstate : l.key ≠ (GL_CTX_STAT.state c).key) :
    (s.enteredRun c).get l = s.get l := by
  rw [State.enteredRun, State.get_set_ne _ _ _ _ hstate, State.get_set_ne _ _ _ _ hbound, State.get_set_ne _ _ _ _ hpeak,
    State.get_setCx]

/-- Of the context it sets the state, the hidden state, and that it is not bound. -/
theorem State.enteredRun_context (s : State) (c : Nat) : (s.enteredRun c).ctxState c = ctxRUN ∧ (s.enteredRun c).cxAt c = {}
    ∧ (s.enteredRun c).get (DR_STAT.bound c) = 0 := by
  have hne : (DR_STAT.bound c).key ≠ (GL_CTX_STAT.state c).key := by
    simp only [Loc.key, DR_STAT.bound, GL_CTX_STAT.state]; omega
  exact ⟨State.get_set_same _ (GL_CTX_STAT.state c) ctxRUN, State.cxAt_setCx_same s c {},
    (State.get_set_ne _ _ _ _ hne).trans (State.get_set_same _ (DR_STAT.bound c) 0)⟩

/-- Entry to RUN from OFF (R94). -/
theorem State.enterRun_steps (s : State) (c : Nat) : s.enterRun c = ((s.clearQueues c).clearEvents c).enteredRun c := rfl

/-- It changes no entry. -/
@[simp] theorem State.enteredRun_entries (s : State) (c : Nat) : (s.enteredRun c).entries = s.entries := rfl

/-- After the queues are emptied, entry to RUN changes no entry. -/
theorem State.enterRun_entries (s : State) (c : Nat) : (s.enterRun c).entries = (s.clearQueues c).entries := by
  rw [State.enterRun_steps, State.enteredRun_entries, State.clearEvents_entries]

/-- Nor a queue's register. -/
theorem State.get_enterRun_queue (s : State) (c : Nat) (hc : c < 4) (l : Loc) (h : 0x7400 ≤ l.key / 64 ∧ l.key / 64 < 0x9000) :
    (s.enterRun c).get l = (s.clearQueues c).get l := by
  rw [State.enterRun_steps, State.get_enteredRun_ne, State.get_clearEvents_ne _ _ hc _ (.inr h.1)]
  all_goals rintro e; rw [e] at h; simp only [Loc.key, GS_SLOT_STAT.peak, DR_STAT.bound, GL_CTX_STAT.state] at h; omega

/-- A queue then shows as its emptying left it. -/
theorem State.queueView_enterRun (s : State) (c q : Nat) (hc : c < 4) (hq : q < 16) :
    (s.enterRun c).queueView c q = (0, 0, 64, fun _ => {}) := by
  rw [← s.queueView_clearQueues c q hq]
  simp only [State.queueView, State.ent, State.enterRun_entries]
  rw [State.get_enterRun_queue _ _ hc, State.get_enterRun_queue _ _ hc, State.get_enterRun_queue _ _ hc]
  all_goals simp only [Loc.key, GL_Q_STAT.head, GL_Q_STAT.tail, GL_Q_STAT.free]; omega

/-- A start write that meets R93 takes an OFF context to RUN as R94 says. -/
theorem contextStart_enters_run (c : Ctx) (s : State) (hoff : s.ctxState c = 0) (hok : s.startOk c = true) :
    ∃ t : State, exec (.contextStart c) s = .next t.after ∧ t.ctxState c = ctxRUN ∧ (t.cxAt c).gcn = none
      ∧ (∀ q < 16, t.get (GL_Q_STAT.head c q) = 0 ∧ t.get (GL_Q_STAT.tail c q) = 0 ∧ t.get (GL_Q_STAT.free c q) = 64)
      ∧ (∀ q < 16, ∀ e < 64, t.ent (entryKey c q e) = {})
      ∧ (∀ e < 32, t.get (GL_EVT.value c e) = 0 ∧ t.get (GL_EVT.poison c e) = 0)
      ∧ t.get (GL_CTX_STAT.gen c) = s.get (GL_CTX_STAT.gen c) ∧ t.get (DR_STAT.bound c) = 0 := by
  have hc := c.isLt
  have hstart : s.ctxStart c = s.enterRun c := by simp [State.ctxStart, hoff, hok]
  have hqueue (q : Nat) (hq : q < 16) := s.queueView_enterRun c q hc hq
  simp only [State.queueView, Prod.mk.injEq] at hqueue
  obtain ⟨hstate, hcx, hbound⟩ := ((s.clearQueues c).clearEvents c).enteredRun_context c
  refine ⟨s.enterRun c, congrArg fin hstart, hstate, congrArg CtxS.gcn hcx,
    fun q hq => ⟨(hqueue q hq).1, (hqueue q hq).2.1, (hqueue q hq).2.2.1⟩,
    fun q hq e he => congrFun (hqueue q hq).2.2.2 ⟨e, he⟩, fun e he => ?_, ?_, hbound⟩
  · obtain ⟨hvalue, hpoison⟩ := (s.clearQueues c).get_clearEvents c e he
    rw [State.enterRun_steps, State.get_enteredRun_ne, State.get_enteredRun_ne]
    · exact ⟨hvalue, hpoison⟩
    all_goals
      simp only [Loc.key, GL_EVT.value, GL_EVT.poison, GS_SLOT_STAT.peak, DR_STAT.bound, GL_CTX_STAT.state]
      omega
  · rw [State.enterRun_steps, State.get_enteredRun_ne, State.get_clearEvents_ne _ _ hc, State.clearQueues,
      State.foldl_keeps_mem (State.get · (GL_CTX_STAT.gen c)) _ _ fun t q hq => t.get_clearQueue_ne c q _ ?_]
    all_goals
      simp only [Loc.key, GL_CTX_STAT.gen, GS_SLOT_STAT.peak, DR_STAT.bound, GL_CTX_STAT.state]
      omega

/-! ### Hold, resume and pre-emption (R92, R124, R126) -/

/-- A context that enters HELD: its registers but the state, and hall time, are as they were (R92). -/
theorem State.ctxState_enterHeld (s : State) (c : Nat) : (s.enterHeld c).ctxState c = ctxHELD :=
  State.get_set_same s (GL_CTX_STAT.state c) ctxHELD

/-- It notes the time. -/
theorem State.cxAt_enterHeld (s : State) (c : Nat) : (s.enterHeld c).cxAt c = { s.cxAt c with heldAt := s.now } :=
  State.cxAt_setCx_same _ _ _

/-- A context that leaves HELD is in RUN, held by neither the host nor pre-emption (R92). -/
theorem State.leaveHeld_runs (s : State) (c : Nat) : (s.leaveHeld c).ctxState c = ctxRUN
    ∧ ((s.leaveHeld c).cxAt c).hostHeld = false ∧ ((s.leaveHeld c).cxAt c).preHeld = false := by
  have hcx : (s.leaveHeld c).cxAt c = { s.cxAt c with
      heldAcc := (s.cxAt c).heldAcc + (s.now - (s.cxAt c).heldAt), hostHeld := false, preHeld := false } :=
    State.cxAt_setCx_same _ _ _
  exact ⟨State.get_set_same s (GL_CTX_STAT.state c) ctxRUN, by rw [hcx], by rw [hcx]⟩

/-- What PREEMPT_HOLD looks at and changes of one context under another's prio. -/
def State.preView (s : State) (c d : Nat) : Nat × Nat × Nat × Nat × CtxS :=
  (s.get (GL_CTX_CFG.prio d), s.get (GL_CTX_CFG.prio c), s.ctxState d, s.phase d, s.cxAt d)

/-- PREEMPT_HOLD's step for one context (R124). -/
def State.preStep (s : State) (c d : Nat) : State :=
  if s.get (GL_CTX_CFG.prio d) < s.get (GL_CTX_CFG.prio c) ∧ s.ctxState d = ctxRUN then s.preHold d else s

/-- A context held by pre-emption changes no register but its state's (R124). -/
theorem State.get_preHold_ne (s : State) (d : Nat) (l : Loc) (h : l.key ≠ (GL_CTX_STAT.state d).key) :
    (s.preHold d).get l = s.get l := by
  unfold State.preHold
  split
  · rfl
  · exact State.get_set_ne s (GL_CTX_STAT.state d) l ctxHELD h

/-- It changes no other context's hidden state. -/
theorem State.cxAt_preHold_ne (s : State) (d x : Nat) (h : d ≠ x) : (s.preHold x).cxAt d = s.cxAt d := by
  unfold State.preHold
  split
  · exact State.cxAt_setCx_ne _ _ _ _ h
  · exact (State.cxAt_setCx_ne _ _ _ _ h).trans (State.cxAt_setCx_ne _ _ _ _ h)

/-- Outside the commit window it is HELD, by pre-emption (R124, R126). -/
theorem State.preHold_held (s : State) (d : Nat) (h : s.window d = false) :
    (s.preHold d).ctxState d = ctxHELD ∧ ((s.preHold d).cxAt d).preHeld = true := by
  simp only [State.preHold, h]
  refine ⟨s.ctxState_enterHeld d, ?_⟩
  exact congrArg CtxS.preHeld (State.cxAt_setCx_same _ d _)

/-- A step for one context shows in no other. -/
theorem State.preView_preStep_ne (s : State) (c d x : Nat) (h : x ≠ d) : (s.preStep c x).preView c d = s.preView c d := by
  unfold State.preStep
  split
  · simp only [State.preView, State.ctxState, State.phase, State.cxAt_preHold_ne _ _ _ (Ne.symm h)]
    rw [State.get_preHold_ne, State.get_preHold_ne, State.get_preHold_ne, State.get_preHold_ne]
    all_goals simp only [Loc.key, GL_CTX_CFG.prio, GL_CTX_STAT.state, CM_STAT.phase]; omega
  · rfl

/-- PREEMPT_HOLD holds the RUN contexts of lower prio that are outside the commit window, and no context of another prio
(R124, R126). -/
theorem preemptHold_holds (c : Ctx) (s : State) (hready : s.hasReady c = true) :
    ∃ t : State, exec (.preemptHold c) s = .next t.after ∧ ∀ d < 4,
      (s.get (GL_CTX_CFG.prio d) < s.get (GL_CTX_CFG.prio c) → s.ctxState d = ctxRUN → s.window d = false →
        t.ctxState d = ctxHELD ∧ (t.cxAt d).preHeld = true)
      ∧ (¬ s.get (GL_CTX_CFG.prio d) < s.get (GL_CTX_CFG.prio c) → t.ctxState d = s.ctxState d) := by
  refine ⟨(List.range 4).foldl (fun s d => s.preStep c d) s, if_pos hready, fun d hd => ?_⟩
  obtain ⟨u, hu, hlast⟩ := State.foldl_at (State.preView · c d) (fun s d => s.preStep c d) List.nodup_range
    (List.mem_range.mpr hd) (fun s x hx => s.preView_preStep_ne c d x hx) s
  simp only [State.preView, Prod.mk.injEq] at hu hlast
  obtain ⟨hprio, hmine, hstate, hphase, -⟩ := hu
  obtain ⟨-, -, hlstate, -, hlcx⟩ := hlast
  rw [hlstate, hlcx, ← hprio, ← hmine, ← hstate]
  refine ⟨fun hlow hrun hwin => ?_, fun hnot => ?_⟩
  · rw [State.preStep, if_pos ⟨hlow, hrun⟩]
    exact u.preHold_held d (by rw [← hwin, State.window, State.window, hphase])
  · rw [State.preStep, if_neg fun h => hnot h.1]

/-- Settles O16: each row by the branch it takes, and what entering or leaving HELD does. -/
theorem contextsStartHoldAndResume : Obligations.ContextsStartHoldAndResume := by
  unfold Obligations.ContextsStartHoldAndResume
  refine ⟨contextStart_enters_run, fun c s hoff hbad => ?_, fun c s hrun hopen => ?_, fun c s hrun hwin => ?_,
    fun c s hheld hpre => ?_, fun c s i hidle hpre hhost htime => ?_, fun c s hopen hrun hdefer => ?_, preemptHold_holds⟩
  · refine congrArg fin ?_
    simp [State.ctxStart, hoff, hbad]
  · refine ⟨(s.enterHeld c).setCx c { (s.enterHeld c).cxAt c with hostHeld := true }, congrArg fin ?_,
      s.ctxState_enterHeld c, ?_, ?_⟩
    · simp [State.ctxHold, hrun, hopen]
    · rw [State.cxAt_setCx_same]
    · rw [State.cxAt_setCx_same, State.cxAt_enterHeld]
  · refine congrArg fin ?_
    simp [State.ctxHold, hrun, hwin]
  · obtain ⟨hstate, hhost, -⟩ := s.leaveHeld_runs c
    refine ⟨s.leaveHeld c, congrArg fin ?_, hstate, hhost⟩
    simp [State.ctxResume, hheld, hpre]
  · obtain ⟨hstate, -, hleft⟩ := s.leaveHeld_runs c
    refine ⟨s.leaveHeld c, ?_, hstate, hleft⟩
    simp [exec, execPreemptRelease, State.preOver, hidle, htime, hpre, hhost, fin]
  · refine ⟨(s.enterHeld c).setCx c { (s.enterHeld c).cxAt c with
        hostHeld := true, preHeld := (s.cxAt c).deferPre && !s.preOver c, deferHost := false, deferPre := false,
        preIdle := if (s.cxAt c).deferPre && !s.preOver c then (s.cxAt c).preIdle else none }, ?_, s.ctxState_enterHeld c, ?_, ?_⟩
    · simp [exec, execDeferredHold, hopen, hrun, hdefer, fin]
    · rw [State.cxAt_setCx_same]
    · rw [State.cxAt_setCx_same]

end Sys2Proof.Machine

namespace Sys2Proof.Machine

/-! ### Teardown and purge (R128, R129, R363, R370, R371, R532) -/

/-- A queue with nothing submitted has nothing to end (R128). -/
theorem endQueue_none (n : Nat) (s : State) (c q : Nat) (h : s.hasHead c q = false) : endQueue n s c q = s := by
  cases n with
  | zero => rfl
  | succ n => simp [endQueue, h]

/-- A context in TEARING under its next generation, its teardown's time noted (R128 step 1). -/
def State.tearing (s : State) (c : Nat) : State :=
  let t := (s.set (GL_CTX_STAT.state c) ctxTEARING).set (GL_CTX_STAT.gen c) (s.get (GL_CTX_STAT.gen c) + 1)
  t.setCx c { t.cxAt c with tdAt := t.now, oldGen := s.get (GL_CTX_STAT.gen c), tdNotice := [], tdNoticed := false }

/-- It keeps every register of another offset than GL_CTX_STAT's. -/
theorem State.get_tearing_ne (s : State) (c : Nat) (l : Loc) (h : l.key / 64 ≠ 0x6020 + 0x40 * c) :
    (s.tearing c).get l = s.get l := by
  have hstate : l.key ≠ (GL_CTX_STAT.state c).key := by simp only [Loc.key, GL_CTX_STAT.state] at h ⊢; omega
  have hgen : l.key ≠ (GL_CTX_STAT.gen c).key := by simp only [Loc.key, GL_CTX_STAT.gen] at h ⊢; omega
  exact (State.get_set_ne _ _ _ _ hgen).trans (State.get_set_ne _ _ _ _ hstate)

/-- With nothing queued, running, buffered or preparing, a teardown does no more than that (R128). -/
theorem State.teardown_idle (s : State) (c : Nat) (hlive : s.live c = true) (hjobs : s.jobs = []) (hreqs : s.fab.reqs = [])
    (hphase : s.phase c ≠ phPREPARE) (hqueues : ∀ q < 16, s.hasHead c q = false) : s.teardown c = s.tearing c := by
  have hheads : ∀ q ∈ List.range 16, endQueue 64 (s.tearing c) c q = s.tearing c := by
    intro q hq
    refine endQueue_none _ _ _ _ ?_
    rw [← hqueues q (List.mem_range.mp hq), State.hasHead, State.hasHead, State.headOf, State.headOf,
      State.get_tearing_ne, State.get_tearing_ne]
    all_goals simp only [Loc.key, GL_Q_STAT.head, GL_Q_STAT.tail]; omega
  unfold State.teardown
  rw [if_neg (by simp [hlive]), if_neg (by simp [hphase])]
  extract_lets s1 gen s2 s3 x s5 s6 s7
  have h6 : s6 = s.tearing c := State.foldl_same (fun s q => endQueue 64 s c q) (s.tearing c) _ hheads
  have hjobs' : (s.tearing c).jobs = [] := hjobs
  have hreqs' : (s.tearing c).fab.reqs = [] := hreqs
  have h7 : s7 = s.tearing c := by simp only [s7, h6, hjobs', List.filter_nil, List.foldl_nil]
  simp only [h7, State.dropQueued, hreqs', List.filter_nil, List.foldl_nil]

/-- The state and generation that it leaves, and what it notes. -/
theorem State.tearing_context (s : State) (c : Nat) : (s.tearing c).ctxState c = ctxTEARING
    ∧ (s.tearing c).get (GL_CTX_STAT.gen c) = (s.get (GL_CTX_STAT.gen c) + 1) % 2 ^ (GL_CTX_STAT.gen c).w
    ∧ ((s.tearing c).cxAt c).tdAt = s.now ∧ ((s.tearing c).cxAt c).oldGen = s.get (GL_CTX_STAT.gen c) := by
  have hne : (GL_CTX_STAT.state c).key ≠ (GL_CTX_STAT.gen c).key :=
    Loc.key_ne_of_lo_ne rfl (show 0 ≠ 3 by decide)
  refine ⟨(State.get_set_ne _ _ _ _ hne).trans (State.get_set_same s (GL_CTX_STAT.state c) ctxTEARING),
    State.get_set_same _ (GL_CTX_STAT.gen c) _, ?_, ?_⟩
  · rw [State.tearing, State.cxAt_setCx_same]
    dsimp only
    rw [State.now_set _ _ _ (by simp only [Loc.key, GL_CTX_STAT.gen]; omega),
      State.now_set _ _ _ (by simp only [Loc.key, GL_CTX_STAT.state]; omega)]
  · rw [State.tearing, State.cxAt_setCx_same]

/-- A WEDGED context is reported in registers and messages, and stays WEDGED (R129, R372). -/
theorem State.ctxState_wedge (s : State) (c : Nat) (hc : c < 4) (js : List Job) : (s.wedge c js).ctxState c = ctxWEDGED := by
  have hlow : (GL_CTX_STAT.state c).key / 64 = 0x6020 + 0x40 * c := by simp only [Loc.key, GL_CTX_STAT.state]; omega
  have hports : (GL_CTX_STAT.state c).key ≠ (DG_WEDGE.ports c).key := by
    simp only [Loc.key, GL_CTX_STAT.state, DG_WEDGE.ports]; omega
  have hpins : resampled ((GL_CTX_STAT.state c).key / 64) = false := by rw [hlow]; simp [resampled]; omega
  have hreports : reportOff ((GL_CTX_STAT.state c).key / 64) = false := by rw [hlow]; simp [reportOff]; omega
  unfold State.wedge
  extract_lets ports t
  have ht : t.ctxState c = ctxWEDGED :=
    (State.get_set_ne _ _ _ _ hports).trans (State.get_set_same s (GL_CTX_STAT.state c) ctxWEDGED)
  rw [State.ctxState, ((Resamples.irq _ 17).trans (.emcy _ _ _)).fields _ hpins, (Reports.observe t t.self 6).fields _ hreports]
  exact ht

/-- A context turned off is OFF with no command counted as running (R128 step 6). -/
theorem State.turnOff_off (s : State) (c : Nat) : (s.turnOff c).ctxState c = 0
    ∧ (s.turnOff c).get (GL_CTX_STAT.running c) = 0 := by
  have hne : (GL_CTX_STAT.state c).key ≠ (GL_CTX_STAT.running c).key := Loc.key_ne_of_lo_ne rfl (show 0 ≠ 32 by decide)
  unfold State.turnOff
  exact ⟨(State.get_set_ne _ _ _ _ hne).trans (State.get_set_same _ (GL_CTX_STAT.state c) 0),
    State.get_set_same _ (GL_CTX_STAT.running c) 0⟩

/-- A teardown whose time is up and whose notices are not sent yet goes WEDGED for a missing acknowledgement, and asks for
the outstanding requests otherwise (R128 step 5, R129). -/
theorem teardownTimeout_due (c : Ctx) (s : State) (htear : s.ctxState c = ctxTEARING) (hnoted : (s.cxAt c).tdNoticed = false)
    (htime : (s.cxAt c).tdAt + s.get (GL_CTX_TMO.td_timeout c) ≤ s.now) : exec (.teardownTimeout c) s =
      if s.stuck c ≠ [] then fin (s.wedge c (s.stuck c))
      else if s.fab.outs.any fun o => o.ctx == c.val then fin (s.sendNotices c) else .next s :=
  if_neg (by simp [htear, hnoted, htime])

/-- Notices that nobody acknowledged in time are given up (R128 step 5). -/
theorem teardownNoticeTimeout_due (c : Ctx) (s : State) (htear : s.ctxState c = ctxTEARING)
    (hnoted : (s.cxAt c).tdNoticed = true) (hnotice : (s.cxAt c).tdNotice ≠ [])
    (htime : (s.cxAt c).tdAt + s.get (GL_CTX_TMO.td_timeout c) ≤ s.now) :
    ∃ t : State, exec (.teardownNoticeTimeout c) s = .next t.after ∧ (t.cxAt c).tdNotice = [] := by
  refine ⟨_, if_neg (by simp [htear, hnoted, hnotice, htime]), ?_⟩
  rw [State.cxAt_setCx_same]

/-- Settles O17: each row by the guard it meets, and what the state it then leaves shows. -/
theorem teardownDrainsAndTurnsOff : Obligations.TeardownDrainsAndTurnsOff := by
  unfold Obligations.TeardownDrainsAndTurnsOff
  refine ⟨fun c s hlive hjobs hreqs hphase hqueues => ?_, fun c s htear hnoted htime hstuck => ⟨?_, ?_⟩,
    fun c s htear hnoted htime hstuck houts => ⟨?_, ?_⟩, fun c s htear hnoted hnotice htime => ?_,
    fun c s hdown => ⟨if_pos hdown, (s.turnOff_off c).1⟩, fun c s hwedged => ?_⟩
  · obtain ⟨hstate, hgen, hat, hold⟩ := s.tearing_context c
    exact ⟨s.tearing c, congrArg fin (s.teardown_idle c hlive hjobs hreqs hphase hqueues), hstate, hgen, hat, hold, rfl, rfl, rfl⟩
  · exact (teardownTimeout_due c s htear hnoted htime).trans (if_pos hstuck)
  · exact s.ctxState_wedge c c.isLt _
  · exact (teardownTimeout_due c s htear hnoted htime).trans ((if_neg (not_not.mpr hstuck)).trans (if_pos houts))
  · rw [State.sendNotices, State.cxAt_setCx_same]
  · exact teardownNoticeTimeout_due c s htear hnoted hnotice htime
  · obtain ⟨hstate, hrunning⟩ := State.turnOff_off _ c
    exact ⟨_, congrArg fin (if_pos hwedged), hstate, hrunning⟩

end Sys2Proof.Machine

namespace Sys2Proof.Machine

/-! ### Notices, drops, broadcast parts, unknown types and credits (R128, R344, R347, R349, R352, R360, R363, R405, R516) -/

/-- Freeing a place of the REQ buffer leaves what waits for transmission (R359, R360). -/
theorem State.txq_freeReq (s : State) (id : Nat) : (s.freeReq id).fab.txq = s.fab.txq := by
  unfold State.freeReq
  split <;> rfl

/-- A notice with no earlier ordered message of its source and context is acknowledged (R363). -/
theorem State.serveReq_notice (s : State) (q : InReq) (hbusy : q.busy = false) (htyp : q.msg.typ = 0x05)
    (hfirst : earlierReq s.fab.reqs q msgOrdered = false) :
    s.serveReq q = (s.send (s.reply q.msg 0x06 (padTo 4 (q.msg.body.take 2)))).freeReq q.id := by
  simp [State.serveReq, hbusy, htyp, hfirst]

/-- A queued request waits for none where the earlier ones of its source and context are all of other types (R347). -/
theorem earlierReq_eq_false {l : List InReq} {q : InReq} {f : Nat → Bool}
    (h : ∀ r ∈ l, r.id < q.id → r.msg.src = q.msg.src → r.msg.ctx = q.msg.ctx → f r.msg.typ = false) :
    earlierReq l q f = false := by
  rw [earlierReq, List.any_eq_false]
  intro r hr hearlier
  simp only [Bool.and_eq_true, decide_eq_true_eq, beq_iff_eq] at hearlier
  obtain ⟨⟨⟨hid, hsrc⟩, hctx⟩, htyp⟩ := hearlier
  rw [h r hr hid hsrc hctx] at htyp
  cases htyp

/-- An answered request leaves the outstanding ones, and only its engine's register changes beside (R356). -/
theorem State.endOut_frame (s : State) (o : FabOut) : (s.endOut o).fab.outs = dropOut s.fab.outs o
    ∧ s.endOut o = { s with regs := (s.endOut o).regs, fab := (s.endOut o).fab } := by
  unfold State.endOut
  extract_lets t
  split
  · exact ⟨rfl, rfl⟩
  · exact ⟨rfl, rfl⟩

/-- An acknowledged notice: its message is taken and its source no longer awaited (R128, R363). -/
def State.noticed (s : State) (m : Msg) : State :=
  (s.done m).setCx m.ctx { s.cxAt m.ctx with tdNotice := (s.cxAt m.ctx).tdNotice.filter (· ≠ m.src) }

/-- An acknowledgement that an outstanding notice asked for ends that request too (R363). -/
theorem State.takeGenAck_asked (s : State) (m : Msg) (o : FabOut) (h : s.asked m = some o) :
    s.takeGenAck m = (s.noticed m).endOut o := by
  have hstill : (s.noticed m).asked m = some o := h
  unfold State.noticed at hstill
  simp only [State.takeGenAck, hstill, State.noticed]

/-- A drop of a running command's request ends the command with the carried status, and the request (R352). -/
theorem State.takeDrop_running (s : State) (m : Msg) (o : FabOut) (j : Job) (hasked : s.asked m = some o)
    (hjob : s.job o.job = some j) (hrun : j.ending = none) :
    s.takeDrop m = ((s.done m).endCmd j (m.at_ 0 1)).endOut o := by
  have hasked' : (s.done m).asked m = some o := hasked
  have hjob' : (s.done m).job o.job = some j := hjob
  simp [State.takeDrop, hasked', hjob', hrun]

/-- Messages sent one after the other, each computed from what sending leaves alone, stand in line in that order. -/
theorem State.foldl_send {α : Type} (f : State → α → Msg) (hf : ∀ s x a, f (s.send x) a = f s a) (xs : List α) (s : State) :
    xs.foldl (fun s a => s.send (f s a)) s = s.setFab { s.fab with txq := s.fab.txq ++ xs.map (f s) } := by
  induction xs generalizing s with
  | nil => simp [State.setFab]
  | cons a xs ih =>
    have hmap : xs.map (f (s.send (f s a))) = xs.map (f s) := List.map_congr_left fun b _ => hf s (f s a) b
    rw [List.foldl_cons, ih, hmap]
    simp [State.send, State.setFab]

/-- The copy of a descriptor part that goes on to a child (R406). -/
def State.partFor (m : Msg) (g : Nat) (s : State) (i : Nat) : Msg :=
  { s.common m.ctx 0x3A (s.rankDev m.ctx g i) 0 (m.body.take 8 ++ leBytes 8 0 ++ m.body.drop 16) with bit2 := m.bit2 }

/-- A part that arrives by a group's tree is kept by the commands that wait for it, and goes on to the children (R405,
R406). -/
theorem State.takeBcast_eq (s : State) (m : Msg) (g : Nat) (h : s.bcastGroup m.ctx m.bit2 m.src = some g) :
    s.takeBcast m = { s with
      jobs := s.jobs.map fun j => j.keepPart m s.now
      fab := { s.fab with txq := s.fab.txq ++ ((s.tree m.ctx g).children m.bit2).map (State.partFor m g s) }
      out := (s.done m).out } := by
  have hdone : (s.done m).bcastGroup m.ctx m.bit2 m.src = some g := h
  have hsent := State.foldl_send (State.partFor m g) (fun _ _ _ => rfl) ((s.tree m.ctx g).children m.bit2) (s.done m)
  unfold State.takeBcast
  extract_lets c t u
  have hu : u = (s.done m).setFab { s.fab with
      txq := s.fab.txq ++ ((s.tree m.ctx g).children m.bit2).map (State.partFor m g s) } := by
    simp only [u, t, c, hdone]
    exact hsent
  rw [hu]
  rfl

/-- A count of drops or failed checks goes up by one, up to 65,535 (R347, R349). -/
theorem State.get_count16 (s : State) (l : Loc) (hw : l.w = 16) : (s.satInc l 1).get l = min 65535 (s.get l + 1) := by
  rw [State.satInc_eq, State.get_set_same, hw]
  exact Nat.mod_eq_of_lt (Nat.lt_of_le_of_lt (Nat.min_le_left _ _) (by decide))

/-- A credit word adds to its link and class, or replaces their count, and nothing else (R360, R516). -/
theorem creditWord_counts (link : Fin 19) (bytes : List Byte) (s : State) (hword : leAt bytes 0 1 / 4 = 0x30)
    (hmode : leAt bytes 1 1 < 2) : ∃ t : State, exec (.creditWord link bytes) s = .next t
      ∧ Tbl.at t.fab.msgCr 0 (crKey link (leAt bytes 0 1 % 4)) = leAt bytes 2 2
          + (if leAt bytes 1 1 = 1 then 0 else Tbl.at s.fab.msgCr 0 (crKey link (leAt bytes 0 1 % 4)))
      ∧ Tbl.at t.fab.datCr 0 (crKey link (leAt bytes 0 1 % 4)) = leAt bytes 4 4
          + (if leAt bytes 1 1 = 1 then 0 else Tbl.at s.fab.datCr 0 (crKey link (leAt bytes 0 1 % 4)))
      ∧ (∀ k, k ≠ crKey link (leAt bytes 0 1 % 4) → Tbl.at t.fab.msgCr 0 k = Tbl.at s.fab.msgCr 0 k)
      ∧ t = { s with fab := t.fab } :=
  ⟨_, if_neg (by omega), (Tbl.at_put_same _ _ _ _).trans (Nat.add_comm _ _),
    (Tbl.at_put_same _ _ _ _).trans (Nat.add_comm _ _), fun _ hk => Tbl.at_put_ne _ _ _ _ _ _ hk, rfl⟩

/-- Settles O45: each row gives an accepted message to its meaning, and each meaning by the lemma about it. -/
theorem noticesDropsPartsCreditsAndUnknownTypes : Obligations.NoticesDropsPartsCreditsAndUnknownTypes := by
  unfold Obligations.NoticesDropsPartsCreditsAndUnknownTypes
  refine ⟨fun bytes m s hacc => ?_, fun q s hbusy htyp hfirst => ?_, fun bytes m s o hacc hasked => ?_,
    fun bytes m s o j hacc hasked hjob hrun => ?_, fun bytes m s g hacc hgroup => ?_,
    fun bytes m s hunknown hparse hverdict => ?_, fun bytes s htyp hparse => ?_, creditWord_counts⟩
  · exact ⟨(s.keepReq m false).1, { id := s.fab.nextId, msg := m, busy := false }, State.receive_accepted _ hacc, rfl, rfl,
      rfl, rfl⟩
  · refine ⟨s.reply q.msg 0x06 (padTo 4 (q.msg.body.take 2)), ?_, rfl, rfl, rfl⟩
    rw [s.serveReq_notice q hbusy htyp (earlierReq_eq_false hfirst), State.txq_freeReq]
    rfl
  · obtain ⟨houts, hframe⟩ := (s.noticed m).endOut_frame o
    refine ⟨{ s.noticed m with regs := ((s.noticed m).endOut o).regs, fab := ((s.noticed m).endOut o).fab },
      (State.receive_accepted _ hacc).trans (congrArg fin ((s.takeGenAck_asked m o hasked).trans hframe)), ?_, houts, rfl⟩
    exact congrArg CtxS.tdNotice (State.cxAt_setCx_same (s.done m) _ _)
  · exact (State.receive_accepted _ hacc).trans (congrArg fin (s.takeDrop_running m o j hasked hjob hrun))
  · refine ⟨_, (State.receive_accepted _ hacc).trans (congrArg fin (s.takeBcast_eq m g hgroup)), rfl, ?_, fun i hi => ?_, rfl⟩
    · simp
    · exact ⟨State.partFor m g s i, List.mem_append_right _ (List.mem_map_of_mem hi), rfl, rfl, rfl⟩
  · refine ⟨(s.done m).satInc FB_STAT.drop_other 1, (if_pos hunknown).trans (congrArg fin ?_),
      (s.done m).get_count16 _ rfl, rfl⟩
    simp [State.receive, hparse, hverdict]
  · refine ⟨(s.satInc FB_STAT.crc_err 1).leave bytes, (if_pos htyp).trans (congrArg fin ?_), s.get_count16 _ rfl, rfl⟩
    simp [State.receive, hparse]

end Sys2Proof.Machine

/-! ## Statements of 05_tick_discipline.md -/

namespace Sys2Proof.Machine

/-! ### Hall time (R134 to R136) -/

/-- A cause of interrupt changes the causes alone (R525). -/
theorem State.get_irq_ne (s : State) (v : Nat) (l : Loc) (h : l.key ≠ GL_IRQ_STAT.cause.key) : (s.irq v).get l = s.get l :=
  State.get_set_ne _ _ _ _ h

/-- A cause raised drives its line while the vector is enabled (R525). -/
theorem State.irqLevel_irq (s : State) (v : Nat) (hv : v < 32) :
    (s.irq v).irqLevel v = (nbits (s.get GL_IRQ_EN.en) v 1 == 1) := by
  have hcause : nbits ((s.irq v).get GL_IRQ_STAT.cause) v 1 = 1 := by
    rw [State.irq_eq, State.get_set_same, nbits, Nat.shiftRight_eq_div_pow, pow_one, ← Nat.toNat_testBit,
      Nat.testBit_mod_two_pow, Nat.testBit_or, Nat.testBit_two_pow_self]
    simp [hv, GL_IRQ_STAT.cause]
  rw [State.irqLevel, hcause, State.get_irq_ne _ _ _ (by decide)]
  rfl

/-- The line of a vector depends on its cause and its enable alone (R525). -/
theorem State.irqLevel_congr {s t : State} (v : Nat) (hcause : t.get GL_IRQ_STAT.cause = s.get GL_IRQ_STAT.cause)
    (hen : t.get GL_IRQ_EN.en = s.get GL_IRQ_EN.en) : t.irqLevel v = s.irqLevel v := by
  rw [State.irqLevel, hcause, hen, State.irqLevel]

/-- The quality of hall time sets the skew bound alone (R136). -/
theorem State.get_syncSkew_ne (s : State) (l : Loc) (h : l.key ≠ TK_HT_STAT.skew_bound.key) : s.syncSkew.get l = s.get l :=
  State.get_set_ne _ _ _ _ h

/-- At fallback quality the skew bound is fb_skew (R136). -/
theorem State.skew_bound_syncSkew (s : State) (h : s.fallback = true) :
    s.syncSkew.get TK_HT_STAT.skew_bound = s.get TK_HT_CFG.fb_skew % 2 ^ TK_HT_STAT.skew_bound.w := by
  rw [State.syncSkew, State.get_set_same, h]
  rfl

/-- A strobe taken with the hall time it leads to and whether jump is set (R134, R135). -/
def State.strobed (s : State) (r : Nat × Bool) : State :=
  let t := (s.set TK_HT_NOW.now r.1).set TK_HT_STAT.lost 0
  (if r.2 then (t.set TK_HT_STAT.jump 1).irq 19 else t).syncSkew

/-- HT_STROBE takes the presented count by the rule of R134. -/
theorem exec_htStrobe (count : W64) (s : State) :
    exec (.htStrobe count) s = .next (s.strobed (takeCount s.now count.toNat)).after := rfl

/-- The hall time that a strobe sets (R134). -/
theorem State.now_strobed (s : State) (r : Nat × Bool) : (s.strobed r).now = r.1 % 2 ^ 64 := by
  have hset : ((s.set TK_HT_NOW.now r.1).set TK_HT_STAT.lost 0).now = r.1 % 2 ^ 64 :=
    (State.now_set _ _ _ (by decide)).trans (State.get_set_same _ _ _)
  rw [State.strobed, State.now, State.get_syncSkew_ne _ _ (by decide)]
  split
  · exact (State.now_irq _ _).trans ((State.now_set _ _ _ (by decide)).trans hset)
  · exact hset

/-- A strobe sets jump where hall time and count differ, and leaves it otherwise (R134). -/
theorem State.jump_strobed (s : State) (r : Nat × Bool) :
    (s.strobed r).get TK_HT_STAT.jump = if r.2 then 1 else s.get TK_HT_STAT.jump := by
  rw [State.strobed, State.get_syncSkew_ne _ _ (by decide)]
  split
  · rw [State.get_irq_ne _ _ _ (by decide), State.get_set_same]
    rfl
  · rw [State.get_set_ne _ _ _ _ (by decide), State.get_set_ne _ _ _ _ (by decide)]

/-- A strobe ends a loss (R135). -/
theorem State.lost_strobed (s : State) (r : Nat × Bool) : (s.strobed r).get TK_HT_STAT.lost = 0 := by
  rw [State.strobed, State.get_syncSkew_ne _ _ (by decide)]
  split
  · rw [State.get_irq_ne _ _ _ (by decide), State.get_set_ne _ _ _ _ (by decide), State.get_set_same]
    rfl
  · rw [State.get_set_same]
    rfl

/-- Settles O21: the three cases of `takeCount`, each as the strobe stores it. -/
theorem hallTimeFollowsThePresentedCount : Obligations.HallTimeFollowsThePresentedCount := by
  unfold Obligations.HallTimeFollowsThePresentedCount
  intro count s e
  have hcount : count.toNat % 2 ^ 64 = count.toNat := Nat.mod_eq_of_lt count.isLt
  refine ⟨_, exec_htStrobe count s, fun heq => ?_, fun habove => ?_, fun hbelow => ?_⟩
  · have hr : takeCount s.now count.toNat = (count.toNat, false) := by simp [takeCount, heq, e]
    rw [hr, State.now_strobed, State.jump_strobed]
    exact ⟨hcount, rfl⟩
  · have hr : takeCount s.now count.toNat = (count.toNat, true) := by
      rw [takeCount, if_neg (Nat.ne_of_gt habove), if_pos habove]
    rw [hr, State.now_strobed, State.jump_strobed]
    exact ⟨hcount, rfl⟩
  · have hr : takeCount s.now count.toNat = (e, true) := by
      rw [takeCount, if_neg (Nat.ne_of_lt hbelow), if_neg (Nat.not_lt_of_gt hbelow)]
    rw [hr, State.now_strobed, State.jump_strobed]
    exact ⟨Nat.mod_mod _ _, rfl⟩

/-- The state that a loss of strobes shows, before the skew bound follows it (R135). -/
def State.strobesLost (s : State) : State := ((s.set TK_HT_STAT.lost 1).set TK_HT_STAT.lost_seen 1).irq 19

/-- A loss of strobes sets its two bits, raises its vector, and makes hall time of fallback quality (R135, R136). -/
theorem htStrobeLost_degrades (s : State) :
    ∃ t : State, exec .htStrobeLost s = .next t.after ∧ t.get TK_HT_STAT.lost = 1 ∧ t.get TK_HT_STAT.lost_seen = 1
      ∧ t.irqLevel 19 = (nbits (s.get GL_IRQ_EN.en) 19 1 == 1) ∧ t.fallback = true
      ∧ t.get TK_HT_STAT.skew_bound = s.get TK_HT_CFG.fb_skew % 2 ^ TK_HT_STAT.skew_bound.w := by
  have hlost : s.strobesLost.get TK_HT_STAT.lost = 1 := by
    rw [State.strobesLost, State.get_irq_ne _ _ _ (by decide), State.get_set_ne _ _ _ _ (by decide), State.get_set_same]
    rfl
  have hseen : s.strobesLost.get TK_HT_STAT.lost_seen = 1 := by
    rw [State.strobesLost, State.get_irq_ne _ _ _ (by decide), State.get_set_same]
    rfl
  have hkeeps (l : Loc) (hirq : l.key ≠ GL_IRQ_STAT.cause.key) (h : l.key / 64 ≠ 0xA008) :
      s.strobesLost.get l = s.get l := by
    rw [State.strobesLost, State.get_irq_ne _ _ _ hirq, State.get_set_ne, State.get_set_ne]
      <;> exact fun e => h (by rw [e]; rfl)
  have hfallback : s.strobesLost.fallback = true := by simp [State.fallback, State.is, hlost]
  refine ⟨s.strobesLost.syncSkew, rfl, ?_, ?_, ?_, ?_, ?_⟩
  · rw [State.get_syncSkew_ne _ _ (by decide), hlost]
  · rw [State.get_syncSkew_ne _ _ (by decide), hseen]
  · rw [State.irqLevel_congr 19 (State.get_syncSkew_ne _ _ (by decide)) (State.get_syncSkew_ne _ _ (by decide))]
    rw [State.strobesLost, State.irqLevel_irq _ _ (by decide), State.get_set_ne _ _ _ _ (by decide),
      State.get_set_ne _ _ _ _ (by decide)]
  · simp [State.fallback, State.is, State.get_syncSkew_ne _ TK_HT_STAT.lost (by decide), hlost]
  · rw [State.skew_bound_syncSkew _ hfallback, hkeeps _ (by decide) (by decide)]

/-- The state that a change of the fallback input shows, before the skew bound follows it (R136). -/
def State.fallbackChanged (s : State) (flag : Bool) : State :=
  let t := s.setB TK_HT_STAT.fallback flag
  if flag then (t.set TK_HT_STAT.fb_seen 1).irq 19 else t

/-- A set flag is noted, and makes hall time of fallback quality (R136). -/
theorem htFallbackChange_sets (flag : Bool) (s : State) :
    ∃ t : State, exec (.htFallbackChange flag) s = .next t.after
      ∧ t.get TK_HT_STAT.fallback = (if flag then 1 else 0)
      ∧ (flag = true → t.get TK_HT_STAT.fb_seen = 1
          ∧ t.get TK_HT_STAT.skew_bound = s.get TK_HT_CFG.fb_skew % 2 ^ TK_HT_STAT.skew_bound.w)
      ∧ t.now = s.now := by
  have hbit : (s.fallbackChanged flag).get TK_HT_STAT.fallback = if flag then 1 else 0 := by
    cases flag with
    | false => exact State.get_set_same _ _ _
    | true =>
      exact (State.get_irq_ne _ _ _ (by decide)).trans
        ((State.get_set_ne _ _ _ _ (by decide)).trans (State.get_set_same _ _ _))
  have hnow : (s.fallbackChanged flag).now = s.now := by
    cases flag with
    | false => exact State.now_set _ _ _ (by decide)
    | true => exact (State.now_irq _ _).trans ((State.now_set _ _ _ (by decide)).trans (State.now_set _ _ _ (by decide)))
  refine ⟨(s.fallbackChanged flag).syncSkew, rfl, ?_, ?_, ?_⟩
  · rw [State.get_syncSkew_ne _ _ (by decide), hbit]
  · rintro rfl
    constructor
    · rw [State.get_syncSkew_ne _ _ (by decide)]
      exact (State.get_irq_ne _ _ _ (by decide)).trans (State.get_set_same _ _ _)
    · rw [State.skew_bound_syncSkew _ (by simp [State.fallback, State.is, hbit])]
      refine congrArg (· % _) ((State.get_irq_ne _ _ _ (by decide)).trans ?_)
      exact (State.get_set_ne _ _ _ _ (by decide)).trans (State.get_set_ne _ _ _ _ (by decide))
  · rw [State.now, State.get_syncSkew_ne _ _ (by decide)]
    exact hnow

/-- Settles O22: the rows of a loss, of free running, of a strobe and of the fallback input, each by its lemma. -/
theorem lostStrobesFreeRunAtFallbackQuality : Obligations.LostStrobesFreeRunAtFallbackQuality := by
  unfold Obligations.LostStrobesFreeRunAtFallbackQuality
  exact ⟨htStrobeLost_degrades, fun _ hlost => if_pos hlost,
    fun count s => ⟨_, exec_htStrobe count s, s.lost_strobed _⟩, htFallbackChange_sets⟩

end Sys2Proof.Machine

namespace Sys2Proof.Machine

/-! ### Ticks turned on and off (R137 to R139) -/

/-- The first boundary lies after the present, within one period, at the origin plus whole periods (R137). -/
theorem firstBoundary_on_grid (now origin period : Nat) (h : 0 < period) :
    now < firstBoundary now origin period ∧ firstBoundary now origin period ≤ now + period
      ∧ ((firstBoundary now origin period : Int) - origin) % (period : Int) = 0 := by
  have hnonneg : 0 ≤ ((now : Int) - origin) % period := Int.emod_nonneg _ (by omega)
  have hlt : ((now : Int) - origin) % period < period := Int.emod_lt_of_pos _ (by omega)
  have hdvd : (period : Int) ∣ (now - origin) - (now - origin) % period := Int.dvd_self_sub_emod
  unfold firstBoundary
  refine ⟨by omega, by omega, Int.emod_eq_zero_of_dvd ?_⟩
  have hsum : ((now + (period - (((now : Int) - origin) % period).toNat) : Nat) : Int) - origin
      = ((now - origin) - (now - origin) % period) + period := by omega
  rw [hsum]
  exact Int.dvd_add hdvd (Int.dvd_refl _)

/-- The period that a write of TK_CFG stores (R138). -/
theorem State.get_period_set (s : State) (c : Nat) (v : W64) :
    (s.set (TK_CFG.period c) (fget v 0 34)).get (TK_CFG.period c) = fget v 0 34 :=
  (State.get_set_same _ _ _).trans (Nat.mod_mod _ _)

/-- The debt that a context shows changes TK_DEBT alone (R146). -/
theorem State.get_showDebt_ne (s : State) (c : Nat) (ds : List DebtEnt) (l : Loc) (h : l.key / 64 ≠ 0xA120 + 0x40 * c) :
    (s.showDebt c ds).get l = s.get l := by
  simp only [State.showDebt]
  rw [State.get_set_ne, State.get_set_ne] <;> simp only [Loc.key, TK_DEBT.debt, TK_DEBT.oldest_age] at * <;> omega

/-- The debt that a context shows leaves its plan as it is (R146). -/
theorem State.tkAt_showDebt (s : State) (c d : Nat) (ds : List DebtEnt) : (s.showDebt c ds).tkAt d = s.tkAt d := rfl

/-- Ticks turned off are not enabled, and leave no plan and no debt (R139). -/
theorem State.tickOff_shows (s : State) (c : Nat) :
    (s.tickOff c).get (TK_CFG.enable c) = 0 ∧ (s.tickOff c).tkAt c = {} ∧ (s.tickOff c).get (TK_DEBT.debt c) = 0 := by
  unfold State.tickOff
  refine ⟨?_, (State.tkAt_showDebt _ _ _ _).trans (State.tkAt_setTk_same _ _ _), ?_⟩
  · rw [State.get_showDebt_ne _ _ _ _ (by simp only [Loc.key, TK_CFG.enable]; omega), State.get_setTk, State.get_set_same]
    rfl
  · rw [State.showDebt, State.get_set_ne _ _ _ _ (by simp only [Loc.key, TK_DEBT.debt, TK_DEBT.oldest_age]; omega),
      State.get_set_same]
    rfl

/-- Ticks turned on are enabled in tick 0, which ends at the first boundary after the present (R137). -/
theorem State.tickOn_shows (s : State) (c : Nat) :
    (s.tickOn c).get (TK_CFG.enable c) = 1 ∧ (s.tickOn c).get (TK_STAT.tick c) = 0
      ∧ ((s.tickOn c).tkAt c).next = firstBoundary s.now (s.get (TK_ORIGIN.origin c)) (s.get (TK_CFG.period c)) := by
  unfold State.tickOn
  refine ⟨?_, ?_, congrArg TickS.next (State.tkAt_setTk_same _ _ _)⟩
  · rw [State.get_setTk, State.get_set_ne _ _ _ _ (by simp only [Loc.key, TK_CFG.enable, TK_STAT.tick]; omega),
      State.get_set_same]
    rfl
  · rw [State.get_setTk, State.get_set_same]
    rfl

/-- Turning ticks on with a valid configuration plans the first boundary after now (R137, R138). -/
theorem tickEnable_plans (c : Ctx) (v : W64) (s : State) (hoff : s.is (TK_CFG.enable c) = false) (hon : fget v 63 1 = 1)
    (hok : (s.set (TK_CFG.period c) (fget v 0 34)).tickOk c = true) :
    ∃ t : State, exec (.tickEnable c v) s = .next t.after ∧ t.get (TK_CFG.enable c) = 1 ∧ t.get (TK_STAT.tick c) = 0
      ∧ s.now < (t.tkAt c).next ∧ (t.tkAt c).next ≤ s.now + fget v 0 34
      ∧ (((t.tkAt c).next : Int) - s.get (TK_ORIGIN.origin c)) % (fget v 0 34 : Int) = 0 := by
  have hperiod := s.get_period_set c v
  generalize hu : s.set (TK_CFG.period c) (fget v 0 34) = u at hok hperiod
  have hnow : u.now = s.now := by
    rw [← hu]
    exact State.now_set _ _ _ (by simp only [Loc.key, TK_CFG.period]; omega)
  have horigin : u.get (TK_ORIGIN.origin c) = s.get (TK_ORIGIN.origin c) := by
    rw [← hu]
    exact State.get_set_ne _ _ _ _ (by simp only [Loc.key, TK_CFG.period, TK_ORIGIN.origin]; omega)
  have hpos : 0 < fget v 0 34 := by
    simp only [State.tickOk, hperiod, Bool.and_eq_true, decide_eq_true_eq] at hok
    omega
  have hturns : s.tickCfg c v = u.tickOn c := by simp [State.tickCfg, hu, hon, hok, hoff]
  obtain ⟨henable, htick, hnext⟩ := u.tickOn_shows c
  rw [hnow, horigin, hperiod] at hnext
  refine ⟨u.tickOn c, congrArg fin hturns, henable, htick, ?_⟩
  rw [hnext]
  exact firstBoundary_on_grid _ _ _ hpos

/-- Turning ticks on with an invalid configuration leaves them off and reports it (R138). -/
theorem tickEnable_reports (c : Ctx) (v : W64) (s : State) (hon : fget v 63 1 = 1)
    (hbad : (s.set (TK_CFG.period c) (fget v 0 34)).tickOk c = false) :
    ∃ t : State, exec (.tickEnable c v) s = .next t.after ∧ t.get (TK_CFG.enable c) = 0
      ∧ t.get (GL_CTX_STAT.cfg_err c) = 1 := by
  generalize hu : s.set (TK_CFG.period c) (fget v 0 34) = u at hbad
  have hturns : s.tickCfg c v = (u.tickOff c).set (GL_CTX_STAT.cfg_err c) 1 := by simp [State.tickCfg, hu, hon, hbad]
  obtain ⟨henable, -, -⟩ := u.tickOff_shows c
  refine ⟨_, congrArg fin hturns, ?_, State.get_set_same _ _ _⟩
  rw [State.get_set_ne _ _ _ _ (by simp only [Loc.key, TK_CFG.enable, GL_CTX_STAT.cfg_err]; omega), henable]

/-- A write that clears enable stores the period, and marks the plan for the next boundary (R138). -/
theorem tickEnable_defers (c : Ctx) (v : W64) (s : State) (hon : s.is (TK_CFG.enable c) = true) (hclear : fget v 63 1 = 0) :
    ∃ t : State, exec (.tickEnable c v) s = .next t.after ∧ t.is (TK_CFG.enable c) = true ∧ (t.tkAt c).off = true
      ∧ t.get (TK_CFG.period c) = fget v 0 34 := by
  generalize hu : s.set (TK_CFG.period c) (fget v 0 34) = u
  have hmarks : s.tickCfg c v = u.setTk c { u.tkAt c with off := true } := by simp [State.tickCfg, hu, hclear, hon]
  refine ⟨_, congrArg fin hmarks, ?_, congrArg TickS.off (State.tkAt_setTk_same _ _ _), ?_⟩
  · rw [State.is, State.get_setTk, ← hu,
      State.get_set_ne _ _ _ _ (by simp only [Loc.key, TK_CFG.enable, TK_CFG.period]; omega)]
    exact hon
  · rw [State.get_setTk, ← hu, State.get_period_set]

/-! ### The boundary (R138, R142, R145) -/

/-- What a boundary shows of a context: the tick it starts, its allowance, and the boundary planned after it. -/
def State.tickView (s : State) (c : Nat) : Nat × Nat × Nat :=
  (s.get (TK_STAT.tick c), s.get (TK_ALLOW.allow c), (s.tkAt c).next)

/-- The view depends on the registers of chapter 05 and the planner alone. -/
theorem State.tickView_congr {s t : State} (c : Nat) (htick : t.get (TK_STAT.tick c) = s.get (TK_STAT.tick c))
    (hallow : t.get (TK_ALLOW.allow c) = s.get (TK_ALLOW.allow c)) (htk : t.tk = s.tk) : t.tickView c = s.tickView c := by
  rw [State.tickView, htick, hallow, State.tkAt, htk, State.tickView, State.tkAt]

/-- The alarm of an unpaid debt shows beside the new tick (R146). -/
theorem State.tickView_alarm (s : State) (c : Nat) (hc : c < 4) (code : Nat) (payload : List Byte) :
    (((s.set (TK_STAT.alarm c) 1).irq (12 + c)).emcy code payload).tickView c = s.tickView c := by
  have hsent := (Resamples.irq (s.set (TK_STAT.alarm c) 1) (12 + c)).trans (.emcy _ code payload)
  have hpins (l : Loc) (h : 0xA100 ≤ l.key / 64 ∧ l.key / 64 < 0xA200) : resampled (l.key / 64) = false := by
    simp [resampled]
    omega
  refine State.tickView_congr c ?_ ?_ (by rw [hsent.rest]; rfl)
  · rw [hsent.fields _ (hpins _ (by simp only [Loc.key, TK_STAT.tick]; omega)),
      State.get_set_ne _ _ _ _ (by simp only [Loc.key, TK_STAT.tick, TK_STAT.alarm]; omega)]
  · rw [hsent.fields _ (hpins _ (by simp only [Loc.key, TK_ALLOW.allow]; omega)),
      State.get_set_ne _ _ _ _ (by simp only [Loc.key, TK_ALLOW.allow, TK_STAT.alarm]; omega)]

/-- A tick starts with the allowance that the repayment leaves, and plans the next a period later (R142, R145). -/
theorem State.tickView_tickStart (s : State) (c : Nat) (hc : c < 4) :
    let g := s.get (TK_CFG.period c) - s.get (TK_CP.cp c)
    let debt := ((s.grown c).debts.map fun d => d.size - d.paid).sum
    (s.tickStart c).tickView c = ((s.get (TK_STAT.tick c) + 1) % 2 ^ 48,
      (g - min debt (g - g * s.get (TK_CP.bg_floor c) / 100)) % 2 ^ (TK_ALLOW.allow c).w,
      (s.tkAt c).next + s.get (TK_CFG.period c)) := by
  intro allowed owed
  unfold State.tickStart
  extract_lets t m ds late period cp fl g debt repay kept ends s1 s2 s3
  have hstarted : s3.tickView c = (m, (g - repay) % 2 ^ (TK_ALLOW.allow c).w, t.next + period) := by
    have htick : s3.get (TK_STAT.tick c) = m := by
      change s2.get _ = _
      simp only [s2]
      rw [State.get_showDebt_ne _ _ _ _ (by simp only [Loc.key, TK_STAT.tick]; omega),
        State.get_set_ne _ _ _ _ (by simp only [Loc.key, TK_STAT.tick, TK_ALLOW.allow]; omega), State.get_set_same]
      exact Nat.mod_mod _ _
    have hallow : s3.get (TK_ALLOW.allow c) = (g - repay) % 2 ^ (TK_ALLOW.allow c).w := by
      change s2.get _ = _
      simp only [s2]
      rw [State.get_showDebt_ne _ _ _ _ (by simp only [Loc.key, TK_ALLOW.allow]; omega), State.get_set_same]
    have hnext : (s3.tkAt c).next = t.next + period := congrArg TickS.next (s.tkAt_setTk_same c _)
    rw [State.tickView, htick, hallow, hnext]
  split
  · rw [State.tickView_alarm _ _ hc, hstarted]
  · exact hstarted

/-- The share of a boundary that a repayment up to it leaves is no less than the floor (R145). -/
theorem floor_le_allowance (g pct debt : Nat) (h : pct ≤ 100) : g * pct / 100 ≤ g - min debt (g - g * pct / 100) := by
  have hfloor : g * pct / 100 ≤ g := Nat.div_le_of_le_mul (by rw [Nat.mul_comm 100]; exact Nat.mul_le_mul_left g h)
  omega

/-- TICK_BOUNDARY at the planned time of enabled ticks is the context's boundary (R137). -/
theorem exec_tickBoundary_due (c : Ctx) (s : State) (hon : s.is (TK_CFG.enable c) = true) (hdue : (s.tkAt c).next ≤ s.now) :
    exec (.tickBoundary c) s = .next (s.boundary c).after := if_pos ⟨hon, hdue⟩

/-- A boundary after a disable turns ticks off, with no debt (R138, R139). -/
theorem tickBoundary_turns_off (c : Ctx) (s : State) (hon : s.is (TK_CFG.enable c) = true) (hdue : (s.tkAt c).next ≤ s.now)
    (hoff : (s.tkAt c).off = true) :
    ∃ t : State, exec (.tickBoundary c) s = .next t.after ∧ t.get (TK_CFG.enable c) = 0 ∧ t.tkAt c = {}
      ∧ t.get (TK_DEBT.debt c) = 0 := by
  refine ⟨_, exec_tickBoundary_due c s hon hdue, ?_⟩
  rw [State.boundary, if_pos hoff]
  exact s.tickOff_shows c

/-- Any other boundary starts a tick, with an allowance no less than the floor (R142, R145). -/
theorem tickBoundary_starts (c : Ctx) (s : State) (hon : s.is (TK_CFG.enable c) = true) (hdue : (s.tkAt c).next ≤ s.now)
    (hoff : (s.tkAt c).off = false) (hpct : s.get (TK_CP.bg_floor c) ≤ 100) :
    let g := s.get (TK_CFG.period c) - s.get (TK_CP.cp c)
    let fl := g * s.get (TK_CP.bg_floor c) / 100
    let debt := ((s.grown c).debts.map fun d => d.size - d.paid).sum
    ∃ t : State, exec (.tickBoundary c) s = .next t.after
      ∧ t.get (TK_STAT.tick c) = (s.get (TK_STAT.tick c) + 1) % 2 ^ 48
      ∧ (t.tkAt c).next = (s.tkAt c).next + s.get (TK_CFG.period c)
      ∧ (g < 2 ^ (TK_ALLOW.allow c).w →
          t.get (TK_ALLOW.allow c) = g - min debt (g - fl) ∧ fl ≤ t.get (TK_ALLOW.allow c)) := by
  intro g fl debt
  have hview : (s.boundary c).tickView c = (s.tickStart c).tickView c := by
    rw [State.boundary, if_neg (by simp [hoff])]
    rfl
  rw [s.tickView_tickStart c c.isLt] at hview
  obtain ⟨htick, hallow, hnext⟩ : _ ∧ _ ∧ _ := ⟨congrArg (·.1) hview, congrArg (·.2.1) hview, congrArg (·.2.2) hview⟩
  refine ⟨_, exec_tickBoundary_due c s hon hdue, htick, hnext, fun hfits => ?_⟩
  have hvalue : (s.boundary c).get (TK_ALLOW.allow c) = g - min debt (g - fl) :=
    hallow.trans (Nat.mod_eq_of_lt (Nat.lt_of_le_of_lt (Nat.sub_le _ _) hfits))
  exact ⟨hvalue, hvalue ▸ floor_le_allowance g _ debt hpct⟩

/-- With no allowance left the background work of the context alone is paused (R144). -/
theorem allowanceExhausted_pauses (c : Ctx) (s : State) (hon : s.is (TK_CFG.enable c) = true)
    (hzero : s.get (TK_ALLOW.allow c) = 0) :
    ∃ t : State, exec (.allowanceExhausted c) s = .next t ∧ t = { s with jobs := t.jobs }
      ∧ t.jobs = s.jobs.map (fun j => if j.ctx = c.val ∧ j.cls = 0 then { j with paused := true } else j) := by
  refine ⟨_, if_pos ⟨hon, hzero⟩, rfl, List.map_congr_left fun j _ => ?_⟩
  simp

/-! ### The saturation window (R147) -/

/-- A level's bit of TK_GSTAT.sat says whether its share of the window reaches sat_pct. -/
theorem satBit_eq (pct cycles level : Nat) : satBit pct cycles level = b2n (decide (pct * 1024 ≤ cycles * 100)) * 2 ^ level := by
  by_cases h : pct * 1024 ≤ cycles * 100 <;> simp [satBit, b2n, h]

/-- The bits of a word of five of them. -/
theorem nbits_five (a b c d e : Bool) :
    let w := (b2n a * 2 ^ 0 + b2n b * 2 ^ 1 + b2n c * 2 ^ 2 + b2n d * 2 ^ 3 + b2n e * 2 ^ 4) % 2 ^ 5
    nbits w 0 1 = b2n a ∧ nbits w 1 1 = b2n b ∧ nbits w 2 1 = b2n c ∧ nbits w 3 1 = b2n d ∧ nbits w 4 1 = b2n e := by
  have hbit (x : Bool) : b2n x < 2 := by cases x <;> decide
  have ha := hbit a
  have hb := hbit b
  have hc := hbit c
  have hd := hbit d
  have he := hbit e
  simp only [nbits, Nat.shiftRight_eq_div_pow]
  omega

/-- A test written as a bit reads 1 exactly when it holds. -/
theorem b2n_decide_eq_one (p : Prop) [Decidable p] : b2n (decide p) = 1 ↔ p := by
  by_cases h : p <;> simp [b2n, h]

/-- The end of a window sets each level's bit of TK_GSTAT.sat, and nothing else (R147). -/
theorem saturationWindowEnd_reports (mem lane fab drn yoke : Fin 1025) (s : State) :
    ∃ t : State, exec (.saturationWindowEnd mem lane fab drn yoke) s = .next t.after
      ∧ (nbits (t.get TK_GSTAT.sat) 0 1 = 1 ↔ s.get TK_GCFG.sat_pct * 1024 ≤ mem.val * 100)
      ∧ (nbits (t.get TK_GSTAT.sat) 1 1 = 1 ↔ s.get TK_GCFG.sat_pct * 1024 ≤ lane.val * 100)
      ∧ (nbits (t.get TK_GSTAT.sat) 2 1 = 1 ↔ s.get TK_GCFG.sat_pct * 1024 ≤ fab.val * 100)
      ∧ (nbits (t.get TK_GSTAT.sat) 3 1 = 1 ↔ s.get TK_GCFG.sat_pct * 1024 ≤ drn.val * 100)
      ∧ (nbits (t.get TK_GSTAT.sat) 4 1 = 1 ↔ s.get TK_GCFG.sat_pct * 1024 ≤ yoke.val * 100)
      ∧ (∀ l : Loc, l.key ≠ TK_GSTAT.sat.key → t.get l = s.get l) ∧ t = { s with regs := t.regs } := by
  let pct := s.get TK_GCFG.sat_pct
  let full (x : Fin 1025) := decide (pct * 1024 ≤ x.val * 100)
  obtain ⟨hmem, hlane, hfab, hdrn, hyoke⟩ := nbits_five (full mem) (full lane) (full fab) (full drn) (full yoke)
  have hreads {w k : Nat} {x : Fin 1025} (h : nbits w k 1 = b2n (full x)) :
      nbits w k 1 = 1 ↔ pct * 1024 ≤ x.val * 100 := by
    rw [h]
    exact b2n_decide_eq_one _
  refine ⟨_, rfl, ?_, ?_, ?_, ?_, ?_, fun l hl => State.get_set_ne _ _ _ _ hl, State.set_only_regs _ _ _⟩
    <;> rw [State.get_set_same, satBit_eq, satBit_eq, satBit_eq, satBit_eq, satBit_eq]
  exacts [hreads hmem, hreads hlane, hreads hfab, hreads hdrn, hreads hyoke]

/-- Settles O23: each row by the branch it takes, and what that branch leaves. -/
theorem tickBoundaryRepaysDebtAboveTheFloor : Obligations.TickBoundaryRepaysDebtAboveTheFloor := by
  unfold Obligations.TickBoundaryRepaysDebtAboveTheFloor
  exact ⟨tickEnable_plans, fun c v s _ hon hbad => tickEnable_reports c v s hon hbad, tickEnable_defers,
    tickBoundary_turns_off, tickBoundary_starts, allowanceExhausted_pauses, saturationWindowEnd_reports⟩

end Sys2Proof.Machine

namespace Sys2Proof.Machine

/-! ### Accepted notices (R318 to R321) -/

/-- An accepted message belongs to one of the four contexts (R343, R345). -/
theorem ctx_lt_of_accepted {typ : Nat} {bytes : List Byte} {m : Msg} {s : State} (h : accepted typ bytes m s = true) :
    m.ctx < 4 := by
  simp only [accepted, Bool.and_eq_true, beq_iff_eq] at h
  obtain ⟨⟨-, hparse⟩, -⟩ := h
  have hhead (team stripe step : Nat) (body : List Byte) :
      ({ parseHead bytes with team := team, stripe := stripe, step := step, body := body } : Msg).ctx < 4 :=
    Nat.mod_lt _ (by decide)
  simp only [parseMsg, parseFrag, parseCommon] at hparse
  split at hparse <;> split at hparse
  · cases hparse
  · split at hparse
    · cases hparse; exact hhead _ _ _ _
    · cases hparse
  · cases hparse
  · split at hparse
    · cases hparse; exact hhead _ _ _ _
    · cases hparse

/-- A notice as the message that carries it to a child in a tree (R318, R320, R348). -/
def State.noticeTo (s : State) (c tr : Nat) (n : Notice) (i : Nat) : Msg :=
  { s.common c n.typ (s.cmDev c i) 0 n.body with bit2 := tr }

/-- That message depends on neither the kept notices nor the messages in line. -/
theorem State.noticeTo_frame (s : State) (cm : Tbl CmS) (fab : FabS) (out : List Out) (c tr : Nat) (n : Notice) :
    ({ s with cm := cm, fab := fab, out := out } : State).noticeTo c tr n = s.noticeTo c tr n := rfl

/-- A notice forwarded stands in line once for each child in its tree (R318, R320). -/
theorem State.forward_eq (s : State) (c tr : Nat) (n : Notice) :
    s.forward c tr n = s.setFab { s.fab with txq := s.fab.txq ++ ((s.cmTree c).children tr).map (s.noticeTo c tr n) } :=
  State.foldl_send (fun s i => s.noticeTo c tr n i)
    (fun u x i => congrFun (u.noticeTo_frame u.cm (u.send x).fab u.out c tr n) i) _ s

/-- A notice taken: its message leaves the buffer, and it is kept and forwarded in its tree (R318, R320). -/
def State.takeDecision (s : State) (m : Msg) (n : Notice) : State := ((s.done m).keepNotice m.ctx n).forward m.ctx m.bit2 n

/-- A notice taken changes the kept notices, the messages in line and the ports alone. -/
theorem State.takeDecision_eq (s : State) (m : Msg) (n : Notice) : s.takeDecision m n =
    { s with cm := (s.keepNotice m.ctx n).cm, fab := (s.forward m.ctx m.bit2 n).fab, out := (s.done m).out } := by
  have hsame : ((s.done m).keepNotice m.ctx n).noticeTo m.ctx m.bit2 n = s.noticeTo m.ctx m.bit2 n :=
    s.noticeTo_frame (s.keepNotice m.ctx n).cm s.fab (s.done m).out m.ctx m.bit2 n
  rw [State.takeDecision, State.forward_eq, State.forward_eq, hsame]
  rfl

/-- What the commit engine holds of a context once a notice is kept, the oldest of 16 dropped (R322). -/
def CmS.keep (k : CmS) (n : Notice) : CmS :=
  let l := k.notices.filter fun x => x.cseq ≠ n.cseq
  { k with notices := l.drop (l.length - 15) ++ [n] }

/-- The notice kept is among those held (R322). -/
theorem CmS.mem_keep (k : CmS) (n : Notice) : n ∈ (k.keep n).notices := List.mem_append_right _ (List.mem_singleton_self n)

/-- A notice taken is kept by its context (R322). -/
theorem State.cmAt_takeDecision (s : State) (m : Msg) (n : Notice) :
    (s.takeDecision m n).cmAt m.ctx = (s.cmAt m.ctx).keep n := by
  rw [State.takeDecision_eq]
  exact State.cmAt_setCm_same s _ _

/-- A flip armed for an hour shows it, and touches neither the bank nor the committed step (R319). -/
theorem State.arm_shows (s : State) (c h : Nat) (late : Option Int) :
    (s.arm c h late).phase c = phARMED ∧ (s.arm c h late).get (CM_HALT.h c) = h % 2 ^ (CM_HALT.h c).w
      ∧ (s.arm c h late).cmAt c = { s.cmAt c with late := late } ∧ (s.arm c h late).fab = s.fab
      ∧ (s.arm c h late).active c = s.active c
      ∧ (s.arm c h late).get (CM_STEP.committed c) = s.get (CM_STEP.committed c) := by
  have hother (l : Loc) (hp : l.key ≠ (CM_STAT.phase c).key) (hh : l.key ≠ (CM_HALT.h c).key) :
      (s.arm c h late).get l = s.get l := by
    rw [State.arm, State.get_setCm, State.get_set_ne _ _ _ _ hh, State.get_set_ne _ _ _ _ hp]
  refine ⟨?_, ?_, State.cmAt_setCm_same _ _ _, rfl, hother _ ?_ ?_, hother _ ?_ ?_⟩
  · rw [State.phase, State.arm, State.get_setCm,
      State.get_set_ne _ _ _ _ (by simp only [Loc.key, CM_STAT.phase, CM_HALT.h]; omega), State.get_set_same]
    rfl
  · rw [State.arm, State.get_setCm, State.get_set_same]
  all_goals simp only [Loc.key, CM_STAT.phase, CM_STAT.sel, CM_HALT.h, CM_STEP.committed]; omega

/-! ### The halt notice (R152, R318, R319, R321) -/

section
variable {s : State} {m : Msg} (hlive : s.live m.ctx = true)
include hlive

/-- A halt notice of another transaction is stale (R321). -/
theorem State.takeHalt_stale (h : s.cmCurrent m.ctx (haltOf m).epoch (haltOf m).cseq = false) :
    s.takeHalt m = (s.done m).satInc (CM_DIAG.stale m.ctx) 1 :=
  (if_neg (not_not.mpr hlive)).trans (if_pos (Bool.eq_false_iff.mp h))

variable (hcur : s.cmCurrent m.ctx (haltOf m).epoch (haltOf m).cseq = true)
include hcur

/-- A halt notice conflicts with a member that has not voted, and with a waiting abort (R319, R321). -/
theorem State.takeHalt_conflict (h : s.phase m.ctx = phOPEN ∨ s.phase m.ctx = phPREPARE ∨ (s.cmAt m.ctx).abortPend.isSome) :
    s.takeHalt m = (s.done m).satInc (CM_DIAG.conflict m.ctx) 1 :=
  (if_neg (not_not.mpr hlive)).trans ((if_neg (not_not.mpr hcur)).trans (if_pos h))

variable (hfree : ¬ (s.phase m.ctx = phOPEN ∨ s.phase m.ctx = phPREPARE ∨ (s.cmAt m.ctx).abortPend.isSome))
include hfree

/-- A halt notice where the decision is held is judged against it (R319, R321). -/
theorem State.takeHalt_held {k : Notice} (hheld : s.decided m.ctx = some k) :
    s.takeHalt m = if k.halt = false then (s.done m).satInc (CM_DIAG.conflict m.ctx) 1
      else if k.h = (haltOf m).h then (s.done m).forward m.ctx m.bit2 (haltOf m)
      else (s.done m).satInc (CM_DIAG.h_mismatch m.ctx) 1 := by
  have hheld' : (s.done m).decided m.ctx = some k := hheld
  refine (if_neg (not_not.mpr hlive)).trans ((if_neg (not_not.mpr hcur)).trans ((if_neg hfree).trans ?_))
  simp only [hheld', Bool.not_eq_true]
  rfl

/-- The first halt notice is taken, and arms a member that has voted (R152, R318, R319). -/
theorem State.takeHalt_first (hnone : s.decided m.ctx = none) (hvoted : s.phase m.ctx = phVOTED ∨ s.phase m.ctx = phINDOUBT) :
    s.takeHalt m = (s.takeDecision m (haltOf m)).armHalt m.ctx (haltOf m).h := by
  have hnone' : (s.done m).decided m.ctx = none := hnone
  have hphase : (s.takeDecision m (haltOf m)).phase m.ctx = s.phase m.ctx := by rw [State.takeDecision_eq]; rfl
  refine (if_neg (not_not.mpr hlive)).trans ((if_neg (not_not.mpr hcur)).trans ((if_neg hfree).trans ?_))
  simp only [hnone']
  rw [State.takeDecision] at hphase ⊢
  exact if_pos (by rw [hphase]; exact hvoted)

end

/-- A halt notice nearer than arm_min arms for the earliest hour there is, and notes how late that is (R152). -/
theorem State.armHalt_cases (s : State) (c h : Nat) :
    (s.now + s.get TK_HT_CFG.arm_min ≤ h → s.armHalt c h = s.arm c h none)
      ∧ (h < s.now + s.get TK_HT_CFG.arm_min → s.armHalt c h = s.arm c (s.now + s.get TK_HT_CFG.arm_min)
          (some ((h : Int) - (s.now + s.get TK_HT_CFG.arm_min : Nat)))) := by
  refine ⟨fun hle => if_pos hle, fun hlt => (if_neg (by omega)).trans ?_⟩
  push_cast
  rfl

/-- An armed halt is armed whatever its lead, in the bank and at the committed step there were (R319). -/
theorem State.armHalt_shows (s : State) (c h : Nat) :
    (s.armHalt c h).phase c = phARMED ∧ ((s.armHalt c h).cmAt c).notices = (s.cmAt c).notices
      ∧ (s.armHalt c h).fab = s.fab ∧ (s.armHalt c h).active c = s.active c
      ∧ (s.armHalt c h).get (CM_STEP.committed c) = s.get (CM_STEP.committed c) := by
  have harm : ∃ hour late, s.armHalt c h = s.arm c hour late := by
    obtain ⟨hin, hlate⟩ := s.armHalt_cases c h
    obtain hlt | hle := Nat.lt_or_ge h (s.now + s.get TK_HT_CFG.arm_min)
    · exact ⟨_, _, hlate hlt⟩
    · exact ⟨_, _, hin hle⟩
  obtain ⟨hour, late, harm⟩ := harm
  obtain ⟨hphase, -, hcm, hfab, hactive, hcommitted⟩ := s.arm_shows c hour late
  rw [harm]
  exact ⟨hphase, by rw [hcm], hfab, hactive, hcommitted⟩

/-- The first halt notice of a voted member arms its flip for H, or for the earliest hour with its lateness (R152,
R319). -/
theorem halt_arms (bytes : List Byte) (m : Msg) (s : State) (hacc : accepted 0x31 bytes m s = true)
    (hlive : s.live m.ctx = true) (hcur : s.cmCurrent m.ctx (haltOf m).epoch (haltOf m).cseq = true)
    (hvoted : s.phase m.ctx = phVOTED ∨ s.phase m.ctx = phINDOUBT) (hpend : (s.cmAt m.ctx).abortPend = none)
    (hnone : s.decided m.ctx = none) :
    let t := s.takeHalt m
    exec (.halt bytes) s = .next t.after ∧ t.phase m.ctx = phARMED
      ∧ (s.now + s.get TK_HT_CFG.arm_min ≤ (haltOf m).h → t.get (CM_HALT.h m.ctx) = (haltOf m).h % 2 ^ (CM_HALT.h m.ctx).w
          ∧ (t.cmAt m.ctx).late = none)
      ∧ ((haltOf m).h < s.now + s.get TK_HT_CFG.arm_min →
          t.get (CM_HALT.h m.ctx) = (s.now + s.get TK_HT_CFG.arm_min) % 2 ^ (CM_HALT.h m.ctx).w
          ∧ (t.cmAt m.ctx).late = some (((haltOf m).h : Int) - (s.now + s.get TK_HT_CFG.arm_min : Nat)))
      ∧ haltOf m ∈ (t.cmAt m.ctx).notices
      ∧ t.fab.txq = (s.forward m.ctx m.bit2 (haltOf m)).fab.txq
      ∧ t.active m.ctx = s.active m.ctx ∧ t.get (CM_STEP.committed m.ctx) = s.get (CM_STEP.committed m.ctx) := by
  have hfree : ¬ (s.phase m.ctx = phOPEN ∨ s.phase m.ctx = phPREPARE ∨ (s.cmAt m.ctx).abortPend.isSome) := by
    rw [hpend]
    obtain h | h := hvoted <;> rw [h] <;> decide
  intro t
  obtain ⟨u, hu⟩ : ∃ u, u = s.takeDecision m (haltOf m) := ⟨_, rfl⟩
  have ht : t = u.armHalt m.ctx (haltOf m).h := by rw [hu]; exact State.takeHalt_first hlive hcur hfree hnone hvoted
  have hkept : u.cmAt m.ctx = (s.cmAt m.ctx).keep (haltOf m) := by rw [hu]; exact s.cmAt_takeDecision m _
  rw [State.takeDecision_eq] at hu
  have hnow : u.now = s.now := by rw [hu]; rfl
  have hmin : u.get TK_HT_CFG.arm_min = s.get TK_HT_CFG.arm_min := by rw [hu]; rfl
  obtain ⟨hin, hlate⟩ := u.armHalt_cases m.ctx (haltOf m).h
  obtain ⟨hphase, hnotices, hfab, hactive, hcommitted⟩ := u.armHalt_shows m.ctx (haltOf m).h
  rw [hnow, hmin] at hin hlate
  refine ⟨State.receive_accepted _ hacc, ?_, fun hle => ?_, fun hlt => ?_, ?_, ?_, ?_, ?_⟩
  · rw [ht, hphase]
  · obtain ⟨-, hhour, hcm, -⟩ := u.arm_shows m.ctx (haltOf m).h none
    rw [ht, hin hle, hhour, hcm]
    exact ⟨rfl, rfl⟩
  · rw [ht, hlate hlt]
    obtain ⟨-, hhour, hcm, -⟩ := u.arm_shows m.ctx (s.now + s.get TK_HT_CFG.arm_min)
      (some (((haltOf m).h : Int) - (s.now + s.get TK_HT_CFG.arm_min : Nat)))
    rw [hhour, hcm]
    exact ⟨rfl, rfl⟩
  · rw [ht, hnotices, hkept]
    exact CmS.mem_keep _ _
  · rw [ht, hfab, hu]
  · rw [ht, hactive, hu]; rfl
  · rw [ht, hcommitted, hu]; rfl

/-! ### The end of a command as the commit engine sees it (R117, R326) -/

/-- A command's completion leaves the fence that waits (R332). -/
theorem State.fence_complete (s : State) (j : Job) (st v f : Nat) (hc : j.ctx < 4) :
    ((s.complete j st v f).cmAt j.ctx).fence = (s.cmAt j.ctx).fence := by
  have hcongr {s t : State} (h : t.cm = s.cm) : (t.cmAt j.ctx).fence = (s.cmAt j.ctx).fence := by simp [State.cmAt, h]
  have hfail (s : State) : ((s.failInterval j.ctx st).cmAt j.ctx).fence = (s.cmAt j.ctx).fence := by
    unfold State.failInterval
    split
    · rfl
    · split
      · rfl
      · rw [State.cmAt_setCm_same]
  have huncover (s : State) : ((s.uncover j).cmAt j.ctx).fence = (s.cmAt j.ctx).fence := by
    unfold State.uncover
    extract_lets
    split
    · rfl
    · split
      · rw [State.cmAt_setCm_same]
      · split
        · rw [State.cmAt_setCm_same]
        · rfl
  unfold State.complete
  extract_lets s1 s2 s3 s4 s5 s6 s7 s8 s9 s10 s11 s12 s13
  have h2 : s2.cm = s.cm := by
    obtain ⟨u, hframe, hu⟩ := CommitFrame.postX s1 j.ctx j.key st f v hc
    exact (congrArg State.cm hu).trans hframe.cm
  have h6 : s6.cm = s5.cm := by
    simp only [s6]
    split <;> rfl
  have h7 : s7.cm = s.cm := by
    rw [(CommitFrame.tickDone s6 j hc).cm, h6, (CommitFrame.foldl _ CommitFrame.unholdSlot j.slots s4).cm,
      (CommitFrame.foldl _ CommitFrame.unhold j.refs s3).cm]
    exact h2
  have h8 : (s8.cmAt j.ctx).fence = (s7.cmAt j.ctx).fence := by
    simp only [s8]
    split
    · exact hfail s7
    · rfl
  have h9 : (s9.cmAt j.ctx).fence = (s8.cmAt j.ctx).fence :=
    (hcongr (CommitFrame.gsEnded _ j st hc).cm).trans (huncover s8)
  have h13 : s13.cm = s9.cm := by
    have h10 : s10.cm = s9.cm := by simp only [s10]; split <;> rfl
    have h11 : s11.cm = s10.cm := by
      simp only [s11]
      split
      · split
        · exact (CommitFrame.observe _ _ _).cm
        · rfl
      · rfl
    have h12 : s12.cm = s11.cm := by
      simp only [s12]
      split
      · exact (CommitFrame.observe _ _ _).cm
      · rfl
    have h13 : s13.cm = s12.cm := by simp only [s13]; split <;> rfl
    rw [h13, h12, h11, h10]
  have hall : (s13.cmAt j.ctx).fence = (s.cmAt j.ctx).fence := by rw [hcongr h13, h9, h8, hcongr h7]
  split
  · rw [hcongr (CommitFrame.emptySlot s13 _ true (by omega)).cm, hall]
  · exact hall

/-- What keeps the commit registers but CM_STAT.failed, the team engine, and the fence that waits. -/
structure EndsWork (c : Nat) (s t : State) : Prop where
  part : CommitPart s t c
  fence : (t.cmAt c).fence = (s.cmAt c).fence

/-- Nothing done is such a change. -/
theorem EndsWork.refl (c : Nat) (s : State) : EndsWork c s s := ⟨.self, rfl⟩

/-- Two such changes are one. -/
theorem EndsWork.trans {c : Nat} {s t u : State} (h : EndsWork c s t) (k : EndsWork c t u) : EndsWork c s u :=
  ⟨h.part.trans k.part, k.fence.trans h.fence⟩

/-- A running work replaced is one. -/
theorem EndsWork.setJob (c : Nat) (s : State) (j : Job) : EndsWork c s (s.setJob j) :=
  ⟨CommitFrame.part (.of (s := s) (t := s.setJob j) rfl rfl rfl rfl rfl) c, rfl⟩

/-- A fold of such changes over a list is one. -/
theorem EndsWork.foldl {α : Type} {c : Nat} (f : State → α → State) (xs : List α)
    (h : ∀ s, ∀ x ∈ xs, EndsWork c s (f s x)) (s : State) : EndsWork c s (xs.foldl f s) := by
  induction xs generalizing s with
  | nil => exact .refl c s
  | cons x xs ih => exact (h s x (by simp)).trans (ih (fun s y hy => h s y (by simp [hy])) _)

/-- A command of the context that completes is one (R117). -/
theorem EndsWork.complete {c : Nat} {j : Job} (s : State) (hj : j.ctx = c) (hc : c < 4) (st v f : Nat) :
    EndsWork c s (s.complete j st v f) := by
  subst hj
  exact ⟨(s.complete_part j st v f hc).1, s.fence_complete j st v f hc⟩

/-- A command of the context that ends early is one, at once or once its requests are answered (R123). -/
theorem EndsWork.endCmd {c : Nat} {j : Job} (s : State) (hj : j.ctx = c) (hc : c < 4) (st : Nat) :
    EndsWork c s (s.endCmd j st) := by
  unfold State.endCmd
  split
  · exact .complete s hj hc _ _ _
  · exact .setJob c s _

/-- A command counted as one of a context is of that context. -/
theorem Job.ctx_of_cmdOf {j : Job} {c : Nat} (h : j.cmdOf c = true) : j.ctx = c := by
  simp only [Job.cmdOf, Bool.and_eq_true, beq_iff_eq] at h
  exact h.2

/-! ### The abort (R326, R534) -/

/-- The running writers and the STEP_END of a context ended by an abort (R326). -/
def State.endInterval (s : State) (c reason rank : Nat) : State :=
  let cseq := s.get (CM_STAT.cseq c)
  let s := (s.writers c).foldl (fun s j => s.endCmd j stABORTED) s
  match s.stepEndJob c with
  | some j => if j.out = 0 then s.complete j stABORTED (abortValue reason rank cseq) 0
      else s.setJob { j with ending := some (stABORTED, some (abortValue reason rank cseq)), segs := [], hold := .run }
  | none => s

/-- Commands ended by an abort leave the registers of the transaction (R326). -/
theorem State.endInterval_ends (s : State) (c reason rank : Nat) (hc : c < 4) : EndsWork c s (s.endInterval c reason rank) := by
  have hwriters : EndsWork c s ((s.writers c).foldl (fun s j => s.endCmd j stABORTED) s) := by
    refine .foldl _ _ (fun u j hj => ?_) s
    simp only [State.writers, List.mem_filter, Bool.and_eq_true] at hj
    exact .endCmd u (Job.ctx_of_cmdOf hj.2.1.1) hc _
  unfold State.endInterval
  extract_lets cseq u
  split
  next j hj =>
    have hof := List.find?_some hj
    simp only [Bool.and_eq_true] at hof
    split
    · exact hwriters.trans (.complete _ (Job.ctx_of_cmdOf hof.1.1) hc _ _ _)
    · exact hwriters.trans (.setJob c _ _)
  next => exact hwriters

/-- The context's transaction opened anew on C and the staged stride, under the next cseq (R326). -/
def State.reopen (s : State) (c : Nat) : State :=
  let s := (s.set (CM_STAT.phase c) (s.restPhase c)).clearInterval c
  let s := s.setCm c { s.cmAt c with fence := none }
  ((s.set (CM_STAT.stride c) (s.get (CM_CFG.stride c))).openStep c).wrapInc (CM_STAT.cseq c) 1

/-- An abort recorded with its reason, rank and cseq, and its counts and windows (R326, R427). -/
def State.recordAbort (s : State) (c reason rank cseq : Nat) : State :=
  let s := ((s.set (CM_LAST.reason c) reason).set (CM_LAST.rank c) rank).set (CM_LAST.cseq c) cseq
  ((s.satInc (CM_CNT.aborts c) 1).set (DR_STAT.prev_intact c) 0).restoreWins c

/-- An abort ends the interval's commands, opens the transaction anew, and records itself (R326). -/
theorem State.doAbort_steps (s : State) (c reason rank : Nat) : s.doAbort c reason rank =
    (((s.endInterval c reason rank).reopen c).recordAbort c reason rank (s.get (CM_STAT.cseq c))) := rfl


/-- The record of an abort comes after the registers of the transaction in the context's block (R326). -/
theorem State.get_recordAbort (s : State) (c reason rank cseq : Nat) (hc : c < 4) (l : Loc)
    (h : 0x14000 + 0x100 * c ≤ l.key / 64 ∧ l.key / 64 < 0x14080 + 0x100 * c) :
    (s.recordAbort c reason rank cseq).get l = s.get l := by
  have hbank : OtherKey (DR_STAT.prev_intact c) := by simp only [OtherKey, CommitKey, Loc.key, DR_STAT.prev_intact]; omega
  unfold State.recordAbort
  rw [((CommitFrame.set hbank).trans (.restoreWins _ c)).g l (by simp only [CommitKey]; omega), State.satInc_eq,
    State.get_set_ne, State.get_set_ne, State.get_set_ne, State.get_set_ne]
    <;> (simp only [Loc.key, CM_LAST.reason, CM_LAST.rank, CM_LAST.cseq, CM_CNT.aborts] at *; omega)

/-- CM_LAST holds the reason, rank and cseq of the abort (R326). -/
theorem State.recordAbort_shows (s : State) (c reason rank cseq : Nat) (hc : c < 4) :
    (s.recordAbort c reason rank cseq).get (CM_LAST.reason c) = reason % 2 ^ (CM_LAST.reason c).w
      ∧ (s.recordAbort c reason rank cseq).get (CM_LAST.rank c) = rank % 2 ^ (CM_LAST.rank c).w
      ∧ (s.recordAbort c reason rank cseq).get (CM_LAST.cseq c) = cseq % 2 ^ (CM_LAST.cseq c).w
      ∧ (s.recordAbort c reason rank cseq).cmAt c = s.cmAt c ∧ (s.recordAbort c reason rank cseq).tmAt c = s.tmAt c := by
  have hbank : OtherKey (DR_STAT.prev_intact c) := by simp only [OtherKey, CommitKey, Loc.key, DR_STAT.prev_intact]; omega
  unfold State.recordAbort
  extract_lets t
  have hframe := (CommitFrame.set (s := t.satInc (CM_CNT.aborts c) 1) (v := 0) hbank).trans (.restoreWins _ c)
  have hlast (l : Loc) (hl : l.key / 64 = 0x14080 + 0x100 * c) :
      (((t.satInc (CM_CNT.aborts c) 1).set (DR_STAT.prev_intact c) 0).restoreWins c).get l = t.get l := by
    rw [hframe.g l (by simp only [CommitKey]; omega), State.satInc_eq, State.get_set_ne]
    simp only [CM_CNT.aborts, Loc.key] at *
    omega
  refine ⟨?_, ?_, ?_, ?_, ?_⟩
  · rw [hlast _ (by simp only [Loc.key, CM_LAST.reason]; omega), State.get_set_ne, State.get_set_ne, State.get_set_same]
      <;> (simp only [Loc.key, CM_LAST.reason, CM_LAST.rank, CM_LAST.cseq]; omega)
  · rw [hlast _ (by simp only [Loc.key, CM_LAST.rank]; omega), State.get_set_ne, State.get_set_same]
    simp only [Loc.key, CM_LAST.rank, CM_LAST.cseq]
    omega
  · rw [hlast _ (by simp only [Loc.key, CM_LAST.cseq]; omega), State.get_set_same]
  · rw [State.cmAt, hframe.cm]; rfl
  · rw [State.tmAt, hframe.tm]; rfl

/-- The phase that an abort leads to (R319, R326). -/
theorem State.restPhase_lt (s : State) (c : Nat) : s.restPhase c < 2 ^ (CM_STAT.phase c).w := by
  change _ < 2 ^ 3
  unfold State.restPhase
  split <;> decide

/-- A transaction opened anew: C and the bank stand, the staged stride leads to the open step, and the phase rests
(R301, R326). -/
theorem State.reopen_shows (s : State) (c : Nat) :
    let t := s.reopen c
    t.get (CM_STEP.committed c) = s.get (CM_STEP.committed c) ∧ t.active c = s.active c
      ∧ t.get (CM_STAT.stride c) = s.get (CM_CFG.stride c) % 2 ^ (CM_STAT.stride c).w
      ∧ t.get (CM_OPEN.open_ c) =
          (s.get (CM_STEP.committed c) + t.get (CM_STAT.stride c)) % 2 ^ (CM_OPEN.open_ c).w
      ∧ t.get (CM_CUR.cur c) = (s.get (CM_STEP.committed c) + 1) % 2 ^ (CM_CUR.cur c).w
      ∧ t.get (CM_STAT.cseq c) = (s.get (CM_STAT.cseq c) + 1) % 2 ^ (CM_STAT.cseq c).w
      ∧ t.get (CM_STAT.failed c) = 0 ∧ t.phase c = s.restPhase c := by
  have hphase := Nat.mod_eq_of_lt (s.restPhase_lt c)
  simp only [State.phase, State.active, State.reopen, State.clearInterval, State.openStep, State.wrapInc_eq]
  refine ⟨?_, ?_, ?_, ?_, ?_, ?_, Eq.trans ?_ (Nat.zero_mod (2 ^ (CM_STAT.failed c).w)), Eq.trans ?_ hphase⟩ <;>
  simp (disch := (simp only [Loc.key, CM_STEP.committed, CM_STAT.sel, CM_STAT.stride, CM_OPEN.open_, CM_CUR.cur,
    CM_STAT.cseq, CM_STAT.failed, CM_STAT.phase, CM_CFG.stride]; omega)) only
    [State.get_setCm, State.get_setTm, State.get_set_same, State.get_set_ne]

/-- A register write leaves what the commit engine holds of a context. -/
theorem State.cmAt_set (s : State) (l : Loc) (v c : Nat) : (s.set l v).cmAt c = s.cmAt c := rfl

/-- A register write leaves what the team engine holds of a context. -/
theorem State.tmAt_set (s : State) (l : Loc) (v c : Nat) : (s.set l v).tmAt c = s.tmAt c := rfl

/-- A transaction opened anew has no coverage and no touched granules (R161, R282, R326). -/
theorem State.reopen_clears (s : State) (c : Nat) :
    ((s.reopen c).cmAt c).cover = [] ∧ ((s.reopen c).cmAt c).coverR = [] ∧ ((s.reopen c).tmAt c).touch = [] := by
  have hteam (u : State) (x : CmS) : (u.setCm c x).tmAt c = u.tmAt c := rfl
  have hcommit (u : State) (x : TeamS) : (u.setTm c x).cmAt c = u.cmAt c := rfl
  simp only [State.reopen, State.clearInterval, State.openStep, State.wrapInc_eq, State.cmAt_set, State.tmAt_set, hteam,
    hcommit, State.cmAt_setCm_same, State.tmAt_setTm_same, CmS.next, and_self]

/-- Commands that end leave where the transaction stands: C, the bank, the staged stride, the cseq and the phase that an
abort leads to (R326). -/
theorem EndsWork.transaction {c : Nat} {s t : State} (h : EndsWork c s t) (hc : c < 4) :
    t.get (CM_STEP.committed c) = s.get (CM_STEP.committed c) ∧ t.active c = s.active c
      ∧ t.get (CM_CFG.stride c) = s.get (CM_CFG.stride c) ∧ t.get (CM_STAT.cseq c) = s.get (CM_STAT.cseq c)
      ∧ t.restPhase c = s.restPhase c := by
  have hkept (l : Loc) (hoff : 0x14000 + 0x100 * c ≤ l.key / 64 ∧ l.key / 64 < 0x14080 + 0x100 * c)
      (hne : l.key ≠ (CM_STAT.failed c).key) : t.get l = s.get l := h.part.g l (by simp only [CommitKey]; omega) hne
  have hphase : t.phase c = s.phase c := by
    refine hkept _ ?_ ?_ <;> (simp only [Loc.key, CM_STAT.phase, CM_STAT.failed]; omega)
  refine ⟨hkept _ ?_ ?_, hkept _ ?_ ?_, hkept _ ?_ ?_, hkept _ ?_ ?_, ?_⟩
  case refine_9 => rw [State.restPhase, hphase, h.fence, State.restPhase]
  all_goals simp only [Loc.key, CM_STEP.committed, CM_STAT.sel, CM_CFG.stride, CM_STAT.cseq, CM_STAT.failed]; omega

/-- What an abort leaves of a context's transaction: C and the bank stand, the interval is opened anew with the staged
stride under the next cseq, nothing is marked, and CM_LAST tells of it (R326). -/
structure Aborted (c reason rank : Nat) (s t : State) : Prop where
  committed : t.get (CM_STEP.committed c) = s.get (CM_STEP.committed c)
  bank : t.active c = s.active c
  stride : t.get (CM_STAT.stride c) = s.get (CM_CFG.stride c) % 2 ^ (CM_STAT.stride c).w
  openStep : t.get (CM_OPEN.open_ c) = (s.get (CM_STEP.committed c) + t.get (CM_STAT.stride c)) % 2 ^ (CM_OPEN.open_ c).w
  current : t.get (CM_CUR.cur c) = (s.get (CM_STEP.committed c) + 1) % 2 ^ (CM_CUR.cur c).w
  cseq : t.get (CM_STAT.cseq c) = (s.get (CM_STAT.cseq c) + 1) % 2 ^ (CM_STAT.cseq c).w
  failed : t.get (CM_STAT.failed c) = 0
  cover : (t.cmAt c).cover = []
  coverR : (t.cmAt c).coverR = []
  touch : (t.tmAt c).touch = []
  lastReason : t.get (CM_LAST.reason c) = reason % 2 ^ (CM_LAST.reason c).w
  lastRank : t.get (CM_LAST.rank c) = rank % 2 ^ (CM_LAST.rank c).w
  lastCseq : t.get (CM_LAST.cseq c) = s.get (CM_STAT.cseq c) % 2 ^ (CM_LAST.cseq c).w
  phase : t.phase c = s.restPhase c

/-- An abort that waits for nothing is performed (R326). -/
theorem State.doAbort_aborted (s : State) (c reason rank : Nat) (hc : c < 4) :
    Aborted c reason rank s (s.doAbort c reason rank) := by
  rw [State.doAbort_steps]
  obtain ⟨hendC, hendSel, hendCfg, hendCseq, hendPhase⟩ := (s.endInterval_ends c reason rank hc).transaction hc
  generalize s.endInterval c reason rank = u at hendC hendSel hendCfg hendCseq hendPhase ⊢
  obtain ⟨hcommitted, hsel, hstride, hopen, hcur, hcseq, hfailed, hphase⟩ := u.reopen_shows c
  obtain ⟨hcover, hcoverR, htouch⟩ := u.reopen_clears c
  generalize u.reopen c = v at hcommitted hsel hstride hopen hcur hcseq hfailed hphase hcover hcoverR htouch ⊢
  obtain ⟨hreason, hrank, hlast, hcm, htm⟩ := v.recordAbort_shows c reason rank (s.get (CM_STAT.cseq c)) hc
  have hget := v.get_recordAbort c reason rank (s.get (CM_STAT.cseq c)) hc
  generalize v.recordAbort c reason rank (s.get (CM_STAT.cseq c)) = t at hreason hrank hlast hcm htm hget ⊢
  have hstride' : t.get (CM_STAT.stride c) = v.get (CM_STAT.stride c) :=
    hget _ (by simp only [Loc.key, CM_STAT.stride]; omega)
  refine ⟨?_, ?_, ?_, ?_, ?_, ?_, ?_, ?_, ?_, ?_, hreason, hrank, hlast, ?_⟩
  · rw [hget _ (by simp only [Loc.key, CM_STEP.committed]; omega), hcommitted, hendC]
  · rw [State.active, hget _ (by simp only [Loc.key, CM_STAT.sel]; omega), ← hendSel, ← hsel, State.active]
  · rw [hstride', hstride, hendCfg]
  · rw [hget _ (by simp only [Loc.key, CM_OPEN.open_]; omega), hstride', hopen, hendC]
  · rw [hget _ (by simp only [Loc.key, CM_CUR.cur]; omega), hcur, hendC]
  · rw [hget _ (by simp only [Loc.key, CM_STAT.cseq]; omega), hcseq, hendCseq]
  · rw [hget _ (by simp only [Loc.key, CM_STAT.failed]; omega), hfailed]
  · rw [hcm, hcover]
  · rw [hcm, hcoverR]
  · rw [htm, htouch]
  · rw [State.phase, hget _ (by simp only [Loc.key, CM_STAT.phase]; omega), ← hendPhase, ← hphase, State.phase]

/-- What an abort leaves depends on the registers and the fence that waits alone. -/
theorem Aborted.congr {c reason rank : Nat} {s s' t : State} (h : Aborted c reason rank s' t) (hregs : s'.regs = s.regs)
    (hfence : (s'.cmAt c).fence = (s.cmAt c).fence) : Aborted c reason rank s t := by
  have hget (l : Loc) : s'.get l = s.get l := by rw [State.get, hregs, State.get]
  have hnow : s'.phase c = s.phase c := hget _
  have hrest : s'.restPhase c = s.restPhase c := by rw [State.restPhase, hnow, hfence, State.restPhase]
  exact {
    h with
    committed := h.committed.trans (hget _)
    bank := h.bank.trans (hget _)
    stride := by rw [h.stride, hget]
    openStep := by rw [h.openStep, hget]
    current := by rw [h.current, hget]
    cseq := by rw [h.cseq, hget]
    lastCseq := by rw [h.lastCseq, hget]
    phase := h.phase.trans hrest }

/-- Delta work cut short is still delta work, on the same requests (R534). -/
theorem State.deltaBusy_cutDeltas (s : State) (c status : Nat) : (s.cutDeltas c status).deltaBusy c = s.deltaBusy c := by
  have hjob (j : Job) :
      (if j.isDelta c then { j with ending := some (status, some 0), segs := [] } else j).isDelta c = j.isDelta c
      ∧ (if j.isDelta c then { j with ending := some (status, some 0), segs := [] } else j).id = j.id := by
    split <;> exact ⟨rfl, rfl⟩
  simp only [State.deltaBusy, State.cutDeltas, List.any_map, Function.comp_def, hjob]

/-- An abort waits while deltas are being written (R534). -/
theorem State.abort_waits (s : State) (c reason rank : Nat) (h : s.deltaBusy c = true) :
    s.abort c reason rank = (s.cutDeltas c stABORTED).setCm c { s.cmAt c with abortPend := some (reason, rank) } :=
  if_pos ((s.deltaBusy_cutDeltas c stABORTED).trans h)

/-- An abort is performed at once where none is (R326). -/
theorem State.abort_now (s : State) (c reason rank : Nat) (h : s.deltaBusy c = false) :
    s.abort c reason rank = (s.cutDeltas c stABORTED).doAbort c reason rank :=
  if_neg (Bool.eq_false_iff.mp ((s.deltaBusy_cutDeltas c stABORTED).trans h))

/-! ### The abort notice (R319 to R321, R326) -/

section
variable {s : State} {m : Msg} (hlive : s.live m.ctx = true)
include hlive

/-- An abort notice of another transaction is stale (R321). -/
theorem State.takeAbort_stale (h : s.cmCurrent m.ctx (abortOf m).epoch (abortOf m).cseq = false) :
    s.takeAbort m = (s.done m).satInc (CM_DIAG.stale m.ctx) 1 :=
  (if_neg (not_not.mpr hlive)).trans (if_pos (Bool.eq_false_iff.mp h))

variable (hcur : s.cmCurrent m.ctx (abortOf m).epoch (abortOf m).cseq = true)
include hcur

/-- An abort notice of the transaction conflicts with the halt notice held, changes nothing at an armed flip or where an
abort waits, and else is taken and aborts the interval (R155, R319 to R321). -/
theorem State.takeAbort_current :
    s.takeAbort m = if (s.decided m.ctx).any (·.halt) then (s.done m).satInc (CM_DIAG.conflict m.ctx) 1
      else if s.phase m.ctx = phARMED ∨ (s.cmAt m.ctx).abortPend.isSome then s.done m
      else (s.takeDecision m (abortOf m)).abort m.ctx (abortOf m).reason (abortOf m).rank := by
  have hdecided : (s.done m).decided m.ctx = s.decided m.ctx := rfl
  refine (if_neg (not_not.mpr hlive)).trans ((if_neg (not_not.mpr hcur)).trans ?_)
  rw [hdecided]
  cases s.decided m.ctx <;> rfl

/-- An abort notice that finds no halt notice, no armed flip and no abort that waits is taken (R320). -/
theorem State.takeAbort_first (harmed : s.phase m.ctx ≠ phARMED) (hpend : (s.cmAt m.ctx).abortPend = none)
    (hhalt : ∀ k, s.decided m.ctx = some k → k.halt = false) :
    s.takeAbort m = (s.takeDecision m (abortOf m)).abort m.ctx (abortOf m).reason (abortOf m).rank := by
  have hnohalt : ¬ (s.decided m.ctx).any (·.halt) = true := by
    cases hd : s.decided m.ctx with
    | none => simp
    | some k => simp [hhalt k hd]
  rw [State.takeAbort_current hlive hcur, if_neg hnohalt, if_neg (by simp [harmed, hpend])]

end

/-- A notice taken leaves the registers, the deltas under way and the fence that waits. -/
theorem State.takeDecision_frame (s : State) (m : Msg) (n : Notice) : (s.takeDecision m n).regs = s.regs
    ∧ (s.takeDecision m n).deltaBusy m.ctx = s.deltaBusy m.ctx
    ∧ ((s.takeDecision m n).cmAt m.ctx).fence = (s.cmAt m.ctx).fence := by
  refine ⟨?_, ?_, ?_⟩
  · rw [State.takeDecision_eq]
  · rw [State.takeDecision_eq]
    rfl
  · rw [State.cmAt_takeDecision]
    rfl

/-- An abort notice taken with no delta being written aborts the interval (R320, R326). -/
theorem State.takeAbort_aborts {s : State} {m : Msg} (hctx : m.ctx < 4)
    (htake : s.takeAbort m = (s.takeDecision m (abortOf m)).abort m.ctx (abortOf m).reason (abortOf m).rank)
    (hbusy : s.deltaBusy m.ctx = false) : Aborted m.ctx (abortOf m).reason (abortOf m).rank s (s.takeAbort m) := by
  obtain ⟨hregs, hdelta, hfence⟩ := s.takeDecision_frame m (abortOf m)
  rw [htake, State.abort_now _ _ _ _ (hdelta.trans hbusy)]
  exact (State.doAbort_aborted _ _ _ _ hctx).congr hregs hfence

/-- An abort notice taken while deltas are being written waits, and changes no register (R534). -/
theorem State.takeAbort_waits {s : State} {m : Msg}
    (htake : s.takeAbort m = (s.takeDecision m (abortOf m)).abort m.ctx (abortOf m).reason (abortOf m).rank)
    (hbusy : s.deltaBusy m.ctx = true) :
    ((s.takeAbort m).cmAt m.ctx).abortPend = some ((abortOf m).reason, (abortOf m).rank) ∧ (s.takeAbort m).regs = s.regs := by
  obtain ⟨hregs, hdelta, -⟩ := s.takeDecision_frame m (abortOf m)
  rw [htake, State.abort_waits _ _ _ _ (hdelta.trans hbusy), State.cmAt_setCm_same]
  exact ⟨rfl, hregs⟩

/-- Settles O30: each row gives an accepted message to its meaning, and each branch of the meaning by its lemma. -/
theorem haltNoticeArmsAndAbortNoticeAborts : Obligations.HaltNoticeArmsAndAbortNoticeAborts := by
  unfold Obligations.HaltNoticeArmsAndAbortNoticeAborts
  refine ⟨halt_arms, fun bytes m s hacc hlive => ?_, fun bytes m s hacc hlive hcur harmed hpend hhalt hbusy => ?_,
    fun bytes m s hacc hlive hcur harmed hpend hhalt hbusy => ⟨State.receive_accepted _ hacc, ?_⟩,
    fun bytes m s hacc hlive => ?_, fun bytes m s hdead => ⟨fun hacc => ?_, fun hacc => ?_⟩⟩
  · refine (State.receive_accepted _ hacc).trans (congrArg fin ?_)
    split
    next hstale => exact State.takeHalt_stale hlive hstale
    next hcur =>
      have hcur := Bool.eq_true_of_not_eq_false hcur
      split
      next hearly => exact State.takeHalt_conflict hlive hcur hearly
      next hvoted =>
        split
        next => rfl
        next k hheld => exact State.takeHalt_held hlive hcur hvoted hheld
  · have hdone := State.takeAbort_aborts (ctx_lt_of_accepted hacc)
      (State.takeAbort_first hlive hcur harmed hpend hhalt) hbusy
    exact ⟨State.receive_accepted _ hacc, hdone.committed, hdone.bank, hdone.stride, hdone.openStep, hdone.current,
      hdone.cseq, hdone.failed, hdone.cover, hdone.coverR, hdone.touch, hdone.lastReason, hdone.lastRank, hdone.lastCseq,
      hdone.phase⟩
  · exact State.takeAbort_waits (State.takeAbort_first hlive hcur harmed hpend hhalt) hbusy
  · refine (State.receive_accepted _ hacc).trans (congrArg fin ?_)
    split
    next hstale => exact State.takeAbort_stale hlive hstale
    next hcur =>
      have hbranch := State.takeAbort_current hlive (Bool.eq_true_of_not_eq_false hcur)
      split
      next hheld => rw [hbranch, if_pos hheld]
      next hnone =>
        split
        next hidle => rw [hbranch, if_neg hnone, if_pos hidle]
        next => rfl
  · exact (State.receive_accepted _ hacc).trans (congrArg fin (if_pos (Bool.eq_false_iff.mp hdead)))
  · exact (State.receive_accepted _ hacc).trans (congrArg fin (if_pos (Bool.eq_false_iff.mp hdead)))

end Sys2Proof.Machine

namespace Sys2Proof.Machine

/-! ### Sets as sorted lists (`setAdd`) -/

/-- Adding an element adds that element and no other. -/
theorem mem_setAdd_iff {l : List Nat} {x p : Nat} : p ∈ setAdd l x ↔ p = x ∨ p ∈ l := by
  induction l with
  | nil => simp [setAdd]
  | cons y l ih =>
    unfold setAdd
    split
    · simp
    · split
      next heq => simp [heq]
      next => simp [ih, or_left_comm]

/-- A listing holds what it began with and what was added. -/
theorem mem_foldl_setAdd {xs l : List Nat} {p : Nat} : p ∈ xs.foldl setAdd l ↔ p ∈ xs ∨ p ∈ l := by
  induction xs generalizing l with
  | nil => simp
  | cons x xs ih => rw [List.foldl_cons, ih, mem_setAdd_iff, List.mem_cons, or_left_comm, or_assoc]

/-- Adding an element keeps a listing strictly rising. -/
theorem pairwise_lt_setAdd {l : List Nat} (h : l.Pairwise (· < ·)) (x : Nat) : (setAdd l x).Pairwise (· < ·) := by
  induction l with
  | nil => exact List.pairwise_singleton _ _
  | cons y l ih =>
    obtain ⟨hy, hl⟩ := List.pairwise_cons.mp h
    unfold setAdd
    split
    next hlt =>
      refine List.pairwise_cons.mpr ⟨fun z hz => ?_, h⟩
      rcases List.mem_cons.mp hz with rfl | hz
      · exact hlt
      · exact hlt.trans (hy z hz)
    next hge =>
      split
      next => exact h
      next hne =>
        refine List.pairwise_cons.mpr ⟨fun z hz => ?_, ih hl⟩
        rcases mem_setAdd_iff.mp hz with rfl | hz
        · omega
        · exact hy z hz

/-- A listing built by additions is strictly rising. -/
theorem pairwise_lt_foldl_setAdd (xs : List Nat) : (xs.foldl setAdd []).Pairwise (· < ·) :=
  List.foldlRecOn xs setAdd List.Pairwise.nil fun _ hl x _ => pairwise_lt_setAdd hl x

/-- An element above all others is added at the end. -/
theorem setAdd_of_all_lt {l : List Nat} {x : Nat} (h : ∀ y ∈ l, y < x) : setAdd l x = l ++ [x] := by
  induction l with
  | nil => rfl
  | cons y l ih =>
    obtain ⟨hy, hl⟩ := List.forall_mem_cons.mp h
    rw [setAdd, if_neg (by omega), if_neg (by omega), ih hl, List.cons_append]

/-- Rising elements above a listing are added at its end in their order. -/
theorem foldl_setAdd_of_pairwise_lt {acc xs : List Nat} (h : (acc ++ xs).Pairwise (· < ·)) :
    xs.foldl setAdd acc = acc ++ xs := by
  induction xs generalizing acc with
  | nil => exact (List.append_nil acc).symm
  | cons x xs ih =>
    have hlast : ∀ y ∈ acc, y < x := fun y hy => (List.pairwise_append.mp h).2.2 y hy x List.mem_cons_self
    rw [List.append_cons] at h ⊢
    rw [List.foldl_cons, setAdd_of_all_lt hlast, ih h]

/-- Listing a listing's elements again gives the same listing. -/
theorem foldl_setAdd_idem (xs : List Nat) : (xs.foldl setAdd []).foldl setAdd [] = xs.foldl setAdd [] :=
  foldl_setAdd_of_pairwise_lt (pairwise_lt_foldl_setAdd xs)

/-! ### The bulk decode (R204, R206, R211) -/

/-- A traversal that answers has one result for each element. -/
theorem length_of_mapM_eq_some {α β : Type} {f : α → Option β} {xs : List α} {ys : List β} (h : xs.mapM f = some ys) :
    ys.length = xs.length := by
  induction xs generalizing ys with
  | nil => cases h; rfl
  | cons x xs ih =>
    simp only [List.mapM_cons, Option.bind_eq_bind, Option.bind_eq_some_iff, Option.pure_def, Option.some.injEq] at h
    obtain ⟨y, _, ys', hys, rfl⟩ := h
    rw [List.length_cons, List.length_cons, ih hys]

/-- A bulk decode yields one shard for each position of the erased set (R206). -/
theorem bulkOf_length {k n : Nat} {erased : List Nat} {shards rows : List (List Byte)}
    (h : bulkOf k n (erased.foldl setAdd []) shards = some rows) : rows.length = (erased.foldl setAdd []).length := by
  have hlen := length_of_mapM_eq_some h
  rwa [foldl_setAdd_idem] at hlen

section
variable (c : Ctx) {epoch : W16} {erased : List Nat} {shards rows : List (List Byte)} {h : Nat} {s : State}

/-- Without a table for its epoch a bulk decode is refused with PEER_LOST (R211). -/
theorem execBulkDecode_of_no_table (htab : s.tableOf epoch.toNat = none) :
    execBulkDecode c epoch erased shards s = fin (s.setYoke { s.yoke with result := some (stPEERLOST, []) }) := by
  rw [execBulkDecode, htab]

/-- With a table, a well-formed request that the code decodes is answered with the decoded shards (R204, R206). -/
theorem execBulkDecode_of_table (htab : s.tableOf epoch.toNat = some h) (hne : erased.foldl setAdd [] ≠ [])
    (hle : (erased.foldl setAdd []).length ≤ s.get (YK_DTAB.r h))
    (hpos : ∀ p ∈ erased, p < s.get (YK_DTAB.k h) + s.get (YK_DTAB.r h)) (hk : shards.length = s.get (YK_DTAB.k h))
    (heven : ∀ d ∈ shards, d.length = (shards.headD []).length)
    (hrows : bulkOf (s.get (YK_DTAB.k h)) (s.get (YK_DTAB.k h) + s.get (YK_DTAB.r h)) (erased.foldl setAdd []) shards
      = some rows) :
    execBulkDecode c epoch erased shards s
      = fin (s.fieldBusy.setYoke { s.fieldBusy.yoke with result := some (stOK, rows) }) := by
  have hinside : ¬ ((erased.foldl setAdd []).any fun p => s.get (YK_DTAB.k h) + s.get (YK_DTAB.r h) ≤ p) = true := by
    simpa [mem_foldl_setAdd] using hpos
  have hsame : ¬ (shards.any fun d => d.length ≠ (shards.headD []).length) = true := by
    simpa using heven
  rw [execBulkDecode, htab]
  dsimp only
  rw [if_neg, hrows]
  rintro (hempty | hmany | hout | hcount | hlen)
  · exact hne hempty
  · exact absurd hmany (Nat.not_lt.mpr hle)
  · exact hinside hout
  · exact hcount hk
  · exact hsame hlen

end

/-- Settles O25: the request's checks pass, and the decode traverses the erased set in rising order, one shard each. -/
theorem bulkDecodeAnswersFromTheEpochsTable : Obligations.BulkDecodeAnswersFromTheEpochsTable := by
  unfold Obligations.BulkDecodeAnswersFromTheEpochsTable
  refine ⟨fun c epoch erased shards s htab => execBulkDecode_of_no_table c htab,
    fun c epoch erased shards rows h s htab hne hle hpos hk heven hrows => ?_⟩
  exact ⟨_, execBulkDecode_of_table c htab hne hle hpos hk heven hrows, rfl, bulkOf_length hrows⟩

end Sys2Proof.Machine

/-! ## Statements of 08_reductions_and_collectives.md -/

namespace Sys2Proof.Machine

/-! ### The near and the off tree (R219) -/

/-- Numbers from 1 on fall into blocks of `fan`, and the quotient of a number's predecessor by `fan` is its block. -/
theorem exists_lt_block_iff {fan i x : Nat} (hfan : 1 ≤ fan) :
    (∃ k < fan, i * fan + 1 + k = x) ↔ 1 ≤ x ∧ (x - 1) / fan = i := by
  constructor
  · rintro ⟨k, hk, rfl⟩
    refine ⟨by omega, ?_⟩
    rw [show i * fan + 1 + k - 1 = k + i * fan by omega, Nat.add_mul_div_right _ _ hfan, Nat.div_eq_of_lt hk, Nat.zero_add]
  · rintro ⟨hx, rfl⟩
    exact ⟨(x - 1) % fan, Nat.mod_lt _ hfan, by have := Nat.div_add_mod' (x - 1) fan; omega⟩

section
variable (t : Tree)

/-- The near tree's root has no parent (R219). -/
theorem Tree.parentOf_near_root : t.parentOf 0 0 = none := if_pos rfl

/-- The off tree's root has no parent (R219). -/
theorem Tree.parentOf_off_root : t.parentOf 1 (t.n - 1) = none := if_pos rfl

/-- The near parent of a rank from 1 on (R219). -/
theorem Tree.parentOf_near {i : Nat} (h : 1 ≤ i) : t.parentOf 0 i = some ((i - 1) / t.fan) :=
  (if_neg (Nat.ne_of_gt h)).trans (if_pos rfl)

/-- The off parent of a rank below the last (R219). -/
theorem Tree.parentOf_off {i : Nat} (h : i + 2 ≤ t.n) : t.parentOf 1 i = some (t.n - 1 - (t.n - 2 - i) / t.fan) :=
  (if_neg (show i ≠ t.n - 1 by omega)).trans (if_neg (by decide))

/-- The near children of a rank are the ranks of its block (R219). -/
theorem Tree.mem_childrenOf_near {i x : Nat} (hfan : 1 ≤ t.fan) :
    x ∈ t.childrenOf 0 i ↔ x < t.n ∧ t.parentOf 0 x = some i := by
  have hchild : x ∈ t.childrenOf 0 i ↔ x < t.n ∧ ∃ k < t.fan, i * t.fan + 1 + k = x := by
    simp only [Tree.childrenOf, if_pos, List.mem_filterMap, List.mem_range, Option.ite_none_right_eq_some, Option.some.injEq]
    constructor
    · rintro ⟨k, hk, hlt, rfl⟩
      exact ⟨hlt, k, hk, rfl⟩
    · rintro ⟨hlt, k, hk, rfl⟩
      exact ⟨k, hk, hlt, rfl⟩
  rw [hchild, exists_lt_block_iff hfan]
  rcases Nat.eq_zero_or_pos x with rfl | hx
  · simp [Tree.parentOf_near_root]
  · have hpos : 1 ≤ x := hx
    rw [t.parentOf_near hpos, Option.some.injEq, and_iff_right hpos]

/-- The off children of a rank are the ranks that stand in its block counted from the last (R219). -/
theorem Tree.mem_childrenOf_off {i x : Nat} (hfan : 1 ≤ t.fan) (hi : i < t.n) :
    x ∈ t.childrenOf 1 i ↔ x < t.n ∧ t.parentOf 1 x = some i := by
  have hchild : x ∈ t.childrenOf 1 i ↔ x < t.n ∧ ∃ k < t.fan, (t.n - 1 - i) * t.fan + 1 + k = t.n - 1 - x := by
    simp only [Tree.childrenOf, if_neg, one_ne_zero, not_false_eq_true, List.mem_reverse, List.mem_filterMap, List.mem_range,
      Option.ite_none_right_eq_some, Option.some.injEq]
    constructor
    · rintro ⟨k, hk, hlt, rfl⟩
      exact ⟨by omega, k, hk, by omega⟩
    · rintro ⟨hlt, k, hk, heq⟩
      exact ⟨k, hk, by omega, by omega⟩
  rw [hchild, exists_lt_block_iff hfan]
  refine and_congr_right fun hx => ?_
  by_cases hroot : x = t.n - 1
  · simp [hroot, Tree.parentOf_off_root]
  · have hle : (t.n - 2 - x) / t.fan ≤ t.n - 2 - x := Nat.div_le_self _ _
    rw [t.parentOf_off (by omega), Option.some.injEq, show t.n - 1 - x - 1 = t.n - 2 - x by omega]
    omega

/-- The children of a rank stand in ascending rank (R219). -/
theorem Tree.childrenOf_ascending (tr i : Nat) : (t.childrenOf tr i).Pairwise (· < ·) := by
  unfold Tree.childrenOf
  split
  · refine List.pairwise_lt_range.filterMap _ fun k l hkl a ha b hb => ?_
    simp only [Option.ite_none_right_eq_some, Option.some.injEq] at ha hb
    omega
  · refine List.pairwise_reverse.mpr (List.pairwise_lt_range.filterMap _ fun k l hkl a ha b hb => ?_)
    simp only [Option.ite_none_right_eq_some, Option.some.injEq] at ha hb
    omega

end

/-- Settles O39: both trees number the children of a rank as one block of `fan` numbers. -/
theorem treeParentsAndChildrenAgree : Obligations.TreeParentsAndChildrenAgree := by
  unfold Obligations.TreeParentsAndChildrenAgree
  intro t _ hfan
  refine ⟨rfl, rfl, t.parentOf_near_root, t.parentOf_off_root, fun i => t.parentOf_near, fun i => t.parentOf_off,
    fun tr htr i hi => ⟨fun x => ?_, t.childrenOf_ascending tr i⟩⟩
  obtain rfl | rfl : tr = 0 ∨ tr = 1 := by omega
  · exact t.mem_childrenOf_near hfan
  · exact t.mem_childrenOf_off hfan hi

/-! ### Lane sums (R224, R255) -/

/-- Lane sums keep their 64 lanes, and each lane is added by itself. -/
theorem addLanes_lanes {as bs : List Int} (ha : as = [] ∨ as.length = 64) (hb : bs.length = 64) :
    (addLanes as bs).length = 64 ∧ ∀ i, (addLanes as bs).getD i 0 = as.getD i 0 + bs.getD i 0 := by
  unfold addLanes
  split
  next hnil => simp [hnil, hb]
  next hcons =>
    have ha := ha.resolve_left hcons
    refine ⟨by simp [ha, hb], fun i => ?_⟩
    by_cases hi : i < 64
    · simp [List.getD_eq_getElem?_getD, ha, hb, hi]
    · simp [List.getD_eq_getElem?_getD, ha, hb, hi]

/-- Partials added one after the other sum lane by lane (R224). -/
theorem foldl_addLanes_lanes {ls : List (List Int)} (hls : ∀ l ∈ ls, l.length = 64) (hne : ls ≠ []) {as : List Int}
    (ha : as = [] ∨ as.length = 64) : (ls.foldl addLanes as).length = 64
      ∧ ∀ i, (ls.foldl addLanes as).getD i 0 = as.getD i 0 + (ls.map fun l => l.getD i 0).sum := by
  induction ls generalizing as with
  | nil => exact absurd rfl hne
  | cons l ls ih =>
    obtain ⟨hl, hls⟩ := List.forall_mem_cons.mp hls
    obtain ⟨hlen, hlane⟩ := addLanes_lanes ha hl
    rw [List.foldl_cons]
    by_cases hlast : ls = []
    · subst hlast
      exact ⟨hlen, fun i => by rw [List.foldl_nil, hlane, List.map_singleton, List.sum_singleton]⟩
    · obtain ⟨hlen', hlane'⟩ := ih hls hlast (.inr hlen)
      exact ⟨hlen', fun i => by rw [hlane', hlane, List.map_cons, List.sum_cons, add_assoc]⟩

/-- Settles O40: each lane holds the sum of that lane, which no rearrangement changes. -/
theorem gridSumsDoNotDependOnTheOrder : Obligations.GridSumsDoNotDependOnTheOrder := by
  unfold Obligations.GridSumsDoNotDependOnTheOrder
  intro ls ls' hperm hne hls
  obtain ⟨hlen, hlane⟩ := foldl_addLanes_lanes hls hne (.inl rfl)
  obtain ⟨hlen', hlane'⟩ := foldl_addLanes_lanes (fun l hl => hls l (hperm.mem_iff.mpr hl))
    (fun h => hne (h ▸ hperm).eq_nil) (.inl rfl)
  refine ⟨List.ext_getElem (hlen.trans hlen'.symm) fun i hi hi' => ?_, fun i _ => by simpa using hlane i⟩
  rw [← List.getD_eq_getElem _ 0, ← List.getD_eq_getElem _ 0, hlane, hlane', (hperm.map fun l => l.getD i 0).sum_eq]

end Sys2Proof.Machine

namespace Sys2Proof.Machine

/-! ### The device of a rank (R212 to R215) -/

/-- The fields that the members of group g of context c are read from: the device's coordinate, the shape, the group's
axes and box, and the substitutions. -/
def MemberField (c g : Nat) (l : Loc) : Prop :=
  l.lo < 64 ∧ (l.off = 0x11010 ∨ l.off = 0x11018 ∨ l = GS_GRP_CFG.axes c g ∨ l.off = 0x11108 + 0x100 * c + 0x10 * g
    ∨ 0x11900 ≤ l.off)

/-- Two states show the members of a group alike. -/
def SameMembers (c g : Nat) (s t : State) : Prop := ∀ l : Loc, MemberField c g l → t.get l = s.get l

section
variable {c g : Nat} {s t : State}

/-- A write of a field that no member is read from shows the members alike. -/
theorem SameMembers.set (m : Loc) (v : Nat) (h : ∀ l, MemberField c g l → l.key ≠ m.key) : SameMembers c g s (s.set m v) :=
  fun l hl => s.get_set_ne m l v (h l hl)

/-- Two steps that show the members alike are one. -/
theorem SameMembers.trans {u : State} (h : SameMembers c g s t) (k : SameMembers c g t u) : SameMembers c g s u :=
  fun l hl => (k l hl).trans (h l hl)

variable (h : SameMembers c g s t)
include h

/-- The device's coordinate. -/
theorem SameMembers.coord : t.coord = s.coord := by
  simp only [State.coord, h _ (show MemberField c g GS_SELF.c0 from ⟨by decide, .inl rfl⟩),
    h _ (show MemberField c g GS_SELF.c1 from ⟨by decide, .inl rfl⟩),
    h _ (show MemberField c g GS_SELF.c2 from ⟨by decide, .inl rfl⟩),
    h _ (show MemberField c g GS_SELF.c3 from ⟨by decide, .inl rfl⟩)]

/-- The axis sizes. -/
theorem SameMembers.axisSize (a : Nat) : t.axisSize a = s.axisSize a := by
  simp only [State.axisSize, h _ (show MemberField c g GS_SHAPE.n0 from ⟨by decide, .inr (.inl rfl)⟩),
    h _ (show MemberField c g GS_SHAPE.n1 from ⟨by decide, .inr (.inl rfl)⟩),
    h _ (show MemberField c g GS_SHAPE.n2 from ⟨by decide, .inr (.inl rfl)⟩),
    h _ (show MemberField c g GS_SHAPE.n3 from ⟨by decide, .inr (.inl rfl)⟩)]

/-- The axes set in the group. -/
theorem SameMembers.axisOn (a : Nat) : t.axisOn c g a = s.axisOn c g a := by
  rw [State.axisOn, h _ ⟨by simp [GS_GRP_CFG.axes], .inr (.inr (.inl rfl))⟩, ← State.axisOn]

/-- The group's box. -/
theorem SameMembers.box : t.boxLo c g = s.boxLo c g ∧ t.boxHi c g = s.boxHi c g := by
  have hbox (l : Loc) (hlo : l.lo < 64) (hoff : l.off = 0x11108 + 0x100 * c + 0x10 * g) : t.get l = s.get l :=
    h l ⟨hlo, .inr (.inr (.inr (.inl hoff)))⟩
  refine ⟨funext fun a => ?_, funext fun a => ?_⟩
  · simp only [State.boxLo, hbox (GS_GRP_BOX.lo0 c g) (by simp [GS_GRP_BOX.lo0]) rfl,
      hbox (GS_GRP_BOX.lo1 c g) (by simp [GS_GRP_BOX.lo1]) rfl, hbox (GS_GRP_BOX.lo2 c g) (by simp [GS_GRP_BOX.lo2]) rfl,
      hbox (GS_GRP_BOX.lo3 c g) (by simp [GS_GRP_BOX.lo3]) rfl]
  · simp only [State.boxHi, hbox (GS_GRP_BOX.hi0 c g) (by simp [GS_GRP_BOX.hi0]) rfl,
      hbox (GS_GRP_BOX.hi1 c g) (by simp [GS_GRP_BOX.hi1]) rfl, hbox (GS_GRP_BOX.hi2 c g) (by simp [GS_GRP_BOX.hi2]) rfl,
      hbox (GS_GRP_BOX.hi3 c g) (by simp [GS_GRP_BOX.hi3]) rfl]

/-- The substitutions' fields. -/
theorem SameMembers.subst : (∀ i, t.get (GS_SUBST.valid c i) = s.get (GS_SUBST.valid c i))
    ∧ (∀ i, t.get (GS_SUBST.absent c i) = s.get (GS_SUBST.absent c i))
    ∧ (∀ i, t.get (GS_SUBST.coord c i) = s.get (GS_SUBST.coord c i))
    ∧ ∀ i, t.get (GS_SUBST.devid c i) = s.get (GS_SUBST.devid c i) := by
  have hsubst (i : Nat) (l : Loc) (hlo : l.lo < 64) (hoff : l.off = 0x11900 + 0x200 * c + 0x8 * i) : t.get l = s.get l :=
    h l ⟨hlo, .inr (.inr (.inr (.inr (by omega))))⟩
  exact ⟨fun i => hsubst i _ (by simp [GS_SUBST.valid]) rfl, fun i => hsubst i _ (by simp [GS_SUBST.absent]) rfl,
    fun i => hsubst i _ (by simp [GS_SUBST.coord]) rfl, fun i => hsubst i _ (by simp [GS_SUBST.devid]) rfl⟩

/-- The valid substitutions. -/
theorem SameMembers.substs : t.substs c = s.substs c := by
  obtain ⟨hvalid, -⟩ := h.subst
  simp only [State.substs, State.is, hvalid]

/-- The coordinates of the box (R214). -/
theorem SameMembers.inBox (x : Coord) : t.inBox c g x = s.inBox c g x := by
  obtain ⟨hlo, hhi⟩ := h.box
  simp only [State.inBox, h.axisOn, hlo, hhi, h.coord]

/-- The positions of the box (R215). -/
theorem SameMembers.boxPos (x : Coord) : t.boxPos c g x = s.boxPos c g x := by
  obtain ⟨hlo, hhi⟩ := h.box
  simp only [State.boxPos, h.axisOn, hlo, hhi]

/-- The absent positions (R213). -/
theorem SameMembers.absentPos : t.absentPos c g = s.absentPos c g := by
  obtain ⟨-, habsent, hcoord, -⟩ := h.subst
  simp only [State.absentPos, h.substs]
  congr 1
  funext l i
  exact if_congr (by simp only [State.is, habsent, hcoord, h.inBox]) (by rw [hcoord, h.boxPos]) rfl

/-- The group's size (R215). -/
theorem SameMembers.groupSize : t.groupSize c g = s.groupSize c g := by
  obtain ⟨hlo, hhi⟩ := h.box
  simp only [State.groupSize, State.boxSize, h.axisOn, hlo, hhi, h.absentPos]

/-- The rank of a coordinate (R215). -/
theorem SameMembers.rankOf (x : Coord) : t.rankOf c g x = s.rankOf c g x := by
  simp only [State.rankOf, h.boxPos, h.absentPos]

/-- The device of a rank (R213). -/
theorem SameMembers.rankDev (i : Nat) : t.rankDev c g i = s.rankDev c g i := by
  obtain ⟨hlo, hhi⟩ := h.box
  obtain ⟨-, habsent, hcoord, hdev⟩ := h.subst
  simp only [State.rankDev, State.rankCoord, State.posCoord, State.devOf, State.defaultDev, State.is, h.absentPos, h.coord,
    h.axisOn, hlo, hhi, h.substs, habsent, hcoord, hdev, h.axisSize]

end

end Sys2Proof.Machine

namespace Sys2Proof.Machine

/-! ### Messages of a collective (R143, R343, R348) -/

/-- A hall cycle charged changes register fields and the tick planner alone (R143). -/
theorem State.chargeFor_frame (s : State) (cls c : Nat) :
    s.chargeFor cls c = { s with regs := (s.chargeFor cls c).regs, tk := (s.chargeFor cls c).tk } := by
  unfold State.chargeFor State.charge
  split
  · split <;> rfl
  · rfl

/-- Of the fields, a hall cycle charged changes the allowance alone (R143). -/
theorem State.get_chargeFor_ne (s : State) (cls c : Nat) (l : Loc) (h : l.key ≠ (TK_ALLOW.allow c).key) :
    (s.chargeFor cls c).get l = s.get l := by
  unfold State.chargeFor State.charge
  split
  · split
    · exact State.get_set_ne _ _ _ _ h
    · rfl
  · rfl

/-- A hall cycle charged shows every group's members as they were. -/
theorem SameMembers.chargeFor (s : State) (cls c' c g : Nat) (hc : c' < 4) : SameMembers c g s (s.chargeFor cls c') := by
  refine fun l hl => s.get_chargeFor_ne cls c' l ?_
  obtain ⟨hlo, hoff | hoff | rfl | hoff | hoff⟩ := hl
  all_goals simp only [Loc.key, TK_ALLOW.allow, GS_GRP_CFG.axes]; omega

/-- A message charged and put in line changes register fields, the tick planner and the messages in line alone. -/
theorem State.send_chargeFor_frame (s : State) (cls c : Nat) (x : Msg) : (s.chargeFor cls c).send x =
    { s with regs := (s.chargeFor cls c).regs, tk := (s.chargeFor cls c).tk
             fab := { s.fab with txq := s.fab.txq ++ [x] } } := by
  have h := s.chargeFor_frame cls c
  generalize s.chargeFor cls c = t at h ⊢
  rw [h]
  rfl

/-- A message of a collective to a rank, as `State.gsSend` puts it in line (R343, R348). -/
def State.gsMsg (s : State) (j : Job) (typ tr tile : Nat) (rest : List Byte) (i : Nat) : Msg :=
  { s.common j.ctx typ (s.rankDev j.ctx j.gsGroup i) j.gcn
      (leBytes 6 tile ++ leBytes 1 j.gsGroup ++ leBytes 1 0 ++ rest) with
    bit2 := tr }

/-- What follows the tile address in such a message. -/
theorem State.body_gsMsg (s : State) (j : Job) (typ tr tile : Nat) (rest : List Byte) (i : Nat) :
    (s.gsMsg j typ tr tile rest i).body.drop 8 = rest := rfl

section
variable (s : State) (j : Job) (typ tr tile : Nat) (rest : List Byte)

/-- A message sent stands last in line, and beside it the charge for its hall cycle changes the state alone. -/
theorem State.gsSend_frame (i : Nat) : s.gsSend j typ tr i tile rest =
    { s with regs := (s.chargeFor j.cls j.ctx).regs, tk := (s.chargeFor j.cls j.ctx).tk
             fab := { s.fab with txq := s.fab.txq ++ [s.gsMsg j typ tr tile rest i] } } :=
  s.send_chargeFor_frame j.cls j.ctx (s.gsMsg j typ tr tile rest i)

/-- A later message of the same collective does not depend on an earlier one. -/
theorem State.gsMsg_gsSend (hc : j.ctx < 4) (i k : Nat) :
    (s.gsSend j typ tr i tile rest).gsMsg j typ tr tile rest k = s.gsMsg j typ tr tile rest k := by
  have hget (l : Loc) (h : l.key ≠ (TK_ALLOW.allow j.ctx).key) : (s.gsSend j typ tr i tile rest).get l = s.get l :=
    s.get_chargeFor_ne j.cls j.ctx l h
  have hdev : (s.gsSend j typ tr i tile rest).rankDev j.ctx j.gsGroup k = s.rankDev j.ctx j.gsGroup k :=
    SameMembers.rankDev (s := s) (t := s.gsSend j typ tr i tile rest) (SameMembers.chargeFor s j.cls j.ctx j.ctx j.gsGroup hc) k
  have hver := hget FB_CFG.ver_send (by simp only [Loc.key, FB_CFG.ver_send, TK_ALLOW.allow]; omega)
  have hself := hget GS_SELF.devid (by simp only [Loc.key, GS_SELF.devid, TK_ALLOW.allow]; omega)
  have hgen := hget (GL_CTX_STAT.gen j.ctx) (by simp only [Loc.key, GL_CTX_STAT.gen, TK_ALLOW.allow]; omega)
  have hteam : (s.gsSend j typ tr i tile rest).team j.ctx = s.team j.ctx :=
    hget (TM_STAT.state j.ctx) (by simp only [Loc.key, TM_STAT.state, TK_ALLOW.allow]; omega)
  have hepoch : (s.gsSend j typ tr i tile rest).msgEpoch j.ctx = s.msgEpoch j.ctx :=
    if_congr (by rw [hteam]) rfl (hget (TM_STAT.epoch j.ctx) (by simp only [Loc.key, TM_STAT.epoch, TK_ALLOW.allow]; omega))
  simp only [State.gsMsg, State.common, State.self, hdev, hver, hself, hgen, hepoch]

/-- A message sent to a list of ranks stands in line once for each, in the list's order. -/
theorem State.txq_gsSendAll (hc : j.ctx < 4) (is : List Nat) :
    (s.gsSendAll j typ tr tile rest is).fab.txq = s.fab.txq ++ is.map (s.gsMsg j typ tr tile rest) := by
  unfold State.gsSendAll
  induction is generalizing s with
  | nil => simp
  | cons i is ih =>
    have hrest : is.map ((s.gsSend j typ tr i tile rest).gsMsg j typ tr tile rest) = is.map (s.gsMsg j typ tr tile rest) :=
      List.map_congr_left fun k _ => s.gsMsg_gsSend j typ tr tile rest hc i k
    rw [List.foldl_cons, ih, hrest, State.gsSend_frame, List.map_cons, List.append_assoc, List.singleton_append]

/-- Sending leaves the running work as it was. -/
@[simp] theorem State.jobs_gsSend (i : Nat) : (s.gsSend j typ tr i tile rest).jobs = s.jobs := by
  rw [State.gsSend_frame]

/-- Sending leaves the running work as it was. -/
@[simp] theorem State.jobs_gsSendAll (is : List Nat) : (s.gsSendAll j typ tr tile rest is).jobs = s.jobs :=
  State.foldl_keeps State.jobs _ (fun s i => s.jobs_gsSend j typ tr tile rest i) is s

end

/-! ### The running collective that a message names (R256) -/

/-- Work replaced is found under its id. -/
theorem State.job_setJob {s t : State} {j k : Job} (hj : j ∈ s.jobs) (ht : t.jobs = s.jobs) (hid : k.id = j.id) :
    (t.setJob k).job j.id = some k := by
  rw [State.job, State.setJob, findJob, ht]
  generalize s.jobs = js at hj
  induction js with
  | nil => cases hj
  | cons x js ih =>
    by_cases hx : x.id = k.id
    · simp [hx, hid]
    · have hne : x ≠ j := fun h => hx (h ▸ hid.symm)
      simpa [hx, hid ▸ hx] using ih ((List.mem_cons.mp hj).resolve_left hne.symm)

/-- The collective that a message names is running work of one of the four contexts. -/
theorem State.gsFind_running {s : State} {m : Msg} {j : Job} (h : s.gsFind m = some j) : j ∈ s.jobs ∧ j.ctx < 4 := by
  refine ⟨List.mem_of_find?_eq_some h, j.ctx_lt_of_isCommand ?_⟩
  have hfound := List.find?_some h
  simp only [Job.cmdOf, Bool.and_eq_true] at hfound
  obtain ⟨⟨⟨⟨⟨hcommand, -⟩, -⟩, -⟩, -⟩, -⟩ := hfound
  exact hcommand

section
variable {typ : Nat} {bytes : List Byte} {m : Msg} {s : State} (hacc : accepted typ bytes m s = true)
include hacc

/-- An accepted message of a running collective is taken by it (R256, R349). -/
theorem State.receive_gsTake {j : Job} (hj : s.gsFind m = some j) (go : State → Job → Msg → State) :
    receiveAs typ bytes s (State.gsTake go) = fin (go (s.done m) j m) := by
  have hdone : (s.done m).gsFind m = some j := hj
  rw [State.receive_accepted _ hacc, State.gsTake, hdone]

/-- An accepted message of a collective that no running command has is dropped (R256). -/
theorem State.receive_gsTake_none (hj : s.gsFind m = none) (go : State → Job → Msg → State) :
    receiveAs typ bytes s (State.gsTake go) = fin (s.done m) := by
  have hdone : (s.done m).gsFind m = none := hj
  rw [State.receive_accepted _ hacc, State.gsTake, hdone]

end

/-! ### Records and partials of the children (R224, R228, R231, R245, R250) -/

section
variable {s : State} {j : Job} {m : Msg}

/-- A record of no child, or for a tile that has no slot, has no credit (R250). -/
theorem State.takeRec_unknown (h : s.fromChild j m m.tree = none ∨ j.tileAt m.tile = none) :
    s.takeRec j m = s.overclaim j m.tile := by
  unfold State.takeRec
  split
  next hchild htile => simp [hchild, htile] at h
  next => rfl

/-- A partial of no child, or for a tile that has no slot, has no credit (R250). -/
theorem State.takePart_unknown (h : s.fromChild j m m.tree = none ∨ j.tileAt m.tile = none) :
    s.takePart j m = s.overclaim j m.tile := by
  unfold State.takePart
  dsimp only
  split
  next hchild htile => simp [hchild, htile] at h
  next => rfl

/-- A tile with a child's partial combined into it: lanes added in grid mode, else values combined (R224, R228, R231). -/
def State.joinPart (s : State) (j : Job) (x : GsTile) (i : Nat) (m : Msg) : GsTile :=
  let w := s.laneBytes j
  if j.gsKind = .grid then
    { x with parts := setAdd x.parts i, acc := addLanes x.acc ((wordsOf w (padTo (64 * w) m.rest)).map (sext (8 * w))) }
  else
    { x with parts := setAdd x.parts i, e := max x.e (sext 16 (leAt m.rest 0 2)), nf := x.nf || leAt m.rest 2 1 % 2 == 1
             vals := s.combineAll j x.vals (wordsOf w (padTo (64 * w) (m.rest.drop 4))) }

variable {x : GsTile} {i : Nat} (hchild : s.fromChild j m m.tree = some i) (htile : j.tileAt m.tile = some x)
include hchild htile

/-- A child's record for a tile: without a credit, with its abort flag, or combined (R224, R250, R256). -/
theorem State.takeRec_known : s.takeRec j m =
    if x.tr ≠ m.tree ∨ ¬ x.held ∨ x.recs.contains i then s.overclaim j m.tile
    else if leAt m.rest 2 1 / 2 % 2 = 1 then s.gsAbort j stPEERLOST
    else s.setJob (j.setTile { x with
      recs := setAdd x.recs i, e := max x.e (sext 16 (leAt m.rest 0 2)), nf := x.nf || leAt m.rest 2 1 % 2 == 1 }) := by
  rw [State.takeRec, hchild, htile]

/-- A child's partial for a tile: without a credit, with its abort flag, or combined and acknowledged (R224, R245, R250,
R256). -/
theorem State.takePart_known : s.takePart j m =
    if x.tr ≠ m.tree ∨ ¬ x.held ∨ x.parts.contains i ∨ ¬ (s.upFrom j x).contains i then s.overclaim j m.tile
    else if m.resFlags j / 2 % 2 = 1 then s.gsAbort j stPEERLOST
    else (s.gsAck j m x.tr i x.t).setJob (j.setTile (s.joinPart j x i m)) := by
  rw [State.takePart, hchild, htile]
  by_cases hgrid : j.gsKind = .grid
  · simp [hgrid, Msg.resFlags, State.joinPart]
  · simp [hgrid, Msg.resFlags, State.joinPart]

end

section
variable (s : State) (j : Job) (x : GsTile) (i : Nat) (m : Msg)

/-- In grid mode a child's lanes are added as signed integers (R224). -/
theorem State.joinPart_grid (h : j.gsKind = .grid) : s.joinPart j x i m = { x with
    parts := setAdd x.parts i,
    acc := addLanes x.acc ((wordsOf (s.laneBytes j) (padTo (64 * s.laneBytes j) m.rest)).map (sext (8 * s.laneBytes j))) } :=
  if_pos h

/-- Without a grid a child's values are combined in the partial format (R228, R231). -/
theorem State.joinPart_values (h : j.gsKind ≠ .grid) : s.joinPart j x i m = { x with
    parts := setAdd x.parts i, e := max x.e (sext 16 (leAt m.rest 0 2)), nf := x.nf || leAt m.rest 2 1 % 2 == 1,
    vals := s.combineAll j x.vals (wordsOf (s.laneBytes j) (padTo (64 * s.laneBytes j) (m.rest.drop 4))) } :=
  if_neg h

/-- A C_ACK as `State.gsAck` puts it in line (R245, R350). -/
def State.ackMsg (tr rank tile : Nat) : Msg :=
  { s.common j.ctx 0x26 (s.rankDev j.ctx j.gsGroup rank) j.gcn
      (leBytes 6 tile ++ leBytes 1 j.gsGroup ++ leBytes 1 0 ++ leBytes 2 1 ++ leBytes 2 0) with
    bit2 := tr, gen := m.sgen }

/-- An acknowledgement sent stands last in line, and beside it the charge for its hall cycle changes the state alone. -/
theorem State.gsAck_frame (tr rank tile : Nat) : s.gsAck j m tr rank tile =
    { s with regs := (s.chargeFor j.cls j.ctx).regs, tk := (s.chargeFor j.cls j.ctx).tk
             fab := { s.fab with txq := s.fab.txq ++ [s.ackMsg j m tr rank tile] } } :=
  s.send_chargeFor_frame j.cls j.ctx (s.ackMsg j m tr rank tile)

end

section
variable {s : State} {j : Job} {m : Msg} {x : GsTile} {i : Nat} (hchild : s.fromChild j m m.tree = some i)
  (htile : j.tileAt m.tile = some x) (htree : x.tr = m.tree) (hheld : x.held = true)
include hchild htile htree hheld

/-- A first record of a child for a held tile ends the collective by its abort flag, or is combined (R224, R256). -/
theorem State.takeRec_credited (hnew : x.recs.contains i = false) : s.takeRec j m =
    if leAt m.rest 2 1 / 2 % 2 = 1 then s.gsAbort j stPEERLOST
    else s.setJob (j.setTile { x with
      recs := setAdd x.recs i, e := max x.e (sext 16 (leAt m.rest 0 2)), nf := x.nf || leAt m.rest 2 1 % 2 == 1 }) := by
  rw [State.takeRec_known hchild htile, if_neg (by simp [-List.contains_eq_mem, htree, hheld, hnew])]

/-- A first partial of a child on the tile's way up, without an abort flag, is combined and acknowledged (R224, R245). -/
theorem State.takePart_joins (hnew : x.parts.contains i = false) (hup : (s.upFrom j x).contains i = true)
    (hflag : m.resFlags j / 2 % 2 ≠ 1) :
    s.takePart j m = (s.gsAck j m x.tr i x.t).setJob (j.setTile (s.joinPart j x i m)) := by
  rw [State.takePart_known hchild htile, if_neg (by simp [-List.contains_eq_mem, htree, hheld, hnew, hup]), if_neg hflag]

/-- A first partial combined is in its tile, and its acknowledgement in line (R224, R245). -/
theorem State.takePart_shows (hj : j ∈ s.jobs) (hnew : x.parts.contains i = false)
    (hup : (s.upFrom j x).contains i = true) (hflag : m.resFlags j / 2 % 2 ≠ 1) :
    (s.takePart j m).job j.id = some (j.setTile (s.joinPart j x i m))
      ∧ (s.takePart j m).fab.txq = s.fab.txq ++ [s.ackMsg j m x.tr i x.t]
      ∧ s.takePart j m = { s with
          jobs := (s.takePart j m).jobs, fab := (s.takePart j m).fab, tk := (s.takePart j m).tk
          regs := (s.takePart j m).regs } := by
  rw [State.takePart_joins hchild htile htree hheld hnew hup hflag, State.gsAck_frame]
  exact ⟨State.job_setJob hj rfl rfl, rfl, rfl⟩

end

section
variable {s : State} {j : Job} {m : Msg}

/-- A record of no child, for a tile without a slot, or sent twice is one without a credit (R250). -/
theorem State.takeRec_uncredited (h : s.fromChild j m m.tree = none ∨ j.tileAt m.tile = none
      ∨ ∃ x i, s.fromChild j m m.tree = some i ∧ j.tileAt m.tile = some x
        ∧ (x.tr ≠ m.tree ∨ x.held = false ∨ x.recs.contains i = true)) :
    s.takeRec j m = s.overclaim j m.tile := by
  obtain hnone | hnone | ⟨x, i, hchild, htile, hbad⟩ := h
  · exact State.takeRec_unknown (.inl hnone)
  · exact State.takeRec_unknown (.inr hnone)
  · rw [State.takeRec_known hchild htile, if_pos (by simpa only [Bool.not_eq_true] using hbad)]

/-- A partial of no child, for a tile without a slot, sent twice, or off the tile's way up is one without a credit (R250). -/
theorem State.takePart_uncredited (h : s.fromChild j m m.tree = none ∨ j.tileAt m.tile = none
      ∨ ∃ x i, s.fromChild j m m.tree = some i ∧ j.tileAt m.tile = some x
        ∧ (x.tr ≠ m.tree ∨ x.held = false ∨ x.parts.contains i = true ∨ (s.upFrom j x).contains i = false)) :
    s.takePart j m = s.overclaim j m.tile := by
  obtain hnone | hnone | ⟨x, i, hchild, htile, hbad⟩ := h
  · exact State.takePart_unknown (.inl hnone)
  · exact State.takePart_unknown (.inr hnone)
  · rw [State.takePart_known hchild htile, if_pos (by simpa only [Bool.not_eq_true] using hbad)]

end

/-- Settles O35: a message of a child goes by its credit and its abort flag, and without a credit ends the collective. -/
theorem childRecordsAndPartialsCombineInTheirTile : Obligations.ChildRecordsAndPartialsCombineInTheirTile := by
  unfold Obligations.ChildRecordsAndPartialsCombineInTheirTile
  refine ⟨fun bytes m s j x i hacc hfind hflag hchild htile htree hheld hnew => ?_,
    fun bytes m s j x i hacc hfind hgrid hchild htile htree hheld hnew hup => ?_,
    fun bytes m s j x i hacc hfind hgrid hflag hchild htile htree hheld hnew hup => ?_,
    fun bytes m s j hacc hfind hcredit => ?_, fun bytes m s j hacc hfind hcredit => ?_,
    fun bytes m s j x i hacc hfind hchild htile htree hheld hnew hflag => ?_⟩
  all_goals obtain ⟨hj, -⟩ := State.gsFind_running hfind
  · refine ⟨_, State.receive_gsTake hacc hfind _, ?_⟩
    rw [State.takeRec_credited (s := s.done m) hchild htile htree hheld hnew, if_neg (by omega)]
    exact ⟨State.job_setJob hj rfl rfl, rfl⟩
  · obtain ⟨hjob, htxq, hframe⟩ := State.takePart_shows (s := s.done m) hchild htile htree hheld hj hnew hup
      (by simp [Msg.resFlags, hgrid])
    rw [State.joinPart_grid _ _ _ _ _ hgrid] at hjob
    exact ⟨_, State.receive_gsTake hacc hfind _, hjob, ⟨_, htxq, rfl, rfl, rfl, rfl⟩, by rw [hframe]; rfl⟩
  · obtain ⟨hjob, -, -⟩ := State.takePart_shows (s := s.done m) hchild htile htree hheld hj hnew hup
      (by simp [Msg.resFlags, hgrid, hflag])
    rw [State.joinPart_values _ _ _ _ _ hgrid] at hjob
    exact ⟨_, State.receive_gsTake hacc hfind _, hjob⟩
  · exact (State.receive_gsTake hacc hfind _).trans (congrArg fin (State.takeRec_uncredited (s := s.done m) hcredit))
  · exact (State.receive_gsTake hacc hfind _).trans (congrArg fin (State.takePart_uncredited (s := s.done m) hcredit))
  · refine (State.receive_gsTake hacc hfind _).trans (congrArg fin ?_)
    exact (State.takeRec_credited (s := s.done m) hchild htile htree hheld hnew).trans (if_pos hflag)

end Sys2Proof.Machine

namespace Sys2Proof.Machine

/-! ### Descriptors, headers and results (R224, R225, R226, R236, R348) -/

/-- A tile found has the index it was looked for by. -/
theorem Job.t_of_tileAt {j : Job} {t : Nat} {x : GsTile} (h : j.tileAt t = some x) : x.t = t := by
  simpa using List.find?_some h

/-- A tile replaced is found under its index. -/
theorem Job.tileAt_setTile {j : Job} {t : Nat} {x y : GsTile} (h : j.tileAt t = some x) (hy : y.t = t) :
    (j.setTile y).tileAt t = some y := by
  subst hy
  simp only [Job.tileAt, Job.setTile] at h ⊢
  generalize j.gs.tiles = xs at h
  induction xs with
  | nil => cases h
  | cons z xs ih =>
    by_cases hz : z.t = y.t
    · simp [hz]
    · rw [List.find?_cons_of_neg (by simpa using hz)] at h
      simpa [hz] using ih h

/-- A record sent to the ranks `is` by a collective that keeps something beside stands in line once for each. -/
theorem State.sent_kept {s : State} {j k : Job} (hj : j ∈ s.jobs) (hc : j.ctx < 4) (hid : k.id = j.id) (typ tr tile : Nat)
    (rest : List Byte) (is : List Nat) :
    ((s.gsSendAll j typ tr tile rest is).setJob k).job j.id = some k
      ∧ ((s.gsSendAll j typ tr tile rest is).setJob k).fab.txq.length = s.fab.txq.length + is.length
      ∧ ∀ i ∈ is, ∃ y ∈ ((s.gsSendAll j typ tr tile rest is).setJob k).fab.txq, y.typ = typ
          ∧ y.dst = s.rankDev j.ctx j.gsGroup i ∧ y.body.drop 8 = rest := by
  rw [State.setJob_fab, State.txq_gsSendAll _ _ _ _ _ _ hc]
  refine ⟨State.job_setJob hj (State.jobs_gsSendAll _ _ _ _ _ _ _) hid, by simp, fun i hi => ?_⟩
  exact ⟨_, List.mem_append_right _ (List.mem_map_of_mem hi), rfl, rfl, s.body_gsMsg _ _ _ _ _ _⟩

/-- The result bytes that a slot keeps of a message: its record goes on with reserved bits zero (R348). -/
def Msg.resKept (j : Job) (m : Msg) : List Byte :=
  if j.gsKind = .grid then m.rest
  else leBytes 2 (leAt m.rest 0 2) ++ leBytes 2 (m.resFlags j % 4) ++ m.rest.drop 4

/-- A tile with a result put into its slot (R224, R236). -/
def GsTile.putRes (x : GsTile) (j : Job) (m : Msg) : GsTile :=
  { x with res := some (m.resKept j), nf := if j.gsKind = .grid then x.nf else m.resFlags j % 2 == 1 }

/-- A result put into its tile's slot changes its command's tile alone. -/
theorem State.putRes_eq (s : State) (j : Job) (x : GsTile) (m : Msg) : s.putRes j x m = s.setJob (j.setTile (x.putRes j m)) :=
  rfl

/-- The flags of the record that a kept result begins with are the message's (R348). -/
theorem Msg.resKept_eq (j : Job) (m : Msg) : m.resKept j = if j.gsKind = .grid then m.rest
    else leBytes 2 (leAt m.rest 0 2) ++ leBytes 2 (leAt m.rest 2 1 % 4) ++ m.rest.drop 4 := by
  unfold Msg.resKept Msg.resFlags
  split <;> rfl

section
variable {s : State} {j : Job} {m : Msg}

/-- A child's first descriptor, once the first tile has its slot, is compared and its count added (R225). -/
theorem State.takeDesc_child {i : Nat} (hdown : leAt m.rest 1 1 / 64 % 2 = 0)
    (hchild : s.fromChild j m (j.gs.treeOf 0) = some i) (hslot : j.gs.next ≠ 0) (hnew : j.gs.kids.contains i = false) :
    s.takeDesc j m = s.setJob { j with gs := { j.gs with
      kids := setAdd j.gs.kids i, cnt := j.gs.cnt + leAt m.rest 20 6,
      mism := j.gs.mism || decide (128 ≤ leAt m.rest 1 1) || s.descDiffers j m.rest } } := by
  have hup : ¬ leAt m.rest 1 1 / 64 % 2 = 1 := by omega
  unfold State.takeDesc
  extract_lets d tr
  rw [if_neg hup, hchild]
  exact if_neg (by simp [-List.contains_eq_mem, hslot, hnew])

/-- The root's answer from the parent is kept and goes on to the children (R226). -/
theorem State.takeDesc_answer (hdown : leAt m.rest 1 1 / 64 % 2 = 1) (hparent : s.fromParent j m (j.gs.treeOf 0) = true)
    (hfirst : j.gs.down = none) : s.takeDesc j m =
    (s.gsSendAll j 0x20 (j.gs.treeOf 0) 0 (descOn m.rest) ((s.gsTree j).children (j.gs.treeOf 0))).setJob
      { j with gs := { j.gs with down := some (leAt m.rest 20 6, decide (128 ≤ leAt m.rest 1 1)) } } := by
  unfold State.takeDesc
  extract_lets d tr
  rw [if_pos hdown, if_pos ⟨hparent, by rw [hfirst]; rfl⟩]

/-- A tile's header from the parent, after its record went up and without an abort flag, is kept and goes on to the
children (R224). -/
theorem State.takeHdr_kept {x : GsTile} (hflag : leAt m.rest 2 1 / 2 % 2 = 0) (htile : j.tileAt m.tile = some x)
    (htree : x.tr = m.tree) (hup : x.up = true) (hfirst : x.hdr = none) (hparent : s.fromParent j m x.tr = true) :
    s.takeHdr j m =
    (s.gsSendAll j 0x22 x.tr x.t (recBytes (sext 16 (leAt m.rest 0 2)) (leAt m.rest 2 1 % 2 == 1) false)
        ((s.gsTree j).children x.tr)).setJob
      (j.setTile { x with hdr := some (sext 16 (leAt m.rest 0 2)), nf := leAt m.rest 2 1 % 2 == 1 }) := by
  have hgood : ¬ leAt m.rest 2 1 / 2 % 2 = 1 := by omega
  unfold State.takeHdr
  extract_lets d
  rw [htile]
  dsimp only
  rw [if_pos ⟨htree, hup, by rw [hfirst]; rfl, hparent⟩, if_neg hgood]

/-- The abort flag that a result's record carries; a result in grid mode has no record (R348). -/
theorem Msg.resFlags_no_abort (h : j.gsKind = .grid ∨ leAt m.rest 2 1 / 2 % 2 = 0) : ¬ Msg.resFlags j m / 2 % 2 = 1 := by
  unfold Msg.resFlags
  split
  next => decide
  next hvalues => have := h.resolve_left hvalues; omega

variable (hfind : s.gsFind m = some j) (hflag : j.gsKind = .grid ∨ leAt m.rest 2 1 / 2 % 2 = 0)
include hfind hflag

/-- A tile's first result from the parent is put into its slot (R224, R236). -/
theorem State.takeRes_slot {x : GsTile} (htile : j.tileAt m.tile = some x) (htree : x.tr = m.tree) (hfirst : x.res = none)
    (hparent : s.fromParent j m x.tr = true) : s.takeRes m = (s.done m).putRes j x m := by
  unfold State.takeRes
  rw [hfind]
  dsimp only
  rw [htile]
  dsimp only
  rw [if_pos ⟨htree, by rw [hfirst]; rfl, hparent⟩, if_neg (Msg.resFlags_no_abort hflag)]

/-- A result from the parent for a tile not yet admitted waits in its buffer (R236, R359). -/
theorem State.takeRes_early (htile : j.tileAt m.tile = none) (hlo : j.gs.next ≤ m.tile) (hhi : m.tile < j.gsTiles)
    (hfirst : ∀ y ∈ j.gs.early, y.tile ≠ m.tile) (hparent : s.fromParent j m m.tree = true) :
    s.takeRes m = s.setJob { j with gs := { j.gs with early := j.gs.early ++ [m] } } := by
  unfold State.takeRes
  rw [hfind]
  dsimp only
  rw [htile]
  dsimp only
  rw [if_pos ⟨hlo, hhi, by simpa using hfirst, hparent⟩, if_neg (Msg.resFlags_no_abort hflag)]

end

/-- Settles O36: each row gives an accepted message to the collective it names, and each meaning by its lemma. -/
theorem descriptorsHeadersAndResultsTravelTheTree : Obligations.DescriptorsHeadersAndResultsTravelTheTree := by
  unfold Obligations.DescriptorsHeadersAndResultsTravelTheTree
  refine ⟨fun bytes m s j i hacc hfind hdown hchild hslot hnew => ?_,
    fun bytes m s j hacc hfind hdown hparent hfirst => ?_,
    fun bytes m s j x hacc hfind hflag htile htree hup hfirst hparent => ?_,
    fun bytes m s j x hacc hfind hflag htile htree hfirst hparent => ?_,
    fun bytes m s j hacc hfind hflag htile hlo hhi hfirst hparent => ?_,
    fun bytes m s hacc hnone => State.receive_gsTake_none hacc hnone _, fun bytes m s hacc hnone => ?_⟩
  case refine_6 => exact (State.receive_accepted _ hacc).trans (congrArg fin (by rw [State.takeRes, hnone]))
  all_goals obtain ⟨hj, hc⟩ := State.gsFind_running hfind
  · refine ⟨_, State.receive_gsTake hacc hfind _, ?_⟩
    rw [State.takeDesc_child (s := s.done m) hdown hchild hslot hnew]
    exact ⟨State.job_setJob hj rfl rfl, rfl⟩
  · refine ⟨_, State.receive_gsTake hacc hfind _, ?_⟩
    rw [State.takeDesc_answer (s := s.done m) hdown hparent hfirst]
    exact State.sent_kept (s := s.done m) hj hc (by rfl) _ _ _ _ _
  · refine ⟨_, State.receive_gsTake hacc hfind _, ?_⟩
    rw [State.takeHdr_kept (s := s.done m) hflag htile htree hup hfirst hparent]
    exact State.sent_kept (s := s.done m) hj hc (by rfl) _ _ _ _ _
  · refine ⟨_, State.receive_accepted _ hacc, ?_⟩
    have hjob : ((s.done m).setJob (j.setTile (x.putRes j m))).job j.id = some (j.setTile (x.putRes j m)) :=
      State.job_setJob hj rfl rfl
    have hres : (j.setTile (x.putRes j m)).tileAt m.tile = some (x.putRes j m) :=
      Job.tileAt_setTile htile (show x.t = m.tile from Job.t_of_tileAt htile)
    rw [State.takeRes_slot hfind hflag htile htree hfirst hparent, State.putRes_eq, hjob, Option.bind_some, hres]
    exact ⟨congrArg some (m.resKept_eq j), rfl⟩
  · refine ⟨_, State.receive_accepted _ hacc, ?_⟩
    rw [State.takeRes_early hfind hflag htile hlo hhi hfirst hparent]
    exact ⟨State.job_setJob hj rfl rfl, rfl⟩

end Sys2Proof.Machine

namespace Sys2Proof.Machine

/-! ### Credits, acknowledgements, splits and aborts (R220, R221, R223, R245, R248, R256) -/

/-- The wait for a split notice counted changes one register field and the reduction unit's state alone (R222). -/
theorem State.countLate_frame (s : State) (t : Option Nat) :
    s.countLate t = { s with regs := (s.countLate t).regs, gs := (s.countLate t).gs } := by
  unfold State.countLate
  split <;> rfl

section
variable {s : State} {j : Job} {m : Msg}

/-- A tile as an acknowledgement leaves it: of a sent tile of the message's run and tree it marks it (R245). -/
def GsTile.ackedBy (x : GsTile) (m : Msg) : GsTile :=
  if m.tile ≤ x.t ∧ x.t < m.tile + m.at_ 8 2 ∧ x.tr = m.tree ∧ x.sent then { x with acked := true } else x

/-- The parent's acknowledgement is noted in the command's tiles (R245). -/
theorem State.takeAck_parent (hparent : s.fromParent j m m.tree = true) : s.takeAck j m =
    s.setJob { j with gs := { j.gs with tiles := j.gs.tiles.map fun x => x.ackedBy m } } := if_pos hparent

/-- The split notice of a block goes to the children of both trees (R221). -/
def State.sendSplit (s : State) (j : Job) (m : Msg) : State :=
  [0, 1].foldl (fun u tr =>
    u.gsSendAll j 0x27 tr m.tile (leBytes 2 (m.at_ 8 2) ++ leBytes 2 0) ((s.gsTree j).children tr)) s

/-- The split notice leaves the running work and stands in line for each child of both trees (R221). -/
theorem State.sendSplit_shows (hc : j.ctx < 4) : (s.sendSplit j m).jobs = s.jobs ∧ (s.sendSplit j m).fab.txq.length
    = s.fab.txq.length + ((s.gsTree j).children 0).length + ((s.gsTree j).children 1).length := by
  simp only [State.sendSplit, List.foldl_cons, List.foldl_nil]
  refine ⟨by simp, ?_⟩
  rw [State.txq_gsSendAll _ _ _ _ _ _ hc, State.txq_gsSendAll _ _ _ _ _ _ hc]
  simp only [List.length_append, List.length_map]

/-- The first copy of a split notice fixes ns of its block, ends the wait for it, and goes on (R221, R222). -/
theorem State.takeSplit_first (hfixed : j.gs.fixed = false) (hfirst : Tbl.find j.gs.ns (m.tile / 256) = none) :
    ∃ (late wait : Option Nat), s.takeSplit j m = ((s.sendSplit j m).countLate late).setJob
      { j with gs := { j.gs with ns := Tbl.ins j.gs.ns (m.tile / 256) (m.at_ 8 2), lateAt := wait } } :=
  ⟨_, _, if_neg (by simp [hfixed, hfirst])⟩

/-- A later copy of a split notice changes nothing (R221). -/
theorem State.takeSplit_later (hheld : (Tbl.find j.gs.ns (m.tile / 256)).isSome = true) : s.takeSplit j m = s :=
  if_pos (.inr hheld)

end

/-- Settles O37: each row gives an accepted message to the collective it names, and each meaning by its lemma. -/
theorem creditsAcknowledgementsAndSplitsAreKept : Obligations.CreditsAcknowledgementsAndSplitsAreKept := by
  unfold Obligations.CreditsAcknowledgementsAndSplitsAreKept
  refine ⟨fun bytes m s j hacc hfind hparent => ?_, fun bytes m s j hacc hfind hparent => ?_,
    fun bytes m s j hacc hfind hfixed hfirst => ?_,
    fun bytes m s j hacc hfind hheld => (State.receive_gsTake hacc hfind _).trans (congrArg fin (State.takeSplit_later hheld)),
    fun bytes m s j hacc hfind hroot => ?_, fun bytes m s j hacc hfind => State.receive_gsTake hacc hfind _⟩
  all_goals obtain ⟨hj, hc⟩ := State.gsFind_running hfind
  · refine ⟨_, (State.receive_gsTake hacc hfind _).trans (congrArg fin (if_pos hparent)), ?_⟩
    exact ⟨State.job_setJob hj rfl rfl, rfl⟩
  · refine ⟨_, _, (State.receive_gsTake hacc hfind _).trans (congrArg fin (State.takeAck_parent hparent)),
      State.job_setJob hj rfl rfl, List.length_map _, fun x hx hlo hhi htree hsent => ?_, fun x hx hother => ?_, rfl⟩
    · exact List.mem_map.mpr ⟨x, hx, if_pos ⟨hlo, hhi, htree, hsent⟩⟩
    · exact List.mem_map.mpr ⟨x, hx, if_neg hother⟩
  · obtain ⟨late, wait, htake⟩ := State.takeSplit_first (s := s.done m) hfixed hfirst
    obtain ⟨hjobs, hlen⟩ := State.sendSplit_shows (s := s.done m) (m := m) hc
    refine ⟨_, _, (State.receive_gsTake hacc hfind _).trans (congrArg fin htake),
      State.job_setJob hj ((congrArg State.jobs (State.countLate_frame _ _)).trans hjobs) rfl, ?_, fun b hb => ?_, ?_⟩
    · simp [GsJob.nsOf, hfixed, Tbl.find_ins_same]
    · simp [GsJob.nsOf, hfixed, Tbl.find_ins_ne _ _ _ _ hb]
    · rw [State.setJob_fab, State.countLate_frame, hlen]
      rfl
  · refine ⟨_, _, (State.receive_gsTake hacc hfind _).trans (congrArg fin (if_pos hroot)), State.job_setJob hj rfl rfl,
      Tbl.find_ins_same _ _ _, rfl⟩

end Sys2Proof.Machine

namespace Sys2Proof.Machine

/-! ### Tile-ready doorbells (R240, R512) -/

/-- Adding an element makes a listing at most one longer. -/
theorem length_setAdd_le (l : List Nat) (x : Nat) : (setAdd l x).length ≤ l.length + 1 := by
  induction l with
  | nil => simp [setAdd]
  | cons y l ih =>
    unfold setAdd
    split
    · simp
    · split
      · simp
      · simpa using ih

/-- The watermark stops at a unit that is not marked (R240). -/
theorem advanceMark_stops (f w : Nat) (l : List Nat) (h : l.length ≤ f) : (advanceMark f w l).1 ∉ (advanceMark f w l).2 := by
  induction f generalizing w l with
  | zero => simp [advanceMark, List.length_eq_zero_iff.mp (Nat.le_zero.mp h)]
  | succ f ih =>
    unfold advanceMark
    split
    next hmarked =>
      have hshorter : (l.filter fun u => u ≠ w).length < l.length :=
        List.length_filter_lt_length_iff_exists.mpr ⟨w, by simpa using hmarked, by simp⟩
      exact ih _ _ (by omega)
    next hfree => simpa using hfree

/-- The marks left were marks before (R240). -/
theorem advanceMark_subset (f w : Nat) (l : List Nat) : (advanceMark f w l).2 ⊆ l := by
  induction f generalizing w l with
  | zero => exact List.Subset.refl l
  | succ f ih =>
    unfold advanceMark
    split
    · exact List.Subset.trans (ih _ _) (List.filter_subset_self _)
    · exact List.Subset.refl l

/-- The watermark is a unit number of 32 bits (R240). -/
theorem advanceMark_lt (f w : Nat) (l : List Nat) (h : w < 2 ^ 32) : (advanceMark f w l).1 < 2 ^ 32 := by
  induction f generalizing w l with
  | zero => exact h
  | succ f ih =>
    unfold advanceMark
    split
    · exact ih _ _ (Nat.mod_lt _ (by decide))
    · exact h

/-- A watermark at a unit that is not marked stays (R240). -/
theorem advanceMark_stays (f w : Nat) (l : List Nat) (h : w ∉ l) : advanceMark f w l = (w, l) := by
  cases f with
  | zero => rfl
  | succ f => exact if_neg (by simpa using h)

/-- The watermark and the marks of a stream once a unit of its window is marked (R240). -/
def State.markUnit (s : State) (c st u : Nat) : Nat × List Nat :=
  advanceMark 257 (s.get (GS_TRD.wmark c st)) (setAdd (s.marksOf c st) u)

/-- A stream with its watermark and marks replaced (R240). -/
def State.putMarks (s : State) (c st : Nat) (p : Nat × List Nat) : State := (s.set (GS_TRD.wmark c st) p.1).setMarks c st p.2

/-- A stream shows the watermark and the marks put there, and nothing outside its registers and marks changes. -/
theorem State.putMarks_shows (s : State) (c st : Nat) (p : Nat × List Nat) :
    (s.putMarks c st p).get (GS_TRD.wmark c st) = p.1 % 2 ^ 32 ∧ (s.putMarks c st p).marksOf c st = p.2
      ∧ (s.putMarks c st p).get (GS_TRD.pending c st) = p.2.length % 2 ^ 9
      ∧ s.putMarks c st p = { s with regs := (s.putMarks c st p).regs, gs := (s.putMarks c st p).gs } := by
  refine ⟨?_, Tbl.at_put_same _ _ _ _, State.get_set_same _ _ _, rfl⟩
  unfold State.putMarks State.setMarks
  rw [State.get_set_ne _ _ _ _ (by simp only [Loc.key, GS_TRD.wmark, GS_TRD.pending]; omega)]
  exact State.get_set_same s _ _

section
variable {s : State} {c st u : Nat} (hlive : s.live c = true)
include hlive

/-- A doorbell in the window marks its unit and moves the watermark (R240). -/
theorem State.judgeDoorbell_window (h : subMod 32 u (s.get (GS_TRD.wmark c st)) < 256) :
    s.judgeDoorbell c st u = some (s.putMarks c st (s.markUnit c st u)) := by
  unfold State.judgeDoorbell
  extract_lets w d
  rw [if_neg (not_not.mpr hlive), if_pos h]
  rfl

/-- A doorbell behind the watermark counts as a duplicate (R240). -/
theorem State.judgeDoorbell_dup (h : 2 ^ 31 ≤ subMod 32 u (s.get (GS_TRD.wmark c st))) :
    s.judgeDoorbell c st u = some (s.satInc (GS_TRD.dup c st) 1) := by
  have hfar : ¬ subMod 32 u (s.get (GS_TRD.wmark c st)) < 256 := by omega
  unfold State.judgeDoorbell
  extract_lets w d
  rw [if_neg (not_not.mpr hlive), if_neg hfar, if_pos h]

/-- A doorbell past the window waits (R240). -/
theorem State.judgeDoorbell_waits (hlo : 256 ≤ subMod 32 u (s.get (GS_TRD.wmark c st)))
    (hhi : subMod 32 u (s.get (GS_TRD.wmark c st)) < 2 ^ 31) : s.judgeDoorbell c st u = none := by
  unfold State.judgeDoorbell
  extract_lets w d
  rw [if_neg (not_not.mpr hlive), if_neg (Nat.not_lt.mpr hlo), if_neg (Nat.not_le.mpr hhi)]

end

/-- A doorbell that can be judged while none is held is taken at once (R240, R512). -/
theorem exec_trdDoorbell_taken (c : Ctx) (st : Fin 64) (u : W32) {s t : State} (hfree : s.gs.heldDb = [])
    (hjudge : s.judgeDoorbell c st u.toNat = some t) : exec (.trdDoorbell c st u) s = .next t.after := by
  show execTrdDoorbell c st u s = _
  unfold execTrdDoorbell
  extract_lets s'
  rw [if_neg (not_not.mpr hfree), hjudge]
  rfl

/-- A doorbell in the window marks its unit, and the watermark then stands at a unit that is not marked (R240). -/
theorem trdDoorbell_marks (c : Ctx) (st : Fin 64) (u : W32) (s : State) (hlive : s.live c = true)
    (hfree : s.gs.heldDb = []) (hw : s.get (GS_TRD.wmark c st) < 2 ^ 32) (hlen : (s.marksOf c st).length ≤ 256)
    (hwin : subMod 32 u.toNat (s.get (GS_TRD.wmark c st)) < 256) :
    ∃ t : State, exec (.trdDoorbell c st u) s = .next t.after ∧ t.get (GS_TRD.wmark c st) ∉ t.marksOf c st
      ∧ (u.toNat ≠ s.get (GS_TRD.wmark c st) → s.get (GS_TRD.wmark c st) ∉ s.marksOf c st →
          t.get (GS_TRD.wmark c st) = s.get (GS_TRD.wmark c st) ∧ u.toNat ∈ t.marksOf c st)
      ∧ (∀ x ∈ t.marksOf c st, x = u.toNat ∨ x ∈ s.marksOf c st)
      ∧ t = { s with regs := t.regs, gs := t.gs } := by
  obtain ⟨hwmark, hmarks, -, hframe⟩ := s.putMarks_shows c st (s.markUnit c st u.toNat)
  rw [State.markUnit, Nat.mod_eq_of_lt (advanceMark_lt _ _ _ hw), ← State.markUnit] at hwmark
  refine ⟨_, exec_trdDoorbell_taken c st u hfree (State.judgeDoorbell_window hlive hwin), ?_, fun hne hold => ?_,
    fun x hx => mem_setAdd_iff.mp (advanceMark_subset _ _ _ (hmarks ▸ hx)), hframe⟩
  · have hfit : (setAdd (s.marksOf c st) u.toNat).length ≤ 257 := (length_setAdd_le _ _).trans (Nat.succ_le_succ hlen)
    rw [hwmark, hmarks]
    exact advanceMark_stops _ _ _ hfit
  · have hfresh : s.get (GS_TRD.wmark c st) ∉ setAdd (s.marksOf c st) u.toNat :=
      fun h => (mem_setAdd_iff.mp h).elim (fun heq => hne heq.symm) hold
    rw [hwmark, hmarks, State.markUnit, advanceMark_stays _ _ _ hfresh]
    exact ⟨rfl, mem_setAdd_iff.mpr (.inl rfl)⟩

/-- A doorbell past the window is held back on TRD (R240, R512). -/
theorem trdDoorbell_waits (c : Ctx) (st : Fin 64) (u : W32) (s : State) (hlive : s.live c = true)
    (hfree : s.gs.heldDb = []) (hlo : 256 ≤ subMod 32 u.toNat (s.get (GS_TRD.wmark c st)))
    (hhi : subMod 32 u.toNat (s.get (GS_TRD.wmark c st)) < 2 ^ 31) :
    ∃ t : State, exec (.trdDoorbell c st u) s = .next t ∧ t.gs.heldDb = [(c.val, st.val, u.toNat)]
      ∧ t.get (GS_TRD.held c st) = 1 ∧ t.get (GS_TRD.wmark c st) = s.get (GS_TRD.wmark c st)
      ∧ t = { s with regs := t.regs, gs := t.gs, out := t.out } := by
  have hrow : execTrdDoorbell c st u s = .next (({ s with
      gs := { s.gs with heldDb := s.gs.heldDb ++ [(c.val, st.val, u.toNat)] } } : State).set (GS_TRD.held c st) 1
        |>.emit (.trdReady false)) := by
    unfold execTrdDoorbell
    extract_lets s'
    rw [if_neg (not_not.mpr hfree), State.judgeDoorbell_waits hlive hlo hhi]
  refine ⟨_, hrow, by rw [hfree]; rfl, ?_, ?_, rfl⟩
  · rw [State.get_emit, State.get_set_same]
    rfl
  · rw [State.get_emit, State.get_set_ne _ _ _ _ (by simp only [Loc.key, GS_TRD.wmark, GS_TRD.held]; omega)]
    rfl

/-! ### Watermark writes (R243, R530) -/

/-- Whether a running command of a context names a stream (R243). -/
def State.streamNamed (s : State) (c st : Nat) : Bool :=
  s.jobs.any fun j => j.cmdOf c && j.opcode == opCOLLECTIVE && j.trd && j.gsStream == st

/-- A watermark that no running command names is written, and its window cleared (R243). -/
theorem trdWatermarkWrite_writes (c : Ctx) (st : Fin 64) (v : W32) (s : State) (hfree : s.gs.heldDb = [])
    (hnone : s.streamNamed c st = false) :
    ∃ t : State, exec (.trdWatermarkWrite c st v) s = .next t.after ∧ t.get (GS_TRD.wmark c st) = v.toNat
      ∧ t.marksOf c st = [] ∧ t.get (GS_TRD.pending c st) = 0 ∧ t = { s with regs := t.regs, gs := t.gs } := by
  obtain ⟨hwmark, hmarks, hpending, hframe⟩ := s.putMarks_shows c st (v.toNat, [])
  have hrow : execTrdWatermarkWrite c st v s = fin (s.putMarks c st (v.toNat, [])).redoDoorbells :=
    if_neg (Bool.eq_false_iff.mp hnone)
  rw [State.redoDoorbells_none (s.putMarks c st (v.toNat, [])) hfree] at hrow
  exact ⟨_, hrow, hwmark.trans (Nat.mod_eq_of_lt v.isLt), hmarks, hpending, hframe⟩

/-- A watermark that a running command names takes no other value, and a write of its own is none (R243, R530). -/
theorem exec_trdWatermarkWrite_named (c : Ctx) (st : Fin 64) (v : W32) (s : State) (hnamed : s.streamNamed c st = true) :
    exec (.trdWatermarkWrite c st v) s
      = .next (if v.toNat = s.get (GS_TRD.wmark c st) then s else s.set GS_GSTAT.cfg_err 1) := if_pos hnamed

/-! ### Groups (R216, R217) -/

/-- A write of a group's fields changes register fields alone (R217). -/
theorem State.writeGroup_only_regs (s : State) (c g v : Nat) :
    s.writeGroup c g v = { s with regs := (s.writeGroup c g v).regs } := by
  unfold State.writeGroup
  extract_lets same
  split
  · rfl
  · split <;> rfl

/-- A write of a group's fields changes only those and GS_GSTAT.cfg_err (R217). -/
theorem State.get_writeGroup_ne (s : State) (c g v : Nat) (l : Loc) (herr : l.key ≠ GS_GSTAT.cfg_err.key)
    (hcfg : l.key / 64 = 0x11100 + 0x100 * c + 0x10 * g → 63 ≤ l.key % 64) :
    (s.writeGroup c g v).get l = s.get l := by
  unfold State.writeGroup
  extract_lets same
  split
  · rfl
  · split
    · exact State.get_set_ne _ _ _ _ herr
    · rw [State.get_set_ne, State.get_set_ne, State.get_set_ne, State.get_set_ne]
      all_goals simp only [Loc.key, GS_GRP_CFG.axes, GS_GRP_CFG.fan, GS_GRP_CFG.queue, GS_GRP_CFG.split_fixed] at *; omega

/-- A write of a group's fields leaves its valid bit and the device's coordinate (R217). -/
theorem State.writeGroup_keeps (s : State) (c g v : Nat) :
    (s.writeGroup c g v).get (GS_GRP_CFG.valid c g) = s.get (GS_GRP_CFG.valid c g)
      ∧ (s.writeGroup c g v).coord = s.coord := by
  refine ⟨s.get_writeGroup_ne c g v _ ?_ ?_, ?_⟩
  · simp only [Loc.key, GS_GRP_CFG.valid, GS_GSTAT.cfg_err]; omega
  · simp only [Loc.key, GS_GRP_CFG.valid]; omega
  · have hself (l : Loc) (hoff : l.off = 0x11010) (hlo : l.lo < 63) : (s.writeGroup c g v).get l = s.get l := by
      refine s.get_writeGroup_ne c g v l ?_ ?_
      all_goals simp only [Loc.key, GS_GSTAT.cfg_err]; omega
    simp only [State.coord, hself GS_SELF.c0 rfl (by decide), hself GS_SELF.c1 rfl (by decide),
      hself GS_SELF.c2 rfl (by decide), hself GS_SELF.c3 rfl (by decide)]

/-- What the block fills in for a group, and the valid bit that it leaves (R216). -/
theorem State.fillGroup_shows (s : State) (c g : Nat) :
    (s.fillGroup c g).get (GS_GRP_STAT.n c g) = s.groupSize c g % 2 ^ 16
      ∧ (s.fillGroup c g).get (GS_GRP_STAT.rank c g) = s.rankOf c g s.coord % 2 ^ 16
      ∧ (s.fillGroup c g).get (GS_GRP_CFG.valid c g) = s.get (GS_GRP_CFG.valid c g)
      ∧ s.fillGroup c g = { s with regs := (s.fillGroup c g).regs } := by
  unfold State.fillGroup
  extract_lets n d
  clear_value d
  refine ⟨?_, ?_, ?_, ?_⟩
  · rw [State.get_set_ne, State.get_set_ne, State.get_set_ne, State.get_set_same]
    · rfl
    all_goals simp only [Loc.key, GS_GRP_STAT.n, GS_GRP_STAT.rank, GS_GRP_STAT.depth_near, GS_GRP_STAT.depth_off]; omega
  · rw [State.get_set_ne, State.get_set_ne, State.get_set_same]
    · rfl
    all_goals simp only [Loc.key, GS_GRP_STAT.rank, GS_GRP_STAT.depth_near, GS_GRP_STAT.depth_off]; omega
  · rw [State.get_set_ne, State.get_set_ne, State.get_set_ne, State.get_set_ne]
    all_goals simp only [Loc.key, GS_GRP_CFG.valid, GS_GRP_STAT.n, GS_GRP_STAT.rank, GS_GRP_STAT.depth_near,
      GS_GRP_STAT.depth_off]; omega
  · clear_value n
    rfl

/-- A group's valid bit is none of the fields its members are read from. -/
theorem SameMembers.setValid (s : State) {c g : Nat} (hc : c < 4) (hg : g < 16) (v : Nat) :
    SameMembers c g s (s.set (GS_GRP_CFG.valid c g) v) := by
  refine .set _ _ fun l hl => ?_
  obtain ⟨hlo, hoff | hoff | rfl | hoff | hoff⟩ := hl
  all_goals simp only [Loc.key, GS_GRP_CFG.valid, GS_GRP_CFG.axes]; omega

/-- A group that meets the checks becomes valid, with its size and the device's rank filled in (R216). -/
theorem groupValidate_fills (c : Ctx) (g : Fin 16) (v : W64) (s : State) (hup : nbits v.toNat 63 1 = 1)
    (hoff : s.get (GS_GRP_CFG.valid c g) = 0) (hok : (s.writeGroup c g v.toNat).groupOk c g = true) :
    ∃ t : State, exec (.groupValidate c g v) s = .next t.after ∧ t.is (GS_GRP_CFG.valid c g) = true
      ∧ t.get (GS_GRP_STAT.n c g) = (s.writeGroup c g v.toNat).groupSize c g % 2 ^ (GS_GRP_STAT.n c g).w
      ∧ t.get (GS_GRP_STAT.rank c g)
          = (s.writeGroup c g v.toNat).rankOf c g s.coord % 2 ^ (GS_GRP_STAT.rank c g).w
      ∧ t = { s with regs := t.regs } := by
  obtain ⟨hvalid, hcoord⟩ := s.writeGroup_keeps c g v.toNat
  have hregs := s.writeGroup_only_regs c g v.toNat
  have hrow : execGroupValidate c g v s = fin ((s.writeGroup c g v.toNat).validateGroup c g (nbits v.toNat 63 1)) := rfl
  generalize s.writeGroup c g v.toNat = u at *
  have hsame := SameMembers.setValid u c.isLt g.isLt 1
  obtain ⟨hn, hrank, hup', hfill⟩ := (u.set (GS_GRP_CFG.valid c g) 1).fillGroup_shows c g
  have hfills : u.validateGroup c g (nbits v.toNat 63 1) = (u.set (GS_GRP_CFG.valid c g) 1).fillGroup c g := by
    rw [State.validateGroup, hup, hvalid, hoff, if_neg (by decide), if_neg (by decide), if_pos hok]
  refine ⟨_, hrow.trans (congrArg fin hfills), ?_, ?_, ?_, hfill.trans ?_⟩
  · rw [State.is, hup', State.get_set_same]
    rfl
  · rw [hn, hsame.groupSize]
    rfl
  · rw [hrank, hsame.rankOf, hsame.coord, hcoord]
    rfl
  · rw [hregs]
    rfl

/-- A group that does not meet the checks sets its cfg_err (R216). -/
theorem groupValidate_fails (c : Ctx) (g : Fin 16) (v : W64) (s : State) (hoff : s.get (GS_GRP_CFG.valid c g) = 0)
    (hup : nbits v.toNat 63 1 = 1) (hbad : (s.writeGroup c g v.toNat).groupOk c g = false) :
    exec (.groupValidate c g v) s = .next ((s.writeGroup c g v.toNat).set (GS_GRP_STAT.cfg_err c g) 1).after := by
  refine congrArg fin ?_
  rw [State.validateGroup, hup, (s.writeGroup_keeps c g v.toNat).1, hoff, if_neg (by decide), if_neg (by decide),
    if_neg (Bool.eq_false_iff.mp hbad)]

end Sys2Proof.Machine

namespace Sys2Proof.Machine

/-! ### Tiles admitted to their slots (R221, R247, R248, R359) -/

/-- What sending does beside charging: the running work stays, and messages only join the line. -/
def OnlySends (s t : State) : Prop := t.jobs = s.jobs ∧ s.fab.txq ⊆ t.fab.txq

/-- Nothing done is such a change. -/
theorem OnlySends.refl (s : State) : OnlySends s s := ⟨rfl, List.Subset.refl _⟩

/-- Two such changes are one. -/
theorem OnlySends.trans {s t u : State} (h : OnlySends s t) (k : OnlySends t u) : OnlySends s u :=
  ⟨k.1.trans h.1, List.Subset.trans h.2 k.2⟩

/-- A message sent is such a change. -/
theorem OnlySends.gsSend (s : State) (j : Job) (typ tr i tile : Nat) (rest : List Byte) :
    OnlySends s (s.gsSend j typ tr i tile rest) := by
  rw [State.gsSend_frame]
  exact ⟨rfl, List.subset_append_left _ _⟩

/-- A message sent to a list of ranks is such a change. -/
theorem OnlySends.gsSendAll (s : State) (j : Job) (typ tr tile : Nat) (rest : List Byte) (is : List Nat) :
    OnlySends s (s.gsSendAll j typ tr tile rest is) := by
  unfold State.gsSendAll
  induction is generalizing s with
  | nil => exact .refl s
  | cons i is ih => exact (OnlySends.gsSend s j typ tr i tile rest).trans (ih _)

/-- A split fixed is sent and kept in the command's split values alone (R221). -/
theorem fixOne_fixes (s : State) (j : Job) (b : Nat) : OnlySends s (fixSplits.fixOne s j b).1
    ∧ ∃ ns, (fixSplits.fixOne s j b).2 = { j with gs := { j.gs with ns := ns } } := by
  unfold fixSplits.fixOne
  extract_lets t v body s1 s2
  have hs1 : OnlySends s s1 := .gsSendAll s j _ _ _ _ _
  have hs2 : OnlySends s1 s2 := by
    simp only [s2]
    split
    · exact .refl s1
    · exact .gsSend s1 _ _ _ _ _ _
  split
  · exact ⟨.refl s, j.gs.ns, rfl⟩
  · exact ⟨hs1.trans hs2, _, rfl⟩

/-- The splits fixed up to a block are sent and kept in the command's split values alone (R221). -/
theorem fixSplits_fixes (s : State) (j : Job) (b : Nat) : OnlySends s (fixSplits s j b).1
    ∧ ∃ ns, (fixSplits s j b).2 = { j with gs := { j.gs with ns := ns } } := by
  induction b with
  | zero => exact fixOne_fixes s j 0
  | succ b ih =>
    obtain ⟨hsends, ns, hjob⟩ := ih
    obtain ⟨hsends', ns', hjob'⟩ := fixOne_fixes (fixSplits s j b).1 (fixSplits s j b).2 (b + 1)
    exact ⟨hsends.trans hsends', ns', hjob'.trans (by rw [hjob])⟩

/-- The wait for a split notice counted is read by no group's members (R222). -/
theorem SameMembers.countLate (s : State) (c g : Nat) (t : Option Nat) : SameMembers c g s (s.countLate t) := by
  unfold State.countLate
  split
  · refine SameMembers.trans (t := { s with gs := _ }) (fun l _ => rfl) (.set _ _ fun l hl => ?_)
    obtain ⟨hlo, hoff | hoff | rfl | hoff | hoff⟩ := hl
    all_goals simp only [Loc.key, GS_GSTAT.late_split, GS_GRP_CFG.axes]; omega
  · exact fun l _ => rfl

/-- A group's split value as it shows is read by no group's members (R220). -/
theorem SameMembers.setNs (s : State) {c g : Nat} (hc : c < 4) (hg : g < 16) (v : Nat) :
    SameMembers c g s (s.set (GS_GRP_STAT.ns c g) v) := by
  refine .set _ _ fun l hl => ?_
  obtain ⟨hlo, hoff | hoff | rfl | hoff | hoff⟩ := hl
  all_goals simp only [Loc.key, GS_GRP_STAT.ns, GS_GRP_CFG.axes]; omega

/-- Running work is read by no group's members. -/
theorem SameMembers.setJob (s : State) (c g : Nat) (j : Job) : SameMembers c g s (s.setJob j) :=
  fun l _ => s.get_setJob j l

/-- A collective with its next tile in a slot (R247). -/
def Job.admitted (j : Job) : Job :=
  { j with gs := { j.gs with
    tiles := j.gs.tiles ++ [{ t := j.gs.next, tr := j.gs.treeOf j.gs.next }], next := j.gs.next + 1, lateAt := none } }

/-- The state in which a tile has its slot and its credits are in line (R247, R248). -/
def State.granted (s : State) (j : Job) (n : Nat) : State :=
  (((s.countLate j.gs.lateAt).set (GS_GRP_STAT.ns j.ctx j.gsGroup) n).setJob j.admitted).gsSendAll j.admitted 0x25
    (j.gs.treeOf j.gs.next) j.gs.next (leBytes 2 1 ++ leBytes 2 0) ((s.gsTree j).children (j.gs.treeOf j.gs.next))

/-- A tile admitted to its slot; a near root that keeps no tile on the near tree fixes the next split values too (R221). -/
theorem State.admitTile_eq (s : State) (j : Job) (n : Nat) : s.admitTile j n =
    if n = 0 ∧ (s.gsTree j).me = 0 then
      (fixSplits (s.granted j n) j.admitted (j.gs.next / 256)).1.setJob (fixSplits (s.granted j n) j.admitted (j.gs.next / 256)).2
    else s.granted j n := rfl

/-- Each child of the tile's tree has the tile's credit in line for it (R248). -/
theorem State.granted_credits (s : State) (j : Job) (n : Nat) (hc : j.ctx < 4) :
    ∀ i ∈ (s.gsTree j).children (j.gs.treeOf j.gs.next), ∃ y ∈ (s.granted j n).fab.txq, y.typ = 0x25
      ∧ y.dst = s.rankDev j.ctx j.gsGroup i ∧ y.tag = j.gcn := by
  intro i hi
  have hgroup : j.gsGroup < 16 := Nat.mod_lt _ (by decide)
  have hsame := ((SameMembers.countLate s j.ctx j.gsGroup j.gs.lateAt).trans (.setNs _ hc hgroup n)).trans
    (.setJob _ _ _ j.admitted)
  rw [State.granted, State.txq_gsSendAll _ j.admitted _ _ _ _ hc]
  exact ⟨_, List.mem_append_right _ (List.mem_map_of_mem hi), rfl, hsame.rankDev i, rfl⟩

/-- A tile admitted is in its command, and its credits are in line (R247, R248). -/
theorem State.admitTile_shows {s : State} {j : Job} (hj : j ∈ s.jobs) (hc : j.ctx < 4) (n : Nat) :
    ∃ k : Job, (s.admitTile j n).job j.id = some k ∧ k.id = j.id ∧ k.gs.next = j.gs.next + 1
      ∧ k.gs.tiles = j.admitted.gs.tiles
      ∧ ∀ i ∈ (s.gsTree j).children (j.gs.treeOf j.gs.next), ∃ y ∈ (s.admitTile j n).fab.txq, y.typ = 0x25
          ∧ y.dst = s.rankDev j.ctx j.gsGroup i ∧ y.tag = j.gcn := by
  have hcredits := s.granted_credits j n hc
  have hjob : (s.granted j n).job j.id = some j.admitted := by
    rw [State.job, State.granted, State.jobs_gsSendAll]
    exact State.job_setJob hj (show (s.countLate j.gs.lateAt).jobs = s.jobs by rw [State.countLate_frame]) rfl
  rw [State.admitTile_eq]
  split
  · obtain ⟨⟨hjobs, hline⟩, ns, hk⟩ := fixSplits_fixes (s.granted j n) j.admitted (j.gs.next / 256)
    have hkept := State.job_setJob (k := (fixSplits (s.granted j n) j.admitted (j.gs.next / 256)).2)
      (List.mem_of_find?_eq_some hjob) hjobs (by rw [hk])
    refine ⟨_, hkept, (congrArg Job.id hk :), (congrArg (fun k => k.gs.next) hk :), (congrArg (fun k => k.gs.tiles) hk :),
      fun i hi => ?_⟩
    obtain ⟨y, hy, hfields⟩ := hcredits i hi
    exact ⟨y, hline hy, hfields⟩
  · exact ⟨_, hjob, rfl, rfl, rfl, hcredits⟩

/-- The result that came early leaves its tile in its slot and the next tile as it was (R359). -/
theorem State.takeEarly_shows {s : State} {k : Job} {x : GsTile} {t : Nat} (hk : s.job k.id = some k)
    (htile : k.tileAt t = some x) : ∃ l : Job, (s.takeEarly k t).job k.id = some l ∧ l.gs.next = k.gs.next
      ∧ (x.held = true → l.holds t = true) ∧ (s.takeEarly k t).fab = s.fab := by
  have hholds {l : Job} {y : GsTile} (h : l.tileAt t = some y) (hheld : y.held = true) : l.holds t = true :=
    List.any_eq_true.mpr ⟨y, List.mem_of_find?_eq_some h, by simp [Job.t_of_tileAt h, hheld]⟩
  unfold State.takeEarly
  split
  next m y hearly hy =>
    obtain rfl : x = y := Option.some.inj (htile.symm.trans hy)
    extract_lets gs l
    have hl : l.tileAt t = some x := htile
    have hput : (l.setTile (x.putRes l m)).tileAt t = some (x.putRes l m) :=
      Job.tileAt_setTile hl (show x.t = t from Job.t_of_tileAt htile)
    exact ⟨_, State.job_setJob (List.mem_of_find?_eq_some hk) rfl rfl, rfl, fun hheld => hholds hput hheld, rfl⟩
  next => exact ⟨k, hk, rfl, hholds htile, rfl⟩

/-- A running collective that may take its next tile's slot takes it (R222, R247, R359). -/
theorem exec_slotAdmit_admits (c : Ctx) (gcn : W32) {s : State} {j k : Job} {n : Nat}
    (hfind : (s.jobs.find? fun j => j.cmdOf c && j.isGs && j.ending.isNone && j.gcn == gcn.toNat) = some j)
    (hmore : j.gs.next < j.gsTiles) (hruns : s.stopped j = false) (hns : j.gs.nsOf (j.gs.next / 256) = some n)
    (hadmits : s.admits j = true) (hk : (s.admitTile j n).job j.id = some k) :
    exec (.slotAdmit c gcn j.gs.next) s = .next ((s.admitTile j n).takeEarly k j.gs.next).after := by
  show execSlotAdmit c gcn j.gs.next s = _
  rw [execSlotAdmit, hfind]
  dsimp only
  rw [if_pos ⟨rfl, hmore, by simp [hruns]⟩, hns]
  dsimp only
  rw [if_pos hadmits, hk]
  rfl

/-- The next tile of a running collective is admitted, its slot held and its credits sent (R247, R248). -/
theorem slotAdmit_admits (c : Ctx) (gcn : W32) (s : State) (j : Job) (n : Nat)
    (hfind : (s.jobs.find? fun j => j.cmdOf c && j.isGs && j.ending.isNone && j.gcn == gcn.toNat) = some j)
    (hmore : j.gs.next < j.gsTiles) (hruns : s.stopped j = false) (hns : j.gs.nsOf (j.gs.next / 256) = some n)
    (hadmits : s.admits j = true) :
    ∃ (t : State) (k : Job), exec (.slotAdmit c gcn j.gs.next) s = .next t.after ∧ t.job j.id = some k
      ∧ k.gs.next = j.gs.next + 1 ∧ (j.tileAt j.gs.next = none → k.holds j.gs.next = true)
      ∧ (∀ i ∈ (s.gsTree j).children (j.gs.treeOf j.gs.next), ∃ y ∈ t.fab.txq, y.typ = 0x25
          ∧ y.dst = s.rankDev j.ctx j.gsGroup i ∧ y.tag = j.gcn) := by
  have hctx : j.ctx < 4 := by
    have hfound := List.find?_some hfind
    simp only [Bool.and_eq_true] at hfound
    obtain ⟨⟨⟨hcommand, -⟩, -⟩, -⟩ := hfound
    exact (Job.ctx_of_cmdOf hcommand).symm ▸ c.isLt
  obtain ⟨k, hk, hid, hnext, htiles, hcredits⟩ := State.admitTile_shows (List.mem_of_find?_eq_some hfind) hctx n
  obtain ⟨x, htile, hheld⟩ : ∃ x, k.tileAt j.gs.next = some x ∧ (j.tileAt j.gs.next = none → x.held = true) := by
    rw [Job.tileAt, htiles, Job.admitted, List.find?_append]
    cases hold : j.tileAt j.gs.next with
    | none => exact ⟨_, by rw [← Job.tileAt, hold]; simp; rfl, fun _ => rfl⟩
    | some y => exact ⟨y, by rw [← Job.tileAt, hold]; rfl, nofun⟩
  obtain ⟨l, hl, hlnext, hlholds, hfab⟩ := State.takeEarly_shows (hid.symm ▸ hk) htile
  exact ⟨_, l, exec_slotAdmit_admits c gcn hfind hmore hruns hns hadmits hk, hid ▸ hl, hlnext.trans hnext,
    fun hfree => hlholds (hheld hfree), by rwa [hfab]⟩

/-- Settles O38: each row by the lemma that says what it leaves. -/
theorem doorbellsAdvanceTheWatermarkAndTilesAreAdmitted :
    Obligations.DoorbellsAdvanceTheWatermarkAndTilesAreAdmitted := by
  unfold Obligations.DoorbellsAdvanceTheWatermarkAndTilesAreAdmitted
  exact ⟨trdDoorbell_marks,
    fun c st u s hlive hfree hdup => exec_trdDoorbell_taken c st u hfree (State.judgeDoorbell_dup hlive hdup),
    trdDoorbell_waits, trdWatermarkWrite_writes,
    fun c st v s hne hnamed => (exec_trdWatermarkWrite_named c st v s hnamed).trans (by rw [if_neg hne]),
    fun c st v s heq hnamed => (exec_trdWatermarkWrite_named c st v s hnamed).trans (by rw [if_pos heq]),
    slotAdmit_admits, groupValidate_fills, groupValidate_fails⟩

end Sys2Proof.Machine

/-! ## Statements of 09_team_coding.md -/

namespace Sys2Proof.Machine

/-! ### What a team's registers show (R260, R263, R265, R266, R267) -/

/-- The fields that show the values of a team in force, and the touch-map fragments reserved (R263, R267, R284). -/
def teamViews (c : Nat) : List Loc :=
  [TM_STAT.epoch c, TM_STAT.k c, TM_STAT.r c, TM_STAT.index c, TM_STAT.erased c, TM_SHAPEF.digest c, TM_GSTAT.touch_used]

/-- The register views of a team's values leave every other field as it was (R267). -/
theorem State.get_syncTeam_ne (s : State) (c : Nat) (l : Loc) (h : ∀ m ∈ teamViews c, l.key ≠ m.key) :
    (s.syncTeam c).get l = s.get l := by
  simp only [teamViews, List.forall_mem_cons] at h
  obtain ⟨hepoch, hk, hr, hindex, herased, hdigest, htouch, -⟩ := h
  simp only [State.syncTeam, State.get_set_ne _ _ _ _ hepoch, State.get_set_ne _ _ _ _ hk, State.get_set_ne _ _ _ _ hr,
    State.get_set_ne _ _ _ _ hindex, State.get_set_ne _ _ _ _ herased, State.get_set_ne _ _ _ _ hdigest,
    State.get_set_ne _ _ _ _ htouch]

/-- TM_STAT shows the epoch of the values in force (R267). -/
theorem State.epoch_syncTeam (s : State) (c : Nat) :
    (s.syncTeam c).get (TM_STAT.epoch c) = (s.tmAt c).vals.epoch % 2 ^ (TM_STAT.epoch c).w := by
  have hne (m : Loc) (hm : m.key ≠ 64 * (0x13018 + 0x100 * c) + 8) (s : State) (v : Nat) :
      (s.set m v).get (TM_STAT.epoch c) = s.get (TM_STAT.epoch c) := State.get_set_ne _ _ _ _ hm.symm
  simp (disch := simp only [Loc.key, TM_STAT.k, TM_STAT.r, TM_STAT.index, TM_STAT.erased, TM_SHAPEF.digest,
    TM_GSTAT.touch_used]; omega) only [State.syncTeam, hne]
  exact State.get_set_same _ _ _

/-- A context's team state and its apply bit are none of those views. -/
theorem teamViews_apart {c : Nat} {l : Loc} (h : l.key = (TM_STAT.state c).key ∨ l.key = (TM_CTL.apply c).key) :
    ∀ m ∈ teamViews c, l.key ≠ m.key := by
  simp only [Loc.key, TM_STAT.state, TM_CTL.apply] at h
  simp only [teamViews, List.forall_mem_cons, Loc.key, TM_STAT.epoch, TM_STAT.k, TM_STAT.r, TM_STAT.index, TM_STAT.erased,
    TM_SHAPEF.digest, TM_GSTAT.touch_used]
  refine ⟨?_, ?_, ?_, ?_, ?_, ?_, ?_, nofun⟩ <;> omega

/-- An epoch announced to the yoke leaves every register above the yoke's as it was (R205). -/
theorem State.get_announceTeam_high (s : State) (c : Nat) (l : Loc) (h : 0x10058 ≤ l.key / 64) :
    (s.announceTeam c).get l = s.get l := by
  have hhalf : (if s.is (YK_DTAB.in_use 0) then 1 else 0) ≤ 1 := by split <;> omega
  exact State.get_setTable_ne _ _ _ _ _ _ (by omega)

/-- An epoch announced to the yoke leaves the team's hidden state as it is (R205). -/
theorem State.tmAt_announceTeam (s : State) (c d : Nat) : (s.announceTeam c).tmAt d = s.tmAt d := rfl

/-- The coded flags of a context's slots cleared (R265). -/
def State.uncodeSlots (s : State) (c : Nat) : State := (s.codedSlots c).foldl (fun s n => s.set (TM_STB.coded n) 0) s

/-- A slot of the context is no longer coded (R265). -/
theorem State.is_coded_uncodeSlots (s : State) {c n : Nat} (hn : n < 16) (hctx : s.get (TM_STB.ctx n) = c) :
    (s.uncodeSlots c).is (TM_STB.coded n) = false := by
  have hother (s : State) (x : Nat) (hx : x ≠ n) :
      (s.set (TM_STB.coded x) 0).get (TM_STB.coded n) = s.get (TM_STB.coded n) :=
    State.get_set_ne _ _ _ _ (by simp only [Loc.key, TM_STB.coded]; omega)
  rw [State.is, beq_eq_false_iff_ne]
  by_cases hmem : n ∈ s.codedSlots c
  · obtain ⟨t, -, hfold⟩ := State.foldl_at (State.get · (TM_STB.coded n)) (fun s n => s.set (TM_STB.coded n) 0)
      (List.nodup_range.filter _) hmem hother s
    rw [State.uncodeSlots, State.codedSlots, hfold, State.get_set_same]
    simp
  · have hkeep : (s.uncodeSlots c).get (TM_STB.coded n) = s.get (TM_STB.coded n) :=
      State.foldl_keeps_mem (State.get · (TM_STB.coded n)) _ _
        (fun s x hx => hother s x (by rintro rfl; exact hmem hx)) s
    have hplain : s.is (TM_STB.coded n) ≠ true := fun hcoded =>
      hmem (List.mem_filter.mpr ⟨List.mem_range.mpr hn, by simp [hcoded, hctx]⟩)
    rw [hkeep]
    simpa [State.is] using hplain

/-- Beside its slots' flags and its state a team that ends changes its apply bit and the views of its values alone (R265). -/
theorem State.get_dissolve_ne (s : State) (c : Nat) (l : Loc) (h : ∀ m ∈ TM_CTL.apply c :: teamViews c, l.key ≠ m.key) :
    (s.dissolve c).get l = ((s.uncodeSlots c).set (TM_STAT.state c) tmOFF).get l := by
  simp only [teamViews, List.forall_mem_cons] at h
  obtain ⟨happly, hepoch, hk, hr, hindex, herased, hdigest, htouch, -⟩ := h
  simp only [State.dissolve, State.get_set_ne _ _ _ _ happly, State.get_set_ne _ _ _ _ hepoch,
    State.get_set_ne _ _ _ _ hk, State.get_set_ne _ _ _ _ hr, State.get_set_ne _ _ _ _ hindex,
    State.get_set_ne _ _ _ _ herased, State.get_set_ne _ _ _ _ hdigest, State.get_set_ne _ _ _ _ htouch]
  rfl

/-- A team that ends is OFF (R265). -/
theorem State.team_dissolve (s : State) (c : Nat) : (s.dissolve c).team c = tmOFF := by
  refine (s.get_dissolve_ne c _ (List.forall_mem_cons.mpr ⟨?_, teamViews_apart (.inl rfl)⟩)).trans
    (State.get_set_same _ _ _)
  simp only [Loc.key, TM_STAT.state, TM_CTL.apply]; omega

/-- A team that ends holds nothing (R265). -/
theorem State.tmAt_dissolve (s : State) (c : Nat) : (s.dissolve c).tmAt c = {} :=
  Tbl.at_put_same (s.uncodeSlots c).tm {} c {}

/-- No slot of a context whose team ends is coded any more (R265). -/
theorem State.is_coded_dissolve (s : State) {c n : Nat} (hc : c < 4) (hn : n < 16) (hctx : s.get (TM_STB.ctx n) = c) :
    (s.dissolve c).is (TM_STB.coded n) = false := by
  rw [State.is, s.get_dissolve_ne c, State.get_set_ne]
  · exact s.is_coded_uncodeSlots hn hctx
  · simp only [Loc.key, TM_STB.coded, TM_STAT.state]; omega
  · simp only [teamViews, List.forall_mem_cons, Loc.key, TM_STB.coded, TM_CTL.apply, TM_STAT.epoch,
      TM_STAT.k, TM_STAT.r, TM_STAT.index, TM_STAT.erased, TM_SHAPEF.digest, TM_GSTAT.touch_used]
    refine ⟨?_, ?_, ?_, ?_, ?_, ?_, ?_, ?_, nofun⟩ <;> omega

/-- A formation that fails leaves the team OFF with form_err set (R266). -/
theorem State.formFail_shows (s : State) (c : Nat) :
    (s.formFail c).team c = tmOFF ∧ (s.formFail c).is (TM_STAT.form_err c) = true ∧ (s.formFail c).tmAt c = {} := by
  refine ⟨?_, ?_, ?_⟩
  · exact (State.get_set_ne _ _ _ _ (by exact Loc.key_ne_of_lo_ne rfl (show 0 ≠ 4 by decide))).trans (s.team_dissolve c)
  · simp only [State.is, State.formFail, State.get_set_same]
    rfl
  · rw [State.formFail, State.tmAt_set, State.tmAt_dissolve]

end Sys2Proof.Machine

namespace Sys2Proof.Machine

/-! ### Formation (R266, R299, R533) -/

/-- What a table lists once a key is listed is the new value or was listed before. -/
theorem Tbl.mem_ins {α : Type} {t : Tbl α} {k : Nat} {v : α} {e : Nat × α} (h : e ∈ t.ins k v) : e = (k, v) ∨ e ∈ t := by
  induction t with
  | nil => exact .inl (List.mem_singleton.mp h)
  | cons p t ih =>
    obtain ⟨k', v'⟩ := p
    unfold Tbl.ins at h
    split at h
    · exact List.mem_cons.mp h
    · split at h
      · exact (List.mem_cons.mp h).imp_right (List.mem_cons_of_mem _)
      · obtain rfl | hmem := List.mem_cons.mp h
        · exact .inr List.mem_cons_self
        · exact (ih hmem).imp_right (List.mem_cons_of_mem _)

/-- A value found under a key is listed. -/
theorem Tbl.mem_of_find {α : Type} {t : Tbl α} {k : Nat} {v : α} (h : t.find k = some v) : (k, v) ∈ t := by
  induction t with
  | nil => cases h
  | cons p t ih =>
    obtain ⟨k', v'⟩ := p
    unfold Tbl.find at h
    split at h
    next heq => cases h; subst heq; exact List.mem_cons_self
    next => exact List.mem_cons_of_mem _ (ih h)

section
variable {s : State} {c : Nat}

/-- A kept notice that is judged and differs ends the formation (R266). -/
theorem State.judge_differs {e : Nat × FormNote} (he : e ∈ (s.tmAt c).forms) (hjudged : s.judged c e.1 e.2 = true)
    (hdiffers : s.agrees c e.2 = false) : s.judge c = s.formFail c :=
  if_pos (List.any_eq_true.mpr ⟨e, he, by simp [hjudged, hdiffers]⟩)

variable (hsame : ∀ e ∈ (s.tmAt c).forms, s.judged c e.1 e.2 = true → s.agrees c e.2 = true)
include hsame

/-- No kept notice that is judged differs. -/
theorem State.no_form_differs : ¬ ((s.tmAt c).forms.any fun e => s.judged c e.1 e.2 && !s.agrees c e.2) = true := by
  rw [List.any_eq_true]
  rintro ⟨e, he, hdiffers⟩
  simp only [Bool.and_eq_true, Bool.not_eq_true'] at hdiffers
  obtain ⟨hjudged, hdiffers⟩ := hdiffers
  rw [hsame e he hjudged] at hdiffers
  cases hdiffers

/-- Agreement of every other index completes the formation: the notices go, and the epoch is announced (R205, R266). -/
theorem State.judge_agrees (hall : ∀ i < (s.tmAt c).vals.n, i ≠ (s.tmAt c).vals.index → ∃ f : FormNote,
      Tbl.find (s.tmAt c).forms i = some f ∧ s.judged c i f = true ∧ s.agrees c f = true) :
    s.judge c = ((s.set (TM_STAT.state c) tmENCODING).setTm c { s.tmAt c with forms := [] }).announceTeam c := by
  refine (if_neg (State.no_form_differs hsame)).trans (if_pos (List.all_eq_true.mpr fun i hi => ?_))
  rw [Bool.or_eq_true, beq_iff_eq, or_iff_not_imp_left]
  intro hne
  obtain ⟨f, hfind, hjudged, hagrees⟩ := hall i (List.mem_range.mp hi) hne
  simp [hfind, hjudged, hagrees]

/-- While another index has sent no notice the team stays as it is (R266). -/
theorem State.judge_waits {i : Nat} (hi : i < (s.tmAt c).vals.n) (hne : i ≠ (s.tmAt c).vals.index)
    (hnone : Tbl.find (s.tmAt c).forms i = none) : s.judge c = s := by
  refine (if_neg (State.no_form_differs hsame)).trans (if_neg fun hall => ?_)
  have hthis := List.all_eq_true.mp hall i (List.mem_range.mpr hi)
  simp [hnone, hne] at hthis

end

/-- A notice as it is kept, with the hall cycle it came in (R299, R533). -/
def State.noteOf (s : State) (m : Msg) : FormNote := ⟨m.src, m.team, m.tag, m.epoch, m.at_ 0 8, s.now⟩

/-- An accepted notice kept under its sender's index (R533). -/
def State.keepForm (s : State) (m : Msg) : State :=
  (s.done m).setTm m.ctx { s.tmAt m.ctx with forms := Tbl.ins (s.tmAt m.ctx).forms m.member (s.noteOf m) }

/-- What a kept notice leaves of its context's team. -/
theorem State.tmAt_keepForm (s : State) (m : Msg) : (s.keepForm m).tmAt m.ctx =
    { s.tmAt m.ctx with forms := Tbl.ins (s.tmAt m.ctx).forms m.member (s.noteOf m) } := State.tmAt_setTm_same _ _ _

/-- A kept notice changes nothing that notices are judged by. -/
theorem State.judged_keepForm (s : State) (m : Msg) (i : Nat) (f : FormNote) :
    (s.keepForm m).judged m.ctx i f = s.judged m.ctx i f := by
  rw [State.judged, State.judged, State.tmAt_keepForm]

/-- A kept notice changes nothing that notices have to agree with. -/
theorem State.agrees_keepForm (s : State) (m : Msg) (f : FormNote) :
    (s.keepForm m).agrees m.ctx f = s.agrees m.ctx f := by
  rw [State.agrees, State.agrees, State.tmAt_keepForm]
  rfl

section
variable {s : State} {m : Msg} (hgen : m.gen = s.get (GL_CTX_STAT.gen m.ctx))
include hgen

/-- A team that is OFF or FORMING takes a notice of the context's generation up (R533). -/
theorem State.done_listens (hopen : s.team m.ctx = tmOFF ∨ s.team m.ctx = tmFORMING) :
    ¬ (¬ ((s.done m).team m.ctx = tmOFF ∨ (s.done m).team m.ctx = tmFORMING)
      ∨ m.gen ≠ (s.done m).get (GL_CTX_STAT.gen m.ctx)) := by
  rintro (h | h)
  · exact h hopen
  · exact h hgen

/-- A notice of the context's generation is kept while the team is OFF (R533). -/
theorem State.takeForm_off (hoff : s.team m.ctx = tmOFF) : s.takeForm m = s.keepForm m :=
  (if_neg (State.done_listens hgen (.inl hoff))).trans (if_pos hoff)

/-- A notice of the context's generation that is judged is kept while the team is FORMING, and all are judged (R266). -/
theorem State.takeForm_forming (hforming : s.team m.ctx = tmFORMING) (hjudged : s.judged m.ctx m.member (s.noteOf m) = true) :
    s.takeForm m = (s.keepForm m).judge m.ctx := by
  have hon : ¬ (s.done m).team m.ctx = tmOFF := fun h => absurd (hforming.symm.trans h) (by decide)
  exact (if_neg (State.done_listens hgen (.inr hforming))).trans ((if_neg hon).trans (if_pos hjudged))

end

/-- The other indices of a set of values, which a form write sends notices to (R266). -/
def TeamVals.others (v : TeamVals) : List Nat := (List.range v.n).filter (· ≠ v.index)

/-- The values of n indices have n - 1 others than their own. -/
theorem TeamVals.length_others {v : TeamVals} (h : v.index < v.n) : v.others.length = v.n - 1 := by
  have herase : v.others = (List.range v.n).erase v.index := by
    rw [List.nodup_range.erase_eq_filter, TeamVals.others]
    exact List.filter_congr fun i _ => by by_cases h : i = v.index <;> simp [h]
  rw [herase, List.length_erase_of_mem (List.mem_range.mpr h), List.length_range]

/-- The formation notice to a member index (R266). -/
def State.formTo (s : State) (c i : Nat) : Msg :=
  s.frag c 0x15 i 0 0 0 false (leBytes 8 (s.get (TM_SHAPEF.digest c)))

/-- The formation notices stand in line, one for each other index (R266). -/
theorem State.sendForms_eq (s : State) (c : Nat) :
    s.sendForms c = s.setFab { s.fab with txq := s.fab.txq ++ (s.tmAt c).vals.others.map (s.formTo c) } := by
  rw [← State.foldl_send (fun s i => s.formTo c i) (fun _ _ _ => rfl), TeamVals.others, List.foldl_filter, State.sendForms]
  refine congrArg (fun f => List.foldl f s (List.range (s.tmAt c).vals.n)) (funext₂ fun t i => ?_)
  by_cases h : i = (s.tmAt c).vals.index
  · simp [h]
  · simp [h, State.formTo]

/-- The formation notices leave the team's hidden state as it is. -/
theorem State.tmAt_sendForms (s : State) (c : Nat) : (s.sendForms c).tmAt c = s.tmAt c := by
  rw [State.sendForms_eq, State.tmAt, State.tmAt, State.setFab_tm]

/-- The register views of a team's values are all that changes with them (R267). -/
theorem State.syncTeam_only_regs (s : State) (c : Nat) : s.syncTeam c = { s with regs := (s.syncTeam c).regs } := by
  unfold State.syncTeam
  extract_lets v u w x
  have hu : u = { s with regs := u.regs } := rfl
  have hw : w = { s with regs := w.regs } := State.only_regs_trans hu (State.set_only_regs _ _ _)
  have hx : x = { s with regs := x.regs } := State.only_regs_trans hw (State.set_only_regs _ _ _)
  exact State.only_regs_trans hx (State.set_only_regs _ _ _)

/-- The staged values in force with a formation begun (R266). -/
def State.formed (s : State) (c : Nat) : State :=
  ((s.setTm c { s.tmAt c with vals := s.staged c, formAt := s.now, pending := none, touch := [], fullRan := false }).set
    (TM_STAT.state c) tmFORMING).syncTeam c

/-- A begun formation changes register fields and the team's hidden state alone. -/
theorem State.formed_frame (s : State) (c : Nat) :
    s.formed c = { s with regs := (s.formed c).regs, tm := (s.formed c).tm } := by
  rw [State.formed, State.syncTeam_only_regs]
  rfl

/-- What a begun formation holds (R266). -/
theorem State.tmAt_formed (s : State) (c : Nat) : (s.formed c).tmAt c =
    { s.tmAt c with vals := s.staged c, formAt := s.now, pending := none, touch := [], fullRan := false } := by
  rw [State.formed, State.syncTeam_only_regs]
  exact State.tmAt_setTm_same s c _

/-- A begun formation is FORMING (R266). -/
theorem State.team_formed (s : State) (c : Nat) : (s.formed c).team c = tmFORMING := by
  rw [State.team, State.formed, State.get_syncTeam_ne _ _ _ (teamViews_apart (.inl rfl)), State.get_set_same]
  rfl

/-- A begun formation shows the staged epoch (R266, R267). -/
theorem State.epoch_formed (s : State) (c : Nat) :
    (s.formed c).get (TM_STAT.epoch c) = (s.staged c).epoch % 2 ^ (TM_STAT.epoch c).w := by
  rw [State.formed, State.epoch_syncTeam]
  exact congrArg (fun x : TeamS => x.vals.epoch % 2 ^ (TM_STAT.epoch c).w) (State.tmAt_setTm_same s c _)

/-- Values that obey R260 have at least two indices, the own one among them. -/
theorem TeamVals.ok_indices {v : TeamVals} (hstaged : v.mode = 1 → v.n = 2) (h : v.ok = true) : 2 ≤ v.n ∧ v.index < v.n := by
  simp only [TeamVals.ok, Bool.and_eq_true, Bool.or_eq_true, beq_iff_eq, decide_eq_true_eq] at h
  obtain ⟨⟨hshape, hindex⟩, -⟩ := h
  refine ⟨?_, hindex⟩
  obtain hpair | ⟨⟨⟨⟨⟨-, hk⟩, -⟩, hr⟩, -⟩, -⟩ := hshape
  · rw [hstaged hpair]
  · unfold TeamVals.n; omega

/-- The staged values of a pair have two indices (R260). -/
theorem State.n_staged_pair (s : State) (c : Nat) (h : (s.staged c).mode = 1) : (s.staged c).n = 2 := by
  have hmode : s.get (TM_CFG.mode c) = 1 := h
  simp [State.staged, TeamVals.n, hmode]

/-- Values that meet R266 obey R260. -/
theorem State.ok_of_formOk {s : State} {c : Nat} (h : s.formOk c = true) : (s.staged c).ok = true := by
  simp only [State.formOk, State.joinOk, Bool.and_eq_true] at h
  obtain ⟨⟨⟨⟨⟨⟨⟨⟨hok, -⟩, -⟩, -⟩, -⟩, -⟩, -⟩, -⟩, -⟩ := h
  exact hok

/-- A form write that passes the checks, with no notice kept, begins the formation and sends its notices (R266). -/
theorem State.form_begins (s : State) (c : Nat) (hoff : s.team c = tmOFF) (hmode : s.get (TM_CFG.mode c) ≠ 0)
    (hok : s.formOk c = true) (hforms : (s.tmAt c).forms = []) : s.form c = (s.formed c).sendForms c := by
  obtain ⟨htwo, hindex⟩ := TeamVals.ok_indices (s.n_staged_pair c) (State.ok_of_formOk hok)
  have htm : ((s.formed c).sendForms c).tmAt c = _ := ((s.formed c).tmAt_sendForms c).trans (s.tmAt_formed c)
  have hnone : (((s.formed c).sendForms c).tmAt c).forms = [] := by rw [htm]; exact hforms
  have hjudge : ((s.formed c).sendForms c).judge c = (s.formed c).sendForms c := by
    refine State.judge_waits (i := if (s.staged c).index = 0 then 1 else 0) (by simp [hnone]) ?_ ?_ (by rw [hnone]; rfl)
    all_goals rw [htm]; dsimp only; split <;> omega
  rw [← hjudge]
  refine (if_neg (by simp [hoff, hmode])).trans (if_neg (not_not.mpr hok))

end Sys2Proof.Machine

namespace Sys2Proof.Machine

/-! ### What the rows of formation do (R265, R266, R533) -/

/-- A form write that passes the checks, with no notice kept: FORMING with the staged values, and a notice to every other
index (R266). -/
theorem teamForm_begins (c : Ctx) (s : State) (hoff : s.team c = tmOFF) (hmode : s.get (TM_CFG.mode c) ≠ 0)
    (hok : s.formOk c = true) (hforms : (s.tmAt c).forms = []) :
    ∃ t : State, exec (.teamForm c) s = .next t.after ∧ t.team c = tmFORMING ∧ (t.tmAt c).vals = s.staged c
      ∧ (t.tmAt c).formAt = s.now ∧ t.get (TM_STAT.epoch c) = (s.staged c).epoch % 2 ^ (TM_STAT.epoch c).w
      ∧ t.fab.txq.length = s.fab.txq.length + ((s.staged c).n - 1)
      ∧ (∀ i < (s.staged c).n, i ≠ (s.staged c).index → ∃ x ∈ t.fab.txq, x.typ = 0x15 ∧ x.dst = (s.staged c).dev i
          ∧ x.body = leBytes 8 (t.get (TM_SHAPEF.digest c)))
      ∧ t = { s with regs := t.regs, tm := t.tm, fab := t.fab } := by
  obtain ⟨-, hindex⟩ := TeamVals.ok_indices (s.n_staged_pair c) (State.ok_of_formOk hok)
  have hframe := s.formed_frame c
  have htm := s.tmAt_formed c
  have hteam := s.team_formed c
  have hepoch := s.epoch_formed c
  have hexec : exec (.teamForm c) s = .next ((s.formed c).sendForms c).after :=
    congrArg fin (s.form_begins c hoff hmode hok hforms)
  generalize s.formed c = u at hframe htm hteam hepoch hexec
  have hvals : (u.tmAt c).vals = s.staged c := by rw [htm]
  have hfab : u.fab = s.fab := by rw [hframe]
  rw [State.sendForms_eq, hvals, hfab] at hexec
  refine ⟨_, hexec, hteam, hvals, congrArg TeamS.formAt htm, hepoch, ?_, fun i hi hne => ?_, ?_⟩
  · simp [State.setFab, TeamVals.length_others hindex]
  · refine ⟨u.formTo c i, List.mem_append_right _ (List.mem_map_of_mem ?_), rfl, ?_, rfl⟩
    · exact List.mem_filter.mpr ⟨List.mem_range.mpr hi, by simp [hne]⟩
    · rw [← hvals]; rfl
  · rw [hframe]; rfl

section
variable {bytes : List Byte} {m : Msg} {s : State} (hacc : accepted 0x15 bytes m s = true)
  (hgen : m.gen = s.get (GL_CTX_STAT.gen m.ctx))
include hacc hgen

/-- A notice that arrives while the team is OFF is kept with its time of arrival (R533). -/
theorem form_kept (hoff : s.team m.ctx = tmOFF) : ∃ t : State, exec (.form bytes) s = .next t.after
    ∧ Tbl.find (t.tmAt m.ctx).forms m.member = some (s.noteOf m) ∧ t = { s with tm := t.tm, out := t.out } := by
  refine ⟨s.keepForm m, (State.receive_accepted _ hacc).trans (congrArg fin (State.takeForm_off hgen hoff)), ?_, rfl⟩
  rw [State.tmAt_keepForm]
  exact Tbl.find_ins_same _ _ _

variable (hforming : s.team m.ctx = tmFORMING) (hjudged : s.judged m.ctx m.member (s.noteOf m) = true)
include hforming hjudged

/-- A notice that is judged while the team is FORMING is judged with all kept ones (R266). -/
theorem exec_form_forming : exec (.form bytes) s = .next ((s.keepForm m).judge m.ctx).after :=
  (State.receive_accepted _ hacc).trans (congrArg fin (State.takeForm_forming hgen hforming hjudged))

/-- The last agreeing notice completes the formation (R266). -/
theorem form_completes (hagrees : s.agrees m.ctx (s.noteOf m) = true)
    (hsame : ∀ e ∈ (s.tmAt m.ctx).forms, s.judged m.ctx e.1 e.2 = true → s.agrees m.ctx e.2 = true)
    (hall : ∀ i < (s.tmAt m.ctx).vals.n, i ≠ (s.tmAt m.ctx).vals.index → i ≠ m.member →
      ∃ f : FormNote, Tbl.find (s.tmAt m.ctx).forms i = some f ∧ s.judged m.ctx i f = true ∧ s.agrees m.ctx f = true) :
    ∃ t : State, exec (.form bytes) s = .next t.after ∧ t.team m.ctx = tmENCODING ∧ (t.tmAt m.ctx).forms = []
      ∧ (t.tmAt m.ctx).vals = (s.tmAt m.ctx).vals := by
  have htm := s.tmAt_keepForm m
  have hsame' : ∀ e ∈ ((s.keepForm m).tmAt m.ctx).forms, (s.keepForm m).judged m.ctx e.1 e.2 = true →
      (s.keepForm m).agrees m.ctx e.2 = true := by
    simp only [State.judged_keepForm, State.agrees_keepForm, htm]
    intro e he hje
    obtain rfl | he := Tbl.mem_ins he
    · exact hagrees
    · exact hsame e he hje
  have hall' : ∀ i < ((s.keepForm m).tmAt m.ctx).vals.n, i ≠ ((s.keepForm m).tmAt m.ctx).vals.index → ∃ f : FormNote,
      Tbl.find ((s.keepForm m).tmAt m.ctx).forms i = some f ∧ (s.keepForm m).judged m.ctx i f = true
        ∧ (s.keepForm m).agrees m.ctx f = true := by
    simp only [State.judged_keepForm, State.agrees_keepForm, htm]
    intro i hi hne
    by_cases hown : i = m.member
    · rw [hown]
      exact ⟨s.noteOf m, Tbl.find_ins_same _ _ _, hjudged, hagrees⟩
    · rw [Tbl.find_ins_ne _ _ _ _ hown]
      exact hall i hi hne hown
  have hjudge := State.judge_agrees hsame' hall'
  refine ⟨_, (exec_form_forming hacc hgen hforming hjudged).trans (congrArg fin hjudge), ?_, ?_⟩
  · rw [State.team, State.get_announceTeam_high _ _ _ (by simp only [Loc.key, TM_STAT.state]; omega), State.get_setTm,
      State.get_set_same]
    rfl
  · rw [State.tmAt_announceTeam, State.tmAt_setTm_same, htm]
    exact ⟨rfl, rfl⟩

/-- A notice that is judged and differs ends the formation (R266). -/
theorem form_fails (hdiffers : s.agrees m.ctx (s.noteOf m) = false) : ∃ t : State, exec (.form bytes) s = .next t.after
    ∧ t.team m.ctx = tmOFF ∧ t.is (TM_STAT.form_err m.ctx) = true := by
  have hkept : (m.member, s.noteOf m) ∈ ((s.keepForm m).tmAt m.ctx).forms := by
    rw [State.tmAt_keepForm]
    exact Tbl.mem_of_find (Tbl.find_ins_same _ _ _)
  obtain ⟨hteam, herr, -⟩ := (s.keepForm m).formFail_shows m.ctx
  have hjudge : (s.keepForm m).judge m.ctx = (s.keepForm m).formFail m.ctx :=
    State.judge_differs hkept ((s.judged_keepForm m _ _).trans hjudged) ((s.agrees_keepForm m _).trans hdiffers)
  exact ⟨_, (exec_form_forming hacc hgen hforming hjudged).trans (congrArg fin hjudge), hteam, herr⟩

end

/-- Settles O41: a form write by the branch it takes, a notice by whether the team listens and what it is judged to say, a
timeout as a formation that fails. -/
theorem teamsFormWhenEveryMemberAgrees : Obligations.TeamsFormWhenEveryMemberAgrees := by
  unfold Obligations.TeamsFormWhenEveryMemberAgrees
  refine ⟨teamForm_begins, fun c s hoff hmode hbad => ?_, fun c s hon => ?_, fun bytes m s hacc hoff hgen => ?_,
    fun bytes m s hacc hforming hgen hjudged hagrees hsame hall => ?_,
    fun bytes m s hacc hforming hgen hjudged hdiffers => ?_, fun c s hforming hdue => ?_⟩
  · exact congrArg fin ((if_neg (by simp [hoff, hmode])).trans (if_pos (by simp [hbad])))
  · exact congrArg fin (if_pos (.inl hon))
  · exact form_kept hacc hgen hoff
  · exact form_completes hacc hgen hforming hjudged hagrees hsame hall
  · exact form_fails hacc hgen hforming hjudged hdiffers
  · exact ⟨_, if_pos ⟨hforming, hdue⟩, s.formFail_shows c⟩

end Sys2Proof.Machine

namespace Sys2Proof.Machine

/-! ### Applies and dissolves (R265, R267, R268, R269) -/

/-- Every state that an apply leads to is one of R265. -/
theorem teamNext_lt (state : Nat) (old new : TeamVals) : teamNext state old new < 2 ^ 3 := by
  unfold teamNext
  extract_lets layout
  repeat' split
  all_goals decide

/-- A team's hidden state, its state and its values come into force together, the apply bit cleared (R268, R269). -/
def State.inForce (s : State) (c state : Nat) (x : TeamS) : State :=
  ((((s.setTm c x).set (TM_STAT.state c) state).set (TM_CTL.apply c) 0).syncTeam c).announceTeam c

section
variable (s : State) (c state : Nat) (x : TeamS)

/-- What comes into force is what the team holds (R269). -/
theorem State.tmAt_inForce : (s.inForce c state x).tmAt c = x := by
  rw [State.inForce, State.tmAt_announceTeam, State.syncTeam_only_regs]
  exact State.tmAt_setTm_same s c x

/-- The team's state as given (R268). -/
theorem State.team_inForce (h : state < 2 ^ 3) : (s.inForce c state x).team c = state := by
  rw [State.team, State.inForce, State.get_announceTeam_high _ _ _ (by simp only [Loc.key, TM_STAT.state]; omega),
    State.get_syncTeam_ne _ _ _ (teamViews_apart (.inl rfl)),
    State.get_set_ne _ _ _ _ (by simp only [Loc.key, TM_STAT.state, TM_CTL.apply]; omega), State.get_set_same]
  exact Nat.mod_eq_of_lt h

/-- The apply bit reads 0 again (R269). -/
theorem State.apply_inForce : (s.inForce c state x).get (TM_CTL.apply c) = 0 := by
  rw [State.inForce, State.get_announceTeam_high _ _ _ (by simp only [Loc.key, TM_CTL.apply]; omega),
    State.get_syncTeam_ne _ _ _ (teamViews_apart (.inr rfl)), State.get_set_same]
  rfl

/-- TM_STAT shows the epoch that is in force (R267). -/
theorem State.epoch_inForce : (s.inForce c state x).get (TM_STAT.epoch c) = x.vals.epoch % 2 ^ (TM_STAT.epoch c).w := by
  rw [State.inForce, State.get_announceTeam_high _ _ _ (by simp only [Loc.key, TM_STAT.epoch]; omega), State.epoch_syncTeam]
  exact congrArg (fun x : TeamS => x.vals.epoch % 2 ^ (TM_STAT.epoch c).w) (State.tmAt_setTm_same s c x)

end

/-- A slot's kept stable notices of a context dropped, its rejoined members noted by `gone` (R269, R385). -/
def State.dropNotices (s : State) (c : Nat) (gone : Nat → List Nat → List Nat) (n : Nat) : State :=
  s.setStb n ⟨(s.stbAt n).ready.filter (fun i => i / 16 ≠ c), (s.stbAt n).done.filter (fun i => i / 16 ≠ c),
    gone n (s.stbAt n).gone⟩

/-- Dropping a slot's notices changes no register field. -/
theorem State.regs_dropNotices (s : State) (c : Nat) (gone : Nat → List Nat → List Nat) (n : Nat) :
    (s.dropNotices c gone n).regs = s.regs := rfl

/-- Dropping a slot's notices changes no team. -/
theorem State.tmAt_dropNotices (s : State) (c : Nat) (gone : Nat → List Nat → List Nat) (n d : Nat) :
    (s.dropNotices c gone n).tmAt d = s.tmAt d := rfl

/-- No dropped notice is kept in any slot (R269). -/
theorem State.ready_foldl_dropNotices (s : State) (c : Nat) (gone : Nat → List Nat → List Nat) {n : Nat} (hn : n < 16) :
    ∀ i ∈ (((List.range 16).foldl (fun s n => s.dropNotices c gone n) s).stbAt n).ready, i / 16 ≠ c := by
  obtain ⟨t, -, hfold⟩ := State.foldl_at (State.stbAt · n) (fun s n => s.dropNotices c gone n) List.nodup_range
    (List.mem_range.mpr hn) (fun _ _ hx => State.stbAt_setStb_ne _ _ _ _ hx.symm) s
  rw [hfold, State.dropNotices, State.stbAt_setStb_same]
  intro i hi
  simpa using (List.mem_filter.mp hi).2

/-- What an apply puts in force: the new values, with no touch map and nothing pending (R269). -/
def TeamS.apply (x : TeamS) (v : TeamVals) : TeamS := { x with vals := v, pending := none, touch := [], fullRan := false }

/-- An apply's values come into force in a state whose team work is cut, slots of another layout turn stale, and the
context's stable notices go (R268, R269, R289). -/
theorem State.takeApply_steps (s : State) (c : Nat) (v : TeamVals) : ∃ (u : State) (slots : List Nat)
    (gone : Nat → List Nat → List Nat), s.takeApply c v =
      (List.range 16).foldl (fun s n => s.dropNotices c gone n) (slots.foldl (fun s n => s.set (TM_STB.stale n) 1)
        (u.inForce c (teamNext (s.team c) (s.tmAt c).vals v) ((s.tmAt c).apply v))) := by
  unfold State.takeApply
  extract_lets t state slots lay s1 s2 s3 s4 s5 s6 s7
  have hforce : s6 = s4.inForce c state (t.apply v) := rfl
  have hstale : s7 = (if lay then slots else []).foldl (fun s n => s.set (TM_STB.stale n) 1) s6 := by
    simp only [s7]
    split <;> rfl
  rw [hstale, hforce]
  exact ⟨s4, _, fun n g => if slots.contains n ∧ ¬ lay then (rejoined t.vals v).foldl setAdd g else g, rfl⟩

/-- An apply that takes effect: its values and the state of R268 are in force, nothing is pending, and no stable notice of
the context is kept (R267, R268, R269). -/
theorem State.takeApply_shows (s : State) {c : Nat} (hc : c < 4) (v : TeamVals) :
    ((s.takeApply c v).tmAt c).vals = v ∧ ((s.takeApply c v).tmAt c).pending = none
      ∧ (s.takeApply c v).team c = teamNext (s.team c) (s.tmAt c).vals v ∧ (s.takeApply c v).get (TM_CTL.apply c) = 0
      ∧ (s.takeApply c v).get (TM_STAT.epoch c) = v.epoch % 2 ^ (TM_STAT.epoch c).w
      ∧ (∀ n < 16, ∀ i ∈ ((s.takeApply c v).stbAt n).ready, i / 16 ≠ c) := by
  obtain ⟨u, slots, gone, heq⟩ := s.takeApply_steps c v
  rw [heq]
  generalize hw : u.inForce c (teamNext (s.team c) (s.tmAt c).vals v) ((s.tmAt c).apply v) = w
  generalize hx : slots.foldl (fun s n => s.set (TM_STB.stale n) 1) w = x
  have hregs : ((List.range 16).foldl (fun s n => s.dropNotices c gone n) x).regs = x.regs :=
    State.foldl_keeps State.regs _ (fun s n => s.regs_dropNotices c gone n) _ x
  have hfields (l : Loc) (hl : l.key / 64 < 0x13800) :
      ((List.range 16).foldl (fun s n => s.dropNotices c gone n) x).get l = w.get l := by
    rw [State.get, hregs, ← hx]
    exact State.foldl_keeps (State.get · l) _
      (fun _ n => State.get_set_ne _ _ _ _ (by simp only [Loc.key, TM_STB.stale] at hl ⊢; omega)) slots w
  have htm : ((List.range 16).foldl (fun s n => s.dropNotices c gone n) x).tmAt c = (s.tmAt c).apply v := by
    have hdrop := State.foldl_keeps (State.tmAt · c) _ (fun s n => s.tmAt_dropNotices c gone n c) (List.range 16) x
    have hmark : x.tmAt c = w.tmAt c := 
      hx ▸ State.foldl_keeps (State.tmAt · c) (fun s n => s.set (TM_STB.stale n) 1) (fun _ _ => rfl) slots w
    exact hdrop.trans (hmark.trans (hw ▸ u.tmAt_inForce c _ _))
  have hlow {off lo : Nat} (hoff : off < 0x13020 + 0x100 * c) (hlo : lo < 64) : (64 * off + lo) / 64 < 0x13800 := by omega
  refine ⟨congrArg TeamS.vals htm, congrArg TeamS.pending htm, ?_, ?_, ?_, fun n hn => x.ready_foldl_dropNotices c gone hn⟩
  · rw [State.team, hfields _ (hlow (show 0x13018 + 0x100 * c < _ by omega) (show 0 < 64 by decide)), ← hw]
    exact State.team_inForce _ _ _ _ (teamNext_lt _ _ _)
  · rw [hfields _ (hlow (show 0x13010 + 0x100 * c < _ by omega) (show 1 < 64 by decide)), ← hw, State.apply_inForce]
  · rw [hfields _ (hlow (show 0x13018 + 0x100 * c < _ by omega) (show 8 < 64 by decide)), ← hw, State.epoch_inForce]
    rfl

/-! ### What the rows of an apply and a dissolve do -/

/-- No STEP_END of the context stands between its vote and its halt or abort (R269, R299). -/
theorem no_vote_awaits_notice {s : State} {c : Nat} (hown : (s.cmAt c).own = none) (hphase : s.phase c ≠ phARMED)
    (hpend : (s.cmAt c).abortPend = none) :
    ¬ ((s.cmAt c).own.isSome = true ∨ s.phase c = phARMED ∨ (s.cmAt c).abortPend.isSome = true) := by
  simp [hown, hphase, hpend]

/-- An apply write that passes the checks keeps its values until they take effect (R267). -/
theorem teamApply_waits (c : Ctx) (s : State) (hnone : (s.tmAt c).pending = none) (hon : s.team c ≠ tmOFF)
    (hformed : s.team c ≠ tmFORMING) (hok : s.applyOk c = true) :
    ∃ t : State, exec (.teamApply c) s = .next t.after ∧ (t.tmAt c).pending = some (s.staged c)
      ∧ (t.tmAt c).vals = (s.tmAt c).vals ∧ t.get (TM_CTL.apply c) = 1 ∧ t = { s with regs := t.regs, tm := t.tm } := by
  have htm := State.tmAt_setTm_same s c { s.tmAt c with pending := some (s.staged c) }
  refine ⟨(s.setTm c { s.tmAt c with pending := some (s.staged c) }).set (TM_CTL.apply c) 1, ?_, congrArg TeamS.pending htm,
    (congrArg TeamS.vals htm :), State.get_set_same _ _ _, rfl⟩
  exact congrArg fin ((if_neg (by simp [hnone])).trans (if_neg (by simp [hon, hformed, hok])))

/-- A pending apply with no voted STEP_END takes effect (R269). -/
theorem exec_teamApplyEffect_due (c : Ctx) (s : State) (v : TeamVals) (hpend : (s.tmAt c).pending = some v)
    (hfree : ¬ ((s.cmAt c).own.isSome = true ∨ s.phase c = phARMED ∨ (s.cmAt c).abortPend.isSome = true)) :
    exec (.teamApplyEffect c) s = .next (s.takeApply c v).after := by
  show execTeamApplyEffect c s = _
  rw [execTeamApplyEffect, hpend]
  exact if_neg hfree

/-- A pending apply waits for the halt or abort of a voted STEP_END (R269). -/
theorem exec_teamApplyEffect_waits (c : Ctx) (s : State) (hpend : (s.tmAt c).pending.isSome = true)
    (hvoted : (s.cmAt c).own.isSome = true ∨ s.phase c = phARMED ∨ (s.cmAt c).abortPend.isSome = true) :
    exec (.teamApplyEffect c) s = .next s := by
  obtain ⟨v, hpend⟩ := Option.isSome_iff_exists.mp hpend
  show execTeamApplyEffect c s = _
  rw [execTeamApplyEffect, hpend]
  exact if_pos hvoted

/-- Settles O42: each write by its branch, and the effect at its point by what `State.takeApply` and `State.dissolve`
show. -/
theorem appliesAndDissolvesTakeEffectAtTheirPoint : Obligations.AppliesAndDissolvesTakeEffectAtTheirPoint := by
  unfold Obligations.AppliesAndDissolvesTakeEffectAtTheirPoint
  refine ⟨teamApply_waits, fun c s hnone hbad => ?_, fun c s hpend => ?_, fun c s v hpend hown hphase habort => ?_,
    exec_teamApplyEffect_waits, fun c s hon hown hphase habort => ?_, fun c s hon hvoted => ?_⟩
  · exact congrArg fin ((if_neg (by simp [hnone])).trans (if_pos (by simpa using hbad)))
  · exact congrArg fin (if_pos hpend)
  · exact ⟨_, exec_teamApplyEffect_due c s v hpend (no_vote_awaits_notice hown hphase habort), s.takeApply_shows c.isLt v⟩
  · refine ⟨s.dissolve c, ?_, s.team_dissolve c, s.tmAt_dissolve c, fun n hn => s.is_coded_dissolve c.isLt hn⟩
    exact congrArg fin ((if_neg hon).trans (if_neg (no_vote_awaits_notice hown hphase habort)))
  · exact congrArg fin ((if_neg hon).trans (if_pos hvoted))

end Sys2Proof.Machine

namespace Sys2Proof.Machine

/-! ### Team messages held, answered and dropped (R279, R280, R281, R348, R356, R359) -/

/-- A message that bytes carry has the header that both forms share (R343, R345). -/
theorem head_of_parseMsg {bytes : List Byte} {m : Msg} (h : parseMsg bytes = some m) :
    ∃ team stripe step body, m = { parseHead bytes with team := team, stripe := stripe, step := step, body := body } := by
  simp only [parseMsg, parseFrag, parseCommon] at h
  split_ifs at h
  · exact ⟨_, _, _, _, (Option.some.inj h).symm⟩
  · exact ⟨_, _, _, _, (Option.some.inj h).symm⟩

/-- An accepted message carries its row's type (R347). -/
theorem typ_of_accepted {typ : Nat} {bytes : List Byte} {m : Msg} {s : State} (h : accepted typ bytes m s = true) :
    m.typ = typ := by
  simp only [accepted, Bool.and_eq_true, beq_iff_eq] at h
  obtain ⟨⟨htyp, hparse⟩, -⟩ := h
  obtain ⟨team, stripe, step, body, rfl⟩ := head_of_parseMsg hparse
  exact htyp

/-- A request held in the REQ buffer counts in FB_INQ alone (R359). -/
theorem State.get_keepReq_ne (s : State) (m : Msg) (busy : Bool) (l : Loc) (h : l.key / 64 ≠ 0x15240) :
    (s.keepReq m busy).1.get l = s.get l := by
  have hused : l.key ≠ FB_INQ.req_used.key := by simp only [Loc.key, FB_INQ.req_used] at h ⊢; omega
  have hpeak : l.key ≠ FB_INQ.req_peak.key := by simp only [Loc.key, FB_INQ.req_peak] at h ⊢; omega
  simp only [State.keepReq, State.wrapInc_eq, State.get_set_ne _ _ _ _ hused, State.get_set_ne _ _ _ _ hpeak]
  rfl

/-- A request held stands last in the REQ buffer, and beside it register fields and the port's numbering change alone
(R359). -/
theorem State.keepReq_frame (s : State) (m : Msg) (busy : Bool) : (s.keepReq m busy).1 =
    { s with regs := (s.keepReq m busy).1.regs
             fab := { s.fab with reqs := s.fab.reqs ++ [{ id := s.fab.nextId, msg := m, busy := busy }]
                                 nextId := s.fab.nextId + 1 } } := by
  unfold State.keepReq
  rfl

/-- The body of a drop: its status, and the type of the message that it answers (R348). -/
theorem leAt_drop_body (status typ : Nat) :
    leAt (leBytes 1 status ++ leBytes 1 typ ++ leBytes 2 0) 0 1 = status % 256
      ∧ leAt (leBytes 1 status ++ leBytes 1 typ ++ leBytes 2 0) 1 1 = typ % 256 := by
  simp [leAt, leBytes, leNat]

/-- A drop answers the sender with its status and the message's type, and leaves the running work (R348). -/
theorem State.drop_shows (s : State) (m : Msg) (status : Nat) : (s.drop m status).jobs = s.jobs
    ∧ ∃ x ∈ (s.drop m status).fab.txq, x.dst = m.src ∧ x.at_ 0 1 = status % 256 ∧ x.at_ 1 1 = m.typ % 256 := by
  obtain ⟨hstatus, htyp⟩ := leAt_drop_body status m.typ
  unfold State.drop
  extract_lets u body
  have hjobs : u.jobs = s.jobs := by simp only [u]; split_ifs <;> rfl
  split
  · exact ⟨hjobs, _, List.mem_append_right _ (List.mem_singleton_self _), rfl, hstatus, htyp⟩
  · exact ⟨hjobs, _, List.mem_append_right _ (List.mem_singleton_self _), rfl, hstatus, htyp⟩

/-- Freeing a place of the REQ buffer leaves the running work (R359). -/
theorem State.jobs_freeReq (s : State) (id : Nat) : (s.freeReq id).jobs = s.jobs := by
  unfold State.freeReq
  split <;> rfl

/-- A drop that frees its request answers the sender, and starts no work (R280, R348). -/
theorem State.drop_freeReq_shows (s : State) (q : InReq) (status : Nat) : ((s.drop q.msg status).freeReq q.id).jobs = s.jobs
    ∧ ∃ x ∈ ((s.drop q.msg status).freeReq q.id).fab.txq,
        x.dst = q.msg.src ∧ x.at_ 0 1 = status % 256 ∧ x.at_ 1 1 = q.msg.typ % 256 := by
  rw [State.jobs_freeReq, State.txq_freeReq]
  exact s.drop_shows q.msg status

/-- A queued delta of another team or epoch, or one that R280 refuses, is dropped (R279, R280). -/
theorem State.serveDelta_drops (q : InReq) (s : State)
    (h : s.teamMsgOk q.msg = false ∨ (s.deltaEarly q.msg = false ∧ s.deltaBad q.msg = true)) :
    (s.serveDelta q).jobs = s.jobs ∧ ∃ x ∈ (s.serveDelta q).fab.txq, x.dst = q.msg.src ∧ x.at_ 0 1 = stREMOTEDROPPED
      ∧ x.at_ 1 1 = q.msg.typ % 256 := by
  have hdrop := s.drop_freeReq_shows q stREMOTEDROPPED
  unfold State.serveDelta
  extract_lets c
  by_cases hok : s.teamMsgOk q.msg = true
  · obtain ⟨hearly, hbad⟩ := h.resolve_left (by simp [hok])
    rw [if_neg (by simp [hearly]), if_neg (not_not.mpr hok), if_pos hbad]
    exact hdrop
  · rw [if_neg (by simp [hok]), if_pos hok]
    exact hdrop

/-- A queued delta that R279 and R280 let through becomes work that applies it (R281). -/
theorem State.serveDelta_applies (q : InReq) (s : State) (hok : s.teamMsgOk q.msg = true)
    (hearly : s.deltaEarly q.msg = false) (hbad : s.deltaBad q.msg = false) :
    (s.serveDelta q).jobs.length = s.jobs.length + 1
      ∧ ∃ j ∈ (s.serveDelta q).jobs, j.owner = .delta q.msg ∧ j.segs = [.apply] := by
  unfold State.serveDelta
  extract_lets c
  rw [if_neg (by simp [hearly]), if_neg (not_not.mpr hok), if_neg (by simp [hbad])]
  exact ⟨List.length_append, _, List.mem_append_right _ (List.mem_singleton_self _), rfl, rfl⟩

/-- A DELTA waits in the REQ buffer; one of the next step under an armed halt is counted (R280, R281, R283). -/
theorem delta_waits (bytes : List Byte) (m : Msg) (s : State) (hacc : accepted 0x10 bytes m s = true) :
    ∃ (t : State) (r : InReq), exec (.delta bytes) s = .next t.after ∧ t.fab.reqs = s.fab.reqs ++ [r] ∧ r.msg = m
      ∧ r.busy = false
      ∧ t.get (TM_HSTAT.held m.ctx) = (if s.deltaEarly m then
          min (2 ^ (TM_HSTAT.held m.ctx).w - 1) (s.get (TM_HSTAT.held m.ctx) + 1) % 2 ^ (TM_HSTAT.held m.ctx).w
        else s.get (TM_HSTAT.held m.ctx))
      ∧ t = { s with regs := t.regs, fab := t.fab } := by
  have hctx := ctx_lt_of_accepted hacc
  have hheld : (s.keepReq m false).1.get (TM_HSTAT.held m.ctx) = s.get (TM_HSTAT.held m.ctx) :=
    s.get_keepReq_ne m false _ (by simp only [Loc.key, TM_HSTAT.held]; omega)
  have htake : s.takeDelta m = if s.deltaEarly m then (s.keepReq m false).1.satInc (TM_HSTAT.held m.ctx) 1
    else (s.keepReq m false).1 := rfl
  have hframe := s.keepReq_frame m false
  refine ⟨s.takeDelta m, { id := s.fab.nextId, msg := m, busy := false }, State.receive_accepted _ hacc, ?_⟩
  rw [htake]
  generalize (s.keepReq m false).1 = u at hheld hframe
  have hreqs : u.fab.reqs = s.fab.reqs ++ [{ id := s.fab.nextId, msg := m, busy := false }] := by rw [hframe]
  split
  · refine ⟨hreqs, rfl, rfl, ?_, by rw [hframe]; rfl⟩
    rw [State.satInc_eq, State.get_set_same, hheld]
  · exact ⟨hreqs, rfl, rfl, hheld, by rw [hframe]⟩

/-- A FRAG_ACK ends the request that it answers (R276, R281, R356). -/
theorem fragAck_frees (bytes : List Byte) (m : Msg) (s : State) (o : FabOut) (hacc : accepted 0x11 bytes m s = true)
    (hasked : s.asked m = some o) :
    ∃ t : State, exec (.fragAck bytes) s = .next t.after ∧ t.fab.outs = dropOut s.fab.outs o
      ∧ t = { s with regs := t.regs, fab := t.fab, out := t.out } := by
  have hasked' : (s.done m).asked m = some o := hasked
  have htake : s.takeFragAck m = (s.done m).endOut o := by rw [State.takeFragAck, hasked']
  obtain ⟨houts, hframe⟩ := (s.done m).endOut_frame o
  refine ⟨_, (State.receive_accepted _ hacc).trans (congrArg fin htake), houts, ?_⟩
  rw [hframe]
  rfl

/-! ### The drop of a delta (R91, R280, R313) -/

/-- An open interval whose vote has not been sent is marked failed (R91, R313). -/
theorem State.failed_failInterval (s : State) (c reason : Nat) (hown : (s.cmAt c).own = none) (hvoted : s.phase c ≠ phVOTED)
    (harmed : s.phase c ≠ phARMED) (hdoubt : s.phase c ≠ phINDOUBT) :
    (s.failInterval c reason).is (CM_STAT.failed c) = true := by
  unfold State.failInterval
  rw [if_neg (by simp [hown, hvoted, harmed, hdoubt])]
  split
  next hfailed => exact hfailed
  next => rw [State.is, State.get_setCm, State.get_set_same]; rfl

/-- A reply answers a request of its own context (R349). -/
theorem State.ctx_of_asked {s : State} {m : Msg} {o : FabOut} (h : s.asked m = some o) : o.ctx = m.ctx := by
  have hmeets : o.meets m = true := by
    rw [State.asked, Option.or_eq_some_iff] at h
    obtain h | ⟨-, h⟩ := h
    · have hfound := List.find?_some h
      simp only [Bool.and_eq_true] at hfound
      obtain ⟨⟨hmeets, -⟩, -⟩ := hfound
      exact hmeets
    · exact List.find?_some (p := fun o : FabOut => o.meets m) h
  simp only [FabOut.meets, Bool.and_eq_true, beq_iff_eq] at hmeets
  obtain ⟨⟨-, hctx⟩, -⟩ := hmeets
  exact hctx

/-- Ending a request counts in its engine's register alone (R356). -/
theorem State.get_endOut_low (s : State) (o : FabOut) (l : Loc) (h : l.key / 64 < 0x15200) :
    (s.endOut o).get l = s.get l := by
  unfold State.endOut
  extract_lets t
  split
  · rw [State.dec_eq, State.get_set_ne _ _ _ _ (by simp only [Loc.key, FB_ENG.outstanding] at h ⊢; omega)]
    rfl
  · rfl

/-- The state in which a drop reply is judged: its message has left, what it says of its sender is reported, and the request
is over (R352, R366). -/
def State.dropHeard (s : State) (m : Msg) (o : FabOut) : State :=
  (if m.at_ 0 1 = stREMOTEDROPPED then (s.done m).observe m.src 4 else s.done m).endOut o

/-- Hearing a drop leaves the commit engine and every field below the fabric's as they were. -/
theorem State.dropHeard_keeps (s : State) (m : Msg) (o : FabOut) :
    (s.dropHeard m o).cm = s.cm ∧ ∀ l : Loc, l.key / 64 < 0x15200 → (s.dropHeard m o).get l = s.get l := by
  have hreports : Reports (s.done m) (if m.at_ 0 1 = stREMOTEDROPPED then (s.done m).observe m.src 4 else s.done m) := by
    split
    · exact .observe _ _ _
    · exact .refl _
  unfold State.dropHeard
  generalize (if m.at_ 0 1 = stREMOTEDROPPED then (s.done m).observe m.src 4 else s.done m) = u at hreports
  refine ⟨?_, fun l hl => ?_⟩
  · obtain ⟨-, hframe⟩ := u.endOut_frame o
    rw [hframe, hreports.rest]
    rfl
  · have hreport : reportOff (l.key / 64) = false := by
      simp only [reportOff, Bool.or_eq_false_iff, beq_eq_false_iff_ne]; omega
    exact (State.get_endOut_low _ _ _ hl).trans (hreports.fields l hreport)

/-- The drop of a delta of the open interval fails it (R280). -/
theorem State.takeFragDrop_delta {s : State} {m : Msg} {o : FabOut} (hasked : s.asked m = some o) (htyp : o.typ = 0x10)
    (hstripe : o.stripe < 2 ^ 43) (hcseq : o.cseq = s.get (CM_STAT.cseq o.ctx)) (hctx : o.ctx < 4) (l : Loc) :
    (s.takeFragDrop m).get l = ((s.dropHeard m o).failInterval o.ctx (m.at_ 0 1)).get l := by
  have hasked' : (s.done m).asked m = some o := hasked
  obtain ⟨-, hfields⟩ := s.dropHeard_keeps m o
  have hwork : (s.dropHeard m o).dropWork o (m.at_ 0 1) = (s.dropHeard m o).failInterval o.ctx (m.at_ 0 1) := by
    refine (if_pos ⟨htyp, hstripe⟩).trans (if_pos ?_)
    rw [hfields _ (by simp only [Loc.key, CM_STAT.cseq]; omega), hcseq]
  rw [State.takeFragDrop]
  simp only [hasked']
  rw [State.dropHeard] at hwork ⊢
  rw [hwork]
  split
  · split <;> rfl
  · rfl

/-- A FRAG_DROP of a delta of the open interval fails it while the member has not voted (R280, R313). -/
theorem fragDrop_fails (bytes : List Byte) (m : Msg) (s : State) (o : FabOut) (hacc : accepted 0x12 bytes m s = true)
    (hasked : s.asked m = some o) (htyp : o.typ = 0x10) (hstripe : o.stripe < 2 ^ 43)
    (hcseq : o.cseq = s.get (CM_STAT.cseq o.ctx)) (hown : (s.cmAt o.ctx).own = none) (hvoted : s.phase o.ctx ≠ phVOTED)
    (harmed : s.phase o.ctx ≠ phARMED) (hdoubt : s.phase o.ctx ≠ phINDOUBT) :
    ∃ t : State, exec (.fragDrop bytes) s = .next t.after ∧ t.is (CM_STAT.failed o.ctx) = true := by
  have hctx : o.ctx < 4 := State.ctx_of_asked hasked ▸ ctx_lt_of_accepted hacc
  obtain ⟨hcm, hfields⟩ := s.dropHeard_keeps m o
  have hphase : (s.dropHeard m o).phase o.ctx = s.phase o.ctx :=
    hfields _ (by simp only [Loc.key, CM_STAT.phase]; omega)
  refine ⟨s.takeFragDrop m, State.receive_accepted _ hacc, ?_⟩
  rw [State.is, State.takeFragDrop_delta hasked htyp hstripe hcseq hctx]
  exact State.failed_failInterval _ _ _ (by rw [State.cmAt, hcm]; exact hown) (hphase ▸ hvoted) (hphase ▸ harmed)
    (hphase ▸ hdoubt)

end Sys2Proof.Machine

namespace Sys2Proof.Machine

/-! ### Fetches (R292, R296, R383) -/

section
variable {s : State} {m : Msg}

/-- A fetch of a slot that holds no team parity here is answered MEM_LOST (R292, notes/assumptions/24.md). -/
theorem State.takeFetch_lost (hformed : s.team m.ctx ≠ tmFORMING) (himage : imageOf m.stripe ≠ 0)
    (hlost : 16 < imageOf m.stripe ∨ s.slotParity m.ctx (imageOf m.stripe - 1) = false) :
    s.takeFetch m = (s.drop m stMEMLOST).done m := by
  refine (if_neg hformed).trans (if_pos ⟨himage, ?_⟩)
  rintro ⟨hslot, hparity⟩
  obtain hbeyond | hnone := hlost
  · omega
  · rw [hnone] at hparity; cases hparity

/-- Any other fetch becomes work that reads the fragment, as recovery or background work by its rcv bit (R292). -/
theorem State.takeFetch_serves (hformed : s.team m.ctx ≠ tmFORMING)
    (hheld : imageOf m.stripe = 0 ∨ (imageOf m.stripe ≤ 16 ∧ s.slotParity m.ctx (imageOf m.stripe - 1) = true)) :
    ∃ j : Job, (s.takeFetch m).jobs = s.jobs ++ [j] ∧ j.owner = .fetch m ∧ j.ctx = m.ctx ∧ j.cls = (if m.rcv then 2 else 0)
      ∧ s.takeFetch m = { s with regs := (s.takeFetch m).regs, fab := (s.takeFetch m).fab, jobs := (s.takeFetch m).jobs,
                                 nextJob := (s.takeFetch m).nextJob } := by
  unfold State.takeFetch
  extract_lets n
  have hserved : ¬ (imageOf m.stripe ≠ 0 ∧ ¬ (n < 16 ∧ s.slotParity m.ctx n = true)) := by
    rintro ⟨himage, hmissing⟩
    obtain ⟨hslot, hparity⟩ := hheld.resolve_left himage
    exact hmissing ⟨by omega, hparity⟩
  rw [if_neg hformed, if_neg hserved]
  have hframe := s.keepReq_frame m true
  split
  next u id hkept =>
    rw [hkept] at hframe
    dsimp only at hframe
    extract_lets v decode
    refine ⟨_, (show _ = u.jobs ++ [_] from rfl).trans (by rw [hframe]), rfl, rfl, rfl, ?_⟩
    rw [hframe]
    rfl

/-- An answered request leaves the running work (R356). -/
theorem State.jobs_endOut (s : State) (o : FabOut) : (s.endOut o).jobs = s.jobs := by
  obtain ⟨-, hframe⟩ := s.endOut_frame o
  rw [hframe]

variable {o : FabOut} {j : Job} (hasked : s.asked m = some o) (hjob : s.job o.job = some j) (hrun : j.ending = none)
include hasked hjob hrun

/-- A fragment for a running command ends its request and goes to the audit that asked (R296). -/
theorem State.takeFetchData_command (hcommand : j.isCommand = true) :
    s.takeFetchData m = ((s.done m).endOut o).fetchedAudit o m := by
  have hasked' : (s.done m).asked m = some o := hasked
  have hjob' : ((s.done m).endOut o).job o.job = some j := by rw [State.job, State.jobs_endOut]; exact hjob
  obtain ⟨c, q, e, howner⟩ : ∃ c q e, j.owner = .cmd c q e := by
    unfold Job.isCommand at hcommand
    split at hcommand
    next c q e howner => exact ⟨c, q, e, howner⟩
    next => cases hcommand
  simp [State.takeFetchData, hasked', hjob', hrun, howner]

/-- A fragment for a running rebuild ends its request and goes to the rebuild (R383). -/
theorem State.takeFetchData_rebuild {c : Nat} (howner : j.owner = .rebuild c) :
    s.takeFetchData m = ((s.done m).endOut o).rebuildData c m := by
  have hasked' : (s.done m).asked m = some o := hasked
  have hjob' : ((s.done m).endOut o).job o.job = some j := by rw [State.job, State.jobs_endOut]; exact hjob
  simp [State.takeFetchData, hasked', hjob', hrun, howner]

end

/-- The first fragment of a rebuild fixes its step, and work writes it (R383). -/
theorem State.rebuildData_first (s : State) (c : Nat) (m : Msg) (h : Tbl.find s.rec_.rebStep c = none) :
    Tbl.find (s.rebuildData c m).rec_.rebStep c = some m.step
      ∧ (s.rebuildData c m).get (TM_REB_STAT.step c) = m.step % 2 ^ (TM_REB_STAT.step c).w
      ∧ (s.rebuildData c m).jobs.length = s.jobs.length + 1 := by
  simp only [State.rebuildData, h]
  exact ⟨Tbl.find_ins_same _ _ _, State.get_set_same _ _ _, List.length_append⟩

/-- The first fragment that a rebuild fetched fixes its step (R383). -/
theorem fetchData_starts_rebuild (bytes : List Byte) (m : Msg) (s : State) (o : FabOut) (j : Job) (c : Nat)
    (hacc : accepted 0x14 bytes m s = true) (hasked : s.asked m = some o) (hjob : s.job o.job = some j)
    (hrun : j.ending = none) (howner : j.owner = .rebuild c) (hfirst : Tbl.find s.rec_.rebStep c = none) :
    ∃ t : State, exec (.fetchData bytes) s = .next t.after ∧ Tbl.find t.rec_.rebStep c = some m.step
      ∧ t.get (TM_REB_STAT.step c) = m.step % 2 ^ (TM_REB_STAT.step c).w ∧ t.jobs.length = s.jobs.length + 1 := by
  have hrec : ((s.done m).endOut o).rec_ = s.rec_ := by
    obtain ⟨-, hframe⟩ := (s.done m).endOut_frame o
    rw [hframe]
    rfl
  obtain ⟨hstep, hshown, hjobs⟩ := ((s.done m).endOut o).rebuildData_first c m (hrec ▸ hfirst)
  rw [State.jobs_endOut] at hjobs
  exact ⟨_, (State.receive_accepted _ hacc).trans (congrArg fin (State.takeFetchData_rebuild hasked hjob hrun howner)), hstep,
    hshown, hjobs⟩

/-! ### Stable notices and recodes (R287, R289) -/

/-- A notice kept for a slot adds its member to those that are ready, or to those that are done (R287). -/
def StbS.note (b : StbS) (m : Msg) : StbS :=
  if m.typ = 0x16 then { b with ready := setAdd b.ready (16 * m.ctx + m.member) }
  else { b with done := setAdd b.done (16 * m.ctx + m.member) }

/-- A notice of one of the 16 slots is kept for it and for no other (R287). -/
theorem State.takeNotice_kept (s : State) (m : Msg) (himage : imageOf m.stripe ≠ 0) (hslot : imageOf m.stripe ≤ 16) :
    s.takeNotice m =
      (s.done m).setStb (imageOf m.stripe - 1) ((s.stbAt (imageOf m.stripe - 1)).note m) := by
  refine (if_neg (by omega)).trans ?_
  rw [StbS.note]
  split <;> rfl

section
variable (bytes : List Byte) (m : Msg) (s : State)

/-- A stable notice of a row's type is kept for its slot alone (R287). -/
theorem receive_notice {typ : Nat} (hacc : accepted typ bytes m s = true) (himage : imageOf m.stripe ≠ 0)
    (hslot : imageOf m.stripe ≤ 16) : ∃ t : State, receiveAs typ bytes s State.takeNotice = .next t.after
      ∧ t.stbAt (imageOf m.stripe - 1) = (s.stbAt (imageOf m.stripe - 1)).note m
      ∧ (∀ n, n ≠ imageOf m.stripe - 1 → t.stbAt n = s.stbAt n) ∧ t = { s with stb := t.stb, out := t.out } :=
  ⟨_, (State.receive_accepted _ hacc).trans (congrArg fin (s.takeNotice_kept m himage hslot)),
    State.stbAt_setStb_same _ _ _, fun _ hn => State.stbAt_setStb_ne (s.done m) _ _ _ hn, rfl⟩

/-- A STB_READY adds its member to those that are ready (R287). -/
theorem stbReady_kept (hacc : accepted 0x16 bytes m s = true) (himage : imageOf m.stripe ≠ 0) (hslot : imageOf m.stripe ≤ 16) :
    ∃ t : State, exec (.stbReady bytes) s = .next t.after
      ∧ 16 * m.ctx + m.member ∈ (t.stbAt (imageOf m.stripe - 1)).ready
      ∧ (∀ n, n ≠ imageOf m.stripe - 1 → t.stbAt n = s.stbAt n) ∧ t = { s with stb := t.stb, out := t.out } := by
  obtain ⟨t, hexec, hkept, hother⟩ := receive_notice bytes m s hacc himage hslot
  refine ⟨t, hexec, ?_, hother⟩
  rw [hkept, StbS.note, if_pos (typ_of_accepted hacc)]
  exact mem_setAdd_iff.mpr (.inl rfl)

/-- A STB_DONE adds its member to those that are done (R287). -/
theorem stbDone_kept (hacc : accepted 0x17 bytes m s = true) (himage : imageOf m.stripe ≠ 0) (hslot : imageOf m.stripe ≤ 16) :
    ∃ t : State, exec (.stbDone bytes) s = .next t.after
      ∧ 16 * m.ctx + m.member ∈ (t.stbAt (imageOf m.stripe - 1)).done
      ∧ (∀ n, n ≠ imageOf m.stripe - 1 → t.stbAt n = s.stbAt n) ∧ t = { s with stb := t.stb, out := t.out } := by
  obtain ⟨t, hexec, hkept, hother⟩ := receive_notice bytes m s hacc himage hslot
  refine ⟨t, hexec, ?_, hother⟩
  rw [hkept, StbS.note, if_neg (by rw [typ_of_accepted hacc]; decide)]
  exact mem_setAdd_iff.mpr (.inl rfl)

end

/-- Settles O43: each message by what its meaning does with the buffer, the work or the slot it names. -/
theorem teamMessagesAreBufferedServedAndAnswered : Obligations.TeamMessagesAreBufferedServedAndAnswered := by
  unfold Obligations.TeamMessagesAreBufferedServedAndAnswered
  refine ⟨delta_waits, State.serveDelta_applies, State.serveDelta_drops, fragAck_frees, fragDrop_fails,
    fun bytes m s hacc hforming => ?_, fun bytes m s hacc hformed himage hlost => ?_, fun bytes m s hacc hformed hheld => ?_,
    fun bytes m s o j hacc hasked hjob hrun hcommand => ?_, fetchData_starts_rebuild, stbReady_kept, stbDone_kept,
    fun slot s hstale hcoded hteam hidle hfits => ?_⟩
  · exact (State.receive_accepted _ hacc).trans (congrArg fin (if_pos hforming))
  · exact (State.receive_accepted _ hacc).trans (congrArg fin (State.takeFetch_lost hformed himage hlost))
  · obtain ⟨j, hj⟩ := State.takeFetch_serves hformed hheld
    exact ⟨s.takeFetch m, j, State.receive_accepted _ hacc, hj⟩
  · exact (State.receive_accepted _ hacc).trans (congrArg fin (State.takeFetchData_command hasked hjob hrun hcommand))
  · exact ⟨_, _, if_pos ⟨hstale, hcoded, hteam, by simp [hidle], hfits⟩, rfl, rfl, rfl⟩

end Sys2Proof.Machine

/-! ## Statements of 10_commit_transaction.md, the rest -/

namespace Sys2Proof.Machine

/-! ### Votes combined (R315) -/

/-- A combination has the no flag exactly when some vote has it, and then speaks for a no vote of the lowest rank
(R315). -/
def VoteRec.LowestNo (v : VoteRec) (ws : List VoteRec) : Prop :=
  v.no = ws.any (·.no)
    ∧ (v.no = true → ∃ w ∈ ws, w.no = true ∧ v.noRank = w.noRank ∧ v.reason = w.reason
        ∧ ∀ x ∈ ws, x.no = true → v.noRank ≤ x.noRank)

/-- A vote alone is such a combination. -/
theorem VoteRec.lowestNo_self (o : VoteRec) : o.LowestNo [o] := by
  refine ⟨by simp, fun hno => ⟨o, by simp, hno, rfl, rfl, fun x hx _ => ?_⟩⟩
  rw [List.mem_singleton.mp hx]

/-- The vote that a join speaks for: the new one where it is the first no vote, or of a lower rank than the one before. -/
theorem VoteRec.join_speaksFor (v b : VoteRec) :
    (b.no = true ∧ (v.no = false ∨ b.noRank < v.noRank) ∧ (v.join b).noRank = b.noRank ∧ (v.join b).reason = b.reason)
      ∨ ((b.no = true → v.no = true ∧ v.noRank ≤ b.noRank) ∧ (v.join b).noRank = v.noRank
          ∧ (v.join b).reason = v.reason) := by
  by_cases hlow : b.no = true ∧ (v.no = false ∨ b.noRank < v.noRank)
  · exact .inl ⟨hlow.1, hlow.2, by simp [VoteRec.join, hlow], by simp [VoteRec.join, hlow]⟩
  · refine .inr ⟨fun hno => ?_, by simp [VoteRec.join, hlow], by simp [VoteRec.join, hlow]⟩
    simpa [hno, not_or] using hlow

/-- One more vote joined to such a combination makes another (R315). -/
theorem VoteRec.LowestNo.join {v : VoteRec} {ws : List VoteRec} (h : v.LowestNo ws) (b : VoteRec) :
    (v.join b).LowestNo (ws ++ [b]) := by
  obtain ⟨hany, hlowest⟩ := h
  refine ⟨by simp [VoteRec.join, hany], fun hno => ?_⟩
  obtain ⟨hbno, hfirst, hrank, hreason⟩ | ⟨hkept, hrank, hreason⟩ := v.join_speaksFor b
  · refine ⟨b, by simp, hbno, hrank, hreason, fun x hx hxno => ?_⟩
    rw [hrank]
    obtain hx | hx := List.mem_append.mp hx
    · have hvno : v.no = true := hany.trans (List.any_eq_true.mpr ⟨x, hx, hxno⟩)
      obtain ⟨-, -, -, -, -, hle⟩ := hlowest hvno
      have hlt := hfirst.resolve_left (by simp [hvno])
      exact hlt.le.trans (hle x hx hxno)
    · rw [List.mem_singleton.mp hx]
  · have hvno : v.no = true := (Bool.or_eq_true_iff.mp hno).elim id fun hb => (hkept hb).1
    obtain ⟨w, hw, hwno, hwrank, hwreason, hle⟩ := hlowest hvno
    refine ⟨w, by simp [hw], hwno, hrank.trans hwrank, hreason.trans hwreason, fun x hx hxno => ?_⟩
    rw [hrank]
    obtain hx | hx := List.mem_append.mp hx
    · exact hle x hx hxno
    · rw [List.mem_singleton.mp hx] at hxno ⊢
      exact (hkept hxno).2

/-- Votes joined one after the other keep to that (R315). -/
theorem VoteRec.LowestNo.foldl {v : VoteRec} {ws : List VoteRec} (h : v.LowestNo ws) (l : List VoteRec) :
    (l.foldl VoteRec.join v).LowestNo (ws ++ l) := by
  induction l generalizing v ws with
  | nil => simpa using h
  | cons b l ih => simpa using ih (h.join b)

/-- Votes joined keep the identity of the node's own vote, and add up their counts (R315). -/
theorem VoteRec.foldl_join_own (o : VoteRec) (l : List VoteRec) :
    let v := l.foldl VoteRec.join o
    v.cnt = o.cnt + (l.map (·.cnt)).sum ∧ v.epoch = o.epoch ∧ v.cseq = o.cseq ∧ v.step = o.step ∧ v.stride = o.stride
      ∧ v.bind = o.bind := by
  induction l generalizing o with
  | nil => simp
  | cons b l ih =>
    obtain ⟨hcnt, hrest⟩ := ih (o.join b)
    exact ⟨hcnt.trans (by simp [VoteRec.join, Nat.add_assoc]), hrest⟩

/-- A mismatch is flagged where a vote has it or a child's step, stride or binding digest differs from the node's own
(R315). -/
theorem VoteRec.foldl_join_mism (o : VoteRec) (l : List VoteRec) : (l.foldl VoteRec.join o).mism = true ↔
    (∃ w ∈ o :: l, w.mism = true) ∨ ∃ w ∈ l, w.step ≠ o.step ∨ w.stride ≠ o.stride ∨ w.bind ≠ o.bind := by
  induction l generalizing o with
  | nil => simp
  | cons b l ih =>
    have hjoin : (o.join b).mism = true ↔
        (o.mism = true ∨ b.mism = true) ∨ b.step ≠ o.step ∨ b.stride ≠ o.stride ∨ b.bind ≠ o.bind := by
      simp [VoteRec.join, or_assoc, ne_comm]
    have hown : (o.join b).step = o.step ∧ (o.join b).stride = o.stride ∧ (o.join b).bind = o.bind := ⟨rfl, rfl, rfl⟩
    obtain ⟨hstep, hstride, hbind⟩ := hown
    rw [List.foldl_cons, ih, hstep, hstride, hbind]
    simp only [List.exists_mem_cons_iff, hjoin, or_assoc, or_left_comm]

/-- Settles O27: counts, no flags and differences are followed vote by vote along the fold. -/
theorem combinedVotesAddUpAndKeepTheLowestNo : Obligations.CombinedVotesAddUpAndKeepTheLowestNo := by
  unfold Obligations.CombinedVotesAddUpAndKeepTheLowestNo
  intro o l
  obtain ⟨hcnt, hown⟩ := o.foldl_join_own l
  obtain ⟨hno, hlowest⟩ := o.lowestNo_self.foldl l
  exact ⟨hcnt, hno, hlowest, o.foldl_join_mism l, hown⟩

end Sys2Proof.Machine

namespace Sys2Proof.Machine

/-! ### The flip (R323) -/

/-- The running STEP_END of a context is found among the running work alone. -/
theorem State.stepEndJob_congr {s t : State} (c : Nat) (h : t.jobs = s.jobs) : t.stepEndJob c = s.stepEndJob c := by
  rw [State.stepEndJob, h, State.stepEndJob]

/-- Work that is no command may change without the running STEP_END of a context being another. -/
theorem State.stepEndJob_map {s t : State} {c : Nat} {f : Job → Job} (hjobs : t.jobs = s.jobs.map f)
    (hcommand : ∀ j, j.isCommand = true → f j = j) (hother : ∀ j, j.isCommand = false → (f j).isCommand = false) :
    t.stepEndJob c = s.stepEndJob c := by
  have hsame (j : Job) : ((f j).cmdOf c && (f j).opcode == opSTEPEND && (f j).ending.isNone)
      = (j.cmdOf c && j.opcode == opSTEPEND && j.ending.isNone) := by
    cases hj : j.isCommand with
    | true => rw [hcommand j hj]
    | false => simp [Job.cmdOf, hj, hother j hj]
  have hpred : (fun j : Job => j.cmdOf c && j.opcode == opSTEPEND && j.ending.isNone) ∘ f
      = fun j : Job => j.cmdOf c && j.opcode == opSTEPEND && j.ending.isNone := funext hsame
  rw [State.stepEndJob, hjobs, List.find?_map, hpred, State.stepEndJob]
  cases hfound : s.jobs.find? fun j => j.cmdOf c && j.opcode == opSTEPEND && j.ending.isNone with
  | none => rfl
  | some j =>
    have hof := List.find?_some hfound
    simp only [Job.cmdOf, Bool.and_eq_true] at hof
    obtain ⟨⟨⟨hcmd, -⟩, -⟩, -⟩ := hof
    exact congrArg some (hcommand j hcmd)

/-- An answer being read is no command. -/
theorem Job.isCommand_of_unread {j : Job} {c : Nat} (h : j.unread c = true) : j.isCommand = false := by
  unfold Job.unread at h
  unfold Job.isCommand
  cases hown : j.owner <;> simp_all

/-- A delta being applied is no command. -/
theorem Job.isCommand_of_isDelta {j : Job} {c : Nat} (h : j.isDelta c = true) : j.isCommand = false := by
  unfold Job.isDelta at h
  unfold Job.isCommand
  cases hown : j.owner <;> simp_all

/-- Answers moved to the new bank leave the running STEP_END (R68). -/
theorem State.stepEndJob_moveServed (s : State) (c : Nat) : (s.moveServed c).stepEndJob c = s.stepEndJob c := by
  refine State.stepEndJob_map rfl (fun j hj => if_neg fun h => ?_) fun j hj => ?_
  · rw [Job.isCommand_of_unread h] at hj
    cases hj
  · split
    · exact hj
    · exact hj

/-- Delta work cut short leaves the running STEP_END (R534). -/
theorem State.stepEndJob_cutDeltas (s : State) (c status : Nat) : (s.cutDeltas c status).stepEndJob c = s.stepEndJob c := by
  refine State.stepEndJob_map rfl (fun j hj => if_neg fun h => ?_) fun j hj => ?_
  · rw [Job.isCommand_of_isDelta h] at hj
    cases hj
  · split
    · exact hj
    · exact hj

/-- The bank changed and the open step committed; answers not read yet move to both (R68, R323). -/
def State.flipBank (s : State) (c : Nat) : State :=
  let s := s.markPre c
  let s := s.set (CM_STAT.sel c) (1 - s.active c)
  (s.set (CM_STEP.committed c) (s.get (CM_OPEN.open_ c))).moveServed c

/-- The next interval on the staged stride and under the next cseq; deltas of the last one are cut short (R301, R323,
R534). -/
def State.flipStep (s : State) (c : Nat) : State :=
  let s := s.set (CM_STAT.stride c) (s.get (CM_CFG.stride c))
  let s := s.openStep c
  let s := s.wrapInc (CM_STAT.cseq c) 1
  s.cutDeltas c stREMOTEDROPPED

/-- The interval's marks cleared, the phase after the flip and its time (R319, R323). -/
def State.flipRest (s : State) (c : Nat) (fence : Option Nat) : State :=
  let s := s.clearInterval c
  let s := s.set (CM_STAT.phase c) (if fence.isSome then phFENCED else phOPEN)
  let s := s.setCm c { s.cmAt c with fence := none, late := none }
  s.set (CM_HALT.h c) s.now

/-- The interval that a flip opens (R323). -/
def State.flipOpen (s : State) (c : Nat) : State := ((s.flipBank c).flipStep c).flipRest c (s.cmAt c).fence

/-- What a flip counts beside: itself, its lateness, and the end of an encoding (R152, R278, R323). -/
def State.flipCounts (s : State) (c : Nat) (late full : Bool) : State :=
  let s := s.wrapInc (CM_CNT.commits c) 1
  let s := (s.set (DR_STAT.bound c) 1).set (DR_STAT.prev_intact c) 1
  let s := if late then s.satInc TK_HT_STAT.late_flips 1 else s
  let s := s.setB (CM_LAST.late c) late
  if s.team c = tmENCODING ∧ full then s.set (TM_STAT.state c) tmPROTECTED else s

/-- What a flip raises and drives: the commit vector, the selector lines, digest windows, poison, scores and the count
port (R323, R422, R427, R434, R441, R504). -/
def State.flipDrives (s : State) (c : Nat) : State :=
  let s := (s.irq (4 + c)).driveSel c
  (((s.captureWins c).releasePoison c).decayScores).countPort 1 0

/-- The running STEP_END of a context ends with OK and C in value (R323). -/
def State.endStepEnd (s : State) (c : Nat) : State :=
  match s.stepEndJob c with
  | some j => s.complete j stOK (s.get (CM_STEP.committed c)) 0
  | none => s

/-- A flip opens the next interval, counts and drives, and ends the STEP_END that ran (R323). -/
theorem State.flip_steps (s : State) (c : Nat) : s.flip c =
    (((s.flipOpen c).flipCounts c (s.cmAt c).late.isSome (((s.flipBank c).flipStep c).tmAt c).fullRan).flipDrives
      c).endStepEnd c := by
  unfold State.flip
  extract_lets m a b bank d e f step full g h k i p q x y counted z driven
  have hbank : s.flipBank c = bank := rfl
  have hstep : bank.flipStep c = step := rfl
  have hrest : step.flipRest c m.fence = i.set (CM_HALT.h c) i.now := rfl
  have hcounts : (i.set (CM_HALT.h c) i.now).flipCounts c m.late.isSome full = counted := rfl
  have hdrives : counted.flipDrives c = driven := rfl
  rw [State.flipOpen, hbank, hstep, hrest, hcounts, hdrives]
  unfold State.endStepEnd
  cases driven.stepEndJob c <;> rfl

/-- The interval that a flip opens leaves the STEP_END running. -/
theorem State.stepEndJob_flipOpen (s : State) (c : Nat) : (s.flipOpen c).stepEndJob c = s.stepEndJob c := by
  have hbank : (s.flipBank c).stepEndJob c = s.stepEndJob c :=
    (State.stepEndJob_moveServed _ c).trans (State.stepEndJob_congr c rfl)
  have hstep (u : State) : (u.flipStep c).stepEndJob c = u.stepEndJob c :=
    (State.stepEndJob_cutDeltas _ c stREMOTEDROPPED).trans (State.stepEndJob_congr c rfl)
  have hrest (u : State) (f : Option Nat) : (u.flipRest c f).stepEndJob c = u.stepEndJob c := State.stepEndJob_congr c rfl
  rw [State.flipOpen, hrest, hstep, hbank]

/-- The interval that a flip opens: C is the old O on the other bank, and what follows C follows from it and the staged
stride (R301, R323). -/
theorem State.flipOpen_shows (s : State) (c : Nat) :
    let t := s.flipOpen c
    t.active c = (1 - s.active c) % 2 ^ (CM_STAT.sel c).w
      ∧ t.get (CM_STEP.committed c) = s.get (CM_OPEN.open_ c) % 2 ^ (CM_STEP.committed c).w
      ∧ t.get (CM_STAT.stride c) = s.get (CM_CFG.stride c) % 2 ^ (CM_STAT.stride c).w
      ∧ t.get (CM_OPEN.open_ c) = (t.get (CM_STEP.committed c) + t.get (CM_STAT.stride c)) % 2 ^ (CM_OPEN.open_ c).w
      ∧ t.get (CM_CUR.cur c) = (t.get (CM_STEP.committed c) + 1) % 2 ^ (CM_CUR.cur c).w
      ∧ t.get (CM_STAT.cseq c) = (s.get (CM_STAT.cseq c) + 1) % 2 ^ 32
      ∧ t.phase c = (if (s.cmAt c).fence.isSome then phFENCED else phOPEN)
      ∧ t.get (CM_HALT.h c) = s.now % 2 ^ (CM_HALT.h c).w := by
  have hmark (u : State) (l : Loc) : (u.markPre c).get l = u.get l := rfl
  have hmove (u : State) (l : Loc) : (u.moveServed c).get l = u.get l := rfl
  have hcut (u : State) (l : Loc) : (u.cutDeltas c stREMOTEDROPPED).get l = u.get l := rfl
  have hphase : (if (s.cmAt c).fence.isSome then phFENCED else phOPEN) % 2 ^ (CM_STAT.phase c).w
      = if (s.cmAt c).fence.isSome then phFENCED else phOPEN := by split <;> rfl
  simp only [State.phase, State.active, State.now, State.flipOpen, State.flipBank, State.flipStep, State.flipRest,
    State.clearInterval, State.openStep, State.wrapInc_eq]
  refine ⟨?_, ?_, ?_, ?_, ?_, ?_, Eq.trans ?_ hphase, ?_⟩ <;>
  simp (disch := (simp only [Loc.key, CM_STEP.committed, CM_STAT.sel, CM_STAT.stride, CM_OPEN.open_, CM_CUR.cur,
    CM_STAT.cseq, CM_STAT.failed, CM_STAT.phase, CM_CFG.stride, CM_HALT.h, TK_HT_NOW.now]; omega)) only
    [State.get_setCm, State.get_setTm, State.get_set_same, State.get_set_ne, hmark, hmove, hcut]
  rfl

/-- The interval that a flip opens has no coverage and no touched granules (R161, R282, R323). -/
theorem State.flipOpen_clears (s : State) (c : Nat) :
    ((s.flipOpen c).cmAt c).cover = [] ∧ ((s.flipOpen c).cmAt c).coverR = [] ∧ ((s.flipOpen c).tmAt c).touch = [] := by
  have hteam (u : State) (x : CmS) : (u.setCm c x).tmAt c = u.tmAt c := rfl
  have hcommit (u : State) (x : TeamS) : (u.setTm c x).cmAt c = u.cmAt c := rfl
  simp only [State.flipOpen, State.flipRest, State.clearInterval, State.cmAt_set, State.tmAt_set, hteam, hcommit,
    State.cmAt_setCm_same, State.tmAt_setTm_same, CmS.next, and_self]

/-- A cause raised stands (R525). -/
theorem State.testBit_irq (s : State) {v : Nat} (hv : v < 32) : ((s.irq v).get GL_IRQ_STAT.cause).testBit v = true := by
  rw [State.irq_eq, State.get_set_same, Nat.testBit_mod_two_pow, Nat.testBit_or, Nat.testBit_two_pow_self]
  simp [hv, GL_IRQ_STAT.cause]

/-- A field of one bit is 1 where the bit is set (R2). -/
theorem nbits_one_of_testBit {w i : Nat} (h : w.testBit i = true) : nbits w i 1 = 1 := by
  rw [nbits, Nat.shiftRight_eq_div_pow, pow_one, ← Nat.toNat_testBit, h]
  rfl

/-- Digest windows captured leave the running work (R427). -/
theorem State.jobs_captureWins (s : State) (c : Nat) : (s.captureWins c).jobs = s.jobs := by
  refine State.foldl_keeps State.jobs _ (fun u w => ?_) _ s
  unfold State.captureWin
  extract_lets x flips s1 s2 s3 s4
  split
  · rfl
  · split
    · exact State.foldl_keeps State.jobs (fun u b => u.set (DG_DWIN_BIN.digest c w b) (Tbl.at x.bins 0 b))
        (fun _ _ => rfl) _ s3
    · rfl

/-- The selector lines driven leave the running work (R504). -/
theorem State.jobs_driveSel (s : State) (c : Nat) : (s.driveSel c).jobs = s.jobs := by
  refine State.foldl_keeps State.jobs _ (fun u r => ?_) _ s
  dsimp only
  split <;> rfl

/-- What a flip drives leaves the running work. -/
theorem State.jobs_flipDrives (s : State) (c : Nat) : (s.flipDrives c).jobs = s.jobs := by
  have hport (u : State) : (u.countPort 1 0).jobs = u.jobs := by unfold State.countPort; split <;> rfl
  have hscores (u : State) : u.decayScores.jobs = u.jobs := by unfold State.decayScores; dsimp only; split <;> rfl
  have hpoison (u : State) : (u.releasePoison c).jobs = u.jobs := rfl
  rw [State.flipDrives, hport, hscores, hpoison, State.jobs_captureWins, State.jobs_driveSel]
  rfl

/-- What a flip drives leaves the commit registers, and raises the commit vector (R323, R525). -/
theorem State.flipDrives_frame (s : State) (c : Nat) (hc : c < 4) : CommitFrame s (s.flipDrives c)
    ∧ ((s.flipDrives c).get GL_IRQ_STAT.cause).testBit (4 + c) = true := by
  have hdriven : CommitFrame (s.irq (4 + c)) (s.flipDrives c) :=
    ((((CommitFrame.driveSel _ c).trans (.captureWins _ c hc)).trans (.releasePoison _ c)).trans (.decayScores _)).trans
      (.countPort _ _ _)
  exact ⟨(CommitFrame.irqs s (4 + c)).trans hdriven, hdriven.irq _ (by omega) (State.testBit_irq s (by omega))⟩

/-- A field of a context's transaction: its commit registers up to CM_HALT, but for CM_STAT.failed, which a command that
ends may set (R91). -/
def TransactionKey (c : Nat) (l : Loc) : Prop :=
  (0x14000 + 0x100 * c ≤ l.key / 64 ∧ l.key / 64 < 0x14080 + 0x100 * c) ∧ l.key ≠ (CM_STAT.failed c).key

/-- What a flip counts stands in registers after those of the transaction, or in another part's. -/
theorem State.flipCounts_keeps (s : State) (c : Nat) (late full : Bool) :
    s.flipCounts c late full = { s with regs := (s.flipCounts c late full).regs }
      ∧ ∀ l, TransactionKey c l → (s.flipCounts c late full).get l = s.get l := by
  unfold State.flipCounts
  extract_lets s1 s2 s3 s4
  have h3 : s3 = { s with regs := s3.regs } ∧ ∀ l, TransactionKey c l → s3.get l = s2.get l := by
    simp only [s3]
    split
    · refine ⟨rfl, fun l hl => State.get_set_ne _ _ _ _ ?_⟩
      simp only [TransactionKey, Loc.key, TK_HT_STAT.late_flips] at hl ⊢
      omega
    · exact ⟨rfl, fun _ _ => rfl⟩
  have h4 : s4 = { s with regs := s4.regs } := State.only_regs_trans h3.1 rfl
  have hget (l : Loc) (hl : TransactionKey c l) : s4.get l = s.get l := by
    rw [show s4 = s3.setB (CM_LAST.late c) late from rfl, State.setB_eq, State.get_set_ne, h3.2 l hl]
    · simp only [s2, s1, State.wrapInc_eq]
      rw [State.get_set_ne, State.get_set_ne, State.get_set_ne]
        <;> (simp only [TransactionKey, Loc.key, CM_CNT.commits, DR_STAT.bound, DR_STAT.prev_intact] at hl ⊢; omega)
    · simp only [TransactionKey, Loc.key, CM_LAST.late] at hl ⊢
      omega
  split
  · refine ⟨State.only_regs_trans h4 rfl, fun l hl => (State.get_set_ne _ _ _ _ ?_).trans (hget l hl)⟩
    simp only [TransactionKey, Loc.key, TM_STAT.state] at hl ⊢
    omega
  · exact ⟨h4, hget⟩

/-- The running STEP_END of a context is a command of that context and opcode (R105). -/
theorem State.stepEndJob_some {s : State} {c : Nat} {j : Job} (h : s.stepEndJob c = some j) :
    j.ctx = c ∧ j.opcode = opSTEPEND := by
  have hof := List.find?_some h
  simp only [Bool.and_eq_true, beq_iff_eq] at hof
  obtain ⟨⟨hcmd, hop⟩, -⟩ := hof
  exact ⟨Job.ctx_of_cmdOf hcmd, hop⟩

/-- What a flip leaves is the interval it opened: the STEP_END that ends posts its result, and beside it changes nothing of
the transaction (R117, R323). -/
theorem State.flip_shows (s : State) {c : Nat} (hc : c < 4) :
    let t := s.flip c
    (∀ l, TransactionKey c l → t.get l = (s.flipOpen c).get l)
      ∧ t.cm = (s.flipOpen c).cm ∧ t.tm = (s.flipOpen c).tm
      ∧ (t.get GL_IRQ_STAT.cause).testBit (4 + c) = true
      ∧ ∀ j, s.stepEndJob c = some j →
          (t.ent j.key).phase = .done ∧ (t.ent j.key).status = stOK
            ∧ (t.ent j.key).value = (s.flipOpen c).get (CM_STEP.committed c) % 2 ^ 64 := by
  rw [State.flip_steps]
  obtain ⟨hregs, hcounted⟩ := (s.flipOpen c).flipCounts_keeps c (s.cmAt c).late.isSome
    (((s.flipBank c).flipStep c).tmAt c).fullRan
  generalize (s.flipOpen c).flipCounts c (s.cmAt c).late.isSome (((s.flipBank c).flipStep c).tmAt c).fullRan = v
    at hregs hcounted ⊢
  obtain ⟨hframe, hraised⟩ := v.flipDrives_frame c hc
  have hstep : (v.flipDrives c).stepEndJob c = s.stepEndJob c := by
    refine (State.stepEndJob_congr c ?_).trans (s.stepEndJob_flipOpen c)
    rw [v.jobs_flipDrives c, hregs]
  have hcm : (v.flipDrives c).cm = (s.flipOpen c).cm := by rw [hframe.cm, hregs]
  have htm : (v.flipDrives c).tm = (s.flipOpen c).tm := by rw [hframe.tm, hregs]
  have hget (l : Loc) (hl : TransactionKey c l) : (v.flipDrives c).get l = (s.flipOpen c).get l :=
    (hframe.g l (by simp only [TransactionKey, CommitKey] at hl ⊢; omega)).trans (hcounted l hl)
  generalize v.flipDrives c = u at hraised hstep hcm htm hget ⊢
  rw [State.endStepEnd, hstep]
  cases hj : s.stepEndJob c with
  | none => exact ⟨hget, hcm, htm, hraised, fun j h => nomatch h⟩
  | some j =>
    obtain ⟨hctx, hop⟩ := State.stepEndJob_some hj
    obtain ⟨hpart, hent, hkept⟩ := u.complete_part j stOK (u.get (CM_STEP.committed c)) 0 (hctx ▸ hc)
    refine ⟨fun l hl => (hpart.g l ?_ ?_).trans (hget l hl), ?_, hpart.tm.trans htm, hpart.irq _ (by omega) hraised,
      fun k hk => ?_⟩
    · simp only [TransactionKey, CommitKey] at hl ⊢
      omega
    · exact hctx ▸ hl.2
    · exact (hkept (by decide) (by decide) (by rw [hop]; decide) (by rw [hop]; decide)).trans hcm
    · obtain rfl := Option.some.inj hk
      dsimp only
      rw [hent, ← hget _ (by simp only [TransactionKey, Loc.key, CM_STEP.committed, CM_STAT.failed]; omega)]
      exact ⟨rfl, rfl, rfl⟩

/-- Settles O31: the interval that the flip opens, seen through what the flip counts and drives and the STEP_END it ends. -/
theorem flipCommitsTheOpenStep : Obligations.FlipCommitsTheOpenStep := by
  unfold Obligations.FlipCommitsTheOpenStep
  refine ⟨fun c s harmed hdue => ?_, fun c s hearly => if_neg fun h => ?_⟩
  · obtain ⟨hget, hcm, htm, hraised, hended⟩ := s.flip_shows c.isLt
    obtain ⟨hsel, hcommitted, hstride, hopen, hcur, hcseq, hphase, hhalt⟩ := s.flipOpen_shows c
    obtain ⟨hcover, hcoverR, htouch⟩ := s.flipOpen_clears c
    have hC := hget (CM_STEP.committed c)
      (by simp only [TransactionKey, Loc.key, CM_STEP.committed, CM_STAT.failed]; omega)
    have hS := hget (CM_STAT.stride c) (by simp only [TransactionKey, Loc.key, CM_STAT.stride, CM_STAT.failed]; omega)
    rw [← hC] at hcommitted hopen hcur hended
    rw [← hS] at hstride hopen
    refine ⟨if_pos ⟨harmed, hdue⟩, (hget _ ?_).trans hsel, hcommitted, hstride, (hget _ ?_).trans hopen,
      (hget _ ?_).trans hcur, (hget _ ?_).trans hcseq, ?_, ?_, ?_, (hget _ ?_).trans hphase, (hget _ ?_).trans hhalt,
      nbits_one_of_testBit hraised, hended⟩
    case refine_5 => rw [State.cmAt, hcm]; exact hcover
    case refine_6 => rw [State.cmAt, hcm]; exact hcoverR
    case refine_7 => rw [State.tmAt, htm]; exact htouch
    all_goals
      simp only [TransactionKey, Loc.key, CM_STAT.sel, CM_OPEN.open_, CM_CUR.cur, CM_STAT.cseq, CM_STAT.phase, CM_HALT.h,
        CM_STAT.failed]
      omega
  · obtain ⟨harmed, hdue⟩ := h
    exact hearly.elim (fun hne => hne harmed) (fun hlt => absurd hdue (Nat.not_le.mpr hlt))

end Sys2Proof.Machine

namespace Sys2Proof.Machine

/-! ### Prepare and the member's own vote (R310, R311, R315) -/

/-- While a writer runs prepare waits (R310). -/
theorem State.writersDone_waits {s : State} {c : Nat} (h : (s.jobs.any fun x => x.cmdOf c && s.writesBank x) = true) :
    s.writersDone c = s := by
  unfold State.writersDone
  split
  next => exact if_neg fun ⟨_, _, _, hquiet⟩ => hquiet h
  next => rfl

/-- With no writer running prepare goes on to its copies and record (R310). -/
theorem State.writersDone_goes {s : State} {c : Nat} {j : Job} (hj : s.stepEndJob c = some j)
    (hphase : s.phase c = phPREPARE) (hstage : j.stage = 0) (hhold : j.hold = .prepare)
    (hquiet : (s.jobs.any fun x => x.cmdOf c && s.writesBank x) = false) :
    let u := if s.team c = tmENCODING then s.setTm c { s.tmAt c with fullRan := true } else s
    s.writersDone c = u.setJob { j with stage := 1, hold := .run, segs := u.prepareSegs c } := by
  simp only [State.writersDone, hj]
  exact if_pos ⟨hphase, hstage, hhold, Bool.eq_false_iff.mp hquiet⟩

/-- A vote is a yes exactly where none of R311's rows holds. -/
theorem State.noReason_eq_none_iff (s : State) (c : Nat) : s.noReason c = none ↔
    (s.is (CM_STAT.failed c) = false ∧ s.team c ≠ tmFORMING ∧ s.team c ≠ tmREBUILDING ∧ s.team c ≠ tmFAILED
      ∧ (s.cmAt c).endStatus = none) := by
  unfold State.noReason
  cases hfailed : s.is (CM_STAT.failed c) with
  | true => simp
  | false =>
    by_cases hteam : s.team c = tmFORMING ∨ s.team c = tmREBUILDING ∨ s.team c = tmFAILED
    · refine iff_of_false (by simp [hteam]) fun h => ?_
      obtain ⟨-, hforming, hrebuilding, hlost, -⟩ := h
      exact hteam.elim hforming fun hrest => hrest.elim hrebuilding hlost
    · rw [not_or, not_or] at hteam
      simp [hteam]

/-- The vote that a member casts (R311, R315). -/
def State.ownVote (s : State) (c : Nat) : VoteRec :=
  let no := s.noReason c
  let o := s.get (CM_OPEN.open_ c)
  { epoch := s.get (CM_EPOCH.epoch c), cseq := s.get (CM_STAT.cseq c), step := o,
    stride := s.get (CM_CFG.stride c), bind := s.bindDigest c o, cnt := if no.isSome then 0 else 1,
    noRank := if no.isSome then (s.cmTree c).me else 0xFFFF, reason := no.getD 0, no := no.isSome, mism := false }

/-- The member VOTED: its vote kept, and its STEP_END waiting for the decision (R310). -/
def State.voted (s : State) (c : Nat) : State :=
  let u := (s.set (CM_STAT.phase c) phVOTED).setCm c
    { s.cmAt c with own := some (s.ownVote c), votedAt := (s.set (CM_STAT.phase c) phVOTED).now, queryAt := none }
  match u.stepEndJob c with
  | some j => u.setJob { j with segs := [], hold := .vote }
  | none => u

/-- A vote cast is kept and then pushed on with those of the children (R310, R316). -/
theorem State.castVote_eq (s : State) (c : Nat) : s.castVote c = (s.voted c).pushVotes c := rfl

/-- The vote kept, of registers the phase alone changes (R310). -/
theorem State.voted_frame (s : State) (c : Nat) : (s.voted c).regs = (s.set (CM_STAT.phase c) phVOTED).regs
    ∧ (s.voted c).cmAt c = { s.cmAt c with own := some (s.ownVote c), votedAt := s.now, queryAt := none } := by
  have hnow : (s.set (CM_STAT.phase c) phVOTED).now = s.now :=
    State.now_set _ _ _ (by simp only [Loc.key, CM_STAT.phase]; omega)
  unfold State.voted
  rw [hnow]
  extract_lets k u
  have hkept : u.cmAt c = { s.cmAt c with own := some (s.ownVote c), votedAt := s.now, queryAt := none } :=
    State.cmAt_setCm_same _ _ _
  split
  · exact ⟨rfl, hkept⟩
  · exact ⟨rfl, hkept⟩

/-- What a node sends upward changes no register and, of what the commit engine holds, what was last sent (R316, R317). -/
theorem State.pushUp_keeps (s : State) (c tr : Nat) : (s.pushUp c tr).regs = s.regs
    ∧ ∃ sent, (s.pushUp c tr).cmAt c = { s.cmAt c with sentUp := sent } := by
  unfold State.pushUp
  extract_lets t m
  split
  · exact ⟨rfl, m.sentUp, rfl⟩
  next v _ =>
    split
    · exact ⟨rfl, Tbl.ins m.sentUp tr v, State.cmAt_setCm_same s c { m with sentUp := Tbl.ins m.sentUp tr v }⟩
    · exact ⟨rfl, m.sentUp, rfl⟩

/-- A member that is not the near root sends its votes upward in both trees and decides nothing (R316). -/
theorem State.pushVotes_below {s : State} {c : Nat} (hroot : (s.cmTree c).isRoot 0 = false) :
    (s.pushVotes c).regs = s.regs ∧ ∃ sent, (s.pushVotes c).cmAt c = { s.cmAt c with sentUp := sent } := by
  have hpush : s.pushVotes c = (s.pushUp c 0).pushUp c 1 := if_neg fun ⟨hnear, _⟩ => Bool.eq_false_iff.mp hroot hnear
  obtain ⟨hregs, sent, hcm⟩ := s.pushUp_keeps c 0
  obtain ⟨hregs', sent', hcm'⟩ := (s.pushUp c 0).pushUp_keeps c 1
  rw [hpush]
  exact ⟨hregs'.trans hregs, sent', by rw [hcm', hcm]⟩

/-- The near root is told by its rank alone, which no phase changes (R219). -/
theorem State.isRoot_near_voted (s : State) (c : Nat) : ((s.voted c).cmTree c).isRoot 0 = (s.cmTree c).isRoot 0 := by
  obtain ⟨hregs, -⟩ := s.voted_frame c
  have hget (l : Loc) (hl : l.key ≠ (CM_STAT.phase c).key) : (s.voted c).get l = s.get l := by
    rw [State.get, hregs]
    exact State.get_set_ne s _ _ _ hl
  have hgroup : (s.voted c).cmGroup c = s.cmGroup c :=
    hget _ (by simp only [Loc.key, CM_CFG.group, CM_STAT.phase]; omega)
  have hme : ((s.voted c).cmTree c).me = (s.cmTree c).me := by
    rw [State.cmTree, hgroup]
    exact hget _ (by simp only [Loc.key, GS_GRP_STAT.rank, CM_STAT.phase]; omega)
  rw [Tree.isRoot, hme]
  rfl

/-- A vote cast at a member that is not the near root (R310, R311, R315). -/
theorem State.castVote_shows {s : State} {c : Nat} (hroot : (s.cmTree c).isRoot 0 = false) :
    (s.castVote c).phase c = phVOTED ∧ ((s.castVote c).cmAt c).own = some (s.ownVote c)
      ∧ ((s.castVote c).cmAt c).votedAt = s.now := by
  obtain ⟨hregs, hcm⟩ := s.voted_frame c
  obtain ⟨hpregs, sent, hpcm⟩ := State.pushVotes_below ((s.isRoot_near_voted c).trans hroot)
  rw [State.castVote_eq, hpcm, hcm]
  refine ⟨?_, rfl, rfl⟩
  rw [State.phase, State.get, hpregs, hregs]
  exact State.get_set_same s _ _

/-- The vote that a member casts says no exactly where R311 gives a reason (R311, R315). -/
theorem State.ownVote_says (s : State) (c : Nat) :
    (s.noReason c = none → (s.ownVote c).no = false ∧ (s.ownVote c).cnt = 1)
      ∧ ∀ r, s.noReason c = some r → (s.ownVote c).no = true ∧ (s.ownVote c).cnt = 0 ∧ (s.ownVote c).reason = r
          ∧ (s.ownVote c).noRank = (s.cmTree c).me := by
  refine ⟨fun h => ?_, fun r h => ?_⟩
  · simp [State.ownVote, h]
  · simp [State.ownVote, h]

/-- Settles O26: prepare's two points, each by what its meaning does when its conditions hold. -/
theorem prepareWaitsForWritersThenVotes : Obligations.PrepareWaitsForWritersThenVotes := by
  unfold Obligations.PrepareWaitsForWritersThenVotes
  refine ⟨fun c s j hj hphase hstage hhold hquiet hteam => congrArg fin ?_,
    fun c s j hj hphase hstage hhold hquiet hteam => congrArg fin ?_,
    fun c s hbusy => congrArg fin (State.writersDone_waits hbusy),
    fun c s j hj hphase hstage hhold hsegs hout hquiet hpend hroot => ?_, fun c s => s.noReason_eq_none_iff c⟩
  · rw [State.writersDone_goes hj hphase hstage hhold hquiet, if_neg hteam]
  · rw [State.writersDone_goes hj hphase hstage hhold hquiet, if_pos hteam]
  · have hcast : s.voteNow c = s.castVote c := by
      simp only [State.voteNow, hj]
      exact if_pos ⟨hphase, hstage, hhold, hsegs, hout, hquiet, by simp [hpend]⟩
    obtain ⟨hvoted, hown, hat⟩ := State.castVote_shows hroot
    obtain ⟨hyes, hno⟩ := s.ownVote_says c
    exact ⟨s.castVote c, s.ownVote c, congrArg fin hcast, hvoted, hown, hat, rfl, rfl, rfl, rfl, rfl, rfl, hyes, hno⟩

/-! ### Votes and queries (R315 to R317, R321, R322, R349) -/

/-- A vote of another transaction, one that comes while an abort waits, and one from no child is stale (R321). -/
theorem State.takeVote_stale {s : State} {m : Msg}
    (h : s.cmCurrent m.ctx (voteOf m).epoch (voteOf m).cseq = false ∨ (s.cmAt m.ctx).abortPend.isSome = true
      ∨ s.votePlace m = none) : s.takeVote m = (s.done m).satInc (CM_DIAG.stale m.ctx) 1 := by
  have hsame : (s.done m).cmCurrent m.ctx (voteOf m).epoch (voteOf m).cseq
        = s.cmCurrent m.ctx (voteOf m).epoch (voteOf m).cseq
      ∧ (s.done m).cmAt m.ctx = s.cmAt m.ctx ∧ (s.done m).votePlace m = s.votePlace m := ⟨rfl, rfl, rfl⟩
  obtain ⟨hcur, hcm, hplace⟩ := hsame
  simp only [State.takeVote, hcur, hcm, hplace]
  split
  next => rfl
  next hfresh =>
    simp only [not_or, not_not] at hfresh
    obtain ⟨hcurrent, hwaits⟩ := hfresh
    have hnone : s.votePlace m = none := by simpa [hcurrent, hwaits] using h
    simp only [hnone]
    rfl

/-- A vote of the transaction under way takes its child's place, and the votes held are pushed on (R315 to R317). -/
theorem State.takeVote_kept {s : State} {m : Msg} {tr i : Nat}
    (hcur : s.cmCurrent m.ctx (voteOf m).epoch (voteOf m).cseq = true) (hpend : (s.cmAt m.ctx).abortPend = none)
    (hplace : s.votePlace m = some (tr, i)) : s.takeVote m =
      ((s.done m).setCm m.ctx { s.cmAt m.ctx with
        votes := ((s.cmAt m.ctx).votes.filter fun x => !(x.1 == tr && x.2.1 == i)) ++ [(tr, i, voteOf m)] }).pushVotes
      m.ctx := by
  have hplace' : (s.done m).votePlace m = some (tr, i) := hplace
  have hcur' : (s.done m).cmCurrent m.ctx (voteOf m).epoch (voteOf m).cseq = true := hcur
  have hpend' : ((s.done m).cmAt m.ctx).abortPend = none := hpend
  refine (if_neg (by simp [hcur', hpend'])).trans ?_
  simp only [hplace']
  rfl

/-- Settles O28: the row gives an accepted vote to its meaning; a FENCE_ACK meets no outstanding request. -/
theorem votesAreKeptByChildAndStaleOnesCounted : Obligations.VotesAreKeptByChildAndStaleOnesCounted := by
  unfold Obligations.VotesAreKeptByChildAndStaleOnesCounted
  refine ⟨fun bytes m s tr i hacc hcur hpend hplace => ?_, fun bytes m s hacc hstale => ?_,
    fun bytes m s htyp hparse hver => ?_⟩
  · exact (State.receive_accepted _ hacc).trans (congrArg fin (State.takeVote_kept hcur hpend hplace))
  · exact (State.receive_accepted _ hacc).trans (congrArg fin (State.takeVote_stale hstale))
  · refine (if_pos htyp).trans (congrArg fin ?_)
    simp only [State.receive, hparse, hver]

/-- At most 16 notices are kept, the newest last and none beside it of its cseq; fewer than 16 drop none of another cseq
(R322). -/
theorem CmS.keep_shows (k : CmS) (n : Notice) : (k.keep n).notices.length ≤ 16 ∧ (k.keep n).notices.getLast? = some n
    ∧ ((k.keep n).notices.find? fun x => x.cseq == n.cseq) = some n
    ∧ ∀ x ∈ k.notices, x.cseq ≠ n.cseq → k.notices.length < 16 → x ∈ (k.keep n).notices := by
  unfold CmS.keep
  extract_lets l
  refine ⟨?_, by simp, ?_, fun x hx hne hroom => ?_⟩
  · simp
    omega
  · have hother : ∀ x ∈ l.drop (l.length - 15), ¬ (x.cseq == n.cseq) = true := fun x hx => by
      simpa using (List.mem_filter.mp (List.mem_of_mem_drop hx)).2
    rw [List.find?_append, List.find?_eq_none.mpr hother]
    simp
  · have hfits : l.length - 15 = 0 := by
      have := List.length_filter_le (fun x : Notice => decide (x.cseq ≠ n.cseq)) k.notices
      simp only [l]
      omega
    have hmem : x ∈ l := List.mem_filter.mpr ⟨hx, by simpa using hne⟩
    simp [hfits, hmem]

/-- A root that keeps the notice asked for resends it to the asking member alone (R322). -/
theorem State.takeQuery_kept {s : State} {m : Msg} {n : Notice} (hkept : s.noticeOf m.ctx (m.at_ 4 4) = some n)
    (hroot : (s.cmTree m.ctx).isRoot 0 = true ∨ (s.cmTree m.ctx).isRoot 1 = true) : s.takeQuery m =
      (s.done m).cmSend m.ctx n.typ (if (s.cmTree m.ctx).isRoot 0 then 0 else 1) m.src n.body := by
  have hkept' : (s.done m).noticeOf m.ctx (m.at_ 4 4) = some n := hkept
  simp only [State.takeQuery, hkept']
  exact if_pos hroot

/-- A query for a notice that is not kept, or at a member that is no root, is answered by nothing (R322). -/
theorem State.takeQuery_silent {s : State} {m : Msg} (h : s.noticeOf m.ctx (m.at_ 4 4) = none
    ∨ ((s.cmTree m.ctx).isRoot 0 = false ∧ (s.cmTree m.ctx).isRoot 1 = false)) : s.takeQuery m = s.done m := by
  have hsame : (s.done m).noticeOf m.ctx (m.at_ 4 4) = s.noticeOf m.ctx (m.at_ 4 4) := rfl
  simp only [State.takeQuery, hsame]
  split
  next n hkept =>
    obtain ⟨hnear, hoff⟩ := h.resolve_left (by simp [hkept])
    exact if_neg (by simp [hnear, hoff])
  next => rfl

/-- Settles O29: what a notice kept leaves, and the two answers to a query. -/
theorem rootsKeepSixteenNoticesAndAnswerQueries : Obligations.RootsKeepSixteenNoticesAndAnswerQueries := by
  unfold Obligations.RootsKeepSixteenNoticesAndAnswerQueries
  refine ⟨fun c n s => ?_, fun bytes m n s hacc hkept hroot => ?_, fun bytes m s hacc hsilent => ?_⟩
  · have hcm : (s.keepNotice c n).cmAt c = (s.cmAt c).keep n := State.cmAt_setCm_same s _ _
    rw [State.noticeOf, hcm]
    exact (s.cmAt c).keep_shows n
  · exact ⟨s.takeQuery m, _, State.receive_accepted _ hacc,
      by rw [State.takeQuery_kept hkept hroot]; exact ⟨rfl, rfl, rfl, rfl, rfl, rfl, rfl, rfl⟩⟩
  · exact (State.receive_accepted _ hacc).trans (congrArg fin (State.takeQuery_silent hsilent))

end Sys2Proof.Machine

namespace Sys2Proof.Machine

/-! ### Timers of the commit transaction (R317, R328, R366) -/

/-- An emergency message changes of the fields GL_MG_STAT alone (R472, R480). -/
theorem State.get_emcy (s : State) (code : Nat) (payload : List Byte) (l : Loc) (h : l.key / 64 ≠ 0x108) :
    (s.emcy code payload).get l = s.get l := by
  have hsend (u : State) (base : Nat) (data : List Byte) : (u.canSend0 base data).get l = u.get l := by
    unfold State.canSend0
    split
    · rw [State.syncPassive, State.setB_eq, State.dec_eq, State.get_set_ne, State.get_set_ne, State.get_emit]
        <;> (simp only [Loc.key, GL_MG_STAT.tec, GL_MG_STAT.passive] at h ⊢; omega)
    · rfl
  unfold State.emcy State.emcyFrame
  split
  · exact hsend _ _ _
  · rfl

/-- A REPORT sent leaves the report table (R367). -/
theorem State.rec_reportTo (s : State) (subject kind count first : Nat) :
    (s.reportTo subject kind count first).rec_ = s.rec_ := by
  unfold State.reportTo
  refine State.foldl_keeps State.rec_ _ (fun u d => ?_) _ s
  rfl

/-- A device observed has an entry of that kind in the report table (R366, R367). -/
theorem State.repFind_observe (s : State) (subject kind : Nat) :
    (repFind (s.observe subject kind).rec_.reps subject kind).isSome = true := by
  rw [repFind, List.find?_isSome]
  unfold State.observe
  split
  next e hfound =>
    have hof := List.find?_some hfound
    refine ⟨{ e with count := e.count + 1 }, List.mem_map.mpr ⟨e, List.mem_of_find?_eq_some hfound, if_pos (by simp)⟩, hof⟩
  next =>
    extract_lets u v
    refine ⟨⟨subject, kind, 0, u.now, u.now⟩, ?_, by simp⟩
    rw [State.rec_reportTo]
    exact List.mem_append_right _ (List.mem_singleton_self _)

/-- A count that stops at its top (register tables). -/
theorem State.get_satInc_same (s : State) (l : Loc) (n : Nat) :
    (s.satInc l n).get l = min (2 ^ l.w - 1) (s.get l + n) := by
  have hpos : 0 < 2 ^ l.w := Nat.two_pow_pos _
  have hle : Nat.min (2 ^ l.w - 1) (s.get l + n) ≤ 2 ^ l.w - 1 := Nat.min_le_left _ _
  rw [State.satInc_eq, State.get_set_same]
  exact Nat.mod_eq_of_lt (by omega)

/-- A query changes the messages in line alone, and keeps those that stand there (R328). -/
theorem State.sendQuery_frame (s : State) (c tr i : Nat) : s.sendQuery c tr i = { s with fab := (s.sendQuery c tr i).fab }
    ∧ s.fab.txq ⊆ (s.sendQuery c tr i).fab.txq := by
  unfold State.sendQuery
  split
  · exact ⟨rfl, List.Subset.refl _⟩
  · exact ⟨rfl, List.subset_append_left _ _⟩

/-- A member that is not the root asked sends it a QUERY (R328). -/
theorem State.sendQuery_sends {s : State} {c tr i : Nat} (h : i ≠ (s.cmTree c).me) :
    ∃ x ∈ (s.sendQuery c tr i).fab.txq, x.typ = 0x33 ∧ x.dst = s.cmDev c i ∧ x.bit2 = tr := by
  unfold State.sendQuery
  rw [if_neg h]
  exact ⟨_, List.mem_append_right _ (List.mem_singleton_self _), rfl, rfl, rfl⟩

/-- The queries that a member sends when its decision is late: to the near root, and to the off root where the group has
more than one member (R328). -/
def State.askRoots (s : State) (c : Nat) : State :=
  let t := s.cmTree c
  let s := s.sendQuery c 0 0
  if t.n ≤ 1 then s else s.sendQuery c 1 (t.n - 1)

/-- The roots asked, the near root's QUERY stands in line where the member is not that root (R328). -/
theorem State.askRoots_shows (s : State) (c : Nat) : s.askRoots c = { s with fab := (s.askRoots c).fab }
    ∧ ((s.cmTree c).isRoot 0 = false →
        ∃ x ∈ (s.askRoots c).fab.txq, x.typ = 0x33 ∧ x.dst = s.cmDev c 0 ∧ x.bit2 = 0) := by
  obtain ⟨hnear, -⟩ := s.sendQuery_frame c 0 0
  unfold State.askRoots
  extract_lets t u
  have hsent (hroot : (s.cmTree c).isRoot 0 = false) :
      ∃ x ∈ u.fab.txq, x.typ = 0x33 ∧ x.dst = s.cmDev c 0 ∧ x.bit2 = 0 := by
    refine State.sendQuery_sends fun hme => ?_
    rw [Tree.isRoot, ← hme] at hroot
    cases hroot
  obtain ⟨hoff, hkept⟩ := u.sendQuery_frame c 1 (t.n - 1)
  split
  · exact ⟨hnear, hsent⟩
  · refine ⟨?_, fun hroot => ?_⟩
    · calc u.sendQuery c 1 (t.n - 1) = { u with fab := (u.sendQuery c 1 (t.n - 1)).fab } := hoff
        _ = { s with fab := (u.sendQuery c 1 (t.n - 1)).fab } := by rw [show u = { s with fab := u.fab } from hnear]
    · obtain ⟨x, hx, hquery⟩ := hsent hroot
      exact ⟨x, hkept hx, hquery⟩

/-- A VOTED member without a decision asks the roots once query_tmo has passed, and notes when (R328). -/
theorem decisionQueryTimeout_asks (c : Ctx) (s : State) (hvoted : s.phase c = phVOTED) (hopen : s.undecided c = true)
    (hfirst : (s.cmAt c).queryAt = none) (hdue : (s.cmAt c).votedAt + s.get (CM_TMO.query_tmo c) ≤ s.now) :
    ∃ t : State, exec (.decisionQueryTimeout c) s = .next t.after ∧ (t.cmAt c).queryAt = some s.now
      ∧ t.get (CM_DIAG.queries c) = min (2 ^ (CM_DIAG.queries c).w - 1) (s.get (CM_DIAG.queries c) + 1)
      ∧ t.phase c = phVOTED
      ∧ ((s.cmTree c).isRoot 0 = false → ∃ x ∈ t.fab.txq, x.typ = 0x33 ∧ x.dst = s.cmDev c 0 ∧ x.bit2 = 0) := by
  let u := s.setCm c { s.cmAt c with queryAt := some s.now }
  obtain ⟨hframe, hsent⟩ := u.askRoots_shows c
  have hget (l : Loc) : (u.askRoots c).get l = s.get l := by rw [hframe]; rfl
  refine ⟨(u.askRoots c).satInc (CM_DIAG.queries c) 1, if_pos ⟨hvoted, hopen, by simp [hfirst], hdue⟩, ?_, ?_, ?_, hsent⟩
  · have hcm : ((u.askRoots c).satInc (CM_DIAG.queries c) 1).cmAt c = u.cmAt c := by
      rw [State.satInc_eq, State.cmAt_set, hframe]
      rfl
    rw [hcm, State.cmAt_setCm_same]
  · rw [State.get_satInc_same, hget]
  · rw [State.phase, State.satInc_eq,
      State.get_set_ne _ _ _ _ (by simp only [Loc.key, CM_STAT.phase, CM_DIAG.queries]; omega), hget]
    exact hvoted

/-- A member whose query stays unanswered for query_tmo is IN_DOUBT, counts it and raises the in-doubt vector (R328). -/
theorem inDoubtTimeout_doubts (c : Ctx) (s : State) (q : Nat) (hasked : (s.cmAt c).queryAt = some q)
    (hvoted : s.phase c = phVOTED) (hopen : s.undecided c = true) (hdue : q + s.get (CM_TMO.query_tmo c) ≤ s.now) :
    ∃ t : State, exec (.inDoubtTimeout c) s = .next t.after ∧ t.phase c = phINDOUBT
      ∧ nbits (t.get GL_IRQ_STAT.cause) (8 + c) 1 = 1
      ∧ t.get (CM_CNT.in_doubt c) = min (2 ^ (CM_CNT.in_doubt c).w - 1) (s.get (CM_CNT.in_doubt c) + 1) := by
  let u := (s.set (CM_STAT.phase c) phINDOUBT).satInc (CM_CNT.in_doubt c) 1
  have hexec : exec (.inDoubtTimeout c) s =
      .next ((u.irq (8 + c)).emcy 0xFF14 (leBytes 1 c ++ leBytes 4 (u.get (CM_STAT.cseq c)))).after := by
    change execInDoubtTimeout c s = _
    simp only [execInDoubtTimeout, hasked]
    exact if_pos ⟨hvoted, hopen, hdue⟩
  have hget (l : Loc) (hl : 0x14000 ≤ l.key / 64) (code : Nat) (payload : List Byte) :
      ((u.irq (8 + c)).emcy code payload).get l = u.get l := by
    rw [State.get_emcy _ _ _ _ (by omega), State.get_irq_ne]
    simp only [Loc.key, GL_IRQ_STAT.cause] at hl ⊢
    omega
  refine ⟨_, hexec, ?_, ?_, ?_⟩
  · rw [State.phase, hget _ (by simp only [Loc.key, CM_STAT.phase]; omega)]
    change ((s.set (CM_STAT.phase c) phINDOUBT).satInc (CM_CNT.in_doubt c) 1).get (CM_STAT.phase c) = phINDOUBT
    rw [State.satInc_eq, State.get_set_ne _ _ _ _ (by simp only [Loc.key, CM_STAT.phase, CM_CNT.in_doubt]; omega),
      State.get_set_same]
    rfl
  · rw [State.get_emcy _ _ _ _ (by decide)]
    exact nbits_one_of_testBit (State.testBit_irq _ (by omega))
  · rw [hget _ (by simp only [Loc.key, CM_CNT.in_doubt]; omega),
      State.get_satInc_same, State.get_set_ne]
    simp only [Loc.key, CM_STAT.phase, CM_CNT.in_doubt]
    omega

/-- A child whose vote is missing query_tmo after the member's own is observed, once (R366). -/
theorem novoteTimeout_observes (c : Ctx) (off : Bool) (child : Nat) (s : State) (hown : (s.cmAt c).own.isSome = true)
    (hchild : child ∈ (s.cmTree c).children (b2n off)) (hnew : (b2n off, child) ∉ (s.cmAt c).noVoteSeen)
    (hmissing : ((s.cmAt c).votes.any fun v => v.1 == b2n off && v.2.1 == child) = false)
    (hdue : (s.cmAt c).votedAt + s.get (CM_TMO.query_tmo c) ≤ s.now) :
    ∃ t : State, exec (.novoteTimeout c off child) s = .next t.after
      ∧ (b2n off, child) ∈ (t.cmAt c).noVoteSeen ∧ (repFind t.rec_.reps (s.cmDev c child) 3).isSome = true := by
  let u := s.setCm c { s.cmAt c with noVoteSeen := (s.cmAt c).noVoteSeen ++ [(b2n off, child)] }
  refine ⟨u.observe (u.cmDev c child) 3,
    if_pos ⟨hown, by simpa using hchild, by simpa using hnew, Bool.eq_false_iff.mp hmissing, hdue⟩, ?_,
    u.repFind_observe (u.cmDev c child) 3⟩
  rw [State.cmAt, (CommitFrame.observe u _ 3).cm, ← State.cmAt, State.cmAt_setCm_same]
  exact List.mem_append_right _ (List.mem_singleton_self _)

/-- Settles O32: each timer's row once its time has come. -/
theorem commitTimersDecideQueryDoubtAndReport : Obligations.CommitTimersDecideQueryDoubtAndReport := by
  unfold Obligations.CommitTimersDecideQueryDoubtAndReport
  exact ⟨fun c s hroot hopen harmed hdue => if_pos ⟨hroot, hopen, harmed, hdue⟩, decisionQueryTimeout_asks,
    inDoubtTimeout_doubts, novoteTimeout_observes⟩

/-! ### Commit epochs (R331) -/

/-- An epoch is newer where its distance modulo 2^16 lies in 1 to 2^15 − 1 (R331). -/
theorem newer_16_iff (a b : Nat) :
    newer 16 a b = true ↔ 1 ≤ ((a : Int) - b) % 2 ^ 16 ∧ ((a : Int) - b) % 2 ^ 16 ≤ 2 ^ 15 - 1 := by
  have hdist : (subMod 16 a b : Int) = ((a : Int) - b) % 2 ^ 16 := by
    simp only [subMod]
    omega
  simp only [newer, Bool.and_eq_true, decide_eq_true_eq, ← hdist]
  omega

/-- With no epoch waiting, a newer one staged waits, and any other sets cfg_err (R331). -/
theorem State.applyEpoch_free {s : State} {c : Nat} (hfree : (s.cmAt c).epochPend = none) : s.applyEpoch c =
    if newer 16 (s.get (CM_EPOCH.staged c)) (s.get (CM_EPOCH.epoch c)) then
      s.setCm c { s.cmAt c with epochPend := some (s.get (CM_EPOCH.staged c)) }
    else s.set (CM_STAT.cfg_err c) 1 :=
  if_neg (by simp [hfree])

/-- An interval that fails leaves the epoch that waits (R91, R331). -/
theorem State.epochPend_failInterval (s : State) (c reason : Nat) :
    ((s.failInterval c reason).cmAt c).epochPend = (s.cmAt c).epochPend := by
  unfold State.failInterval
  split
  · rfl
  · split
    · rfl
    · rw [State.cmAt_setCm_same]

/-- A waiting epoch comes into force at a request boundary and fails the open interval (R331). -/
theorem commitEpochEffect_fails (c : Ctx) (s : State) (e : Nat) (hpend : (s.cmAt c).epochPend = some e)
    (hown : (s.cmAt c).own = none) (harmed : s.phase c ≠ phARMED) (habort : (s.cmAt c).abortPend = none)
    (hvoted : s.phase c ≠ phVOTED) (hdoubt : s.phase c ≠ phINDOUBT) :
    ∃ t : State, exec (.commitEpochEffect c) s = .next t.after
      ∧ t.get (CM_EPOCH.epoch c) = e % 2 ^ (CM_EPOCH.epoch c).w ∧ (t.cmAt c).epochPend = none
      ∧ t.is (CM_STAT.failed c) = true := by
  let v := (s.set (CM_EPOCH.epoch c) e).setCm c { s.cmAt c with epochPend := none }
  let reason := faultCodes.getD ((v.fresh 8).2 % faultCodes.length) stINTERNAL
  have hexec : exec (.commitEpochEffect c) s = .next ((v.fresh 8).1.failInterval c reason).after := by
    change execCommitEpochEffect c s = _
    simp only [execCommitEpochEffect, hpend]
    exact if_neg (by simp [hown, harmed, habort])
  obtain ⟨u, hu⟩ : ∃ u, u = (v.fresh 8).1 := ⟨_, rfl⟩
  rw [← hu] at hexec
  have hcm : u.cmAt c = { s.cmAt c with epochPend := none } := by rw [hu]; exact State.cmAt_setCm_same _ _ _
  have hepoch : u.get (CM_EPOCH.epoch c) = e % 2 ^ (CM_EPOCH.epoch c).w := by rw [hu]; exact State.get_set_same _ _ _
  have hphase : u.phase c = s.phase c := by
    rw [hu]
    exact State.get_set_ne s (CM_EPOCH.epoch c) (CM_STAT.phase c) e
      (by simp only [Loc.key, CM_EPOCH.epoch, CM_STAT.phase]; omega)
  obtain ⟨hpart, -⟩ := u.failInterval_part c reason c.isLt
  refine ⟨_, hexec, ?_, ?_, ?_⟩
  · rw [hpart.g _ (by simp only [CommitKey, Loc.key, CM_EPOCH.epoch]; omega)
      (by simp only [Loc.key, CM_EPOCH.epoch, CM_STAT.failed]; omega), hepoch]
  · rw [State.epochPend_failInterval, hcm]
  · exact u.failed_failInterval c reason (by rw [hcm]; exact hown) (hphase ▸ hvoted) (hphase ▸ harmed) (hphase ▸ hdoubt)

/-- Settles O33: staged epochs compared modulo 2^16, and the effect of the one that waits. -/
theorem epochIsAppliedWhenNewer : Obligations.EpochIsAppliedWhenNewer := by
  unfold Obligations.EpochIsAppliedWhenNewer
  refine ⟨fun c s => ⟨fun hnewer hfree => congrArg fin ?_, fun hold hfree => congrArg fin ?_⟩,
    fun c s hwaits => congrArg fin (if_pos hwaits), commitEpochEffect_fails, fun c s e hpend hheld => ?_⟩
  · rw [State.applyEpoch_free hfree, if_pos ((newer_16_iff _ _).mpr hnewer)]
  · rw [State.applyEpoch_free hfree, if_neg (mt (newer_16_iff _ _).mp hold)]
  · change execCommitEpochEffect c s = _
    simp only [execCommitEpochEffect, hpend]
    exact if_pos hheld

/-! ### Fences, their end, and resolve writes (R319, R329, R332, R364) -/

/-- The member FENCED under a fence's epoch (R332). -/
def State.fenced (s : State) (c epoch : Nat) : State :=
  (s.set (CM_EPOCH.fence_epoch c) epoch).set (CM_STAT.phase c) phFENCED

/-- A member made FENCED keeps C and its bank (R332). -/
theorem State.fenced_shows (s : State) (c epoch : Nat) : (s.fenced c epoch).phase c = phFENCED
    ∧ (s.fenced c epoch).get (CM_EPOCH.fence_epoch c) = epoch % 2 ^ (CM_EPOCH.fence_epoch c).w
    ∧ (s.fenced c epoch).get (CM_STEP.committed c) = s.get (CM_STEP.committed c)
    ∧ (s.fenced c epoch).active c = s.active c := by
  unfold State.fenced State.phase State.active
  refine ⟨(State.get_set_same _ _ _).trans rfl, ?_, ?_, ?_⟩
  · rw [State.get_set_ne, State.get_set_same]
    simp only [Loc.key, CM_EPOCH.fence_epoch, CM_STAT.phase]
    omega
  all_goals
    rw [State.get_set_ne, State.get_set_ne]
      <;> (simp only [Loc.key, CM_EPOCH.fence_epoch, CM_STAT.phase, CM_STEP.committed, CM_STAT.sel]; omega)

/-- A fence's epoch noted leaves the phase. -/
theorem State.phase_set_fence_epoch (s : State) (c epoch : Nat) :
    (s.set (CM_EPOCH.fence_epoch c) epoch).phase c = s.phase c :=
  State.get_set_ne _ _ _ _ (by simp only [Loc.key, CM_EPOCH.fence_epoch, CM_STAT.phase]; omega)

/-- A newer fence makes a member that is not ARMED FENCED, and ends the STEP_END that runs (R332). -/
theorem State.fence_unarmed {s : State} {c : Nat} (epoch : Nat) (harmed : s.phase c ≠ phARMED) :
    s.fence c epoch = match s.stepEndJob c with
      | some j => (s.fenced c epoch).endCmd j stFENCED
      | none => s.fenced c epoch :=
  if_neg ((s.phase_set_fence_epoch c epoch).symm ▸ harmed)

/-- A newer fence waits for the flip of an ARMED member (R319). -/
theorem State.fence_armed {s : State} {c : Nat} (epoch : Nat) (harmed : s.phase c = phARMED) :
    s.fence c epoch = (s.set (CM_EPOCH.fence_epoch c) epoch).setCm c { s.cmAt c with fence := some epoch } :=
  if_pos ((s.phase_set_fence_epoch c epoch).trans harmed)

/-- An accepted fence takes effect where its epoch is newer, and is answered (R332, R364). -/
theorem exec_fence {bytes : List Byte} {m : Msg} {s : State} (hacc : accepted 0x38 bytes m s = true) :
    exec (.fence bytes) s = .next (((if newer 16 (m.at_ 0 2) (s.get (CM_EPOCH.epoch m.ctx)) then
      (s.done m).fence m.ctx (m.at_ 0 2) else s.done m).fenceAck m).after) := State.receive_accepted _ hacc

/-- A newer fence where no STEP_END runs: FENCED, and one answer in line (R332, R364). -/
theorem fence_answered (bytes : List Byte) (m : Msg) (s : State) (hacc : accepted 0x38 bytes m s = true)
    (hnewer : newer 16 (m.at_ 0 2) (s.get (CM_EPOCH.epoch m.ctx)) = true) (harmed : s.phase m.ctx ≠ phARMED)
    (hidle : s.stepEndJob m.ctx = none) :
    ∃ (t : State) (x : Msg), exec (.fence bytes) s = .next t.after ∧ t.phase m.ctx = phFENCED
      ∧ t.get (CM_EPOCH.fence_epoch m.ctx) = m.at_ 0 2 % 2 ^ (CM_EPOCH.fence_epoch m.ctx).w
      ∧ t.fab.txq = s.fab.txq ++ [x] ∧ x.typ = 0x39 ∧ x.dst = m.src
      ∧ t.get (CM_STEP.committed m.ctx) = s.get (CM_STEP.committed m.ctx) ∧ t.active m.ctx = s.active m.ctx := by
  have hidle' : (s.done m).stepEndJob m.ctx = none := hidle
  have hfence : (s.done m).fence m.ctx (m.at_ 0 2) = (s.done m).fenced m.ctx (m.at_ 0 2) := by
    rw [State.fence_unarmed (s := s.done m) _ harmed, hidle']
  obtain ⟨hphase, hepoch, hcommitted, hsel⟩ := (s.done m).fenced_shows m.ctx (m.at_ 0 2)
  have hexec := exec_fence hacc
  rw [if_pos hnewer, hfence] at hexec
  exact ⟨_, _, hexec, hphase, hepoch, rfl, rfl, rfl, hcommitted, hsel⟩

/-- A newer fence where a STEP_END runs with nothing outstanding: FENCED, and so the STEP_END ends (R332). -/
theorem fence_ends_stepEnd (bytes : List Byte) (m : Msg) (s : State) (j : Job) (hacc : accepted 0x38 bytes m s = true)
    (hnewer : newer 16 (m.at_ 0 2) (s.get (CM_EPOCH.epoch m.ctx)) = true) (harmed : s.phase m.ctx ≠ phARMED)
    (hj : s.stepEndJob m.ctx = some j) (hout : j.out = 0) :
    ∃ t : State, exec (.fence bytes) s = .next t.after ∧ t.phase m.ctx = phFENCED
      ∧ t.get (CM_EPOCH.fence_epoch m.ctx) = m.at_ 0 2 % 2 ^ (CM_EPOCH.fence_epoch m.ctx).w
      ∧ (t.ent j.key).phase = .done ∧ (t.ent j.key).status = stFENCED := by
  have hj' : (s.done m).stepEndJob m.ctx = some j := hj
  obtain ⟨hctx, -⟩ := State.stepEndJob_some hj
  obtain ⟨u, hu⟩ : ∃ u, u = (s.done m).fenced m.ctx (m.at_ 0 2) := ⟨_, rfl⟩
  have hfence : (s.done m).fence m.ctx (m.at_ 0 2) =
      u.complete j stFENCED (u.endValue j stFENCED) (j.offFlag stFENCED) := by
    rw [State.fence_unarmed (s := s.done m) _ harmed, hj', hu]
    exact if_pos hout
  obtain ⟨hphase, hepoch, -⟩ := (s.done m).fenced_shows m.ctx (m.at_ 0 2)
  rw [← hu] at hphase hepoch
  have hlt := ctx_lt_of_accepted hacc
  obtain ⟨hpart, hent, -⟩ := u.complete_part j stFENCED (u.endValue j stFENCED) (j.offFlag stFENCED) (hctx ▸ hlt)
  rw [hctx] at hpart
  have hexec := exec_fence hacc
  rw [if_pos hnewer, hfence] at hexec
  refine ⟨_, hexec, (hpart.g _ ?_ ?_).trans hphase, (hpart.g _ ?_ ?_).trans hepoch, (congrArg Entry.phase hent).trans rfl,
    (congrArg Entry.status hent).trans rfl⟩
  all_goals simp only [CommitKey, Loc.key, CM_STAT.phase, CM_STAT.failed, CM_EPOCH.fence_epoch]; omega

/-- A newer fence at an ARMED member waits for the flip (R319). -/
theorem fence_waits (bytes : List Byte) (m : Msg) (s : State) (hacc : accepted 0x38 bytes m s = true)
    (hnewer : newer 16 (m.at_ 0 2) (s.get (CM_EPOCH.epoch m.ctx)) = true) (harmed : s.phase m.ctx = phARMED) :
    ∃ t : State, exec (.fence bytes) s = .next t.after ∧ t.phase m.ctx = phARMED
      ∧ (t.cmAt m.ctx).fence = some (m.at_ 0 2) ∧ t.get (CM_HALT.h m.ctx) = s.get (CM_HALT.h m.ctx) := by
  have harmed' : (s.done m).phase m.ctx = phARMED := harmed
  have hexec := exec_fence hacc
  rw [if_pos hnewer, State.fence_armed _ harmed'] at hexec
  refine ⟨_, hexec, ((s.done m).phase_set_fence_epoch m.ctx _).trans harmed, ?_, ?_⟩
  · exact congrArg CmS.fence (State.cmAt_setCm_same ((s.done m).set (CM_EPOCH.fence_epoch m.ctx) (m.at_ 0 2)) m.ctx
      { (s.done m).cmAt m.ctx with fence := some (m.at_ 0 2) })
  · exact State.get_set_ne (s.done m) (CM_EPOCH.fence_epoch m.ctx) (CM_HALT.h m.ctx) _
      (by simp only [Loc.key, CM_EPOCH.fence_epoch, CM_HALT.h]; omega)

/-- Unfencing brings the fence's epoch into force and opens the interval with C and the bank unchanged (R332). -/
theorem State.unfence_shows {s : State} {c : Nat} (hfenced : s.phase c = phFENCED) : (s.unfence c).phase c = phOPEN
    ∧ (s.unfence c).get (CM_EPOCH.epoch c) = s.get (CM_EPOCH.fence_epoch c) % 2 ^ (CM_EPOCH.epoch c).w
    ∧ (s.unfence c).get (CM_STEP.committed c) = s.get (CM_STEP.committed c) ∧ (s.unfence c).active c = s.active c := by
  rw [State.unfence, if_pos hfenced]
  unfold State.phase State.active
  refine ⟨?_, ?_, ?_, ?_⟩
  · rw [State.get_setCm, State.get_set_same]
    rfl
  · rw [State.get_setCm, State.get_set_ne, State.get_set_same]
    simp only [Loc.key, CM_EPOCH.epoch, CM_STAT.phase]
    omega
  all_goals
    rw [State.get_setCm, State.get_set_ne, State.get_set_ne]
      <;> (simp only [Loc.key, CM_EPOCH.epoch, CM_STAT.phase, CM_STEP.committed, CM_STAT.sel]; omega)

/-- A member that can be resolved is not ARMED (R329). -/
theorem State.unarmed_of_resolvable {s : State} {c : Nat} (h : s.resolvable c = true) : s.phase c ≠ phARMED := by
  intro harmed
  rw [State.resolvable, harmed] at h
  simp [phARMED, phVOTED, phINDOUBT, phFENCED] at h

/-- A resolve write that does not name the member's transaction or an action sets cfg_err (R329). -/
theorem State.resolve_ignored {s : State} {c : Nat} (harmed : s.phase c ≠ phARMED)
    (h : s.resolvable c = false ∨ s.get (CM_RESOLVE.cseq c) ≠ s.get (CM_STAT.cseq c)
      ∨ (s.get (CM_RESOLVE.action c) ≠ 1 ∧ s.get (CM_RESOLVE.action c) ≠ 2)) :
    s.resolve c = s.set (CM_STAT.cfg_err c) 1 :=
  (if_neg harmed).trans (if_pos (h.imp_left Bool.eq_false_iff.mp))

section
variable {s : State} {c : Nat} (hres : s.resolvable c = true)
  (hcseq : s.get (CM_RESOLVE.cseq c) = s.get (CM_STAT.cseq c))
include hres hcseq

/-- A resolve write with action 1 arms the flip for now + arm_min; a FENCED member keeps its fence for after it (R329,
R332). -/
theorem State.resolve_arms (hact : s.get (CM_RESOLVE.action c) = 1) : s.resolve c =
    (if s.phase c = phFENCED then s.setCm c { s.cmAt c with fence := some (s.get (CM_EPOCH.fence_epoch c)) } else s).arm c
      (s.now + s.get TK_HT_CFG.arm_min) none := by
  refine (if_neg (State.unarmed_of_resolvable hres)).trans ((if_neg (by simp [hres, hcseq, hact])).trans
    ((if_pos hact).trans ?_))
  split <;> rfl

/-- A resolve write with action 2 aborts the interval with PEER_LOST (R329). -/
theorem State.resolve_aborts (hact : s.get (CM_RESOLVE.action c) = 2) : s.resolve c = s.abort c stPEERLOST 0xFFFF :=
  (if_neg (State.unarmed_of_resolvable hres)).trans ((if_neg (by simp [hres, hcseq, hact])).trans
    (if_neg (by simp [hact])))

end

/-- Settles O34: each fence by the phase it meets, its end, and each resolve write by its action. -/
theorem fenceUnfenceAndResolve : Obligations.FenceUnfenceAndResolve := by
  unfold Obligations.FenceUnfenceAndResolve
  refine ⟨fence_answered, fence_ends_stepEnd, fun bytes m s hacc hold => ?_, fence_waits,
    fun c s hfenced => ⟨s.unfence c, rfl, State.unfence_shows hfenced⟩, fun c s hopen => congrArg fin (if_neg hopen),
    fun c s hres hcseq hact => congrArg fin (State.resolve_aborts hres hcseq hact),
    fun c s hres hfenced hcseq hact => ⟨s.resolve c, rfl, ?_⟩, fun c s harmed => congrArg fin (if_pos harmed),
    fun c s hres hopen hcseq hact => ⟨s.resolve c, rfl, ?_⟩,
    fun c s harmed hwrong => congrArg fin (State.resolve_ignored harmed hwrong)⟩
  · rw [exec_fence hacc, if_neg (Bool.eq_false_iff.mp hold)]
  · rw [State.resolve_arms hres hcseq hact, if_pos hfenced]
    obtain ⟨hphase, -, hcm, -⟩ := (s.setCm c { s.cmAt c with fence := some (s.get (CM_EPOCH.fence_epoch c)) }).arm_shows c
      (s.now + s.get TK_HT_CFG.arm_min) none
    rw [hcm, State.cmAt_setCm_same]
    exact ⟨hphase, rfl⟩
  · rw [State.resolve_arms hres hcseq hact, if_neg hopen]
    obtain ⟨hphase, hhour, -⟩ := s.arm_shows c (s.now + s.get TK_HT_CFG.arm_min) none
    exact ⟨hphase, hhour⟩

end Sys2Proof.Machine

/-! ## Statements of 11_fabric_port.md -/

namespace Sys2Proof.Machine

/-! ### Messages as bytes (R3, R343 to R345) -/

/-- The bytes of a value read back as the value, cut to their number (R3). -/
theorem leNat_leBytes (n v : Nat) : leNat (leBytes n v) = v % 256 ^ n := by
  induction n generalizing v with
  | zero => simp [leBytes, leNat, Nat.mod_one]
  | succ n ih => rw [leBytes, leNat, ih, BitVec.toNat_ofNat, show 2 ^ 8 = 256 from rfl, pow_succ', Nat.mod_mul]

/-- A field that stands first is read as its value. -/
theorem leAt_leBytes_append (n v : Nat) (rest : List Byte) : leAt (leBytes n v ++ rest) 0 n = v % 256 ^ n := by
  rw [leAt, List.drop_zero, List.take_left' (leBytes_length n v), leNat_leBytes]

/-- A field behind other bytes is read in what follows them. -/
theorem leAt_append_of_le {as : List Byte} {lo : Nat} (h : as.length ≤ lo) (rest : List Byte) (n : Nat) :
    leAt (as ++ rest) lo n = leAt rest (lo - as.length) n := by
  rw [leAt, List.drop_append, List.drop_eq_nil_of_le h, List.nil_append, leAt]

/-- A step of the CRC keeps to 32 bits (R344). -/
theorem crcBit_lt {c : Nat} (h : c < 2 ^ 32) : crcBit c < 2 ^ 32 := by
  unfold crcBit
  split
  · exact Nat.xor_lt_two_pow (by omega) (by norm_num)
  · omega

/-- A byte added to the CRC keeps it to 32 bits (R344). -/
theorem crcByte_lt {c : Nat} (h : c < 2 ^ 32) (b : Byte) : crcByte c b < 2 ^ 32 := by
  have hb : c ^^^ b.toNat < 2 ^ 32 := Nat.xor_lt_two_pow h (b.isLt.trans (by norm_num))
  unfold crcByte
  iterate 8 apply crcBit_lt
  exact hb

/-- A CRC-32C is a number of 32 bits (R344). -/
theorem crc32c_lt (bs : List Byte) : crc32c bs < 2 ^ 32 := by
  have hfold : bs.foldl crcByte 0xFFFFFFFF < 2 ^ 32 :=
    List.foldlRecOn (motive := (· < 2 ^ 32)) bs crcByte (by norm_num) fun _ hc b _ => crcByte_lt hc b
  unfold crc32c
  exact Nat.xor_lt_two_pow hfold (by norm_num)

/-- The common header has 16 bytes (R343). -/
@[simp] theorem Msg.commonHeader_length (m : Msg) : m.commonHeader.length = 16 := by
  simp [Msg.commonHeader]

/-- What a fragment header has before its digest: the common header, the team and the stripe (R345). -/
def Msg.fragStart (m : Msg) : List Byte := m.commonHeader ++ leBytes 2 m.team ++ leBytes 6 m.stripe

@[simp] theorem Msg.fragStart_length (m : Msg) : m.fragStart.length = 24 := by
  simp [Msg.fragStart]

/-- A fragment header is its start, the digest and the step (R345). -/
theorem Msg.fragHeader_eq (m : Msg) (digest : Nat) :
    m.fragHeader digest = m.fragStart ++ leBytes 4 digest ++ leBytes 4 m.step := by
  simp only [Msg.fragHeader, Msg.fragStart, Msg.commonHeader]

/-- A message's bytes begin with the common header, whatever its type (R343, R345). -/
theorem Msg.encode_eq_commonHeader_append (m : Msg) : ∃ rest, m.encode = m.commonHeader ++ rest := by
  unfold Msg.encode
  split
  · exact ⟨_, by simp only [Msg.fragHeader_eq, Msg.fragStart, List.append_assoc]; rfl⟩
  · exact ⟨_, List.append_assoc _ _ _⟩

section
variable {m : Msg} (h : m.wf = true)
include h

/-- The fields of a well-formed message's header byte 1 fit it (R343). -/
theorem Msg.flagByte_fields : m.flagByte < 256 ∧ m.flagByte % 4 = m.ctx ∧ m.flagByte / 4 % 2 = m.bit2
    ∧ m.flagByte / 8 % 2 = m.ord ∧ m.flagByte / 16 = m.ver := by
  simp only [Msg.wf, Bool.and_eq_true, decide_eq_true_eq] at h
  unfold Msg.flagByte
  omega

/-- The common fields of a message's header read back, and its body's length (R343). -/
theorem Msg.parseHead_encode (more : List Byte) :
    parseHead (m.encode ++ more) = { m with team := 0, stripe := 0, step := 0, body := [] }
      ∧ leAt (m.encode ++ more) 10 2 = m.body.length := by
  obtain ⟨rest, hrest⟩ := m.encode_eq_commonHeader_append
  obtain ⟨hflag, hctx, hbit2, hord, hver⟩ := Msg.flagByte_fields h
  simp only [Msg.wf, Bool.and_eq_true, decide_eq_true_eq] at h
  rw [hrest, List.append_assoc]
  constructor
  · simp [parseHead, Msg.commonHeader, leAt_leBytes_append, leAt_append_of_le, Nat.mod_eq_of_lt hflag, hctx]
    omega
  · simp [Msg.commonHeader, leAt_leBytes_append, leAt_append_of_le]
    omega

/-- A message of the common header has no team, stripe or step (R343). -/
theorem Msg.eq_of_common (htyp : isTeamType m.typ = false) : { m with team := 0, stripe := 0, step := 0 } = m := by
  obtain ⟨-, hteam⟩ := Bool.and_eq_true_iff.mp h
  obtain ⟨⟨hteam, hstripe⟩, hstep⟩ : (m.team = 0 ∧ m.stripe = 0) ∧ m.step = 0 := by simpa [htyp] using hteam
  cases m
  cases hteam
  cases hstripe
  cases hstep
  rfl

/-- The fields of a fragment header behind the common ones read back (R345). -/
theorem Msg.leAt_fragHeader (htyp : isTeamType m.typ = true) {digest : Nat} (hdigest : digest < 2 ^ 32) (rest : List Byte) :
    leAt (m.fragHeader digest ++ rest) 16 2 = m.team ∧ leAt (m.fragHeader digest ++ rest) 18 6 = m.stripe
      ∧ leAt (m.fragHeader digest ++ rest) 24 4 = digest ∧ leAt (m.fragHeader digest ++ rest) 28 4 = m.step := by
  obtain ⟨-, hteam⟩ := Bool.and_eq_true_iff.mp h
  simp only [htyp, if_true, Bool.and_eq_true, decide_eq_true_eq] at hteam
  simp [Msg.fragHeader_eq, Msg.fragStart, leAt_leBytes_append, leAt_append_of_le]
  omega

/-- The bytes of a message of the common header parse as the message (R343, R344). -/
theorem Msg.parseCommon_encode (htyp : isTeamType m.typ = false) (more : List Byte) :
    parseCommon (m.encode ++ more) = some m := by
  have henc : m.encode ++ more
      = m.commonHeader ++ (m.body ++ (leBytes 4 (crc32c (m.commonHeader ++ m.body)) ++ more)) := by
    simp [Msg.encode, htyp]
  have hfits : ¬ (m.encode ++ more).length < 20 + m.body.length := by simp [henc]; omega
  have hcrc : leAt (m.encode ++ more) (16 + m.body.length) 4 = crc32c (m.commonHeader ++ m.body) := by
    rw [henc, leAt_append_of_le (by simp), leAt_append_of_le (by simp), Msg.commonHeader_length, Nat.add_sub_cancel_left,
      Nat.sub_self, leAt_leBytes_append]
    exact Nat.mod_eq_of_lt (crc32c_lt _)
  have htake : (m.encode ++ more).take (16 + m.body.length) = m.commonHeader ++ m.body := by
    rw [henc, ← List.append_assoc, List.take_left' (by simp)]
  have hbody : ((m.encode ++ more).drop 16).take m.body.length = m.body := by
    rw [henc, List.drop_left' m.commonHeader_length, List.take_left]
  obtain ⟨hhead, hlen⟩ := Msg.parseHead_encode h more
  rw [parseCommon, hlen, if_neg hfits, htake, if_pos hcrc, hhead, hbody]
  exact congrArg some (Msg.eq_of_common h htyp)

/-- The bytes of a fragment parse as the message (R345). -/
theorem Msg.parseFrag_encode (htyp : isTeamType m.typ = true) (more : List Byte) :
    parseFrag (m.encode ++ more) = some m := by
  have hcrc : crc32c (m.fragHeader 0 ++ m.body) < 2 ^ 32 := crc32c_lt _
  have henc : m.encode ++ more = m.fragHeader (crc32c (m.fragHeader 0 ++ m.body)) ++ (m.body ++ more) := by
    simp [Msg.encode, htyp]
  have hzero : m.fragHeader 0 ++ m.body = m.fragStart ++ leBytes 4 0 ++ (leBytes 4 m.step ++ m.body) := by
    simp [Msg.fragHeader_eq]
  generalize hverifies : crc32c (m.fragHeader 0 ++ m.body) = digest at hcrc henc
  rw [hzero] at hverifies
  obtain ⟨hteam, hstripe, hdigest, hstep⟩ := Msg.leAt_fragHeader h htyp hcrc (m.body ++ more)
  rw [← henc] at hteam hstripe hdigest hstep
  have hstart : m.encode ++ more = m.fragStart ++ leBytes 4 digest ++ (leBytes 4 m.step ++ m.body ++ more) := by
    simp [henc, Msg.fragHeader_eq]
  have htake : (m.encode ++ more).take 24 = m.fragStart := by
    rw [hstart, List.append_assoc, List.take_left' m.fragStart_length]
  have hrest : ((m.encode ++ more).drop 28).take (4 + m.body.length) = leBytes 4 m.step ++ m.body := by
    rw [hstart, List.drop_left' (by simp), List.take_left' (by simp)]
  have hbody : ((m.encode ++ more).drop 32).take m.body.length = m.body := by
    rw [henc, List.drop_left' (by simp [Msg.fragHeader_eq]), List.take_left]
  have hfits : ¬ (m.encode ++ more).length < 32 + m.body.length := by simp [hstart]; omega
  obtain ⟨hhead, hlen⟩ := Msg.parseHead_encode h more
  rw [parseFrag, hlen, if_neg hfits, htake, hrest, hdigest, if_pos hverifies.symm, hhead, hteam, hstripe, hstep, hbody]

end

/-- Settles O5: each header's bytes read back field by field, and its check is the one that the parser computes. -/
theorem encodedMessageParsesBack : Obligations.EncodedMessageParsesBack := by
  unfold Obligations.EncodedMessageParsesBack
  intro m more h
  have htyp : leAt (m.encode ++ more) 0 1 = m.typ := congrArg Msg.typ (Msg.parseHead_encode h more).1
  rw [parseMsg, htyp]
  split
  next hteam => exact Msg.parseFrag_encode h hteam more
  next hcommon => exact Msg.parseCommon_encode h (Bool.eq_false_iff.mpr hcommon) more

end Sys2Proof.Machine

namespace Sys2Proof.Machine

/-! ### A block with nothing to do (R339) -/

/-- With nothing in line the port sends nothing (R339). -/
theorem State.transmit_none (s : State) (h : s.fab.txq = []) : s.transmit = s := by
  rw [State.transmit, h, pickTx]

/-- Settles O3: the port has nothing to send, and nothing under way follows (R14). -/
theorem idleBlockStaysAsItIs : Obligations.IdleBlockStaysAsItIs := by
  unfold Obligations.IdleBlockStaysAsItIs
  intro s hpending htxq hquiet
  rw [step, hpending, s.transmit_none htxq]
  exact congrArg Host.Outcome.next (quietBlockHasNoFollowUp s hquiet)

end Sys2Proof.Machine

namespace Sys2Proof.Machine

/-! ### The width of the port (R337) -/

/-- How many lanes are ACTIVE (R337). -/
def State.activeLanes (s : State) : Nat := ((List.range 18).filter fun p => s.lane p == lnACTIVE).length

/-- There are 18 lanes. -/
theorem State.activeLanes_le (s : State) : s.activeLanes ≤ 18 :=
  (List.length_filter_le _ _).trans_eq List.length_range

/-- The block with FB_STAT.m and narrow written for the lanes' states (R337). -/
def State.laneCounted (s : State) : State :=
  (s.set FB_STAT.m s.activeLanes).setB FB_STAT.narrow (decide (s.activeLanes < 16))

/-- Beside FB_STAT the count of the lanes changes only the interrupt causes and what an emergency message does (R337). -/
theorem State.get_syncLanes (s : State) (l : Loc) (h : l.key / 64 ≠ 0x108) :
    s.syncLanes.get l = s.laneCounted.get l ∨ s.syncLanes.get l = (s.laneCounted.irq 20).get l := by
  unfold State.syncLanes
  extract_lets m was s1 s2
  have hirq : s2 = s.laneCounted ∨ s2 = s.laneCounted.irq 20 := by
    simp only [s2]
    split
    · exact .inr rfl
    · exact .inl rfl
  split
  · rw [State.get_emcy _ _ _ _ h]
    exact hirq.imp (congrArg (State.get · l)) (congrArg (State.get · l))
  · exact hirq.imp (congrArg (State.get · l)) (congrArg (State.get · l))

/-- A field that is neither of FB_STAT nor of GL_MG_STAT, nor the interrupt causes, stays as it was. -/
theorem State.get_syncLanes_ne (s : State) (l : Loc) (hmg : l.key / 64 ≠ 0x108) (hstat : l.key / 64 ≠ 0x15010)
    (hcause : l.key ≠ GL_IRQ_STAT.cause.key) : s.syncLanes.get l = s.get l := by
  have hm : l.key ≠ FB_STAT.m.key := by rintro e; rw [e] at hstat; exact hstat rfl
  have hnarrow : l.key ≠ FB_STAT.narrow.key := by rintro e; rw [e] at hstat; exact hstat rfl
  have hcounted : s.laneCounted.get l = s.get l := by
    rw [State.laneCounted, State.setB_eq, State.get_set_ne _ _ _ _ hnarrow, State.get_set_ne _ _ _ _ hm]
  rcases s.get_syncLanes l hmg with h | h
  · exact h.trans hcounted
  · exact (h.trans (State.get_irq_ne _ _ _ hcause)).trans hcounted

/-- FB_STAT.m holds the number of ACTIVE lanes (R337). -/
theorem State.syncLanes_m (s : State) : s.syncLanes.get FB_STAT.m = s.activeLanes := by
  have hcounted : s.laneCounted.get FB_STAT.m = s.activeLanes := by
    rw [State.laneCounted, State.setB_eq, State.get_set_ne _ _ _ _ (by decide), State.get_set_same]
    exact Nat.mod_eq_of_lt (s.activeLanes_le.trans_lt (by decide))
  rcases s.get_syncLanes FB_STAT.m (by decide) with h | h
  · exact h.trans hcounted
  · exact (h.trans (State.get_irq_ne _ _ _ (by decide))).trans hcounted

/-- The port is narrow with fewer than 16 lanes ACTIVE (R337). -/
theorem State.syncLanes_narrow (s : State) : s.syncLanes.is FB_STAT.narrow = true ↔ s.activeLanes < 16 := by
  have hcounted : s.laneCounted.get FB_STAT.narrow = b2n (decide (s.activeLanes < 16)) := by
    rw [State.laneCounted, State.setB_eq, State.get_set_same]
    by_cases h : s.activeLanes < 16 <;> simp [h, b2n, FB_STAT.narrow]
  have hnarrow : s.syncLanes.get FB_STAT.narrow = b2n (decide (s.activeLanes < 16)) := by
    rcases s.get_syncLanes FB_STAT.narrow (by decide) with h | h
    · exact h.trans hcounted
    · exact (h.trans (State.get_irq_ne _ _ _ (by decide))).trans hcounted
  rw [State.is, hnarrow]
  by_cases h : s.activeLanes < 16 <;> simp [h, b2n]

/-- A cause of interrupt that is set stays set (R525). -/
theorem State.testBit_cause_syncLanes {s : State} {v : Nat} (hv : v < 32) (h : (s.get GL_IRQ_STAT.cause).testBit v = true) :
    (s.syncLanes.get GL_IRQ_STAT.cause).testBit v = true := by
  have hcounted : (s.laneCounted.get GL_IRQ_STAT.cause).testBit v = true := by
    rw [State.laneCounted, State.setB_eq, State.get_set_ne _ _ _ _ (by decide), State.get_set_ne _ _ _ _ (by decide)]
    exact h
  rcases s.get_syncLanes GL_IRQ_STAT.cause (by decide) with hsame | hraised
  · rw [hsame]; exact hcounted
  · rw [hraised]; exact (CommitFrame.irqs s.laneCounted 20).irq v hv hcounted

/-- A lane's registers stay as they were (R337). -/
theorem State.get_syncLanes_lane (s : State) (l : Loc) (h : 0x15100 ≤ l.key / 64) : s.syncLanes.get l = s.get l :=
  s.get_syncLanes_ne l (by omega) (by omega) (by simp only [Loc.key, GL_IRQ_STAT.cause] at h ⊢; omega)

/-- The lanes' states stay as they were (R337). -/
@[simp] theorem State.lane_syncLanes (s : State) (p : Nat) : s.syncLanes.lane p = s.lane p :=
  s.get_syncLanes_lane _ (by simp only [Loc.key, FB_LANE.state]; omega)

/-- So does their number (R337). -/
@[simp] theorem State.activeLanes_syncLanes (s : State) : s.syncLanes.activeLanes = s.activeLanes := by
  simp only [State.activeLanes, State.lane_syncLanes]

/-- The fabric port's hidden state stays as it was. -/
@[simp] theorem State.fab_syncLanes (s : State) : s.syncLanes.fab = s.fab := by
  rw [(Resamples.syncLanes s).rest]

/-! ### A lane written (R334, R336) -/

/-- A lane's state, its map bit and its logical lane written. -/
def State.putLane (s : State) (p state mapped logical : Nat) : State :=
  ((s.set (FB_LANE.state p) state).set (FB_LANE.mapped p) mapped).set (FB_LANE.logical p) logical

section
variable (s : State) (p state mapped logical : Nat)

/-- Writing a lane changes no other register. -/
theorem State.get_putLane_ne (l : Loc) (h : l.key / 64 ≠ 0x15100 + 8 * p) :
    (s.putLane p state mapped logical).get l = s.get l := by
  rw [State.putLane, State.get_set_ne, State.get_set_ne, State.get_set_ne]
    <;> (simp only [Loc.key, FB_LANE.state, FB_LANE.mapped, FB_LANE.logical] at h ⊢; omega)

/-- Another lane keeps its state. -/
theorem State.lane_putLane_ne {q : Nat} (h : q ≠ p) : (s.putLane p state mapped logical).lane q = s.lane q :=
  s.get_putLane_ne p state mapped logical _ (by simp only [Loc.key, FB_LANE.state]; omega)

/-- The fields of a lane read as they were written. -/
theorem State.putLane_shows : (s.putLane p state mapped logical).lane p = state % 4
    ∧ (s.putLane p state mapped logical).get (FB_LANE.mapped p) = mapped % 2
    ∧ (s.putLane p state mapped logical).get (FB_LANE.logical p) = logical % 16 := by
  refine ⟨?_, ?_, State.get_set_same _ _ _⟩
  · rw [State.lane, State.putLane, State.get_set_ne, State.get_set_ne, State.get_set_same]
      <;> simp [Loc.key, FB_LANE.state, FB_LANE.mapped, FB_LANE.logical]
  · rw [State.putLane, State.get_set_ne, State.get_set_same] <;> simp [Loc.key, FB_LANE.mapped, FB_LANE.logical]

end

/-! ### A lane that goes down (R334, R436) -/

/-- The fabric port's hidden state but for the messages in line. -/
def State.fabRest (s : State) : FabS := { s.fab with txq := [] }

/-- A report only puts messages in line (R367). -/
theorem State.fabRest_reportTo (s : State) (subject kind count first : Nat) :
    (s.reportTo subject kind count first).fabRest = s.fabRest := by
  unfold State.reportTo
  refine State.foldl_keeps State.fabRest _ (fun u d => ?_) _ s
  rfl

/-- An entry of the report table closed only puts messages in line (R367). -/
theorem State.fabRest_closeRep (s : State) (e : RepEnt) : (s.closeRep e).fabRest = s.fabRest := by
  unfold State.closeRep
  dsimp only
  split
  · rfl
  · exact State.fabRest_reportTo _ _ _ _ _

/-- So does a suspect observed (R366, R367, R414). -/
theorem State.fabRest_suspect (s : State) (device : Nat) : (s.suspect device).fabRest = s.fabRest := by
  have hobserve : (s.suspect device).fabRest = (s.observe device 7).fabRest := rfl
  rw [hobserve]
  unfold State.observe
  split
  · rfl
  · extract_lets u v
    have hu : u.fabRest = s.fabRest := by
      simp only [u]
      split
      · rfl
      · split
        · exact s.fabRest_closeRep _
        · rfl
    exact (v.fabRest_reportTo _ _ _ _).trans hu

/-- The block with a lane noted DOWN and counted, the fabric vector raised and a rebuild due (R334). -/
def State.laneFell (s : State) (p : Nat) : State :=
  let u := (((s.setFab { s.fab with laneDn := setAdd s.fab.laneDn p }).set (FB_LANE.state p) lnDOWN).satInc
    (FB_LANE.downs p) 1).irq 20
  u.setFab { u.fab with rebuildPend := true }

section
variable (s : State) (p : Nat)

/-- A lane that fell is DOWN and counted, and its vector raised (R334). -/
theorem State.laneFell_shows : (s.laneFell p).lane p = lnDOWN
    ∧ (s.laneFell p).get (FB_LANE.downs p) = min 65535 (s.get (FB_LANE.downs p) + 1)
    ∧ ((s.laneFell p).get GL_IRQ_STAT.cause).testBit 20 = true := by
  have hne : (FB_LANE.state p).key ≠ (FB_LANE.downs p).key := by simp only [Loc.key, FB_LANE.state, FB_LANE.downs]; omega
  refine ⟨?_, ?_, State.testBit_irq _ (by decide)⟩
  · rw [State.lane, State.laneFell, State.get_setFab,
      State.get_irq_ne _ _ _ (by simp only [Loc.key, FB_LANE.state, GL_IRQ_STAT.cause]; omega), State.satInc_eq,
      State.get_set_ne _ _ _ _ hne, State.get_set_same]
    rfl
  · rw [State.laneFell, State.get_setFab,
      State.get_irq_ne _ _ _ (by simp only [Loc.key, FB_LANE.downs, GL_IRQ_STAT.cause]; omega), State.get_count16 _ _ rfl,
      State.get_set_ne _ _ _ _ hne.symm, State.get_setFab]

/-- The registers of the other lanes stay as they were (R334). -/
theorem State.get_laneFell_ne (l : Loc) (h : l.key / 64 ≠ 0x15100 + 8 * p) (hcause : l.key ≠ GL_IRQ_STAT.cause.key) :
    (s.laneFell p).get l = s.get l := by
  rw [State.laneFell, State.get_setFab, State.get_irq_ne _ _ _ hcause, State.satInc_eq, State.get_set_ne, State.get_set_ne,
    State.get_setFab]
    <;> (simp only [Loc.key, FB_LANE.state, FB_LANE.downs] at h ⊢; omega)

/-- LANE_DOWN of a lane in use: the lane falls, at most a suspect is reported, and the width is counted anew (R334, R337,
R436). -/
theorem exec_laneDown_used (p : Fin 18) (h : s.lane p = lnACTIVE ∨ s.lane p = lnSPARE) :
    ∃ u, Reports (s.laneFell p) u ∧ u.fabRest = (s.laneFell p).fabRest
      ∧ exec (.laneDown p) s = .next u.syncLanes.after := by
  have hexec : exec (.laneDown p) s = fin (if (s.laneFell p).get (FB_LANE.downs p) = (s.laneFell p).get DG_SUS_CFG.lane_thresh
      then (s.laneFell p).suspect (s.laneFell p).self else s.laneFell p).syncLanes := if_pos h
  rw [hexec]
  split
  · exact ⟨_, .suspect _ _, State.fabRest_suspect _ _, rfl⟩
  · exact ⟨_, .refl _, rfl, rfl⟩

end

/-- A lane in use that goes down is counted, leaves the width and asks for a rebuild (R334, R337). -/
theorem laneDown_counts (p : Fin 18) (s : State) (h : s.lane p = lnACTIVE ∨ s.lane p = lnSPARE) :
    ∃ t : State, exec (.laneDown p) s = .next t.after ∧ t.lane p = lnDOWN ∧ p.val ∈ t.fab.laneDn
      ∧ t.fab.rebuildPend = true
      ∧ t.get (FB_LANE.downs p) = min 65535 (s.get (FB_LANE.downs p) + 1)
      ∧ nbits (t.get GL_IRQ_STAT.cause) 20 1 = 1
      ∧ t.get FB_STAT.m = t.activeLanes
      ∧ (t.is FB_STAT.narrow = true ↔ t.get FB_STAT.m < 16)
      ∧ ∀ q < 18, q ≠ p.val → t.lane q = s.lane q ∧ t.get (FB_LANE.logical q) = s.get (FB_LANE.logical q) := by
  obtain ⟨u, hreports, hfab, hexec⟩ := exec_laneDown_used s p h
  obtain ⟨hdown, hdowns, hcause⟩ := s.laneFell_shows p
  have hu (l : Loc) (hl : 0x15100 ≤ l.key / 64 ∧ l.key / 64 < 0x15190) : u.syncLanes.get l = (s.laneFell p).get l :=
    (u.get_syncLanes_lane l hl.1).trans (hreports.fields l (by simp [reportOff]; omega))
  have hother (l : Loc) (q : Nat) (hl : l.key / 64 = 0x15100 + 8 * q) (hq : q < 18) (hne : q ≠ p) :
      u.syncLanes.get l = s.get l :=
    (hu l (by omega)).trans (s.get_laneFell_ne p l (by omega) (by simp only [Loc.key, GL_IRQ_STAT.cause] at hl ⊢; omega))
  have hp := p.isLt
  refine ⟨u.syncLanes, hexec, ?_, ?_, ?_, ?_, ?_, ?_, ?_, fun q hq hne => ⟨?_, ?_⟩⟩
  · exact (hu (FB_LANE.state p) (by simp only [Loc.key, FB_LANE.state]; omega)).trans hdown
  · rw [State.fab_syncLanes]
    change _ ∈ u.fabRest.laneDn
    rw [hfab]
    exact mem_setAdd_iff.mpr (.inl rfl)
  · rw [State.fab_syncLanes]
    change u.fabRest.rebuildPend = true
    rw [hfab]
    rfl
  · exact (hu (FB_LANE.downs p) (by simp only [Loc.key, FB_LANE.downs]; omega)).trans hdowns
  · rw [← hreports.fields _ (by decide)] at hcause
    exact nbits_one_of_testBit (State.testBit_cause_syncLanes (by decide) hcause)
  · rw [State.syncLanes_m, State.activeLanes_syncLanes]
  · rw [State.syncLanes_narrow, State.syncLanes_m]
  · exact hother (FB_LANE.state q) q (by simp only [Loc.key, FB_LANE.state]; omega) hq hne
  · exact hother (FB_LANE.logical q) q (by simp only [Loc.key, FB_LANE.logical]; omega) hq hne

/-! ### A lane that comes back (R334, R517) -/

/-- Four absolute credit words take eight free values (R517). -/
theorem State.free_creditWords (s : State) (link : Nat) : (s.creditWords link).free = s.free + 8 := rfl

/-- The block with a lane's PHY noted up (R334). -/
def State.laneRose (s : State) (p : Nat) : State := s.setFab { s.fab with laneDn := s.fab.laneDn.filter (· ≠ p) }

/-- LANE_UP of a DOWN or OUT lane that is not mapped out: it is SPARE, and the port sends its credits (R334, R517). -/
theorem laneUp_spares (p : Fin 18) (s : State) (h : s.lane p = lnDOWN ∨ s.lane p = lnOUT)
    (hmapped : nbits (s.get FB_LANE_CTL.out) p 1 ≠ 1) :
    ∃ t : State, exec (.laneUp p) s = .next t.after ∧ t.lane p = lnSPARE ∧ p.val ∉ t.fab.laneDn
      ∧ t.get (FB_LANE.mapped p) = 0 ∧ t.get (FB_LANE.logical p) = 0
      ∧ t.out.length = s.out.length + 4 ∧ t.free = s.free + 8
      ∧ ∀ q < 18, q ≠ p.val → t.lane q = s.lane q := by
  have hexec : exec (.laneUp p) s = fin (((s.laneRose p).putLane p lnSPARE 0 0).creditWords p) :=
    congrArg (fun u : State => fin (u.creditWords p)) (if_pos ⟨h, by simpa using hmapped⟩)
  have hdrives := State.creditWords_drives ((s.laneRose p).putLane p lnSPARE 0 0) p
  obtain ⟨hspare, hmap, hlogical⟩ := (s.laneRose p).putLane_shows p lnSPARE 0 0
  refine ⟨_, hexec, (hdrives.get _).trans hspare, ?_, (hdrives.get _).trans hmap, (hdrives.get _).trans hlogical,
    hdrives.count, rfl, fun q _ hne => (hdrives.get _).trans (State.lane_putLane_ne _ _ _ _ _ hne)⟩
  rw [hdrives.rest]
  simp [State.putLane, State.laneRose]

/-- LANE_UP of another lane changes no register (R334). -/
theorem laneUp_otherwise (p : Fin 18) (s : State)
    (h : ¬ ((s.lane p = lnDOWN ∨ s.lane p = lnOUT) ∧ nbits (s.get FB_LANE_CTL.out) p 1 ≠ 1)) :
    ∃ t : State, exec (.laneUp p) s = .next t.after ∧ p.val ∉ t.fab.laneDn ∧ t.regs = s.regs := by
  have hexec : exec (.laneUp p) s = fin ((s.laneRose p).creditWords p) :=
    congrArg (fun u : State => fin (u.creditWords p)) (if_neg fun hup => h ⟨hup.1, by simpa using hup.2⟩)
  have hdrives := State.creditWords_drives (s.laneRose p) p
  refine ⟨_, hexec, ?_, ?_⟩
  · rw [hdrives.rest]
    simp [State.laneRose]
  · rw [hdrives.rest]
    rfl

/-! ### The lane map (R336, R341) -/

/-- FB_LANE_CTL takes the map-out bits, and its top bit asks for a rebuild (R336). -/
theorem laneMapApply_asks (v : W64) (s : State) :
    ∃ t : State, exec (.laneMapApply v) s = .next t.after ∧ t.get FB_LANE_CTL.out = v.toNat % 2 ^ 18
      ∧ (fget v 63 1 = 1 → t.get FB_LANE_CTL.apply = 1 ∧ t.fab.rebuildPend = true)
      ∧ (fget v 63 1 ≠ 1 → t.get FB_LANE_CTL.apply = s.get FB_LANE_CTL.apply ∧ t.fab = s.fab)
      ∧ t = { s with regs := t.regs, fab := t.fab } := by
  have hout : (s.set FB_LANE_CTL.out (fget v 0 18)).get FB_LANE_CTL.out = v.toNat % 2 ^ 18 := by
    rw [State.get_set_same]
    simp [fget, FB_LANE_CTL.out]
  refine ⟨_, rfl, ?_⟩
  split
  next happly =>
    refine ⟨?_, fun _ => ⟨(State.get_setFab _ _ _).trans (State.get_set_same _ _ _), rfl⟩, fun hno => absurd happly hno, rfl⟩
    rw [State.get_setFab, State.get_set_ne _ _ _ _ (by decide)]
    exact hout
  next hno => exact ⟨hout, fun happly => absurd happly hno, fun _ => ⟨State.get_set_ne _ _ _ _ (by decide), rfl⟩, rfl⟩

/-- In a fold over elements with distinct keys, the step of one element takes P to Q where the others' steps keep both. -/
theorem State.foldl_reaches {α : Type} {f : State → α → State} {key : α → Nat} {P Q : State → Prop} {x : α} {xs : List α}
    (hdistinct : (xs.map key).Nodup) (hx : x ∈ xs) (hbefore : ∀ u, ∀ y ∈ xs, key y ≠ key x → P u → P (f u y))
    (hstep : ∀ u, P u → Q (f u x)) (hafter : ∀ u, ∀ y ∈ xs, key y ≠ key x → Q u → Q (f u y)) {s : State} (hs : P s) :
    Q (xs.foldl f s) := by
  induction xs generalizing s with
  | nil => cases hx
  | cons y ys ih =>
    obtain ⟨hy, hys⟩ := List.nodup_cons.mp hdistinct
    have hne {z : α} (hz : z ∈ ys) : key z ≠ key y := fun hkey => hy (hkey ▸ List.mem_map_of_mem hz)
    rcases List.mem_cons.mp hx with rfl | hx
    · exact List.foldlRecOn ys f (hstep s hs) fun u hu z hz => hafter u z (List.mem_cons_of_mem _ hz) (hne hz) hu
    · exact ih hys hx (fun u z hz => hbefore u z (List.mem_cons_of_mem _ hz))
        (fun u z hz => hafter u z (List.mem_cons_of_mem _ hz)) (hbefore s y List.mem_cons_self (hne hx).symm hs)

/-- What a rebuild's first step does to one lane (R334, R336). -/
def State.laneOut (s : State) (p : Nat) : State :=
  if s.lane p = lnOUT then
    (if ¬ nbits (s.get FB_LANE_CTL.out) p 1 = 1 ∧ ¬ s.fab.laneDn.contains p then s.set (FB_LANE.state p) lnSPARE else s)
  else if s.lane p = lnDOWN ∨ nbits (s.get FB_LANE_CTL.out) p 1 = 1 then s.putLane p lnOUT 0 0
  else s

/-- The first step of a rebuild takes the lanes one after the other. -/
theorem State.lanesOut_eq (s : State) : s.lanesOut = (List.range 18).foldl State.laneOut s := by
  unfold State.lanesOut State.laneOut State.putLane
  simp only [beq_iff_eq]

/-- A lane's part of it changes no register of another. -/
theorem State.get_laneOut_ne (s : State) (p : Nat) (l : Loc) (h : l.key / 64 ≠ 0x15100 + 8 * p) :
    (s.laneOut p).get l = s.get l := by
  unfold State.laneOut
  split_ifs
  · exact State.get_set_ne _ _ _ _ (by simp only [Loc.key, FB_LANE.state] at h ⊢; omega)
  · rfl
  · exact s.get_putLane_ne _ _ _ _ _ h
  · rfl

/-- A lane that is DOWN or mapped out is OUT after its part of it (R336). -/
theorem State.laneOut_out (s : State) (p : Nat) (h : nbits (s.get FB_LANE_CTL.out) p 1 = 1 ∨ s.lane p = lnDOWN) :
    (s.laneOut p).lane p = lnOUT := by
  unfold State.laneOut
  by_cases hout : s.lane p = lnOUT
  · have hmapped : nbits (s.get FB_LANE_CTL.out) p 1 = 1 := h.resolve_right (by rw [hout]; decide)
    rw [if_pos hout, if_neg (by simp [hmapped])]
    exact hout
  · rw [if_neg hout, if_pos h.symm]
    exact (s.putLane_shows p lnOUT 0 0).1

/-- After the first step of a rebuild every lane that was DOWN or mapped out is OUT (R336). -/
theorem State.lanesOut_out {s : State} {p : Nat} (hp : p < 18)
    (h : nbits (s.get FB_LANE_CTL.out) p 1 = 1 ∨ s.lane p = lnDOWN) : s.lanesOut.lane p = lnOUT := by
  rw [State.lanesOut_eq]
  have hlane (u : State) (q : Nat) (hq : q ≠ p) : (u.laneOut q).lane p = u.lane p :=
    u.get_laneOut_ne q _ (by simp only [Loc.key, FB_LANE.state]; omega)
  refine State.foldl_reaches (key := id) (x := p)
    (P := fun u => nbits (u.get FB_LANE_CTL.out) p 1 = 1 ∨ u.lane p = lnDOWN) (Q := fun u => u.lane p = lnOUT)
    (by simpa using List.nodup_range) (List.mem_range.mpr hp) (fun u q hmem (hq : q ≠ p) hu => ?_)
    (fun u hu => u.laneOut_out p hu) (fun u q _ (hq : q ≠ p) hu => (hlane u q hq).trans hu) h
  have hlt : q < 18 := List.mem_range.mp hmem
  rw [hlane u q hq, u.get_laneOut_ne q _ (by simp only [Loc.key, FB_LANE_CTL.out]; omega)]
  exact hu

/-- The lanes that a rebuild maps are ACTIVE or SPARE ones, and are of the 18 (R336). -/
theorem State.mem_laneOrder {s : State} {p : Nat} (h : p ∈ s.laneOrder) :
    p < 18 ∧ (s.lane p = lnACTIVE ∨ s.lane p = lnSPARE) := by
  have hmem := List.mem_of_mem_take h
  simp only [List.mem_append, List.mem_filter, List.mem_range, beq_iff_eq] at hmem
  omega

/-- A rebuild maps no lane twice (R336). -/
theorem State.nodup_laneOrder (s : State) : s.laneOrder.Nodup := by
  refine (List.Nodup.append (List.nodup_range.filter _) (List.nodup_range.filter _) fun p hactive hspare => ?_).take
  have hactive := (List.mem_filter.mp hactive).2
  have hspare := (List.mem_filter.mp hspare).2
  rw [beq_iff_eq] at hactive hspare
  rw [hactive] at hspare
  cases hspare

/-- The lanes of a list mapped to logical lanes 0 upward (R336). -/
def State.mapLanes (s : State) (order : List Nat) : State :=
  order.zipIdx.foldl (fun s e => s.putLane e.1 lnACTIVE 1 e.2) s

/-- A lane of the list is ACTIVE, mapped, and carries its place's logical lane (R336). -/
theorem State.mapLanes_shows (s : State) {order : List Nat} (hdistinct : order.Nodup) {l p : Nat} (h : order[l]? = some p) :
    (s.mapLanes order).lane p = lnACTIVE ∧ (s.mapLanes order).get (FB_LANE.mapped p) = 1
      ∧ (s.mapLanes order).get (FB_LANE.logical p) = l % 16 := by
  refine State.foldl_reaches (key := Prod.fst) (x := (p, l)) (P := fun _ => True)
    (Q := fun u => u.lane p = lnACTIVE ∧ u.get (FB_LANE.mapped p) = 1 ∧ u.get (FB_LANE.logical p) = l % 16)
    (by rw [List.zipIdx_map_fst]; exact hdistinct) (List.mk_mem_zipIdx_iff_getElem?.mpr h) (fun _ _ _ _ _ => trivial)
    (fun u _ => u.putLane_shows p lnACTIVE 1 l) (fun u e _ hne hu => ?_) trivial
  have hkeep (m : Loc) (hm : m.key / 64 = 0x15100 + 8 * p) : (u.putLane e.1 lnACTIVE 1 e.2).get m = u.get m :=
    u.get_putLane_ne _ _ _ _ _ (by dsimp only at hne; omega)
  obtain ⟨hlane, hmapped, hlogical⟩ := hu
  exact ⟨(hkeep _ (by simp only [Loc.key, FB_LANE.state]; omega)).trans hlane,
    (hkeep _ (by simp only [Loc.key, FB_LANE.mapped]; omega)).trans hmapped,
    (hkeep _ (by simp only [Loc.key, FB_LANE.logical]; omega)).trans hlogical⟩

/-- A lane that is not of the list keeps its state. -/
theorem State.lane_mapLanes_ne (s : State) {order : List Nat} {p : Nat} (h : p ∉ order) :
    (s.mapLanes order).lane p = s.lane p := by
  refine List.foldlRecOn (motive := fun u : State => u.lane p = s.lane p) order.zipIdx _ rfl fun u hu e he => ?_
  rw [State.lane_putLane_ne _ _ _ _ _ (fun heq => h ?_), hu]
  exact heq ▸ List.fst_mem_of_mem_zipIdx he

/-- A rebuild maps the lanes in order, ends the request, and counts the width anew (R336, R337). -/
theorem State.laneRebuild_eq (s : State) : ∃ u : State, s.laneRebuild = u.syncLanes ∧ u.fab.rebuildPend = false
    ∧ ∀ l, u.get l = ((s.lanesOut.mapLanes s.lanesOut.laneOrder).set FB_LANE_CTL.apply 0).get l := by
  unfold State.laneRebuild
  extract_lets old v order w
  have hw : w = s.lanesOut.mapLanes s.lanesOut.laneOrder :=
    congrArg (fun f => List.foldl f s.lanesOut s.lanesOut.laneOrder.zipIdx) (funext₂ fun _ _ => rfl)
  refine ⟨_, rfl, rfl, fun l => ?_⟩
  rw [← hw]
  exact State.get_setFab _ _ l

/-- A rebuild at its point: mapped lanes are ACTIVE with logical lanes 0 upward, DOWN and mapped-out ones are OUT, and
FB_STAT.m follows (R336, R337). -/
theorem laneMapRebuild_maps (s : State) (hpend : s.fab.rebuildPend = true)
    (hpoint : s.fab.rebuildDue = true ∨ s.anyTicks = false) :
    ∃ t : State, exec .laneMapRebuild s = .next t.after ∧ t.fab.rebuildPend = false ∧ t.get FB_LANE_CTL.apply = 0
      ∧ (∀ l p, s.lanesOut.laneOrder[l]? = some p → l < 16 ∧ p < 18 ∧ t.lane p = lnACTIVE
          ∧ t.get (FB_LANE.mapped p) = 1 ∧ t.get (FB_LANE.logical p) = l)
      ∧ (∀ p < 18, (nbits (s.get FB_LANE_CTL.out) p 1 = 1 ∨ s.lane p = lnDOWN) → t.lane p = lnOUT)
      ∧ t.get FB_STAT.m = t.activeLanes := by
  obtain ⟨u, hrebuild, hended, hu⟩ := s.laneRebuild_eq
  have hexec : exec .laneMapRebuild s = .next u.syncLanes.after := by
    change execLaneMapRebuild s = _
    rw [execLaneMapRebuild, if_pos ⟨hpend, hpoint.imp_right (by simp)⟩, hrebuild]
    rfl
  have hlane (l : Loc) (p : Nat) (hp : p < 18) (hl : l.key / 64 = 0x15100 + 8 * p) :
      u.syncLanes.get l = (s.lanesOut.mapLanes s.lanesOut.laneOrder).get l :=
    ((u.get_syncLanes_lane l (by omega)).trans (hu l)).trans
      (State.get_set_ne _ _ _ _ (by simp only [Loc.key, FB_LANE_CTL.apply] at hl ⊢; omega))
  refine ⟨u.syncLanes, hexec, ?_, ?_, fun l p hl => ?_, fun p hp hout => ?_, ?_⟩
  · rw [State.fab_syncLanes]
    exact hended
  · exact ((u.get_syncLanes_lane _ (by decide)).trans (hu _)).trans (State.get_set_same _ _ _)
  · have hl16 : l < 16 := by
      obtain ⟨hlt, -⟩ := List.getElem?_eq_some_iff.mp hl
      exact hlt.trans_le (List.length_take_le _ _)
    have hp := (State.mem_laneOrder (List.mem_of_getElem? hl)).1
    obtain ⟨hstate, hmapped, hlogical⟩ := s.lanesOut.mapLanes_shows s.lanesOut.nodup_laneOrder hl
    refine ⟨hl16, hp, (hlane (FB_LANE.state p) p hp ?_).trans hstate, (hlane (FB_LANE.mapped p) p hp ?_).trans hmapped,
      ((hlane (FB_LANE.logical p) p hp ?_).trans hlogical).trans (Nat.mod_eq_of_lt hl16)⟩
      <;> (simp only [Loc.key, FB_LANE.state, FB_LANE.mapped, FB_LANE.logical]; omega)
  · have hafter := State.lanesOut_out hp hout
    have hnot : p ∉ s.lanesOut.laneOrder := fun hmem => by
      have hused := (State.mem_laneOrder hmem).2
      rw [hafter] at hused
      revert hused
      decide
    exact ((hlane (FB_LANE.state p) p hp (by simp only [Loc.key, FB_LANE.state]; omega)).trans
      (s.lanesOut.lane_mapLanes_ne hnot)).trans hafter
  · rw [State.syncLanes_m, State.activeLanes_syncLanes]

/-- Settles O46: each row by the lemma that says what it leaves; the last writes one field (R359). -/
theorem lanesGoDownComeBackAndAreMappedAgain : Obligations.LanesGoDownComeBackAndAreMappedAgain := by
  unfold Obligations.LanesGoDownComeBackAndAreMappedAgain
  exact ⟨laneDown_counts, fun p s hactive hspare => if_neg (not_or.mpr ⟨hactive, hspare⟩), laneUp_spares, laneUp_otherwise,
    laneMapApply_asks, laneMapRebuild_maps, fun s => ⟨_, rfl, State.get_set_same _ _ _, rfl⟩⟩

end Sys2Proof.Machine

namespace Sys2Proof.Machine

/-! ### The REQ buffer (R357, R359) -/

/-- A place freed leaves the others (R359). -/
theorem State.reqs_freeReq (s : State) (id : Nat) : (s.freeReq id).fab.reqs = s.fab.reqs.filter (·.id ≠ id) := by
  unfold State.freeReq
  split
  next hnone =>
    refine (List.filter_eq_self.mpr fun r hr => ?_).symm
    simpa using List.find?_eq_none.mp hnone r hr
  next => rfl

/-- The parts of a message depend on its region alone (R362). -/
theorem State.putParts_congr {s t : State} (m : Msg) (h : t.rgn m.region = s.rgn m.region) : t.putParts m = s.putParts m := by
  simp only [State.putParts, State.pieces, h]

/-- A request held leaves the regions (R359). -/
theorem State.rgn_keepReq (s : State) (m x : Msg) (busy : Bool) : (s.keepReq m busy).1.rgn x.region = s.rgn x.region := by
  have hlt : x.region < 64 := Nat.mod_lt _ (by decide)
  exact State.rgn_congr _ fun l hl => s.get_keepReq_ne m busy l (by simp only [rgnOff] at hl; omega)

/-- The granules that a PUT_DATA's bytes touch (R362). -/
def State.putKeys (s : State) (m : Msg) : List Nat := (s.putParts m).foldl (fun l p => setAdd l p.1) []

/-- They are the granules of its parts (R362). -/
theorem State.mem_putKeys {s : State} {m : Msg} {k : Nat} : k ∈ s.putKeys m ↔ ∃ p ∈ s.putParts m, p.1 = k := by
  rw [State.putKeys, ← List.foldl_map (f := Prod.fst) (g := setAdd), mem_foldl_setAdd]
  simp

/-- A PUT_DATA is held as every request; without data it is acknowledged at once, else its granules are still to be written
(R357, R359). -/
theorem State.takePut_eq (s : State) (m : Msg) : s.takePut m =
    if s.putKeys m = [] then ((s.keepReq m false).1.send ((s.keepReq m false).1.reply m 0x02 [])).freeReq s.fab.nextId
    else (s.keepReq m false).1.setFab { (s.keepReq m false).1.fab with reqs := (s.keepReq m false).1.fab.reqs.map fun r =>
      if r.id == s.fab.nextId then { r with todo := s.putKeys m } else r } := by
  have hkeys : (s.keepReq m false).1.putKeys m = s.putKeys m := by
    rw [State.putKeys, State.putParts_congr m (s.rgn_keepReq m m false), State.putKeys]
  rw [← hkeys]
  rfl

/-- A request held is counted (R359). -/
theorem State.req_used_keepReq (s : State) (m : Msg) (busy : Bool) :
    (s.keepReq m busy).1.get FB_INQ.req_used = (s.get FB_INQ.req_used + 1) % 2 ^ FB_INQ.req_used.w := by
  simp only [State.keepReq]
  rw [State.get_set_ne _ _ _ _ (by decide), State.wrapInc_eq, State.get_set_same]
  rfl

section
variable {bytes : List Byte} {m : Msg} {s : State}

/-- PUT_DATA with data waits in the REQ buffer with every granule that its bytes touch still to write (R357, R359). -/
theorem putData_waits (hacc : accepted 0x01 bytes m s = true) (hparts : s.putParts m ≠ [])
    (hids : ∀ r ∈ s.fab.reqs, r.id < s.fab.nextId) :
    ∃ (t : State) (r : InReq), exec (.putData bytes) s = .next t.after ∧ t.fab.reqs = s.fab.reqs ++ [r] ∧ r.msg = m
      ∧ r.busy = false ∧ (∀ p ∈ s.putParts m, p.1 ∈ r.todo)
      ∧ t.get FB_INQ.req_used = (s.get FB_INQ.req_used + 1) % 2 ^ FB_INQ.req_used.w
      ∧ t = { s with regs := t.regs, fab := t.fab } := by
  have hkeys : ∀ p ∈ s.putParts m, p.1 ∈ s.putKeys m := fun p hp => State.mem_putKeys.mpr ⟨p, hp, rfl⟩
  have hne : s.putKeys m ≠ [] := by
    obtain ⟨p, hp⟩ := List.exists_mem_of_ne_nil _ hparts
    exact List.ne_nil_of_mem (hkeys p hp)
  have hframe := s.keepReq_frame m false
  have hused := s.req_used_keepReq m false
  refine ⟨_, { id := s.fab.nextId, msg := m, busy := false, todo := s.putKeys m },
    (State.receive_accepted _ hacc).trans (congrArg fin ((s.takePut_eq m).trans (if_neg hne))), ?_, rfl, rfl, hkeys, hused, ?_⟩
  · have hold : s.fab.reqs.map (fun r => if r.id == s.fab.nextId then { r with todo := s.putKeys m } else r) = s.fab.reqs :=
      (List.map_congr_left fun r hr => if_neg (by simp [(hids r hr).ne])).trans (List.map_id _)
    rw [State.setFab_fab, hframe, List.map_append, hold]
    simp
  · rw [hframe]
    rfl

/-- PUT_DATA without data is acknowledged at once, and its place freed (R357, R359). -/
theorem putData_acknowledges (hacc : accepted 0x01 bytes m s = true) (hparts : s.putParts m = [])
    (hids : ∀ r ∈ s.fab.reqs, r.id < s.fab.nextId) :
    ∃ (t : State) (x : Msg), exec (.putData bytes) s = .next t.after ∧ t.fab.reqs = s.fab.reqs
      ∧ t.fab.txq = s.fab.txq ++ [x] ∧ x.typ = 0x02 ∧ x.dst = m.src ∧ x.tag = m.tag ∧ x.gen = m.sgen := by
  have hkeys : s.putKeys m = [] := by rw [State.putKeys, hparts]; rfl
  have hold : s.fab.reqs.filter (·.id ≠ s.fab.nextId) = s.fab.reqs :=
    List.filter_eq_self.mpr fun r hr => by simp [(hids r hr).ne]
  refine ⟨_, (s.keepReq m false).1.reply m 0x02 [],
    (State.receive_accepted _ hacc).trans (congrArg fin ((s.takePut_eq m).trans (if_pos hkeys))), ?_, ?_, rfl, rfl, rfl, rfl⟩
  · rw [State.reqs_freeReq, State.send, State.setFab_fab, s.keepReq_frame m false, List.filter_append, hold]
    simp
  · rw [State.txq_freeReq, State.send, State.setFab_fab, s.keepReq_frame m false]

/-- GET_REQ waits in the REQ buffer (R357). -/
theorem getReq_waits (hacc : accepted 0x03 bytes m s = true) :
    ∃ (t : State) (r : InReq), exec (.getReq bytes) s = .next t.after ∧ t.fab.reqs = s.fab.reqs ++ [r] ∧ r.msg = m
      ∧ r.busy = false ∧ t = { s with regs := t.regs, fab := t.fab } :=
  ⟨(s.keepReq m false).1, { id := s.fab.nextId, msg := m, busy := false }, State.receive_accepted _ hacc, rfl, rfl, rfl, rfl⟩

end

/-- A GET_REQ with no earlier PUT_DATA or GEN_NOTICE of its source and context becomes work that reads its data (R342,
R357). -/
theorem State.serveReq_getReq (q : InReq) (s : State) (hbusy : q.busy = false) (htyp : q.msg.typ = 0x03)
    (hfirst : ∀ r ∈ s.fab.reqs, r.id < q.id → r.msg.src = q.msg.src → r.msg.ctx = q.msg.ctx →
      r.msg.typ ≠ 0x01 ∧ r.msg.typ ≠ 0x05) :
    ∃ j : Job, (s.serveReq q).jobs = s.jobs ++ [j] ∧ j.owner = .serve q.msg ∧ j.segs = [.answerGet] := by
  have hnone : earlierReq s.fab.reqs q (fun t => t == 0x01 || t == 0x05) = false :=
    earlierReq_eq_false fun r hr hid hsrc hctx => by simpa using hfirst r hr hid hsrc hctx
  unfold State.serveReq
  rw [if_neg (by simp [hbusy]), if_pos ⟨htyp, by simp [hnone]⟩]
  exact ⟨_, rfl, rfl, rfl⟩

/-! ### A granule's update (R342, R362) -/

/-- A request after a granule update that took the granule of the requests of these ids (R362). -/
def InReq.afterUpdate (ids : List Nat) (key : Nat) (r : InReq) : InReq :=
  if ids.contains r.id then { r with todo := r.todo.filter (· ≠ key), open_ := r.open_ + 1, busy := true } else r

/-- The granule is owed by none of those (R362). -/
theorem InReq.not_mem_todo_afterUpdate {ids : List Nat} {key : Nat} {r : InReq} (h : (r.afterUpdate ids key).id ∈ ids) :
    key ∉ (r.afterUpdate ids key).todo := by
  unfold InReq.afterUpdate at h ⊢
  split at h
  next htaken =>
    rw [if_pos htaken]
    simp
  next hother => exact absurd (List.contains_iff_mem.mpr h) hother

/-- A granule update whose messages may all still write their region is one piece of work for the granule, which it takes
from what they owe (R362). -/
theorem State.granuleUpdate_takes {s : State} {key : Nat} (hsome : s.takers key ≠ [])
    (hallowed : ∀ q ∈ s.takers key, s.regionCheck q.msg = .accept) :
    ∃ (t : State) (j : Job), s.granuleUpdate key = t ∧ t.jobs = s.jobs ++ [j]
      ∧ j.owner = .inbound ((s.takers key).map (·.id)) ∧ j.value = key
      ∧ t.fab.reqs = s.fab.reqs.map (InReq.afterUpdate ((s.takers key).map (·.id)) key)
      ∧ t = { s with regs := t.regs, fab := t.fab, jobs := t.jobs, nextJob := t.nextJob } := by
  have hbad : (s.takers key).filter (fun q => s.regionCheck q.msg ≠ .accept) = [] :=
    List.filter_eq_nil_iff.mpr fun q hq => by simp [hallowed q hq]
  unfold State.granuleUpdate
  extract_lets bad u
  have hu : u = s := congrArg (List.foldl (fun (s : State) q => (s.drop q.msg stREGION).freeReq q.id) s) hbad
  clear_value u
  subst hu
  split
  next hnone => exact absurd hnone hsome
  next q qs hcons =>
    rw [hcons]
    exact ⟨_, _, rfl, rfl, rfl, rfl, rfl, rfl⟩

/-- INBOUND_GRANULE_UPDATE with room for it starts the work, and none of the update's messages owes the granule (R362). -/
theorem inboundGranuleUpdate_starts (n : Slice) (granule : Nat) (s : State) (hroom : s.inFlight.length < 32)
    (hfree : (s.inFlight.any fun j => j.value == gKey n granule) = false) (hlow : s.mem.resetHigh = false)
    (hsome : s.takers (gKey n granule) ≠ []) (hallowed : ∀ q ∈ s.takers (gKey n granule), s.regionCheck q.msg = .accept) :
    ∃ (t : State) (j : Job), exec (.inboundGranuleUpdate n granule) s = .next t.after ∧ t.jobs = s.jobs ++ [j]
      ∧ j.owner = .inbound ((s.takers (gKey n granule)).map (·.id)) ∧ j.value = gKey n granule
      ∧ (∀ q ∈ s.takers (gKey n granule), ∀ r ∈ t.fab.reqs, r.id = q.id → gKey n granule ∉ r.todo)
      ∧ t = { s with regs := t.regs, fab := t.fab, jobs := t.jobs, nextJob := t.nextJob } := by
  have hexec : exec (.inboundGranuleUpdate n granule) s = fin (s.granuleUpdate (gKey n granule)) :=
    if_neg (by simp [hroom, hfree, hlow])
  obtain ⟨t, j, hupdate, hjobs, howner, hvalue, hreqs, hframe⟩ := State.granuleUpdate_takes hsome hallowed
  refine ⟨t, j, hexec.trans (congrArg fin hupdate), hjobs, howner, hvalue, fun q hq r hr hid => ?_, hframe⟩
  rw [hreqs] at hr
  obtain ⟨x, -, rfl⟩ := List.mem_map.mp hr
  exact InReq.not_mem_todo_afterUpdate (hid ▸ List.mem_map_of_mem hq)

/-! ### Copies answered (R356, R357) -/

/-- An engine's bytes count in its register and in the port's hidden state alone (FB_ENG). -/
theorem State.engDone_frame (s : State) (e n : Nat) : (s.engDone e n).fab.outs = s.fab.outs
    ∧ s.engDone e n = { s with regs := (s.engDone e n).regs, fab := (s.engDone e n).fab } := by
  unfold State.engDone
  split
  · exact ⟨rfl, rfl⟩
  · exact ⟨rfl, rfl⟩

/-- The block after an answered request: its message has left, its place is free, and its engine's bytes are counted
(R356). -/
def State.copied (s : State) (m : Msg) (o : FabOut) : State := ((s.done m).endOut o).engDone o.eng o.n

/-- That frees the request's place, and changes beside it register fields and outputs alone (R356). -/
theorem State.copied_frame (s : State) (m : Msg) (o : FabOut) : (s.copied m o).fab.outs = dropOut s.fab.outs o
    ∧ s.copied m o = { s with regs := (s.copied m o).regs, fab := (s.copied m o).fab, out := (s.copied m o).out } := by
  obtain ⟨houts, hended⟩ := (s.done m).endOut_frame o
  obtain ⟨hkept, hcounted⟩ := ((s.done m).endOut o).engDone_frame o.eng o.n
  refine ⟨hkept.trans houts, ?_⟩
  unfold State.copied
  rw [hcounted, hended]
  rfl

section
variable {bytes : List Byte} {m : Msg} {s : State} {o : FabOut} (hasked : s.asked m = some o)
include hasked

/-- PUT_ACK frees the oldest request that it answers (R356, R357). -/
theorem putAck_frees (hacc : accepted 0x02 bytes m s = true) :
    ∃ t : State, exec (.putAck bytes) s = .next t.after ∧ t.fab.outs = dropOut s.fab.outs o
      ∧ t = { s with regs := t.regs, fab := t.fab, out := t.out } := by
  have hstill : (s.done m).asked m = some o := hasked
  have htake : s.takePutAck m = s.copied m o := by simp only [State.takePutAck, hstill, State.copied]
  obtain ⟨houts, hframe⟩ := s.copied_frame m o
  exact ⟨_, (State.receive_accepted _ hacc).trans (congrArg fin htake), houts, hframe⟩

/-- GET_DATA frees the oldest request that it answers, and its bytes go to the request's place in the destination (R356). -/
theorem getData_writes (hacc : accepted 0x04 bytes m s = true) {j : Job} (hjob : s.job o.job = some j)
    (hrun : j.ending = none) :
    ∃ t : State, exec (.getData bytes) s = .next t.after ∧ t.fab.outs = dropOut s.fab.outs o
      ∧ t.job j.id = some { j with
          hold := .run, segs := j.segs ++ [.put (j.arg 24 1 % 64) 0 false (j.localOff + o.lo) (m.body.take o.n)] }
      ∧ t = { s with regs := t.regs, fab := t.fab, out := t.out, jobs := t.jobs } := by
  have hstill : (s.done m).asked m = some o := hasked
  obtain ⟨houts, hframe⟩ := s.copied_frame m o
  have hjobs : (s.copied m o).jobs = s.jobs := by rw [hframe]
  have hfound : (s.copied m o).job o.job = some j := by rw [State.job, hjobs]; exact hjob
  have htake : s.takeGetData m = (s.copied m o).setJob { j with
      hold := .run, segs := j.segs ++ [.put (j.arg 24 1 % 64) 0 false (j.localOff + o.lo) (m.body.take o.n)] } := by
    unfold State.copied at hfound
    simp [State.takeGetData, hstill, hfound, hrun, State.copied]
  refine ⟨_, (State.receive_accepted _ hacc).trans (congrArg fin htake), houts,
    State.job_setJob (List.mem_of_find?_eq_some hjob) hjobs rfl, ?_⟩
  rw [hframe]
  rfl

end

/-- Settles O44: each row gives an accepted message to its meaning, and each meaning by the lemma about it. -/
theorem copiesAreBufferedWrittenAndAnswered : Obligations.CopiesAreBufferedWrittenAndAnswered := by
  unfold Obligations.CopiesAreBufferedWrittenAndAnswered
  exact ⟨fun _ _ _ => putData_waits, fun _ _ _ => putData_acknowledges, inboundGranuleUpdate_starts,
    fun _ _ _ _ hacc hasked => putAck_frees hasked hacc,
    fun _ _ _ _ _ hacc hasked hjob hrun => getData_writes hasked hacc hjob hrun, fun _ _ _ => getReq_waits,
    State.serveReq_getReq⟩

end Sys2Proof.Machine

namespace Sys2Proof.Machine

/-! ### Fields of messages and registers (R2, R3, R359) -/

/-- A little-endian number has eight bits for each byte (R3). -/
theorem leNat_lt (bs : List Byte) : leNat bs < 256 ^ bs.length := by
  induction bs with
  | nil => simp [leNat]
  | cons b bs ih =>
    have hb : b.toNat < 256 := b.isLt
    rw [leNat, List.length_cons, Nat.pow_succ]
    omega

/-- A field of n bytes of a message or record has 8n bits (R3). -/
theorem leAt_lt (bs : List Byte) (lo n : Nat) : leAt bs lo n < 2 ^ (8 * n) := by
  rw [Nat.pow_mul]
  exact Nat.lt_of_lt_of_le (leNat_lt _) (Nat.pow_le_pow_right (by decide) (List.length_take_le _ _))

/-- A message that leaves its buffer changes no register (R359). -/
theorem State.get_done (s : State) (m : Msg) (l : Loc) : (s.done m).get l = s.get l := rfl

/-- After register fields a message that leaves its buffer changes only what the ports drove (R359). -/
theorem State.done_only_regs {s t : State} (m : Msg) (h : t = { s with regs := t.regs }) :
    t.done m = { s with regs := (t.done m).regs, out := (t.done m).out } := by
  rw [h]
  rfl

/-- Register fields written one after the other are all that changes (R2). -/
theorem State.only_regs_set {s t : State} (h : t = { s with regs := t.regs }) (l : Loc) (v : Nat) :
    t.set l v = { s with regs := (t.set l v).regs } :=
  State.only_regs_trans h (State.set_only_regs t l v)

/-! ### The inbound report table (R368, R412) -/

/-- An entry of the inbound report table given the contents of a first REPORT (R368). -/
def State.putRin (s : State) (i subject kind count first : Nat) : State :=
  let s := ((s.set (DG_RIN_ID.subject i) subject).set (DG_RIN_ID.kind i) kind).set (DG_RIN_ID.msgs i) 1
  ((s.set (DG_RIN_ID.valid i) 1).set (DG_RIN_CNT.count i) count).set (DG_RIN_T.first i) first

/-- Only register fields change. -/
theorem State.putRin_only_regs (s : State) (i subject kind count first : Nat) :
    s.putRin i subject kind count first = { s with regs := (s.putRin i subject kind count first).regs } :=
  State.only_regs_set (State.only_regs_set (State.only_regs_set (State.only_regs_set (State.only_regs_set
    (s.set_only_regs _ _) _ _) _ _) _ _) _ _) _ _

/-- Entry i of the inbound report table holds one report of a subject and kind, with its count and time (R368). -/
structure HoldsReport (i subject kind count first : Nat) (s : State) : Prop where
  valid : s.is (DG_RIN_ID.valid i) = true
  subject : s.get (DG_RIN_ID.subject i) = subject
  kind : s.get (DG_RIN_ID.kind i) = kind
  msgs : s.get (DG_RIN_ID.msgs i) = 1
  count : s.get (DG_RIN_CNT.count i) = count
  first : s.get (DG_RIN_T.first i) = first

/-- States that agree on the registers of the table agree on its entries. -/
theorem HoldsReport.congr {i subject kind count first : Nat} {s t : State} (h : HoldsReport i subject kind count first s)
    (hkept : ∀ l : Loc, 0x17100 ≤ l.off → t.get l = s.get l) : HoldsReport i subject kind count first t where
  valid := (congrArg (· == 1) (hkept (DG_RIN_ID.valid i) (by simp only [DG_RIN_ID.valid]; omega))).trans h.valid
  subject := (hkept _ (by simp only [DG_RIN_ID.subject]; omega)).trans h.subject
  kind := (hkept _ (by simp only [DG_RIN_ID.kind]; omega)).trans h.kind
  msgs := (hkept _ (by simp only [DG_RIN_ID.msgs]; omega)).trans h.msgs
  count := (hkept _ (by simp only [DG_RIN_CNT.count]; omega)).trans h.count
  first := (hkept _ (by simp only [DG_RIN_T.first]; omega)).trans h.first

/-- The entry reads back what fits its fields (R368). -/
theorem HoldsReport.putRin (s : State) (i : Nat) {subject kind count first : Nat} (hsubject : subject < 2 ^ 16)
    (hkind : kind < 2 ^ 8) (hcount : count < 2 ^ 32) (hfirst : first < 2 ^ 64) :
    HoldsReport i subject kind count first (s.putRin i subject kind count first) := by
  constructor <;>
    simp (disch := (simp only [Loc.key, DG_RIN_ID.subject, DG_RIN_ID.kind, DG_RIN_ID.msgs, DG_RIN_ID.valid,
      DG_RIN_CNT.count, DG_RIN_T.first]; omega)) only [State.is, State.putRin, State.get_set_ne, State.get_set_same]
  case subject => exact Nat.mod_eq_of_lt hsubject
  case kind => exact Nat.mod_eq_of_lt hkind
  case count => exact Nat.mod_eq_of_lt hcount
  case first => exact Nat.mod_eq_of_lt hfirst
  all_goals rfl

/-- The registers of the inbound report table lie above 0x17100. -/
theorem State.get_putRin_low (s : State) (i subject kind count first : Nat) (l : Loc) (h : l.key / 64 < 0x17100) :
    (s.putRin i subject kind count first).get l = s.get l := by
  simp only [Loc.key] at h
  simp (disch := (simp only [Loc.key, DG_RIN_ID.subject, DG_RIN_ID.kind, DG_RIN_ID.msgs, DG_RIN_ID.valid,
    DG_RIN_CNT.count, DG_RIN_T.first]; omega)) only [State.putRin, State.get_set_ne]

/-- A first REPORT in a free entry, counted in entries and raising the inbound vector (R368). -/
def State.newReport (s : State) (i subject kind count first : Nat) : State :=
  ((s.putRin i subject kind count first).wrapInc DG_RIN_STAT.entries 1).irq 16

/-- Only register fields change. -/
theorem State.newReport_only_regs (s : State) (i subject kind count first : Nat) :
    s.newReport i subject kind count first = { s with regs := (s.newReport i subject kind count first).regs } :=
  State.only_regs_set (State.only_regs_set (s.putRin_only_regs i subject kind count first) _ _) _ _

/-- The entry, the count of entries and the vector after a first REPORT (R368). -/
theorem State.newReport_shows (s : State) (i : Nat) {subject kind count first : Nat} (hsubject : subject < 2 ^ 16)
    (hkind : kind < 2 ^ 8) (hcount : count < 2 ^ 32) (hfirst : first < 2 ^ 64) :
    HoldsReport i subject kind count first (s.newReport i subject kind count first)
      ∧ (s.newReport i subject kind count first).get DG_RIN_STAT.entries
        = (s.get DG_RIN_STAT.entries + 1) % 2 ^ DG_RIN_STAT.entries.w
      ∧ nbits ((s.newReport i subject kind count first).get GL_IRQ_STAT.cause) 16 1 = 1 := by
  refine ⟨(HoldsReport.putRin s i hsubject hkind hcount hfirst).congr fun l hl => ?_, ?_,
    nbits_one_of_testBit (State.testBit_irq _ (by decide))⟩
  · rw [State.newReport, State.get_irq_ne _ _ _ (by simp only [Loc.key, GL_IRQ_STAT.cause]; omega), State.wrapInc_eq,
      State.get_set_ne _ _ _ _ (by simp only [Loc.key, DG_RIN_STAT.entries]; omega)]
  · rw [State.newReport, State.get_irq_ne _ _ _ (by decide), State.wrapInc_eq, State.get_set_same,
      State.get_putRin_low _ _ _ _ _ _ _ (by decide)]

/-- A REPORT added to the entry that its subject and kind have (R368). -/
def State.addReport (s : State) (i count first : Nat) : State :=
  let s := (s.satInc (DG_RIN_ID.msgs i) 1).satInc (DG_RIN_CNT.count i) count
  s.set (DG_RIN_T.first i) (Nat.min (s.get (DG_RIN_T.first i)) first)

/-- Only register fields change. -/
theorem State.addReport_only_regs (s : State) (i count first : Nat) :
    s.addReport i count first = { s with regs := (s.addReport i count first).regs } :=
  State.only_regs_set (State.only_regs_set (s.set_only_regs _ _) _ _) _ _

/-- The counts add up and stop at their tops, the earlier time is kept, and no entry is taken (R368). -/
theorem State.addReport_shows (s : State) (i count first : Nat) :
    (s.addReport i count first).get (DG_RIN_ID.msgs i)
        = min (2 ^ (DG_RIN_ID.msgs i).w - 1) (s.get (DG_RIN_ID.msgs i) + 1)
      ∧ (s.addReport i count first).get (DG_RIN_CNT.count i)
        = min (2 ^ (DG_RIN_CNT.count i).w - 1) (s.get (DG_RIN_CNT.count i) + count)
      ∧ (s.addReport i count first).get (DG_RIN_T.first i)
        = min (s.get (DG_RIN_T.first i)) first % 2 ^ (DG_RIN_T.first i).w
      ∧ (s.addReport i count first).get DG_RIN_STAT.entries = s.get DG_RIN_STAT.entries := by
  have hcount : (DG_RIN_CNT.count i).key ≠ (DG_RIN_ID.msgs i).key := by
    simp only [Loc.key, DG_RIN_CNT.count, DG_RIN_ID.msgs]; omega
  have hfirst : (DG_RIN_T.first i).key ≠ (DG_RIN_ID.msgs i).key := by
    simp only [Loc.key, DG_RIN_T.first, DG_RIN_ID.msgs]; omega
  have hapart : (DG_RIN_T.first i).key ≠ (DG_RIN_CNT.count i).key := by
    simp only [Loc.key, DG_RIN_T.first, DG_RIN_CNT.count]; omega
  have hentries (l : Loc) (hl : 0x17100 ≤ l.off) : DG_RIN_STAT.entries.key ≠ l.key := by
    simp only [Loc.key, DG_RIN_STAT.entries]; omega
  unfold State.addReport
  refine ⟨?_, ?_, ?_, ?_⟩
  · rw [State.get_set_ne _ _ _ _ hfirst.symm, State.satInc_eq _ (DG_RIN_CNT.count i),
      State.get_set_ne _ _ _ _ hcount.symm, State.get_satInc_same]
  · rw [State.get_set_ne _ _ _ _ hapart.symm, State.get_satInc_same, State.satInc_eq, State.get_set_ne _ _ _ _ hcount]
  · rw [State.get_set_same, State.satInc_eq, State.get_set_ne _ _ _ _ hapart, State.satInc_eq,
      State.get_set_ne _ _ _ _ hfirst]
  · rw [State.get_set_ne _ _ _ _ (hentries _ (by simp only [DG_RIN_T.first]; omega)), State.satInc_eq,
      State.get_set_ne _ _ _ _ (hentries _ (by simp only [DG_RIN_CNT.count]; omega)), State.satInc_eq,
      State.get_set_ne _ _ _ _ (hentries _ (by simp only [DG_RIN_ID.msgs]; omega))]

section
variable {s : State} {m : Msg}

/-- While accept is 0 a REPORT changes nothing (R368). -/
theorem State.mergeReport_refused (haccept : s.is DG_REP_CFG.accept = false) : s.mergeReport m = s :=
  if_pos (by simp [haccept])

/-- A REPORT of a subject and kind in the table is added to their entry (R368). -/
theorem State.mergeReport_known {i : Nat} (haccept : s.is DG_REP_CFG.accept = true)
    (hfind : s.rinFind (m.at_ 0 2) (m.at_ 2 1) = some i) : s.mergeReport m = s.addReport i (m.at_ 4 4) (m.at_ 8 8) := by
  simp [State.mergeReport, haccept, hfind, State.addReport]

/-- A REPORT of others takes the lowest free entry (R368). -/
theorem State.mergeReport_new {i : Nat} (haccept : s.is DG_REP_CFG.accept = true)
    (hfind : s.rinFind (m.at_ 0 2) (m.at_ 2 1) = none)
    (hfree : ((List.range 256).find? fun i => !s.is (DG_RIN_ID.valid i)) = some i) :
    s.mergeReport m = s.newReport i (m.at_ 0 2) (m.at_ 2 1) (m.at_ 4 4) (m.at_ 8 8) := by
  simp [State.mergeReport, haccept, hfind, hfree, State.newReport, State.putRin]

/-- With no entry free it is counted as lost (R368). -/
theorem State.mergeReport_full (haccept : s.is DG_REP_CFG.accept = true)
    (hfind : s.rinFind (m.at_ 0 2) (m.at_ 2 1) = none) (hfull : ∀ i < 256, s.is (DG_RIN_ID.valid i) = true) :
    s.mergeReport m = s.satInc DG_RIN_STAT.overflow 1 := by
  have hnone : ((List.range 256).find? fun i => !s.is (DG_RIN_ID.valid i)) = none := by
    simpa [List.find?_eq_none] using hfull
  simp [State.mergeReport, haccept, hfind, hnone]

end

section
variable {bytes : List Byte} {m : Msg} {s : State} (hacc : accepted 0x3B bytes m s = true)
include hacc

/-- While the sequencer is down or stopping a REPORT waits in its buffer (R412, R413). -/
theorem exec_report_waits (hdown : s.rec_.seqDown = true ∨ s.rec_.seqStop = true) :
    exec (.report bytes) s = .next (s.setRec { s.rec_ with waiting := s.rec_.waiting ++ [m] }).after :=
  (State.receive_accepted _ hacc).trans (congrArg fin (if_pos hdown))

variable (hup : s.rec_.seqDown = false) (hrun : s.rec_.seqStop = false)
include hup hrun

/-- A REPORT that the sequencer serves is merged and leaves its buffer (R359, R368). -/
theorem exec_report_served {t : State} (hmerge : s.mergeReport m = t) :
    exec (.report bytes) s = .next (t.done m).after := by
  have htake : s.takeReport m = (s.mergeReport m).done m := if_neg (by simp [hup, hrun])
  exact (State.receive_accepted _ hacc).trans (congrArg fin (htake.trans (congrArg (State.done · m) hmerge)))

variable (haccept : s.is DG_REP_CFG.accept = true)
include haccept

/-- A REPORT of a known subject and kind is merged into their entry (R368). -/
theorem report_merges {i : Nat} (hfind : s.rinFind (m.at_ 0 2) (m.at_ 2 1) = some i) :
    ∃ t : State, exec (.report bytes) s = .next t.after
      ∧ t.get (DG_RIN_ID.msgs i) = min (2 ^ (DG_RIN_ID.msgs i).w - 1) (s.get (DG_RIN_ID.msgs i) + 1)
      ∧ t.get (DG_RIN_CNT.count i) = min (2 ^ (DG_RIN_CNT.count i).w - 1) (s.get (DG_RIN_CNT.count i) + m.at_ 4 4)
      ∧ t.get (DG_RIN_T.first i) = min (s.get (DG_RIN_T.first i)) (m.at_ 8 8) % 2 ^ (DG_RIN_T.first i).w
      ∧ t.get DG_RIN_STAT.entries = s.get DG_RIN_STAT.entries ∧ t = { s with regs := t.regs, out := t.out } := by
  obtain ⟨hmsgs, hcount, hfirst, hentries⟩ := s.addReport_shows i (m.at_ 4 4) (m.at_ 8 8)
  have hkept := State.get_done (s.addReport i (m.at_ 4 4) (m.at_ 8 8)) m
  exact ⟨_, exec_report_served hacc hup hrun (State.mergeReport_known haccept hfind), (hkept _).trans hmsgs,
    (hkept _).trans hcount, (hkept _).trans hfirst, (hkept _).trans hentries,
    State.done_only_regs m (s.addReport_only_regs _ _ _)⟩

/-- A REPORT of a new subject and kind takes the lowest free entry and raises the inbound vector (R368). -/
theorem report_takes_entry {i : Nat} (hfind : s.rinFind (m.at_ 0 2) (m.at_ 2 1) = none)
    (hfree : ((List.range 256).find? fun i => !s.is (DG_RIN_ID.valid i)) = some i) :
    ∃ t : State, exec (.report bytes) s = .next t.after ∧ t.is (DG_RIN_ID.valid i) = true
      ∧ t.get (DG_RIN_ID.subject i) = m.at_ 0 2 ∧ t.get (DG_RIN_ID.kind i) = m.at_ 2 1
      ∧ t.get (DG_RIN_ID.msgs i) = 1 ∧ t.get (DG_RIN_CNT.count i) = m.at_ 4 4 ∧ t.get (DG_RIN_T.first i) = m.at_ 8 8
      ∧ t.get DG_RIN_STAT.entries = (s.get DG_RIN_STAT.entries + 1) % 2 ^ DG_RIN_STAT.entries.w
      ∧ nbits (t.get GL_IRQ_STAT.cause) 16 1 = 1 ∧ t = { s with regs := t.regs, out := t.out } := by
  obtain ⟨hentry, hentries, hraised⟩ :=
    s.newReport_shows i (leAt_lt m.body 0 2) (leAt_lt m.body 2 1) (leAt_lt m.body 4 4) (leAt_lt m.body 8 8)
  have hexec := exec_report_served hacc hup hrun (State.mergeReport_new haccept hfind hfree)
  obtain ⟨hvalid, hsubject, hkind, hmsgs, hcount, hfirst⟩ := hentry.congr fun l _ => State.get_done _ m l
  exact ⟨_, hexec, hvalid, hsubject, hkind, hmsgs, hcount, hfirst, (State.get_done _ m _).trans hentries,
    (congrArg (nbits · 16 1) (State.get_done _ m _)).trans hraised,
    State.done_only_regs m (s.newReport_only_regs _ _ _ _ _)⟩

/-- A REPORT that finds no entry free counts as an overflow and changes no other field (R368). -/
theorem report_overflows (hfind : s.rinFind (m.at_ 0 2) (m.at_ 2 1) = none)
    (hfull : ∀ i < 256, s.is (DG_RIN_ID.valid i) = true) :
    ∃ t : State, exec (.report bytes) s = .next t.after
      ∧ t.get DG_RIN_STAT.overflow = min (2 ^ DG_RIN_STAT.overflow.w - 1) (s.get DG_RIN_STAT.overflow + 1)
      ∧ ∀ l : Loc, l.key ≠ DG_RIN_STAT.overflow.key → t.get l = s.get l :=
  ⟨_, exec_report_served hacc hup hrun (State.mergeReport_full haccept hfind hfull), s.get_satInc_same _ 1,
    fun l hl => State.get_set_ne s _ l _ hl⟩

end

/-! ### The own report table (R364, R367) -/

/-- The type and the destination of a message. -/
def Msg.address (m : Msg) : Nat × Nat := (m.typ, m.dst)

/-- A REPORT goes to each manager in turn, after what is in line already (R364, R367). -/
theorem State.address_reportTo (s : State) (subject kind count first : Nat) :
    (s.reportTo subject kind count first).fab.txq.map Msg.address
      = s.fab.txq.map Msg.address ++ s.managers.map (0x3B, ·) := by
  unfold State.reportTo
  generalize s.managers = ds
  induction ds generalizing s with
  | nil => simp
  | cons d ds ih =>
    rw [List.foldl_cons, ih]
    simp [State.satInc_eq, State.send, State.setFab, State.common, Msg.address]

/-- The report table replaced leaves the managers (R364, R367). -/
theorem State.managers_setReps (s : State) (l : List RepEnt) : (s.setReps l).managers = s.managers := by
  have hvalid (i : Nat) : (FB_MGR.valid i).key ≠ DG_REP_STAT.in_use.key := by
    simp only [Loc.key, FB_MGR.valid, DG_REP_STAT.in_use]; omega
  have hdevid (i : Nat) : (FB_MGR.devid i).key ≠ DG_REP_STAT.in_use.key := by
    simp only [Loc.key, FB_MGR.devid, DG_REP_STAT.in_use]; omega
  simp only [State.managers, State.is, State.setReps, State.get_set_ne _ _ _ _ (hvalid _),
    State.get_set_ne _ _ _ _ (hdevid _), State.get_setRec]

/-- A closed entry is gone from the report table (R367). -/
theorem State.repFind_closeRep (s : State) (e : RepEnt) :
    repFind (s.closeRep e).rec_.reps e.subject e.kind = none := by
  have hrec : (s.closeRep e).rec_.reps = s.rec_.reps.filter fun f => !(f.subject == e.subject && f.kind == e.kind) := by
    unfold State.closeRep
    dsimp only
    split
    · rfl
    · rw [State.rec_reportTo]; rfl
  rw [hrec, repFind, List.find?_eq_none]
  intro f hf
  simpa [imp_iff_not_or] using (List.mem_filter.mp hf).2

/-- A closed entry is followed up to every manager where its count is not zero (R364, R367). -/
theorem State.address_closeRep (s : State) (e : RepEnt) : (s.closeRep e).fab.txq.map Msg.address
    = s.fab.txq.map Msg.address ++ if e.count = 0 then [] else s.managers.map (0x3B, ·) := by
  unfold State.closeRep
  dsimp only
  split
  · exact (List.append_nil _).symm
  · rw [State.address_reportTo, State.managers_setReps]; rfl

/-- A window that has passed frees its entry and reports a count that is not zero to every manager (R367). -/
theorem reportWindowEnd_follows_up (subject : W16) (kind : Byte) (s : State) (e : RepEnt)
    (hfind : repFind s.rec_.reps subject.toNat kind.toNat = some e) (hdue : e.wstart + s.get DG_REP_CFG.window ≤ s.now) :
    ∃ t : State, exec (.reportWindowEnd subject kind) s = .next t.after
      ∧ repFind t.rec_.reps subject.toNat kind.toNat = none
      ∧ t.fab.txq.length = s.fab.txq.length + (if e.count = 0 then 0 else s.managers.length)
      ∧ (e.count ≠ 0 → ∀ d ∈ s.managers, ∃ x ∈ t.fab.txq, x.typ = 0x3B ∧ x.dst = d) := by
  have hexec : exec (.reportWindowEnd subject kind) s = .next (s.closeRep e).after := by
    change execReportWindowEnd subject kind s = _
    simp only [execReportWindowEnd, hfind]
    exact if_pos hdue
  have hof : e.subject = subject.toNat ∧ e.kind = kind.toNat := by simpa using List.find?_some hfind
  have haddress := s.address_closeRep e
  refine ⟨_, hexec, hof.1 ▸ hof.2 ▸ s.repFind_closeRep e, ?_, fun hcount d hd => ?_⟩
  · have hlen := congrArg List.length haddress
    rw [List.length_map, List.length_append, List.length_map] at hlen
    rw [hlen]
    split <;> simp
  · have hmem : (0x3B, d) ∈ (s.closeRep e).fab.txq.map Msg.address := by
      rw [haddress, if_neg hcount]
      exact List.mem_append_right _ (List.mem_map_of_mem hd)
    obtain ⟨x, hx, heq⟩ := List.mem_map.mp hmem
    exact ⟨x, hx, (Prod.mk.inj heq).1, (Prod.mk.inj heq).2⟩

/-! ### Releasing an inbound entry (R368) -/

/-- An entry emptied changes register fields only. -/
theorem State.clearRin_only_regs (s : State) (i : Nat) : s.clearRin i = { s with regs := (s.clearRin i).regs } :=
  State.only_regs_set (State.only_regs_set (State.only_regs_set (State.only_regs_set (State.only_regs_set
    (s.set_only_regs _ _) _ _) _ _) _ _) _ _) _ _

/-- An entry emptied counts nothing (R368). -/
theorem State.count_clearRin (s : State) (i : Nat) : (s.clearRin i).get (DG_RIN_CNT.count i) = 0 := by
  rw [State.clearRin, State.get_set_ne _ _ _ _ (by simp only [Loc.key, DG_RIN_CNT.count, DG_RIN_T.first]; omega),
    State.get_set_same]
  rfl

/-- A release empties its entry of the inbound table (R368). -/
theorem reportRelease_frees (i : Fin 256) (s : State) (hvalid : s.is (DG_RIN_ID.valid i) = true) :
    ∃ t : State, exec (.reportRelease i) s = .next t ∧ t.is (DG_RIN_ID.valid i) = false
      ∧ t.get (DG_RIN_CNT.count i) = 0
      ∧ t.get DG_RIN_STAT.entries = (s.get DG_RIN_STAT.entries - 1) % 2 ^ DG_RIN_STAT.entries.w
      ∧ t = { s with regs := t.regs } := by
  have hkept (l : Loc) (hl : 0x17100 ≤ l.off) : ((s.clearRin i).dec DG_RIN_STAT.entries 1).get l = (s.clearRin i).get l :=
    State.get_set_ne _ _ _ _ (by simp only [Loc.key, DG_RIN_STAT.entries]; omega)
  refine ⟨(s.clearRin i).dec DG_RIN_STAT.entries 1, if_pos hvalid, ?_, ?_, ?_,
    State.only_regs_set (s.clearRin_only_regs i) _ _⟩
  · rw [State.is, hkept _ (by simp only [DG_RIN_ID.valid]; omega), State.valid_clearRin, if_pos rfl]
    rfl
  · rw [hkept _ (by simp only [DG_RIN_CNT.count]; omega), State.count_clearRin]
  · rw [State.dec_eq, State.get_set_same, State.get_clearRin_low _ _ _ (by decide)]

/-- Settles O47: each clause is the lemma about its row. -/
theorem reportsAreMergedFollowedUpAndReleased : Obligations.ReportsAreMergedFollowedUpAndReleased := by
  unfold Obligations.ReportsAreMergedFollowedUpAndReleased
  exact ⟨fun _ _ _ _ hacc hup hrun haccept => report_merges hacc hup hrun haccept,
    fun _ _ _ _ hacc hup hrun haccept => report_takes_entry hacc hup hrun haccept,
    fun _ _ _ hacc hup hrun haccept => report_overflows hacc hup hrun haccept,
    fun _ _ _ hacc hup hrun haccept => exec_report_served hacc hup hrun (State.mergeReport_refused haccept),
    fun _ _ _ hacc => exec_report_waits hacc, reportWindowEnd_follows_up, reportRelease_frees⟩

end Sys2Proof.Machine

namespace Sys2Proof.Machine

/-! ### Joining to rebuild (R268, R380) -/

/-- The member's own staged state as R380 asks: it rebuilds while not bound, or is present while bound. -/
abbrev State.ownJoins (s : State) (c : Nat) : Prop :=
  ((s.staged c).mstate (s.staged c).index = 2 ∧ s.is (DR_STAT.bound c) = false)
    ∨ ((s.staged c).mstate (s.staged c).index = 1 ∧ s.is (DR_STAT.bound c) = true)

/-- The staged values put in force by a rebuilding member, with the state that follows from them (R268, R380). -/
def State.joined (s : State) (c : Nat) : State :=
  (((s.setTm c { vals := s.staged c }).set (TM_STAT.state c) (teamNext tmPROTECTED (s.staged c) (s.staged c))).syncTeam
    c).announceTeam c

/-- What a join puts in force is what was staged, and the state follows from it (R268, R380). -/
theorem State.joined_shows (s : State) (c : Nat) : ((s.joined c).tmAt c).vals = s.staged c
    ∧ (s.joined c).team c = teamNext tmPROTECTED (s.staged c) (s.staged c)
    ∧ (s.joined c).get (TM_STAT.epoch c) = (s.staged c).epoch % 2 ^ (TM_STAT.epoch c).w := by
  have hheld : (s.setTm c { vals := s.staged c }).tmAt c = { vals := s.staged c } := State.tmAt_setTm_same s c _
  refine ⟨?_, ?_, ?_⟩
  · rw [State.joined, State.tmAt_announceTeam, State.syncTeam_only_regs]
    exact congrArg TeamS.vals hheld
  · rw [State.team, State.joined, State.get_announceTeam_high _ _ _ (by simp only [Loc.key, TM_STAT.state]; omega),
      State.get_syncTeam_ne _ _ _ (teamViews_apart (.inl rfl)), State.get_set_same]
    exact Nat.mod_eq_of_lt (teamNext_lt _ _ _)
  · rw [State.joined, State.get_announceTeam_high _ _ _ (by simp only [Loc.key, TM_STAT.epoch]; omega),
      State.epoch_syncTeam]
    exact congrArg (fun x : TeamS => x.vals.epoch % 2 ^ (TM_STAT.epoch c).w) hheld

section
variable {c : Ctx} {s : State} (hrun : s.ctxState c = ctxRUN) (hoff : s.team c = tmOFF)
include hrun hoff

/-- In RUN with the team OFF a join takes the staged values, or else sets form_err alone (R380). -/
theorem State.rebuildJoin_due : s.rebuildJoin c =
    if s.joinOk c = true ∧ s.ownJoins c then s.joined c
    else s.set (TM_STAT.form_err c) 1 := by
  simp only [State.rebuildJoin, State.joined, State.ownJoins, hrun, hoff, ne_eq, not_true_eq_false, or_self, if_false,
    Bool.not_eq_true]

/-- Values that join, with the member's own state as R380 asks, come into force (R380). -/
theorem rebuildJoin_joins (hok : s.joinOk c = true) (hown : s.ownJoins c) :
    ∃ t : State, exec (.rebuildJoin c) s = .next t.after ∧ (t.tmAt c).vals = s.staged c
      ∧ t.team c = teamNext tmPROTECTED (s.staged c) (s.staged c)
      ∧ t.get (TM_STAT.epoch c) = (s.staged c).epoch % 2 ^ (TM_STAT.epoch c).w :=
  ⟨_, congrArg fin ((State.rebuildJoin_due hrun hoff).trans (if_pos ⟨hok, hown⟩)), s.joined_shows c⟩

/-- Any other join is refused (R380). -/
theorem rebuildJoin_refused (h : s.joinOk c = false ∨ ¬ s.ownJoins c) :
    exec (.rebuildJoin c) s = .next (s.set (TM_STAT.form_err c) 1).after := by
  have hnot : ¬ (s.joinOk c = true ∧ s.ownJoins c) := not_and_or.mpr (h.imp_left ne_true_of_eq_false)
  exact congrArg fin ((State.rebuildJoin_due hrun hoff).trans (if_neg hnot))

end

/-! ### A rebuild's start and its early end (R381, R383, R386) -/

/-- The end of a running rebuild before its last stripe reads as FAILED with a status, and start reads 0 (R383). -/
theorem State.rebuildFail_shows {s : State} {c : Nat} (status : Nat) (hrun : s.get (TM_REB_STAT.state c) = 1) :
    (s.rebuildFail c status).get (TM_REB_STAT.state c) = 3
      ∧ (s.rebuildFail c status).get (TM_REB_STAT.status c) = status % 2 ^ 8
      ∧ (s.rebuildFail c status).get (TM_REB_CTL.start c) = 0 := by
  have hregs : (s.rebuildFail c status).regs
      = (((s.set (TM_REB_STAT.state c) 3).set (TM_REB_STAT.status c) status).set (TM_REB_CTL.start c) 0).regs := by
    unfold State.rebuildFail
    dsimp only
    rw [if_pos (by exact hrun)]
    rfl
  have hshown (l : Loc) : (s.rebuildFail c status).get l
      = (((s.set (TM_REB_STAT.state c) 3).set (TM_REB_STAT.status c) status).set (TM_REB_CTL.start c) 0).get l :=
    congrArg (Tbl.at · l.rst l.key) hregs
  refine ⟨?_, ?_, ?_⟩ <;>
    simp (disch := (simp only [Loc.key, TM_REB_STAT.state, TM_REB_STAT.status, TM_REB_CTL.start]; omega)) only
      [hshown, State.get_set_ne, State.get_set_same] <;> rfl

/-- The work of a rebuild that ends early issues nothing more; what has no request in flight is gone (R383). -/
theorem State.rebuildFail_cuts (s : State) (c status : Nat) : ∀ j ∈ (s.rebuildFail c status).jobs,
    j.owner = .rebuild c → j.ending = some (status, some 0) ∧ j.out ≠ 0 := by
  have hjobs : (s.rebuildFail c status).jobs = (s.jobs.filter fun j => !(j.owner == .rebuild c && j.out == 0)).map
      fun j => if j.owner == .rebuild c then { j with ending := some (status, some 0), segs := [] } else j := by
    unfold State.rebuildFail
    dsimp only
    split <;> rfl
  rw [hjobs]
  intro j hj howner
  obtain ⟨i, hi, rfl⟩ := List.mem_map.mp hj
  have hkept := (List.mem_filter.mp hi).2
  by_cases hmine : i.owner = .rebuild c
  · simpa [hmine] using hkept
  · simp [hmine] at howner

/-- A rebuild's registers as it starts: it runs, with nothing lost and no stripe done (R381). -/
def State.rebuildBegun (s : State) (c : Nat) : State :=
  let s := ((s.set (TM_REB_STAT.state c) 1).set (TM_REB_STAT.status c) 0).set (TM_REB_STAT.lost c) 0
  let s := (s.set (TM_REB_STAT.step c) 0).set (TM_REB_PROG.stripes c) 0
  (s.set (TM_REB_CTL.start c) 1).setRec { s.rec_ with rebStep := Tbl.del s.rec_.rebStep c }

/-- What those registers read (R381). -/
theorem State.rebuildBegun_shows (s : State) (c : Nat) : (s.rebuildBegun c).get (TM_REB_STAT.state c) = 1
    ∧ (s.rebuildBegun c).get (TM_REB_STAT.lost c) = 0 ∧ (s.rebuildBegun c).get (TM_REB_PROG.stripes c) = 0
    ∧ (s.rebuildBegun c).get (TM_REB_CTL.start c) = 1 := by
  refine ⟨?_, ?_, ?_, ?_⟩ <;>
    simp (disch := (simp only [Loc.key, TM_REB_STAT.state, TM_REB_STAT.status, TM_REB_STAT.lost, TM_REB_STAT.step,
      TM_REB_PROG.stripes, TM_REB_CTL.start]; omega)) only [State.rebuildBegun, State.get_setRec, State.get_set_ne,
      State.get_set_same] <;> rfl

/-- A start has no effect with the team OFF, for a member that does not rebuild, while a rebuild runs, and while bound is
1 (R381, R386). -/
theorem rebuildStart_ignored (c : Ctx) (s : State)
    (h : s.team c = tmOFF ∨ (s.tmAt c).vals.mstate (s.tmAt c).vals.index ≠ 2
      ∨ s.get (TM_REB_STAT.state c) = 1 ∨ s.is (DR_STAT.bound c) = true) :
    exec (.rebuildStart c) s = .next s.after :=
  congrArg fin (if_pos h)

section
variable (c : Ctx) (s : State) (hteam : s.team c ≠ tmOFF) (hown : (s.tmAt c).vals.mstate (s.tmAt c).vals.index = 2)
  (hidle : s.get (TM_REB_STAT.state c) ≠ 1) (hfree : s.is (DR_STAT.bound c) = false)
include hteam hown hidle hfree

/-- Any other start begins the rebuild, which ends at once where no member is present (R381). -/
theorem State.rebuildStart_due : s.rebuildStart c =
    if (s.tmAt c).vals.presentList = [] then (s.rebuildBegun c).rebuildFail c stPEERLOST
    else (s.rebuildBegun c).addJob { id := 0, owner := .rebuild c, ctx := c, cls := 2, segs := [.rebuild] } :=
  if_neg (by simp [hteam, hown, hidle, hfree])

/-- With a member present the rebuild runs (R381). -/
theorem rebuildStart_runs (hpresent : (s.tmAt c).vals.presentList ≠ []) :
    ∃ (t : State) (j : Job), exec (.rebuildStart c) s = .next t.after ∧ t.get (TM_REB_STAT.state c) = 1
      ∧ t.get (TM_REB_STAT.lost c) = 0 ∧ t.get (TM_REB_PROG.stripes c) = 0 ∧ t.get (TM_REB_CTL.start c) = 1
      ∧ t.jobs = s.jobs ++ [j] ∧ j.owner = .rebuild c ∧ j.cls = 2 := by
  obtain ⟨hstate, hlost, hstripes, hstart⟩ := s.rebuildBegun_shows c
  exact ⟨_, _, congrArg fin ((s.rebuildStart_due c hteam hown hidle hfree).trans (if_neg hpresent)), hstate, hlost,
    hstripes, hstart, rfl, rfl, rfl⟩

/-- With no member present it ends with PEER_LOST (R381). -/
theorem rebuildStart_fails (hnone : (s.tmAt c).vals.presentList = []) :
    ∃ t : State, exec (.rebuildStart c) s = .next t.after ∧ t.get (TM_REB_STAT.state c) = 3
      ∧ t.get (TM_REB_STAT.status c) = stPEERLOST := by
  obtain ⟨hstate, -⟩ := s.rebuildBegun_shows c
  obtain ⟨hfailed, hstatus, -⟩ := State.rebuildFail_shows stPEERLOST hstate
  exact ⟨_, congrArg fin ((s.rebuildStart_due c hteam hown hidle hfree).trans (if_pos hnone)), hfailed, hstatus⟩

end

/-- An abandon ends a running rebuild with TEARDOWN (R383). -/
theorem rebuildAbandon_ends (c : Ctx) (s : State) (hrun : s.get (TM_REB_STAT.state c) = 1) :
    ∃ t : State, exec (.rebuildAbandon c) s = .next t.after ∧ t.get (TM_REB_STAT.state c) = 3
      ∧ t.get (TM_REB_STAT.status c) = stTEARDOWN ∧ t.get (TM_REB_CTL.start c) = 0
      ∧ (∀ j ∈ t.jobs, j.owner = .rebuild c → j.ending = some (stTEARDOWN, some 0) ∧ j.out ≠ 0) := by
  obtain ⟨hstate, hstatus, hstart⟩ := State.rebuildFail_shows stTEARDOWN hrun
  exact ⟨_, if_pos hrun, hstate, hstatus, hstart, s.rebuildFail_cuts c stTEARDOWN⟩

/-! ### Binds and the drain log (R387, R396) -/

/-- The bank of a bind says nothing of the record region (R311, R387). -/
theorem State.recOk_set_bank (s : State) (c v : Nat) : (s.set (DR_BIND.bank c) v).recOk c = s.recOk c := by
  simp (disch := (simp only [Loc.key, DR_BIND.bank, CM_CFG.rec_, TM_STAT.state, GL_RGN_CFG.kind, GL_RGN_CFG.fmt,
    GL_RGN_CFG.layout, GL_RGN_CFG.inner, GL_RGN_CFG.team, GL_RGN_CFG.ctx, GL_RGN_CFG.group, GL_RGN_CFG.slot,
    GL_RGN_CFG.valid, GL_RGN_LOC.base, GL_RGN_SIZE.count]; omega)) only [State.recOk, State.rgn, State.is, State.team,
    State.get_set_ne]
  rfl

/-- The work that reads the record for a bind: it keeps the bank and the step written (R387). -/
def bindJob (c bank step : Nat) : Job :=
  { id := 0, owner := .bind c, ctx := c, cls := 2, segs := [.bindRead], sel := bank, acc := [step] }

section
variable (c : Ctx) (v : W64) (s : State) (hgo : fget v 8 1 = 1) (hidle : s.is (DR_BIND.go c) = false)
include hgo hidle

/-- A bind asked for while none is under way is refused, or its work starts (R387). -/
theorem State.bind_asked : s.bind c v =
    if s.is (DR_STAT.bound c) = true ∨ (s.jobs.any fun j => j.cmdOf c) = true ∨ s.get (TM_REB_STAT.state c) = 1
      ∨ s.recOk c = false
    then (s.set (DR_BIND.bank c) (fget v 0 1)).set (DR_BIND.status c) stBADFIELD
    else ((s.set (DR_BIND.bank c) (fget v 0 1)).set (DR_BIND.go c) 1).addJob
      (bindJob c (fget v 0 1) (s.get (DR_BIND_STEP.step c))) := by
  have hbank : (s.set (DR_BIND.bank c) (fget v 0 1)).get (DR_BIND.bank c) = fget v 0 1 :=
    (State.get_set_same _ _ _).trans (Nat.mod_mod _ _)
  have hkept (l : Loc) (hl : l.key ≠ (DR_BIND.bank c).key) : (s.set (DR_BIND.bank c) (fget v 0 1)).get l = s.get l :=
    State.get_set_ne _ _ _ _ hl
  have hgoing := hkept (DR_BIND.go c) (Loc.key_ne_of_lo_ne rfl (show 8 ≠ 0 by decide))
  have hbound := hkept (DR_STAT.bound c) (by simp only [Loc.key, DR_STAT.bound, DR_BIND.bank]; omega)
  have hreb := hkept (TM_REB_STAT.state c) (by simp only [Loc.key, TM_REB_STAT.state, DR_BIND.bank]; omega)
  have hstep := hkept (DR_BIND_STEP.step c) (by simp only [Loc.key, DR_BIND_STEP.step, DR_BIND.bank]; omega)
  have hnone : ¬ (fget v 8 1 = 0 ∨ s.is (DR_BIND.go c) = true) := by simp [hgo, hidle]
  simp only [State.is] at hnone ⊢
  simp only [State.bind, bindJob, State.is, hgoing, hbound, hreb, hstep, hbank, State.recOk_set_bank, State.set_jobs,
    if_neg hnone, Bool.not_eq_true]
  rfl

/-- A bind that may start reads the record of the bank and step written (R387). -/
theorem bind_starts (hfree : s.is (DR_STAT.bound c) = false) (hcmd : (s.jobs.any fun j => j.cmdOf c) = false)
    (hreb : s.get (TM_REB_STAT.state c) ≠ 1) (hrec : s.recOk c = true) :
    ∃ (t : State) (j : Job), exec (.bind c v) s = .next t.after ∧ t.get (DR_BIND.go c) = 1
      ∧ t.get (DR_BIND.bank c) = fget v 0 1 ∧ t.jobs = s.jobs ++ [j] ∧ j.owner = .bind c ∧ j.segs = [.bindRead]
      ∧ j.sel = fget v 0 1 ∧ j.acc = [s.get (DR_BIND_STEP.step c)] := by
  have hstart := (s.bind_asked c v hgo hidle).trans (if_neg (by simp [hfree, hcmd, hreb, hrec]))
  refine ⟨_, _, congrArg fin hstart, ?_, ?_, rfl, rfl, rfl, rfl, rfl⟩
  · rw [State.get_addJob, State.get_set_same]
    rfl
  · rw [State.get_addJob, State.get_set_ne _ _ _ _ (by exact Loc.key_ne_of_lo_ne rfl (show 0 ≠ 8 by decide)),
      State.get_set_same]
    exact Nat.mod_mod _ _

/-- A bind of a bound context, with a command or a rebuild, or without a record region is refused and starts no work
(R387). -/
theorem bind_refused (h : s.is (DR_STAT.bound c) = true ∨ (s.jobs.any fun j => j.cmdOf c) = true
      ∨ s.get (TM_REB_STAT.state c) = 1 ∨ s.recOk c = false) :
    ∃ t : State, exec (.bind c v) s = .next t.after ∧ t.get (DR_BIND.status c) = stBADFIELD ∧ t.jobs = s.jobs
      ∧ t = { s with regs := t.regs } :=
  ⟨_, congrArg fin ((s.bind_asked c v hgo hidle).trans (if_pos h)), State.get_set_same _ _ _, rfl, rfl⟩

end

/-- A drain log emptied reads as empty (R396). -/
theorem clearLog_empties (c : Ctx) (s : State) : ∃ t : State, exec (.clearLog c) s = .next t ∧ t.logOf c = []
    ∧ t.get (DR_STAT.log_used c) = 0 ∧ t = { s with regs := t.regs, rec_ := t.rec_ } :=
  ⟨s.setLog c [], rfl, Tbl.at_put_same s.rec_.logs [] c [], State.get_set_same _ _ _, rfl⟩

/-- Settles O49: each clause is the lemma about its row. -/
theorem rebuildJoinsStartsAndBinds : Obligations.RebuildJoinsStartsAndBinds := by
  unfold Obligations.RebuildJoinsStartsAndBinds
  exact ⟨fun _ _ hrun hoff => rebuildJoin_joins hrun hoff, fun _ _ hrun hoff => rebuildJoin_refused hrun hoff,
    rebuildStart_runs, rebuildStart_fails, rebuildStart_ignored, fun _ _ hidle => if_neg hidle, rebuildAbandon_ends,
    bind_starts, bind_refused, clearLog_empties⟩

end Sys2Proof.Machine

namespace Sys2Proof.Machine

/-! ## The queue's front, and the registers after reset -/

/-- Settles O1: the step looks at the front of the queue, and its arm is the command's meaning. -/
theorem stepRunsTheFrontCommand : Obligations.StepRunsTheFrontCommand := fun _ _ _ => rfl

/-- Settles O58: after reset no field is listed (every field reads its reset value). -/
theorem resetHasTheRegisterTablesOneForm : Obligations.ResetHasTheRegisterTablesOneForm := by
  have h : State.reset.regs = [] := rfl
  rw [Obligations.ResetHasTheRegisterTablesOneForm, regsSorted, h, Tbl.rising]

end Sys2Proof.Machine

namespace Sys2Proof.Machine

/-! ## Statements of chapter 16: answers of the memory ports -/

/-- The state once a port's request has been answered: it is no longer outstanding (R501). -/
def State.takeMemReq (s : State) (k : Nat) : State := s.setMem { s.mem with reqs := Tbl.del s.mem.reqs k }

/-- The work that a read response reaches: the granule's bytes, or its mark where the read failed (R502, R503). -/
def Job.heardRead (j : Job) (key : Nat) (err : Bool) (data : BitVec 2048) : Job :=
  if err then { j with bad := setAdd j.bad key } else { j with got := Tbl.ins j.got key (granuleBytes data) }

/-- A request taken off the list is not outstanding any more. -/
theorem State.find_takeMemReq (s : State) (k : Nat) : Tbl.find (s.takeMemReq k).mem.reqs k = none :=
  Tbl.find_del_same _ _

/-- What an answered request leaves: the work that issued it with one fewer outstanding. -/
theorem State.answered_job {s : State} {id : Nat} {j : Job} (f : Job → Job) (hj : s.job id = some j) :
    s.answered id f = s.setJob { f j with out := j.out - 1 } := by
  simp only [State.answered, hj]

/-- A write acknowledged reaches the work that issued it (R501). -/
theorem exec_memoryWriteAccept_job {n : Slice} {tag : Fin 4096} {r : MemReq} {j : Job} {s : State}
    (hr : s.mem.resetHigh = false) (hf : Tbl.find s.mem.reqs (n.val * 4096 + tag.val) = some r) (hw : r.write = true)
    (h0 : r.job ≠ 0) (hj : s.job r.job = some j) :
    exec (.memoryWriteAccept n tag) s
      = .next ((s.takeMemReq (n.val * 4096 + tag.val)).setJob { j with out := j.out - 1 }).after := by
  have ha : exec (.memoryWriteAccept n tag) s = fin ((s.takeMemReq (n.val * 4096 + tag.val)).answered r.job id) := by
    show execMemoryWriteAccept n tag s = _
    unfold execMemoryWriteAccept
    dsimp only
    rw [if_neg (by simp [hr]), hf]
    dsimp only
    rw [if_pos hw, if_neg h0]
    rfl
  rw [ha, State.answered_job id (s := s.takeMemReq _) hj]
  rfl

/-- A read answered reaches the work that issued it, with its bytes or its mark (R502, R503). -/
theorem exec_memoryReadResponse_job {n : Slice} {tag : Fin 4096} {r : MemReq} {j : Job} {s : State} (err : Bool)
    (data : BitVec 2048) (hr : s.mem.resetHigh = false)
    (hf : Tbl.find s.mem.reqs (n.val * 4096 + tag.val) = some r) (hw : r.write = false) (hj : s.job r.job = some j) :
    exec (.memoryReadResponse n tag err data) s
      = .next ((s.takeMemReq (n.val * 4096 + tag.val)).setJob
          { j.heardRead (gKey n.val r.granule) err data with out := j.out - 1 }).after := by
  have ha : exec (.memoryReadResponse n tag err data) s = fin ((s.takeMemReq (n.val * 4096 + tag.val)).answered r.job
      fun j => j.heardRead (gKey n.val r.granule) err data) := by
    show execMemoryReadResponse n tag err data s = _
    unfold execMemoryReadResponse
    dsimp only
    rw [if_neg (by simp [hr]), hf]
    dsimp only
    rw [if_neg (by simp [hw])]
    rfl
  rw [ha, State.answered_job _ (s := s.takeMemReq _) hj]
  rfl

/-- While MPnn_RST is high both answers are ignored (R523). -/
theorem memoryAnswers_ignored (n : Slice) (tag : Fin 4096) (err : Bool) (data : BitVec 2048) (s : State)
    (hr : s.mem.resetHigh = true) :
    exec (.memoryWriteAccept n tag) s = .next s ∧ exec (.memoryReadResponse n tag err data) s = .next s :=
  ⟨if_pos hr, if_pos hr⟩

/-- An answer to no outstanding request stops the model (notes/assumptions/8.md). -/
theorem memoryAnswers_unasked (n : Slice) (tag : Fin 4096) (err : Bool) (data : BitVec 2048) (s : State)
    (hr : s.mem.resetHigh = false) (hf : Tbl.find s.mem.reqs (n.val * 4096 + tag.val) = none) :
    exec (.memoryWriteAccept n tag) s = .fault .noRequest
      ∧ exec (.memoryReadResponse n tag err data) s = .fault .noRequest := by
  constructor
  · show execMemoryWriteAccept n tag s = _
    simp only [execMemoryWriteAccept, hr, hf, Bool.false_eq_true, if_false]
  · show execMemoryReadResponse n tag err data s = _
    simp only [execMemoryReadResponse, hr, hf, Bool.false_eq_true, if_false]

/-- Settles O19: the request found says which work is answered, and the response's error bit what the work hears. -/
theorem memoryAnswersGoToTheWorkThatAsked : Obligations.MemoryAnswersGoToTheWorkThatAsked := by
  refine ⟨fun n tag r j s hr hf hw h0 hj => exec_memoryWriteAccept_job hr hf hw h0 hj, ?_, memoryAnswers_ignored,
    memoryAnswers_unasked⟩
  intro n tag err data r j s hr hf hw hj
  refine ⟨_, _, exec_memoryReadResponse_job err data hr hf hw hj, rfl, s.find_takeMemReq _, rfl, ?_, ?_⟩
  · rintro rfl
    exact ⟨Tbl.find_ins_same _ _ _, rfl⟩
  · rintro rfl
    exact ⟨mem_setAdd_self _ _, rfl⟩

end Sys2Proof.Machine

namespace Sys2Proof.Machine

/-! ## Statements of chapter 13: store responses, parity errors, digest windows -/

/-! ### Responses of the store (R518) -/

/-- The state once a request to the store has been answered: no request of its tag is outstanding (R518). -/
def State.takeDrn (s : State) (r : DrnReq) : State :=
  s.setRec { s.rec_ with drns := s.rec_.drns.filter fun x => x.tag ≠ r.tag }

/-- The bytes that a command has once the store answered its request (R518). -/
def Job.joined (j : Job) (r : DrnReq) (data : List Byte) : Job :=
  { j with hold := .run, buf := if r.write then j.buf else j.buf ++ padTo r.len data }

/-- The state in which an answered request's bytes are counted, where it wrote (DR_CNT). -/
def State.drnHeard (s : State) (r : DrnReq) : State :=
  if r.write then (s.takeDrn r).drnCount r.ctx (roundUp r.len 64) false else s.takeDrn r

/-- Work is found under its own id. -/
theorem State.id_of_job {s : State} {id : Nat} {j : Job} (h : s.job id = some j) : j.id = id := by
  have hid := List.find?_some (show s.jobs.find? (fun j => j.id == id) = some j from h)
  exact eq_of_beq hid

/-- What counting changes: registers and the store's list alone. -/
theorem State.drnHeard_frame (s : State) (r : DrnReq) :
    (s.drnHeard r).jobs = s.jobs ∧ (s.drnHeard r).rec_.drns = (s.takeDrn r).rec_.drns
      ∧ (s.drnHeard r).fab = s.fab ∧ (s.drnHeard r).mem = s.mem := by
  unfold State.drnHeard
  split <;> exact ⟨rfl, rfl, rfl, rfl⟩

/-- No request of an answered tag is left. -/
theorem State.takeDrn_tags (s : State) (r : DrnReq) : ∀ x ∈ (s.takeDrn r).rec_.drns, x.tag ≠ r.tag :=
  fun _ hx => of_decide_eq_true (List.mem_filter.mp hx).2

section
variable {header data : List Byte} {s : State} {r : DrnReq} {j : Job}
  (hr : (s.rec_.drns.find? fun r => r.tag == leAt header 2 2) = some r) (hj : s.job r.job = some j)
  (hrun : j.ending = none)
include hr hj hrun

/-- A response of status 0 joins its bytes to what the command has (R518). -/
theorem exec_drnResponse_ok (h0 : leAt header 1 1 = 0) :
    exec (.drnResponse header data) s = .next ((s.drnHeard r).setJob (j.joined r data)).after := by
  show execDrnResponse header data s = _
  have hj' : (s.takeDrn r).job r.job = some j := hj
  unfold execDrnResponse
  rw [hr]
  dsimp only
  rw [show ((s.setRec _).job r.job = some j) from hj']
  dsimp only
  rw [if_neg (by simp [hrun]), if_neg (not_not_intro h0)]
  rfl

/-- A response of another status ends the command with STORE_ERROR (R518). -/
theorem exec_drnResponse_failed (h0 : leAt header 1 1 ≠ 0) :
    exec (.drnResponse header data) s = .next ((s.takeDrn r).endCmd j stSTOREERROR).after := by
  show execDrnResponse header data s = _
  have hj' : (s.takeDrn r).job r.job = some j := hj
  unfold execDrnResponse
  rw [hr]
  dsimp only
  rw [show ((s.setRec _).job r.job = some j) from hj']
  dsimp only
  rw [if_neg (by simp [hrun]), if_pos h0]
  rfl

/-- What a response of status 0 leaves: the command with the bytes joined, and no request of that tag. -/
theorem drnResponse_joins (h0 : leAt header 1 1 = 0) :
    ∃ t : State, exec (.drnResponse header data) s = .next t.after ∧ t.job j.id = some (j.joined r data)
      ∧ (∀ x ∈ t.rec_.drns, x.tag ≠ r.tag) ∧ t.fab = s.fab ∧ t.mem = s.mem := by
  obtain ⟨hjobs, hdrns, hfab, hmem⟩ := s.drnHeard_frame r
  have htags : ∀ x ∈ (s.drnHeard r).rec_.drns, x.tag ≠ r.tag := fun x hx => s.takeDrn_tags r x (hdrns ▸ hx)
  exact ⟨_, exec_drnResponse_ok hr hj hrun h0, State.job_setJob (List.mem_of_find?_eq_some hj) hjobs rfl, htags, hfab,
    hmem⟩

end

/-- A response of a tag that is not outstanding changes nothing (R518). -/
theorem exec_drnResponse_unknown {header data : List Byte} {s : State}
    (h : ∀ r ∈ s.rec_.drns, r.tag ≠ leAt header 2 2) :
    exec (.drnResponse header data) s = .next s := by
  show execDrnResponse header data s = _
  have hnone : (s.rec_.drns.find? fun r => r.tag == leAt header 2 2) = none := by simpa using h
  unfold execDrnResponse
  rw [hnone]

/-! ### Parity errors (R413, R414) -/

/-- The field of DG_PAR that says what failed in an SRAM row (R413). -/
def parityCause (k : Nat) : Loc := ⟨0x19800 + 0x8 * k, 32, 16, 0x0⟩

/-- A parity error counted for its SRAM row, with its cause (R413). -/
def State.parityNoted (s : State) (k m : Nat) : State := (s.satInc (DG_PAR.errors k) 1).set (parityCause k) m

/-- A parity error counted, with the error vector and the emergency message (R413). -/
def State.parityTold (s : State) (k m : Nat) : State :=
  ((s.parityNoted k m).irq 17).emcy 0xFF12 (leBytes 1 k ++ leBytes 2 m)

/-- A suspect is raised at each multiple of the threshold (R414). -/
def State.parityWeighed (s : State) (k m : Nat) : State :=
  let t := s.parityTold k m
  let n := t.get DG_SUS_CFG.par_thresh
  if n ≠ 0 ∧ t.get (DG_PAR.errors k) ≠ s.get (DG_PAR.errors k) ∧ t.get (DG_PAR.errors k) % n = 0 then t.suspect t.self
  else t

/-- Before its site's action a parity error is counted, told and weighed (R413, R414). -/
theorem exec_parityError (k : Fin 8) (macroId : W16) (site : ParitySite) (s : State) :
    exec (.parityError k macroId site) s = .next ((s.parityWeighed k macroId.toNat).parityAct site).after := rfl

/-- Weighing a parity error changes the reports alone (R414). -/
theorem State.parityWeighed_reports (s : State) (k m : Nat) : Reports (s.parityTold k m) (s.parityWeighed k m) := by
  unfold State.parityWeighed
  dsimp only
  split
  · exact .suspect _ _
  · exact .refl _

/-- Telling a parity error changes the fields that a reset resamples alone (R413). -/
theorem State.parityTold_resamples (s : State) (k m : Nat) : Resamples (s.parityNoted k m) (s.parityTold k m) :=
  (Resamples.irq _ 17).trans (.emcy _ _ _)

/-- The row's counter and cause keep their value once counted (R413). -/
theorem State.get_parityWeighed {s : State} {k m : Nat} (hk : k < 8) {l : Loc} (hl : l.key / 64 = 0x19800 + 0x8 * k) :
    (s.parityWeighed k m).get l = (s.parityNoted k m).get l := by
  have hreports : reportOff (l.key / 64) = false := by simp [reportOff]; omega
  have hresampled : resampled (l.key / 64) = false := by simp [resampled]; omega
  exact ((s.parityWeighed_reports k m).fields l hreports).trans ((s.parityTold_resamples k m).fields l hresampled)

/-- A parity error stops its row's counter at its largest value (R413). -/
theorem State.get_errors_parityWeighed (s : State) {k : Nat} (m : Nat) (hk : k < 8) :
    (s.parityWeighed k m).get (DG_PAR.errors k)
      = min (2 ^ (DG_PAR.errors k).w - 1) (s.get (DG_PAR.errors k) + 1) := by
  rw [State.get_parityWeighed hk (by simp only [Loc.key, DG_PAR.errors]; omega), State.parityNoted, State.get_set_ne,
    State.get_satInc_same]
  simp only [Loc.key, DG_PAR.errors, parityCause]; omega

/-- A parity error writes its row's cause (R413). -/
theorem State.get_cause_parityWeighed (s : State) {k : Nat} (macroId : W16) (hk : k < 8) :
    (s.parityWeighed k macroId.toNat).get (parityCause k) = macroId.toNat := by
  rw [State.get_parityWeighed hk (by simp only [Loc.key, parityCause]; omega), State.parityNoted, State.get_set_same]
  exact Nat.mod_eq_of_lt macroId.isLt

/-- A parity error raises the error vector (R413, R525). -/
theorem State.irq_parityWeighed (s : State) (k m : Nat) :
    nbits ((s.parityWeighed k m).get GL_IRQ_STAT.cause) 17 1 = 1 := by
  rw [(s.parityWeighed_reports k m).fields _ (by decide), State.parityTold, State.get_emcy _ _ _ _ (by decide)]
  exact nbits_one_of_testBit (State.testBit_irq _ (by omega))

/-- Counting, telling and weighing a parity error leave the work, memory, meter, rings and entries (R413). -/
theorem State.parityWeighed_frame (s : State) (k m : Nat) :
    s.parityWeighed k m = { s with
      regs := (s.parityWeighed k m).regs, mgmt := (s.parityWeighed k m).mgmt, out := (s.parityWeighed k m).out
      rec_ := (s.parityWeighed k m).rec_, fab := (s.parityWeighed k m).fab } := by
  rw [(s.parityWeighed_reports k m).rest, (s.parityTold_resamples k m).rest]
  rfl

/-- A message that read badly counts as a CRC error (R413). -/
theorem State.get_parityAct_message (s : State) (bytes : List Byte) :
    (s.parityAct (.message bytes)).get FB_STAT.crc_err = min 65535 (s.get FB_STAT.crc_err + 1) :=
  s.get_satInc_same FB_STAT.crc_err 1

/-! ### Digest windows (R425, R426) -/

section
variable (c : Ctx) (w : Fin 16)

/-- The state in which a window write has cleared cfg_err, where it says so (R425). -/
def State.windowCleared (s : State) (v : Nat) : State :=
  if nbits v 62 1 = 1 then s.set (DG_DWIN_CFG.cfg_err c w) 0 else s

/-- The state in which a window write has stored the fields too, before its enable is looked at (R425). -/
def State.windowStored (s : State) (v : Nat) : State :=
  let t := s.windowCleared c w v
  if winWord v = t.winFields c w then t
  else if s.is (DG_DWIN_CFG.enable c w) then t.set (DG_DWIN_CFG.cfg_err c w) 1 else t.putWinFields c w v

/-- Storing a window's fields changes registers alone (R425). -/
theorem State.windowStored_only_regs (s : State) (v : Nat) :
    s.windowStored c w v = { s with regs := (s.windowStored c w v).regs } := by
  have hcleared : s.windowCleared c w v = { s with regs := (s.windowCleared c w v).regs } := by
    unfold State.windowCleared
    split <;> rfl
  unfold State.windowStored
  dsimp only
  split
  · exact hcleared
  split
  · exact State.only_regs_set hcleared _ _
  · exact State.only_regs_trans hcleared rfl

/-- A write whose fields are those that stand stores nothing (R425). -/
theorem State.windowStored_same {s : State} {v : Nat} (h62 : nbits v 62 1 = 0) (hv : winWord v = s.winFields c w) :
    s.windowStored c w v = s := by
  have hcleared : s.windowCleared c w v = s := if_neg (by omega)
  rw [State.windowStored, hcleared]
  exact if_pos hv

/-- A write with enable 0 drops the window (R425). -/
theorem State.windowWrite_drop {s : State} {v : Nat} (h : nbits v 63 1 = 0) :
    s.windowWrite c w v = (s.windowStored c w v).set (DG_DWIN_CFG.enable c w) 0 := if_pos h

/-- A write that enables a window that stands as written looks at R425 alone. -/
theorem State.windowWrite_enable {s : State} {v : Nat} (h63 : nbits v 63 1 = 1) (h62 : nbits v 62 1 = 0)
    (hoff : s.is (DG_DWIN_CFG.enable c w) = false) (hv : winWord v = s.winFields c w) :
    s.windowWrite c w v = if s.dwinOk c w then
        (s.set (DG_DWIN_CFG.enable c w) 1).setWin (16 * c + w) { tsRun := s.get GL_TS.code }
      else s.set (DG_DWIN_CFG.cfg_err c w) 1 := by
  have hopen : s.windowWrite c w v = if nbits v 63 1 = 0 then _ else if s.is (DG_DWIN_CFG.enable c w) then _ else
      if (s.windowStored c w v).dwinOk c w then
        ((s.windowStored c w v).set (DG_DWIN_CFG.enable c w) 1).setWin (16 * c + w)
          { tsRun := (s.windowStored c w v).get GL_TS.code }
      else (s.windowStored c w v).set (DG_DWIN_CFG.cfg_err c w) 1 := rfl
  rw [hopen, if_neg (by omega), if_neg (by simp [hoff]), State.windowStored_same c w h62 hv]

end

/-- Settles O50: a response's request names its command, a parity error's row and site are told apart, and a window
write is looked at by its enable bit. -/
theorem storeResponsesParityErrorsAndDigestWindows : Obligations.StoreResponsesParityErrorsAndDigestWindows := by
  refine ⟨fun header data s r j hr h0 hj hrun => drnResponse_joins hr hj hrun h0,
    fun header data s r j hr h0 hj hrun => exec_drnResponse_failed hr hj hrun h0,
    fun header data s h => exec_drnResponse_unknown h, ?parity, ?sites, ?drop, ?enable, ?refuse⟩
  case parity =>
    intro k macroId site s
    have hrest := s.parityWeighed_frame k macroId.toNat
    exact ⟨_, exec_parityError k macroId site s, s.get_errors_parityWeighed _ k.isLt,
      s.get_cause_parityWeighed macroId k.isLt, s.irq_parityWeighed k _, by rw [hrest], by rw [hrest], by rw [hrest],
      by rw [hrest], by rw [hrest]⟩
  case sites =>
    exact fun bytes n j s => ⟨s.get_parityAct_message bytes, State.get_set_same _ _ _, mem_setAdd_self _ _, rfl⟩
  case drop =>
    intro c w v s h
    refine ⟨_, congrArg fin (State.windowWrite_drop c w h), ?_,
      State.only_regs_set (s.windowStored_only_regs c w _) _ _⟩
    rw [State.is, State.get_set_same]
    rfl
  case enable =>
    intro c w v s h63 h62 hoff hv hok
    refine ⟨_, congrArg fin ((State.windowWrite_enable c w h63 h62 hoff hv).trans (if_pos hok)), ?_, ?_, rfl⟩
    · exact congrArg (· == 1) (State.get_set_same s (DG_DWIN_CFG.enable c w) 1)
    · exact Tbl.at_put_same _ _ _ _
  case refuse =>
    intro c w v s h63 h62 hoff hv hbad
    exact congrArg fin ((State.windowWrite_enable c w h63 h62 hoff hv).trans (if_neg (by simp [hbad])))

end Sys2Proof.Machine

namespace Sys2Proof.Machine

/-! ## The meter: what each of its operations changes -/

/-! ### Faults (R468) -/

/-- A fault's bit is a bit of the faults (0x5000 sub 2). -/
theorem MeterS.faulty_eq_testBit (m : MeterS) (n : Nat) : m.faulty n = m.faults.testBit n := by
  rw [MeterS.faulty, nbits, Nat.shiftRight_eq_div_pow, pow_one, ← Nat.toNat_testBit]
  cases m.faults.testBit n <;> rfl

/-- The meter with a fault set (R468). -/
def MeterS.withFault (m : MeterS) (n : Nat) : MeterS := if m.faulty n then m else { m with faults := m.faults + 2 ^ n }

/-- The meter with a fault cleared (R468). -/
def MeterS.withoutFault (m : MeterS) (n : Nat) : MeterS := if m.faulty n then { m with faults := m.faults - 2 ^ n } else m

/-- Setting a fault changes the faults alone. -/
theorem MeterS.withFault_frame (m : MeterS) (n : Nat) : m.withFault n = { m with faults := (m.withFault n).faults } := by
  unfold MeterS.withFault
  split <;> rfl

/-- Clearing a fault changes the faults alone. -/
theorem MeterS.withoutFault_frame (m : MeterS) (n : Nat) :
    m.withoutFault n = { m with faults := (m.withoutFault n).faults } := by
  unfold MeterS.withoutFault
  split <;> rfl

/-- A fault set is set. -/
@[simp] theorem MeterS.faulty_withFault_same (m : MeterS) (n : Nat) : (m.withFault n).faulty n = true := by
  unfold MeterS.withFault
  split
  · assumption
  next h =>
    rw [MeterS.faulty_eq_testBit] at h ⊢
    simp [Nat.add_comm m.faults, Nat.testBit_two_pow_add_eq, h]

/-- A fault set leaves those below it. -/
theorem MeterS.faulty_withFault_lt (m : MeterS) {k n : Nat} (h : k < n) : (m.withFault n).faulty k = m.faulty k := by
  unfold MeterS.withFault
  split
  · rfl
  · rw [MeterS.faulty_eq_testBit, MeterS.faulty_eq_testBit, Nat.add_comm, Nat.testBit_two_pow_add_gt h]

/-- A fault cleared is clear. -/
@[simp] theorem MeterS.faulty_withoutFault_same (m : MeterS) (n : Nat) : (m.withoutFault n).faulty n = false := by
  unfold MeterS.withoutFault
  split
  next h =>
    rw [MeterS.faulty_eq_testBit] at h ⊢
    have hflip := Nat.testBit_two_pow_add_eq (m.faults - 2 ^ n) n
    rw [Nat.add_sub_cancel' (Nat.ge_two_pow_of_testBit h), h] at hflip
    simpa using hflip
  next h => exact Bool.eq_false_iff.mpr h

section
variable (s : State)

/-- An emergency message of the meter node leaves the meter. -/
@[simp] theorem State.meter_meterEmcy (code : Nat) : (s.meterEmcy code).meter = s.meter := by
  unfold State.meterEmcy
  dsimp only
  split <;> rfl

/-- Raising a fault sets it in the meter. -/
@[simp] theorem State.meter_meterFault (n : Nat) : (s.meterFault n).meter = s.meter.withFault n := by
  unfold State.meterFault MeterS.withFault
  split
  · rfl
  · exact State.meter_meterEmcy _ _

/-- Ending a fault clears it in the meter. -/
@[simp] theorem State.meter_meterClear (n : Nat) : (s.meterClear n).meter = s.meter.withoutFault n := by
  unfold State.meterClear MeterS.withoutFault
  split
  · dsimp only
    split
    · exact State.meter_meterEmcy _ _
    · rfl
  · rfl

/-! ### The mirror port, frames and burns (R456, R467, R470) -/

/-- The mirror port writes registers alone (R470). -/
theorem State.mirror_only_regs : s.mirror = { s with regs := s.mirror.regs } := by
  unfold State.mirror
  dsimp only
  split
  · rfl
  · split <;> rfl

/-- The mirror port leaves the meter. -/
@[simp] theorem State.meter_mirror : s.mirror.meter = s.meter := by rw [s.mirror_only_regs]

/-- The mirror port drives nothing. -/
@[simp] theorem State.out_mirror : s.mirror.out = s.out := by rw [s.mirror_only_regs]

/-- A frame of the meter node only drives its channel. -/
theorem State.meterFrame_only_out (base : Nat) (data : List Byte) :
    s.meterFrame base data = { s with out := (s.meterFrame base data).out } := by
  unfold State.meterFrame
  split <;> rfl

/-- A frame of the meter node leaves the meter. -/
@[simp] theorem State.meter_meterFrame (base : Nat) (data : List Byte) : (s.meterFrame base data).meter = s.meter := by
  rw [s.meterFrame_only_out]

/-- A TPDO sent only drives the meter's channel. -/
theorem State.meterSend_only_out (k : Nat) : s.meterSend k = { s with out := (s.meterSend k).out } := by
  unfold State.meterSend
  split
  · exact s.meterFrame_only_out _ _
  · rfl

/-- A TPDO sent leaves the meter. -/
@[simp] theorem State.meter_meterSend (k : Nat) : (s.meterSend k).meter = s.meter := by rw [s.meterSend_only_out]

/-- The meter at a start-up's end (R444, R459). -/
def MeterS.booted (m : MeterS) : MeterS :=
  { m with state := if m.sealed then 2 else 1, prev := m.seed, nmt := 1, burn := none }

/-- A start-up's end boots the meter. -/
@[simp] theorem State.meter_meterBoot : s.meterBoot.meter = s.meter.booted :=
  (State.meter_mirror _).trans (State.meter_meterFrame _ _ _)

/-- Booting leaves what the seed is made of (R459). -/
theorem MeterS.seed_booted (m : MeterS) : m.booted.seed = m.seed := rfl

/-- A booted meter's records go on from its seed (R459). -/
theorem MeterS.prev_booted (m : MeterS) : m.booted.prev = m.booted.seed := by
  rw [MeterS.seed_booted, MeterS.booted]

/-- A full segment counter is a fault, and the meter boots (R460). -/
@[simp] theorem State.meter_segFull : s.segFull.meter = (s.meter.withFault 5).booted :=
  (State.meter_meterBoot _).trans (congrArg MeterS.booted (State.meter_meterFault s 5))

/-- The odometer's check changes the burn and the faults alone (R454, R456). -/
theorem State.meter_odoCheck_frame :
    s.odoCheck.meter = { s.meter with burn := s.odoCheck.meter.burn, faults := s.odoCheck.meter.faults } := by
  unfold State.odoCheck
  dsimp only
  split
  · rfl
  split
  · rfl
  · rw [State.meter_meterFault, MeterS.withFault_frame]

/-- The odometer's check leaves the faults below its own (R457). -/
theorem State.faulty_odoCheck {k : Nat} (hk : k < 4) : s.odoCheck.meter.faulty k = s.meter.faulty k := by
  unfold State.odoCheck
  dsimp only
  split
  · rfl
  split
  · rfl
  · rw [State.meter_meterFault, MeterS.faulty_withFault_lt _ hk]

/-- No burn begins while none is asked for: a record that does not wait stays unformed (R471). -/
theorem State.recordWaited_none {s : State} (h : s.meter.wait = none) : s.recordWaited = s := by
  unfold State.recordWaited
  rw [h]

/-- No fuse is left open where none was under burning (R471). -/
theorem State.cutBurn_none {s : State} (h : s.meter.burn = none) : s.cutBurn = s := by
  unfold State.cutBurn
  rw [h]

/-- A cut burn changes the meter and takes a free value at most (R471). -/
theorem State.cutBurn_seg {s : State} {f n : Nat} (h : s.meter.burn = some (true, f, n)) :
    s.cutBurn.meter = s.meter ∨ s.cutBurn.meter = { s.meter with seg := s.meter.seg.blow f } := by
  unfold State.cutBurn
  rw [h]
  dsimp only
  split
  · exact .inr rfl
  · exact .inl rfl

end

end Sys2Proof.Machine

namespace Sys2Proof.Machine

/-! ## Statements of chapter 14: the meter's start-up (R444, R456, R459, R460, R464, R471) -/

/-- The meter as a start-up finds it: its fuses, and SRAM anew (R444). -/
def MeterS.starting (m : MeterS) (romCrc : Nat) : MeterS :=
  { m.fusesOnly with powered := true, rom := romCrc }

/-- A ROM that does not match its reference ends in FAULT (R464). -/
theorem State.meterStart_fault (s : State) {crc : Nat} (h : crc ≠ Config.meterRomRef.toNat) :
    s.meterStart crc = ((s.setMeter { s.meter.starting crc with state := 3 }).meterFault 0).mirror := if_pos h

/-- An unsealed meter boots at once (R444). -/
theorem State.meterStart_unsealed {s : State} (h : s.meter.sealed = false) :
    s.meterStart Config.meterRomRef.toNat = (s.setMeter (s.meter.starting Config.meterRomRef.toNat)).meterBoot :=
  (if_neg (not_not_intro rfl)).trans (if_pos (by simp [h]))

/-- A sealed meter burns a segment fuse before it boots (R460). -/
theorem State.meterStart_sealed {s : State} {f : Nat} (h : s.meter.sealed = true)
    (hf : ({ s.meter.seg with tried := [] } : FuseRow).next segFuses = some f) :
    s.meterStart Config.meterRomRef.toNat = (s.setMeter (s.meter.starting Config.meterRomRef.toNat)).startBurn true f := by
  refine ((if_neg (not_not_intro rfl)).trans (if_neg (by simp [h]))).trans ?_
  dsimp only [State.setMeter]
  rw [hf]
  rfl

/-- A segment fuse read back blown boots the meter (R460). -/
theorem exec_burnReadback_segBlown {s : State} {f n : Nat} (h : s.meter.burn = some (true, f, n)) :
    exec (.burnReadback true) s = .next (s.setMeter { s.meter with seg := s.meter.seg.blow f }).meterBoot := by
  show execBurnReadback true s = _
  unfold execBurnReadback
  rw [h]
  rfl

/-- A fuse read back unblown is tried up to three times (R456). -/
theorem exec_burnReadback_again {s : State} {seg : Bool} {f n : Nat} (h : s.meter.burn = some (seg, f, n)) (hn : n < 3) :
    exec (.burnReadback false) s
      = .next ((s.setMeter { s.meter with burn := some (seg, f, n + 1) }).emit (.burn (b2n seg) f)) := by
  show execBurnReadback false s = _
  unfold execBurnReadback
  rw [h]
  exact if_pos hn

/-- The meter once an odometer fuse has failed (R456). -/
def MeterS.odoFailed (m : MeterS) (f : Nat) : MeterS :=
  ({ m with odo := m.odo.skip f, failed := m.failed + 1, burn := none } : MeterS).withFault 2

/-- A fault reported again is set, as one reported first (R468). -/
theorem State.meter_faultReported (s : State) (n code : Nat) :
    (if s.meter.faulty n then s.meterEmcy code else s.meterFault n).meter = s.meter.withFault n := by
  split
  next h => rw [State.meter_meterEmcy, MeterS.withFault, if_pos h]
  · exact s.meter_meterFault n

/-- A failed odometer fuse is counted as failed, with fault 2 (R456). -/
theorem State.meter_burnFailed_odo (s : State) (f : Nat) : (s.burnFailed false f).meter = s.meter.odoFailed f :=
  State.meter_faultReported (s.setMeter { s.meter with odo := s.meter.odo.skip f, failed := s.meter.failed + 1
                                                       burn := none }) 2 0xFF03

/-- The meter after an odometer fuse was tried for the third time: failed, and the next one looked for (R456, R457). -/
theorem exec_burnReadback_odoFailed {s : State} {f n : Nat} (h : s.meter.burn = some (false, f, n)) (hn : 3 ≤ n)
    (hwait : s.meter.wait = none) :
    ∃ t : State, exec (.burnReadback false) s = .next t ∧ t.meter = (s.burnFailed false f).odoCheck.meter := by
  have hrun : exec (.burnReadback false) s = .next (if (s.burnFailed false f).odoCheck.meter.burn.isSome
      then (s.burnFailed false f).odoCheck else (s.burnFailed false f).odoCheck.recordWaited.mirror) := by
    show execBurnReadback false s = _
    unfold execBurnReadback
    rw [h]
    exact (if_neg Bool.false_ne_true).trans (if_neg (by omega))
  have hnone : (s.burnFailed false f).odoCheck.meter.wait = none := by
    rw [State.meter_odoCheck_frame, State.meter_burnFailed_odo, MeterS.odoFailed, MeterS.withFault_frame]
    exact hwait
  refine ⟨_, hrun, ?_⟩
  rw [State.recordWaited_none hnone]
  split
  · rfl
  · exact State.meter_mirror _

/-- A read back with no fuse under burning changes nothing (R456). -/
theorem exec_burnReadback_idle {s : State} (h : s.meter.burn = none) : exec (.burnReadback true) s = .next s := by
  show execBurnReadback true s = _
  unfold execBurnReadback
  rw [h]

/-- An NMT reset restarts a powered meter, with a cut burn decided first (R471, notes/assumptions/58.md). -/
theorem exec_meterNmtReset_powered (crc : W32) {s : State} (h : s.meter.powered = true) :
    exec (.meterNmtReset crc) s = exec (.meterPowerGood crc) s.cutBurn := if_pos h

/-- Settles O51: what a start-up finds is `MeterS.starting`, and each branch of it and of the read-back is followed. -/
theorem meterStartsUpFromItsFuses : Obligations.MeterStartsUpFromItsFuses := by
  refine ⟨?fault, ?unsealed, ?sealed, ?blown, ?again, ?failed, fun s h => exec_burnReadback_idle h, ?reset, ?cut, ?fall⟩
  case fault =>
    intro crc s hcrc
    have hne : crc.toNat ≠ Config.meterRomRef.toNat := fun e => hcrc (BitVec.eq_of_toNat_eq e)
    refine ⟨_, congrArg Host.Outcome.next (s.meterStart_fault hne), ?_⟩
    rw [State.meter_mirror, State.meter_meterFault, State.setMeter_meter]
    refine ⟨?_, MeterS.faulty_withFault_same _ 0, ?_⟩ <;> rw [MeterS.withFault_frame]
    exact ⟨rfl, rfl, rfl, rfl, rfl⟩
  case unsealed =>
    intro s h
    refine ⟨_, congrArg Host.Outcome.next (State.meterStart_unsealed h), ?_⟩
    rw [State.meter_meterBoot, State.setMeter_meter]
    exact ⟨if_neg (by simp [MeterS.starting, MeterS.fusesOnly, h]), rfl, MeterS.prev_booted _, rfl, rfl, rfl, rfl, rfl, rfl⟩
  case sealed =>
    intro s f h hf
    exact ⟨_, congrArg Host.Outcome.next (State.meterStart_sealed h hf), rfl, rfl, rfl, rfl, rfl⟩
  case blown =>
    intro s f n h
    refine ⟨_, exec_burnReadback_segBlown h, ?_⟩
    rw [State.meter_meterBoot, State.setMeter_meter]
    exact ⟨rfl, rfl, rfl, rfl, MeterS.prev_booted _⟩
  case again => exact fun s seg f n h hn => ⟨_, exec_burnReadback_again h hn, rfl, rfl, rfl, rfl, rfl⟩
  case failed =>
    intro s f n h hn hwait
    obtain ⟨t, hrun, ht⟩ := exec_burnReadback_odoFailed h hn hwait
    refine ⟨t, hrun, ?_⟩
    have hfault : t.meter.faulty 2 = true := by
      rw [ht, State.faulty_odoCheck _ (by omega), State.meter_burnFailed_odo]
      exact MeterS.faulty_withFault_same _ _
    rw [State.meter_odoCheck_frame, State.meter_burnFailed_odo, MeterS.odoFailed, MeterS.withFault_frame] at ht
    rw [ht] at hfault ⊢
    exact ⟨rfl, rfl, hfault, rfl⟩
  case reset =>
    intro crc s hp hb
    rw [exec_meterNmtReset_powered crc hp, State.cutBurn_none hb]
  case cut =>
    intro crc s f n hp hb
    refine ⟨s.cutBurn, exec_meterNmtReset_powered crc hp, ?_⟩
    obtain h | h := s.cutBurn_seg hb
    · rw [h]
      exact ⟨rfl, .inl rfl⟩
    · rw [h]
      exact ⟨rfl, .inr rfl⟩
  case fall =>
    intro s h
    refine ⟨s.setMeter s.meter.fusesOnly, ?_, rfl, rfl, rfl, rfl, rfl, rfl, rfl, rfl⟩
    show Host.Outcome.next (s.cutBurn.setMeter s.cutBurn.meter.fusesOnly) = _
    rw [State.cutBurn_none h]

end Sys2Proof.Machine

namespace Sys2Proof.Machine

/-! ## Statements of chapter 14: energy and records (R443, R446, R447, R449, R455, R456, R458, R461, R471) -/

/-! ### A row of fuses (R455, R456) -/

/-- The fuses of a row that failed stand below the lowest that was never tried. -/
structure FuseRow.Sound (f : FuseRow) : Prop where
  nodup : f.bad.Nodup
  below : ∀ x ∈ f.bad, x < f.top

/-- A row has no more failed fuses than fuses tried. -/
theorem FuseRow.Sound.bad_le {f : FuseRow} (h : f.Sound) : f.bad.length ≤ f.top := by
  have hsub : f.bad.toFinset ⊆ Finset.range f.top := fun x hx =>
    Finset.mem_range.mpr (h.below x (List.mem_toFinset.mp hx))
  simpa [List.toFinset_card_of_nodup h.nodup] using Finset.card_le_card hsub

/-- A fuse read back blown leaves the row as sound (R456). -/
theorem FuseRow.Sound.blow {f : FuseRow} (h : f.Sound) (x : Nat) : (f.blow x).Sound := by
  unfold FuseRow.blow
  split
  next hx => exact ⟨h.nodup, fun y hy => (h.below y hy).trans (by simp [hx])⟩
  · exact ⟨h.nodup.filter _, fun y hy => h.below y (List.mem_filter.mp hy).1⟩

/-- A fuse read back blown counts one more (R455, R456). -/
theorem FuseRow.Sound.value_blow {f : FuseRow} (h : f.Sound) {x : Nat} (hx : x = f.top ∨ x ∈ f.bad) :
    (f.blow x).value = f.value + 1 := by
  have hle := h.bad_le
  unfold FuseRow.blow FuseRow.value
  split
  next htop => simp only; omega
  next htop =>
    have hmem := hx.resolve_left htop
    have hfilter : (f.bad.filter fun y => y ≠ x) = f.bad.erase x := by
      rw [h.nodup.erase_eq_filter]
      exact List.filter_congr fun y _ => by by_cases y = x <;> simp [*]
    have hlen := List.length_erase_of_mem hmem
    have hpos := List.length_pos_of_mem hmem
    simp only [hfilter, hlen]; omega

/-! ### Samples, burns and records -/

/-- The state once a sample is taken and its voltage and current are judged (R446, R449). -/
def State.sampled (s : State) (volt curr : Int) : State :=
  let t := s.setMeter (s.meter.sample (!s.countValid) volt curr)
  if Config.meterOutside volt curr then t.meterFault 1 else t.meterClear 1

/-- A running meter takes the sample (R446). -/
theorem exec_meterSample_runs (volt curr : Int) {s : State} (h : s.meter.runs = true) :
    exec (.meterSample volt curr) s = .next (s.sampled volt curr).odoCheck.mirror := if_pos h

/-- Judging a sample changes the faults alone (R449). -/
theorem State.meter_sampled_frame (s : State) (volt curr : Int) :
    (s.sampled volt curr).meter
      = { s.meter.sample (!s.countValid) volt curr with faults := (s.sampled volt curr).meter.faults } := by
  unfold State.sampled
  dsimp only
  split
  · rw [State.meter_meterFault, State.setMeter_meter, MeterS.withFault_frame]
  · rw [State.meter_meterClear, State.setMeter_meter, MeterS.withoutFault_frame]

/-- Fault 1 says whether the sample was outside its limits (R449). -/
theorem State.faulty_sampled (s : State) (volt curr : Int) :
    (s.sampled volt curr).meter.faulty 1 = Config.meterOutside volt curr := by
  unfold State.sampled
  dsimp only
  split
  next h => rw [State.meter_meterFault, MeterS.faulty_withFault_same, h]
  next h => rw [State.meter_meterClear, MeterS.faulty_withoutFault_same, Bool.eq_false_iff.mpr h]

/-- The meter once an odometer fuse was read back blown (R456). -/
def MeterS.odoBurned (m : MeterS) (f : Nat) : MeterS :=
  { m with odo := m.odo.blow f, acc := m.acc - odoUnit, burn := none
           wait := m.wait.map fun r => { r with acc := r.acc - odoUnit } }

/-- An odometer fuse read back blown changes the meter so (R456). -/
theorem State.meter_odoBlown (s : State) (f : Nat) : (s.odoBlown f).meter = s.meter.odoBurned f :=
  State.meter_meterSend _ _

/-- An odometer fuse read back blown, while no record waits (R456, R457). -/
theorem exec_burnReadback_odoBlown {s : State} {f n : Nat} (h : s.meter.burn = some (false, f, n))
    (hwait : s.meter.wait = none) :
    exec (.burnReadback true) s = .next (s.odoBlown f).odoCheck.mirror := by
  have hnone : (s.odoBlown f).meter.wait = none := by
    rw [State.meter_odoBlown, MeterS.odoBurned, hwait]
    rfl
  have hrun : exec (.burnReadback true) s = .next ((s.odoBlown f).recordWaited.odoCheck).mirror := by
    show execBurnReadback true s = _
    unfold execBurnReadback
    rw [h]
    rfl
  rw [hrun, State.recordWaited_none hnone]

/-- A period ends: the next begins with nothing gathered (R458). -/
def MeterS.nextPeriod (m : MeterS) : MeterS := { m with per := { tb := m.faulty 3 } }

/-- A period's record is formed where no fuse is under burning (R458). -/
theorem exec_recordPeriodEnd_formed {s : State} (hr : s.meter.runs = true) (hn : 15625 * s.meter.period ≤ s.meter.per.n)
    (hb : s.meter.burn = none) :
    exec .recordPeriodEnd s = .next (s.setMeter (s.meter.nextPeriod.publish s.recordNow)).mirror :=
  (if_pos ⟨hr, hn⟩).trans (if_neg (by simp [hb]))

/-- A period's record waits for the burn (R471). -/
theorem exec_recordPeriodEnd_waits {s : State} (hr : s.meter.runs = true) (hn : 15625 * s.meter.period ≤ s.meter.per.n)
    (hb : s.meter.burn.isSome = true) :
    exec .recordPeriodEnd s = .next (s.setMeter { s.meter.nextPeriod with wait := some s.recordNow }) :=
  (if_pos ⟨hr, hn⟩).trans (if_pos hb)

/-- A record's head does not depend on what the next period has gathered (R458). -/
theorem MeterS.recordHead_nextPeriod (m : MeterS) (r : RecordS) : m.nextPeriod.recordHead r = m.recordHead r := rfl

/-- The two TPDOs of a record are due (R461). -/
theorem MeterS.due_publish (m : MeterS) (r : RecordS) : 0 ∈ (m.publish r).due ∧ 1 ∈ (m.publish r).due :=
  ⟨mem_setAdd_iff.mpr (.inr (mem_setAdd_self _ _)), mem_setAdd_self _ _⟩

/-- A published record is its head and the head's hash (R458). -/
theorem MeterS.record_publish (m : MeterS) (r : RecordS) :
    (m.publish r).record = m.recordHead r ++ sha256 (m.recordHead r) := by
  rw [MeterS.publish]

/-- A published record's hash goes into the next one (R459). -/
theorem MeterS.prev_publish (m : MeterS) (r : RecordS) : (m.publish r).prev = sha256 (m.recordHead r) := by
  rw [MeterS.publish]

/-- A timebase fault is set, and the period is marked with it (R447). -/
theorem exec_timebaseFault_runs {s : State} (h : s.meter.runs = true) :
    exec .timebaseFault s = .next ((s.meterFault 3).setMeter
      { (s.meterFault 3).meter with per := { (s.meterFault 3).meter.per with tb := true } }).mirror := if_pos h

/-- Settles O52: each operation's meter is written out, and the burnt fuse's row counts one more. -/
theorem meterEnergyIsKeptAndRecorded : Obligations.MeterEnergyIsKeptAndRecorded := by
  refine ⟨?sample, fun volt curr s h => if_neg (by simp [h]), ?burned, ?formed, ?waits, ?lost, ?back⟩
  case sample =>
    intro volt curr s h
    refine ⟨_, exec_meterSample_runs volt curr h, ?_⟩
    have hfault := (State.faulty_odoCheck (s.sampled volt curr) (k := 1) (by omega)).trans (s.faulty_sampled volt curr)
    rw [State.meter_mirror, hfault, State.meter_odoCheck_frame, State.meter_sampled_frame]
    exact ⟨rfl, rfl, rfl, rfl, rfl, rfl, Iff.rfl⟩
  case burned =>
    intro s f n hb hwait hacc hnodup hbelow hf
    have hrow : s.meter.odo.Sound := ⟨hnodup, hbelow⟩
    have hvalue := hrow.value_blow hf
    refine ⟨_, exec_burnReadback_odoBlown hb hwait, ?_⟩
    rw [State.meter_mirror, State.meter_odoCheck_frame, State.meter_odoBlown]
    refine ⟨hvalue, ?_, (hrow.blow f).nodup, (hrow.blow f).below⟩
    show (s.meter.odo.blow f).value * odoUnit + (s.meter.acc - odoUnit) = _
    rw [hvalue, Nat.add_mul]
    omega
  case formed =>
    intro s hr hn hb
    refine ⟨_, exec_recordPeriodEnd_formed hr hn hb, ?_⟩
    rw [State.meter_mirror, State.setMeter_meter]
    obtain ⟨h0, h1⟩ := s.meter.nextPeriod.due_publish s.recordNow
    exact ⟨by rw [MeterS.record_publish, MeterS.recordHead_nextPeriod],
      by rw [MeterS.prev_publish, MeterS.recordHead_nextPeriod], rfl, rfl, rfl, h0, h1⟩
  case waits => exact fun s hr hn hb => ⟨_, exec_recordPeriodEnd_waits hr hn hb, rfl, rfl, rfl, rfl⟩
  case lost =>
    intro s h
    refine ⟨_, exec_timebaseFault_runs h, ?_⟩
    rw [State.meter_mirror, State.setMeter_meter, State.meter_meterFault]
    exact ⟨MeterS.faulty_withFault_same s.meter 3, rfl, by rw [MeterS.withFault_frame]⟩
  case back =>
    intro s h
    refine ⟨_, if_pos h, ?_⟩
    rw [State.meter_mirror, State.meter_meterClear]
    exact ⟨MeterS.faulty_withoutFault_same s.meter 3, by rw [MeterS.withoutFault_frame]⟩

end Sys2Proof.Machine

namespace Sys2Proof.Machine

/-! ## Statements of chapter 14: programming, the seal and the meter's channel (R451, R452, R453, R467, R476) -/

section
variable {s : State}

/-- The meter's channel serves writes: it has power and NMT allows USDOs (R467, R476). -/
def State.meterServes (s : State) : Prop := s.meter.powered = true ∧ (s.meter.nmt = 1 ∨ s.meter.nmt = 2)

/-- While it serves, an answer goes out (R467). -/
theorem State.meterReply_serves (h : s.meterServes) (index sub abort : Nat) :
    s.meterReply index sub abort = s.emit (.usdo 1 index sub abort []) := if_pos h

/-- A write to an unsealed meter that serves takes effect (R451). -/
theorem State.meterWrite_unsealed (h : s.meterServes) (hs : s.meter.sealed = false) (index sub : Nat) (go : State) :
    s.meterWrite index sub go = go := by
  obtain ⟨hp, hn⟩ := h
  exact (if_neg (by simp [hp, hn])).trans (if_neg (by simp [hs]))

/-- A write to a sealed meter that serves is refused (R453). -/
theorem State.meterWrite_sealed (h : s.meterServes) (hs : s.meter.sealed = true) (index sub : Nat) (go : State) :
    s.meterWrite index sub go = s.emit (.usdo 1 index sub 0x06010002 []) := by
  obtain ⟨hp, hn⟩ := h
  exact ((if_neg (by simp [hp, hn])).trans (if_pos hs)).trans (State.meterReply_serves ⟨hp, hn⟩ _ _ _)

/-- A staging write of a calibration value changes that one value (R451). -/
theorem exec_meterStagingWrite_value (h : s.meterServes) (hs : s.meter.sealed = false) {sub : Fin 9} (v : W64)
    (h0 : sub.val ≠ 0) (h8 : sub.val ≠ 8) :
    exec (.meterStagingWrite sub v) s = .next ((s.setMeter { s.meter with
      stage := setAt s.meter.stage (sub.val - 1) (stageValue sub v.toNat) }).emit (.usdo 1 0x5100 sub 0 [])) :=
  congrArg Host.Outcome.next (((State.meterWrite_unsealed h hs 0x5100 sub _).trans
    ((if_neg h0).trans (if_neg h8))).trans (State.meterReply_serves (by exact h) _ _ _))

/-- A staging write of the node-id stages it (R451). -/
theorem exec_meterStagingWrite_node (h : s.meterServes) (hs : s.meter.sealed = false) (v : W64) :
    exec (.meterStagingWrite 8 v) s
      = .next ((s.setMeter { s.meter with stNode := some (v.toNat % 256) }).emit (.usdo 1 0x5100 8 0 [])) :=
  congrArg Host.Outcome.next (((State.meterWrite_unsealed h hs 0x5100 (8 : Fin 9) _).trans
    ((if_neg (by decide)).trans (if_pos rfl))).trans (State.meterReply_serves (by exact h) _ _ _))

/-- The meter once its staged values are programmed as the next bank (R451). -/
def MeterS.programmed (m : MeterS) : MeterS :=
  { m with banks := m.banks ++ [m.stage], node := if m.stNode.isSome then m.stNode else m.node }

/-- Programming appends the staged values as the next of four banks (R451). -/
theorem exec_calibrationProgram_next (h : s.meterServes) (hs : s.meter.sealed = false) (hb : s.meter.banks.length < 4) :
    exec (.calibrationProgram 1#8) s = .next ((s.setMeter s.meter.programmed).meterReply 0x5101 1 0).mirror :=
  congrArg Host.Outcome.next ((State.meterWrite_unsealed h hs 0x5101 1 _).trans
    ((if_neg (not_not_intro rfl)).trans (if_neg (by omega))))

/-- With four banks programmed, programming is refused (R451). -/
theorem exec_calibrationProgram_full (h : s.meterServes) (hs : s.meter.sealed = false)
    (hb : 4 ≤ s.meter.banks.length) :
    exec (.calibrationProgram 1#8) s = .next (s.emit (.usdo 1 0x5101 1 0x08000022 [])) :=
  congrArg Host.Outcome.next (((State.meterWrite_unsealed h hs 0x5101 1 _).trans
    ((if_neg (not_not_intro rfl)).trans (if_pos hb))).trans (State.meterReply_serves h _ _ _))

/-- The programmed calibration is the staged one (R451). -/
theorem MeterS.cal_programmed (m : MeterS) : m.programmed.cal = m.stage := by
  simp [MeterS.cal, MeterS.programmed]

/-- A seal date is staged (R452). -/
theorem exec_sealDateStage_unsealed (h : s.meterServes) (hs : s.meter.sealed = false) (d : W32) :
    exec (.sealDateStage d) s
      = .next ((s.setMeter { s.meter with date := some d.toNat }).emit (.usdo 1 0x5101 3 0 [])) :=
  congrArg Host.Outcome.next ((State.meterWrite_unsealed h hs 0x5101 3 _).trans
    (State.meterReply_serves (by exact h) _ _ _))

/-- The meter once sealed (R452). -/
def MeterS.sealedWith (m : MeterS) (id d : Nat) : MeterS :=
  { m with sealed := true, sealId := id, sealDate := d, state := if m.state = 1 then 2 else m.state }

/-- A seal with a date and a programmed bank closes the meter (R452). -/
theorem exec_sealMeter_seals (h : s.meterServes) (hs : s.meter.sealed = false) (id : W32) {d : Nat}
    (hd : s.meter.date = some d) (hb : s.meter.banks ≠ []) :
    exec (.sealMeter id) s = .next
      (((s.setMeter (s.meter.sealedWith id.toNat d)).meterReply 0x5101 2 0).mirror.emit (.wrapper s.wir false)) := by
  show Host.Outcome.next (s.meterWrite 0x5101 2 _) = _
  rw [State.meterWrite_unsealed h hs, hd]
  exact congrArg Host.Outcome.next (if_neg hb)

/-- An answer leaves the meter (R467). -/
@[simp] theorem State.meter_meterReply (s : State) (index sub abort : Nat) :
    (s.meterReply index sub abort).meter = s.meter := by
  unfold State.meterReply
  split <;> rfl

/-- A TPDO of an operational node is sent and no longer due (R467, R476). -/
theorem exec_meterTpdo_sent {k : Fin 4} (hp : s.meter.powered = true) (hn : s.meter.nmt = 2)
    (hdue : 2 ≤ k.val ∨ s.meter.due.contains k.val) (horder : k.val = 1 → s.meter.due.contains 0 = false) :
    exec (.meterTpdo k) s = .next
      ((s.emit (.can 1 (0x180 + 0x100 * k.val + s.meter.nodeId) (s.meterTpdoData k))).setMeter
        { s.meter with due := s.meter.due.filter fun x => x ≠ k.val }) := by
  have hgo : ¬ (¬ s.meter.powered ∨ (k.val < 2 ∧ ¬ s.meter.due.contains k.val) ∨ (k.val = 1 ∧ s.meter.due.contains 0)) := by
    rintro (h | ⟨hlt, h⟩ | ⟨h1, h⟩)
    · exact h hp
    · exact hdue.elim (by omega) h
    · rw [horder h1] at h
      exact Bool.false_ne_true h
  have hsend : s.meterSend k = s.emit (.can 1 (0x180 + 0x100 * k.val + s.meter.nodeId) (s.meterTpdoData k)) :=
    (if_pos hn).trans (if_pos ⟨hp, by omega⟩)
  refine (if_neg hgo).trans ?_
  dsimp only
  rw [hsend]
  rfl

end

/-- Settles O53: the channel's two cases, sealed and not, and each write, frame and command in its own lemma. -/
theorem meterIsProgrammedUntilItIsSealed : Obligations.MeterIsProgrammedUntilItIsSealed := by
  refine ⟨?value, ?node, ?program, fun s hp hn hs hb => exec_calibrationProgram_full ⟨hp, hn⟩ hs hb, ?date, ?closing,
    ?refused, ?tpdo, ?beat, ?command, ?time⟩
  case value =>
    exact fun sub v s hp hn hs h0 h8 => ⟨_, exec_meterStagingWrite_value ⟨hp, hn⟩ hs v h0 h8, rfl, rfl⟩
  case node => exact fun v s hp hn hs => ⟨_, exec_meterStagingWrite_node ⟨hp, hn⟩ hs v, rfl⟩
  case program =>
    intro s hp hn hs hb
    refine ⟨_, exec_calibrationProgram_next ⟨hp, hn⟩ hs hb, ?_⟩
    rw [State.meter_mirror, State.meter_meterReply, State.setMeter_meter]
    exact ⟨rfl, s.meter.cal_programmed, rfl, rfl⟩
  case date => exact fun d s hp hn hs => ⟨_, exec_sealDateStage_unsealed ⟨hp, hn⟩ hs d, rfl⟩
  case closing =>
    intro id d s hp hn hs hd hb
    refine ⟨_, exec_sealMeter_seals ⟨hp, hn⟩ hs id hd hb, ?_⟩
    rw [State.emit_meter, State.meter_mirror, State.meter_meterReply, State.setMeter_meter]
    exact ⟨rfl, rfl, rfl, rfl, rfl⟩
  case refused =>
    intro sub v w d s hp hn hs
    have hrefused (sub : Nat) (index : Nat) (go : State) := State.meterWrite_sealed (s := s) ⟨hp, hn⟩ hs index sub go
    exact ⟨congrArg _ (hrefused _ _ _), congrArg _ (hrefused _ _ _), congrArg _ (hrefused _ _ _),
      congrArg _ (hrefused _ _ _)⟩
  case tpdo =>
    intro k s hp hn hdue horder
    refine ⟨_, exec_meterTpdo_sent hp hn hdue horder, rfl, ?_, rfl⟩
    simp
  case beat =>
    intro s hp hn ht
    exact (if_neg ht).trans (congrArg Host.Outcome.next (if_pos ⟨hp, hn⟩))
  case command => exact fun s h => ⟨if_neg h, if_neg h, if_neg h⟩
  case time =>
    intro ms s hp hn
    exact ⟨_, if_pos ⟨hp, hn⟩, State.meter_meterReply _ _ _ _⟩

end Sys2Proof.Machine

namespace Sys2Proof.Machine

/-! ## The management node: what its frames and the frames it hears change (R472, R474, R475) -/

section
variable (s : State)

/-- A one-bit field written 1 is set. -/
theorem State.is_set_one (l : Loc) (h : l.w = 1) : (s.set l 1).is l = true := by
  rw [State.is, State.get_set_same, h]
  rfl

/-- A field written 0 is clear. -/
theorem State.is_set_zero (l : Loc) : (s.set l 0).is l = false := by
  rw [State.is, State.get_set_same, Nat.zero_mod]
  rfl

/-- A one-bit field is clear where its value is 0. -/
theorem State.is_false_of_get {s : State} {l : Loc} (h : s.get l = 0) : s.is l = false := by
  rw [State.is, h]
  rfl

/-- A field cut to its width holds what a word has there (R2). -/
theorem State.get_set_fget (l : Loc) (v : W64) : (s.set l (fget v l.lo l.w)).get l = fget v l.lo l.w := by
  rw [State.get_set_same, fget, Nat.mod_mod]

/-- The error-passive bit follows the counters and nothing else changes (R472). -/
theorem State.get_syncPassive (l : Loc) (h : l.key ≠ GL_MG_STAT.passive.key) : s.syncPassive.get l = s.get l :=
  State.get_set_ne _ _ _ _ h

/-- The error-passive bit is a register's (R472). -/
theorem State.syncPassive_only_regs : s.syncPassive = { s with regs := s.syncPassive.regs } := rfl

/-- A frame that is sent changes of the registers the transmit error counter and its bit alone (R472). -/
theorem State.get_canSend0 (base : Nat) (data : List Byte) (l : Loc) (ht : l.key ≠ GL_MG_STAT.tec.key)
    (hp : l.key ≠ GL_MG_STAT.passive.key) : (s.canSend0 base data).get l = s.get l := by
  unfold State.canSend0
  split
  · rw [State.get_syncPassive _ _ hp, State.dec_eq, State.get_set_ne _ _ _ _ ht, State.get_emit]
  · rfl

/-- A frame changes registers and the ports alone. -/
theorem State.canSend0_frame (base : Nat) (data : List Byte) :
    s.canSend0 base data = { s with regs := (s.canSend0 base data).regs, out := (s.canSend0 base data).out } := by
  unfold State.canSend0
  split <;> rfl

/-- A frame leaves management's hidden state. -/
@[simp] theorem State.mgmt_canSend0 (base : Nat) (data : List Byte) : (s.canSend0 base data).mgmt = s.mgmt := by
  rw [s.canSend0_frame]

/-- Whether the node may send does not depend on management's hidden state (R474). -/
theorem State.onBus_setMgmt (m : MgmtS) : (s.setMgmt m).onBus = s.onBus := rfl

/-- On the bus a frame goes out (R474, R475). -/
theorem State.out_canSend0 {s : State} (h : s.onBus = true) (base : Nat) (data : List Byte) :
    (s.canSend0 base data).out = s.out ++ [.can 0 (base + s.get GL_MG_CFG.node) data] := by
  unfold State.canSend0
  rw [if_pos h]
  rfl

/-- A frame received changes the receive error counter, its bit and the free values alone (R472). -/
theorem State.canReceived_frame :
    s.canReceived = { s with regs := s.canReceived.regs, free := s.canReceived.free } := by
  unfold State.canReceived
  split <;> rfl

/-- A frame received changes of the registers the receive error counter and its bit alone (R472). -/
theorem State.get_canReceived (l : Loc) (hr : l.key ≠ GL_MG_STAT.recv_err.key) (hp : l.key ≠ GL_MG_STAT.passive.key) :
    s.canReceived.get l = s.get l := by
  unfold State.canReceived
  split
  · exact State.get_set_ne _ _ _ _ hr
  · rw [State.get_syncPassive _ _ hp, State.get_set_ne _ _ _ _ hr]
    rfl

/-- A frame received leaves management's hidden state. -/
@[simp] theorem State.mgmt_canReceived : s.canReceived.mgmt = s.mgmt := by rw [s.canReceived_frame]

/-- A frame received drives nothing. -/
@[simp] theorem State.out_canReceived : s.canReceived.out = s.out := by rw [s.canReceived_frame]

/-- A frame received leaves the hall time. -/
@[simp] theorem State.now_canReceived : s.canReceived.now = s.now := s.get_canReceived _ (by decide) (by decide)

/-- A frame received leaves the node on its bus. -/
@[simp] theorem State.onBus_canReceived : s.canReceived.onBus = s.onBus := by
  unfold State.onBus State.is
  rw [s.get_canReceived _ (by decide) (by decide), s.get_canReceived _ (by decide) (by decide),
    s.get_canReceived _ (by decide) (by decide)]

/-- A node that joins its bus has a fresh heartbeat and no session (R475, R477). -/
theorem State.mgmt_busJoin : s.busJoin.mgmt = { s.mgmt with hbAt := (s.set GL_MG_STAT.nmt 1).now, session := none } :=
  State.mgmt_canSend0 _ _ _

/-- A node that joins its bus is pre-operational (R475). -/
theorem State.nmt_busJoin : s.busJoin.get GL_MG_STAT.nmt = 1 := by
  rw [State.busJoin, State.get_canSend0 _ _ _ _ (by decide) (by decide), State.get_setMgmt, State.get_set_same]
  rfl

/-- A node that joins its bus changes of the registers GL_MG_STAT alone (R475). -/
theorem State.get_busJoin (l : Loc) (h : l.key / 64 ≠ 0x108) : s.busJoin.get l = s.get l := by
  have hne (m : Loc) (hm : m.key / 64 = 0x108) : l.key ≠ m.key := fun e => h (e ▸ hm)
  rw [State.busJoin, State.get_canSend0 _ _ _ _ (hne _ (by decide)) (hne _ (by decide)), State.get_setMgmt,
    State.get_set_ne _ _ _ _ (hne _ (by decide))]

/-- A node that joins a bus that it may send on sends its boot-up message (R475). -/
theorem State.out_busJoin {s : State} (hon : s.is GL_MG_CFG.bus_on = true) (hoff : s.is GL_MG_STAT.bus_off = false) :
    s.busJoin.out = s.out ++ [.can 0 (0x700 + s.get GL_MG_CFG.node) [0#8]] := by
  refine (State.out_canSend0 ?_ _ _).trans ?_
  · have hon' : (s.set GL_MG_STAT.nmt 1).is GL_MG_CFG.bus_on = true := by
      rw [State.is, State.get_set_ne _ _ _ _ (by decide)]; exact hon
    have hoff' : (s.set GL_MG_STAT.nmt 1).is GL_MG_STAT.bus_off = false := by
      rw [State.is, State.get_set_ne _ _ _ _ (by decide)]; exact hoff
    have hnmt : (s.set GL_MG_STAT.nmt 1).get GL_MG_STAT.nmt = 1 := by rw [State.get_set_same]; rfl
    show ((s.set GL_MG_STAT.nmt 1).is GL_MG_CFG.bus_on && decide ((s.set GL_MG_STAT.nmt 1).get GL_MG_STAT.nmt ≠ 0)
      && !(s.set GL_MG_STAT.nmt 1).is GL_MG_STAT.bus_off) = true
    rw [hon', hoff', hnmt]
    rfl
  · rw [State.get_setMgmt, State.get_set_ne _ _ _ _ (by decide)]
    rfl

/-- A node that left its bus has no NMT state (R474). -/
theorem State.nmt_busLeave : s.busLeave.get GL_MG_STAT.nmt = 0 := by
  rw [State.busLeave, State.get_emit, State.get_setMgmt, State.get_set_same]
  rfl

/-- A node that left its bus changes of the registers its NMT state alone (R474). -/
theorem State.get_busLeave (l : Loc) (h : l.key ≠ GL_MG_STAT.nmt.key) : s.busLeave.get l = s.get l := by
  rw [State.busLeave, State.get_emit, State.get_setMgmt, State.get_set_ne _ _ _ _ h]

end

end Sys2Proof.Machine

namespace Sys2Proof.Machine

/-! ## What a read finds does not depend on management's hidden state (R469, R481) -/

section
variable (s : State) (m : MgmtS)

/-- A register's write does not. -/
theorem State.set_setMgmt (l : Loc) (v : Nat) : (s.setMgmt m).set l v = (s.set l v).setMgmt m := rfl

/-- What runs or is ready does not. -/
theorem State.commitBusy_setMgmt (c : Nat) : (s.setMgmt m).commitBusy c = s.commitBusy c := rfl

/-- A context's debts do not. -/
theorem State.grown_setMgmt (c : Nat) : (s.setMgmt m).grown c = s.grown c := rfl

/-- Neither does what shows them. -/
theorem State.showDebt_setMgmt (c : Nat) (l : List DebtEnt) :
    (s.setMgmt m).showDebt c l = (s.showDebt c l).setMgmt m := rfl

/-- The values that a team stages do not. -/
theorem State.staged_setMgmt (c : Nat) : (s.setMgmt m).staged c = s.staged c := rfl

/-- The digest of a team's shape does not. -/
theorem State.shape_setMgmt (c : Nat) (v : TeamVals) : (s.setMgmt m).shape c v = s.shape c v := rfl

/-- The size of its parity does not. -/
theorem State.pbytes_setMgmt (c : Nat) (v : TeamVals) : (s.setMgmt m).pbytes c v = s.pbytes c v := rfl

/-- A team's state does not. -/
theorem State.team_setMgmt (c : Nat) : (s.setMgmt m).team c = s.team c := rfl

/-- A context's state does not. -/
theorem State.ctxState_setMgmt (c : Nat) : (s.setMgmt m).ctxState c = s.ctxState c := rfl

/-- The hidden state of a context, its team and its commit engine does not. -/
theorem State.hidden_setMgmt (c : Nat) :
    (s.setMgmt m).tmAt c = s.tmAt c ∧ (s.setMgmt m).cmAt c = s.cmAt c ∧ (s.setMgmt m).cxAt c = s.cxAt c := ⟨rfl, rfl, rfl⟩

/-- What the yoke does, does not. -/
theorem State.yokeState_setMgmt : (s.setMgmt m).yokeState = s.yokeState := rfl

/-- The slack does not. -/
theorem State.slack_setMgmt :
    (s.setMgmt m).slackValid = s.slackValid ∧ (s.setMgmt m).nearestBoundary = s.nearestBoundary := ⟨rfl, rfl⟩

/-- The messages that a buffer holds do not. -/
theorem State.buffered_setMgmt (k : Nat) : (s.setMgmt m).buffered k = s.buffered k := rfl

/-- A context's fields as they read do not. -/
theorem State.viewCtx_setMgmt (c : Nat) : (s.setMgmt m).viewCtx c = (s.viewCtx c).setMgmt m := by
  unfold State.viewCtx
  simp only [State.setB_eq, State.set_setMgmt, State.staged_setMgmt, State.commitBusy_setMgmt, State.grown_setMgmt,
    State.showDebt_setMgmt, State.shape_setMgmt, State.pbytes_setMgmt, State.team_setMgmt, State.ctxState_setMgmt,
    State.hidden_setMgmt]
  rfl

/-- A slice's fields as they read do not. -/
theorem State.viewChan_setMgmt (n : Nat) : (s.setMgmt m).viewChan n = (s.viewChan n).setMgmt m := rfl

/-- Nor do all contexts' and all slices'. -/
theorem State.viewAll_setMgmt :
    (List.range 4).foldl State.viewCtx (s.setMgmt m) = ((List.range 4).foldl State.viewCtx s).setMgmt m
    ∧ (List.range 20).foldl State.viewChan (s.setMgmt m) = ((List.range 20).foldl State.viewChan s).setMgmt m :=
  ⟨List.foldl_hom (State.setMgmt · m) fun u c => u.viewCtx_setMgmt m c,
    List.foldl_hom (State.setMgmt · m) fun u n => u.viewChan_setMgmt m n⟩

/-- The buffers' use as it reads. -/
def State.viewInq (s : State) : State :=
  let t := (s.set FB_INQ.rsp_used (s.buffered 1).length).set FB_INQ.col_used (s.buffered 2).length
  t.set FB_INQ.ctl_used (t.buffered 3).length

/-- The fields as they read, part by part. -/
theorem State.viewFields_eq :
    s.viewFields = ((List.range 20).foldl State.viewChan
      (((List.range 4).foldl State.viewCtx s).set YK_STAT.state s.yokeState)).viewInq := rfl

/-- The fields as they read do not. -/
theorem State.viewFields_setMgmt : (s.setMgmt m).viewFields = s.viewFields.setMgmt m := by
  have hinq (u : State) : (u.setMgmt m).viewInq = u.viewInq.setMgmt m := rfl
  rw [State.viewFields_eq, State.viewFields_eq, (s.viewAll_setMgmt m).1, State.yokeState_setMgmt,
    State.set_setMgmt, (State.viewAll_setMgmt _ m).2, hinq]

/-- The slack as it reads does not. -/
theorem State.viewSlack_setMgmt : (s.setMgmt m).viewSlack = (s.viewSlack.1.setMgmt m, s.viewSlack.2) := by
  unfold State.viewSlack
  split
  next h => exact ((if_pos h).symm ▸ rfl)
  next h => exact ((if_neg h).symm ▸ rfl)

/-- A read finds the same (R2). -/
theorem State.view_setMgmt : (s.setMgmt m).view = s.view.setMgmt m := by
  simp only [State.view, State.viewFields_setMgmt, State.viewSlack_setMgmt, State.setB_eq, State.set_setMgmt,
    State.slack_setMgmt]

/-- A TPDO's content is the same (R481). -/
theorem State.tpdoData_setMgmt (k : Nat) : (s.setMgmt m).tpdoData k = s.tpdoData k := rfl

end

end Sys2Proof.Machine

namespace Sys2Proof.Machine

/-! ## Statements of chapter 15: the management node on its bus (R472 to R477, R481, R495) -/

/-! ### Writes of GL_MG_CFG (R473, R474) -/

/-- The fields of GL_MG_CFG stored from a word (R473). -/
def State.mgStored (s : State) (v : W64) : State :=
  [GL_MG_CFG.node, GL_MG_CFG.nrate, GL_MG_CFG.drate, GL_MG_CFG.brs].foldl (fun s l => s.set l (fget v l.lo l.w)) s

/-- Storing them changes the fields below bit 12 of GL_MG_CFG alone, and those to the word's. -/
theorem State.get_mgStored (s : State) (v : W64) : (s.mgStored v).get GL_MG_CFG.node = fget v GL_MG_CFG.node.lo GL_MG_CFG.node.w
    ∧ (s.mgStored v).get GL_MG_CFG.nrate = fget v GL_MG_CFG.nrate.lo GL_MG_CFG.nrate.w
    ∧ (s.mgStored v).get GL_MG_CFG.drate = fget v GL_MG_CFG.drate.lo GL_MG_CFG.drate.w
    ∧ (s.mgStored v).is GL_MG_CFG.bus_on = s.is GL_MG_CFG.bus_on
    ∧ (s.mgStored v).is GL_MG_STAT.bus_off = s.is GL_MG_STAT.bus_off := by
  simp (disch := decide) only [State.mgStored, List.foldl_cons, List.foldl_nil, State.is, State.get_set_ne,
    State.get_set_fget, and_self]

section
variable {v : W64} {s : State}

/-- A write while off that leaves bus_on 0 stores the fields (R473). -/
theorem exec_mgCfgWrite_stores (hoff : s.is GL_MG_CFG.bus_on = false) (h0 : fget v GL_MG_CFG.bus_on.lo 1 = 0) :
    exec (.mgCfgWrite v) s = .next (s.mgStored v) := by
  refine (if_pos h0).trans ?_
  rw [hoff]
  rfl

/-- A write of bus_on with a node joins the bus, while an image runs (R473, R475, notes/assumptions/32.md). -/
theorem exec_mgCfgWrite_joins (hoff : s.is GL_MG_CFG.bus_on = false) (h1 : fget v GL_MG_CFG.bus_on.lo 1 = 1)
    (hnode : fget v GL_MG_CFG.node.lo GL_MG_CFG.node.w ≠ 0) (hrun : s.fwRuns = true) :
    exec (.mgCfgWrite v) s = .next ((s.mgStored v).set GL_MG_CFG.bus_on 1).busJoin := by
  have hset : (s.mgStored v).get GL_MG_CFG.node ≠ 0 := (s.get_mgStored v).1 ▸ hnode
  refine (if_neg (show ¬ fget v GL_MG_CFG.bus_on.lo 1 = 0 by omega)).trans ?_
  rw [hoff]
  exact ((if_neg Bool.false_ne_true).trans (if_neg hset)).trans (congrArg Host.Outcome.next (if_pos hrun))

/-- A write of bus_on with node 0 is refused (R473). -/
theorem exec_mgCfgWrite_nodeless (hoff : s.is GL_MG_CFG.bus_on = false) (h1 : fget v GL_MG_CFG.bus_on.lo 1 = 1)
    (hnode : fget v GL_MG_CFG.node.lo GL_MG_CFG.node.w = 0) :
    exec (.mgCfgWrite v) s = .next ((s.mgStored v).set GL_MG_STAT.cfg_err 1) := by
  have hset : (s.mgStored v).get GL_MG_CFG.node = 0 := (s.get_mgStored v).1.trans hnode
  refine (if_neg (show ¬ fget v GL_MG_CFG.bus_on.lo 1 = 0 by omega)).trans ?_
  rw [hoff]
  exact (if_neg Bool.false_ne_true).trans (if_pos hset)

/-- A changed node while on is refused (R473). -/
theorem exec_mgCfgWrite_changed (hon : s.is GL_MG_CFG.bus_on = true) (h1 : fget v GL_MG_CFG.bus_on.lo 1 = 1)
    (hnode : s.get GL_MG_CFG.node ≠ fget v GL_MG_CFG.node.lo GL_MG_CFG.node.w) :
    exec (.mgCfgWrite v) s = .next (s.set GL_MG_STAT.cfg_err 1) := by
  refine (if_neg (show ¬ fget v GL_MG_CFG.bus_on.lo 1 = 0 by omega)).trans ?_
  rw [hon]
  refine (if_pos rfl).trans (congrArg Host.Outcome.next ((if_pos rfl).trans (if_pos ?_)))
  simp [hnode]

/-- The state in which a write while on has been judged: cfg_err where a field differs (R473). -/
def State.mgJudged (s : State) (v : W64) : State :=
  if [GL_MG_CFG.node, GL_MG_CFG.nrate, GL_MG_CFG.drate, GL_MG_CFG.brs].any fun l => s.get l ≠ fget v l.lo l.w then
    s.set GL_MG_STAT.cfg_err 1
  else s

/-- Judging a write changes cfg_err alone. -/
theorem State.get_mgJudged (s : State) (v : W64) (l : Loc) (h : l.key ≠ GL_MG_STAT.cfg_err.key) :
    (s.mgJudged v).get l = s.get l ∧ (s.mgJudged v).out = s.out := by
  unfold State.mgJudged
  split
  · exact ⟨State.get_set_ne _ _ _ _ h, rfl⟩
  · exact ⟨rfl, rfl⟩

/-- A write that clears bus_on leaves the bus (R474). -/
theorem exec_mgCfgWrite_leaves (hon : s.is GL_MG_CFG.bus_on = true) (h0 : fget v GL_MG_CFG.bus_on.lo 1 = 0) :
    exec (.mgCfgWrite v) s = .next ((s.mgJudged v).set GL_MG_CFG.bus_on 0).busLeave := by
  refine (if_pos h0).trans ?_
  rw [hon]
  rfl

end

/-! ### NMT commands (R476, R477) -/

/-- An NMT command that the node hears sets its state (R476). -/
theorem State.get_nmt_canReceived_set (s : State) (n : Nat) :
    (s.canReceived.set GL_MG_STAT.nmt n).get GL_MG_STAT.nmt = n % 4 := State.get_set_same _ _ _

/-- NMT_START on the bus (R476). -/
theorem nmtStart_starts {s : State} (h : s.onBus = true) :
    ∃ t : State, exec .nmtStart s = .next t ∧ t.get GL_MG_STAT.nmt = 2
      ∧ (s.get GL_MG_STAT.nmt ≠ 2 → t.mgmt.tpdoAt = List.replicate 4 s.now) ∧ t.jobs = s.jobs ∧ t.mem = s.mem := by
  have hgo (u : State) (hu : u.onBus = true) : u.nmtGo 2 = u.canReceived.set GL_MG_STAT.nmt 2 := if_pos hu
  by_cases hn : s.get GL_MG_STAT.nmt = 2
  · have hrun : exec .nmtStart s = .next (s.nmtGo 2) := if_neg (by simp [hn])
    refine ⟨_, hrun.trans (congrArg Host.Outcome.next (hgo s h)), s.get_nmt_canReceived_set 2, fun hne => absurd hn hne, ?_⟩
    rw [State.set_jobs, State.set_mem, s.canReceived_frame]
    exact ⟨rfl, rfl⟩
  · have hrun : exec .nmtStart s = .next ((s.setMgmt { s.mgmt with tpdoAt := List.replicate 4 s.now }).nmtGo 2) :=
      if_pos ⟨h, hn⟩
    refine ⟨_, hrun.trans (congrArg Host.Outcome.next (hgo _ h)), State.get_nmt_canReceived_set _ 2, fun _ => ?_, ?_⟩
    · rw [State.set_mgmt, State.mgmt_canReceived]
      rfl
    · rw [State.set_jobs, State.set_mem, State.canReceived_frame]
      exact ⟨rfl, rfl⟩

/-- An NMT command that the node hears on its bus (R476). -/
theorem State.nmtGo_onBus {s : State} (h : s.onBus = true) (n : Nat) :
    (s.nmtGo n).get GL_MG_STAT.nmt = n % 4 ∧ (s.nmtGo n).mgmt = s.mgmt := by
  have hgo : s.nmtGo n = s.canReceived.set GL_MG_STAT.nmt n := if_pos h
  rw [hgo]
  exact ⟨s.get_nmt_canReceived_set n, s.mgmt_canReceived⟩

/-- Off its bus the node hears no NMT command. -/
theorem State.nmtGo_offBus {s : State} (h : s.onBus = false) (n : Nat) : s.nmtGo n = s := if_neg (by simp [h])

/-- The communication objects at their defaults (R477). -/
theorem State.mgmt_nmtCommReset (s : State) : s.nmtCommReset.mgmt.inhibit = 1000 ∧ s.nmtCommReset.mgmt.hbTime = 1000
    ∧ s.nmtCommReset.mgmt.timers = [100, 1000, 1000, 1000] ∧ s.nmtCommReset.mgmt.session = none := by
  rw [State.nmtCommReset, State.mgmt_busJoin]
  exact ⟨rfl, rfl, rfl, rfl⟩

/-- NMT_RESET_NODE that 0x2011 sends to a communication reset (R477). -/
theorem exec_nmtResetNode_communication {s : State} (h : s.onBus = true) (ha : s.mgmt.rstAction = 1) :
    exec .nmtResetNode s = exec .nmtResetCommunication s :=
  ((if_neg (not_not_intro h)).trans (if_pos ha)).trans (if_pos h).symm

/-- NMT_RESET_NODE during an activation waits for its end (R499). -/
theorem exec_nmtResetNode_waits {s : State} (h : s.onBus = true) (ha : s.mgmt.rstAction ≠ 1)
    (hs : s.get GL_FW_STAT.state = 5) :
    exec .nmtResetNode s = .next (s.canReceived.setMgmt { s.canReceived.mgmt with restart := true }) :=
  ((if_neg (not_not_intro h)).trans (if_neg ha)).trans (if_pos hs)

/-- NMT_RESET_NODE that 0x2011 sends to a block reset starts its collection (R373, R477). -/
theorem exec_nmtResetNode_block {s : State} (h : s.onBus = true) (ha : s.mgmt.rstAction ≠ 1)
    (hs : s.get GL_FW_STAT.state ≠ 5) :
    exec .nmtResetNode s = .next (s.canReceived.startColl 3 .block).after :=
  ((if_neg (not_not_intro h)).trans (if_neg ha)).trans (if_neg hs)

/-- NMT commands on the bus: each sets the state, and a reset follows 0x2011 (R476, R477, R499). -/
theorem nmtCommands_onBus {s : State} (h : s.onBus = true) :
    (∃ t : State, exec .nmtStop s = .next t ∧ t.get GL_MG_STAT.nmt = 3 ∧ t.mgmt = s.mgmt)
    ∧ (∃ t : State, exec .nmtPreoperational s = .next t ∧ t.get GL_MG_STAT.nmt = 1 ∧ t.mgmt = s.mgmt)
    ∧ (∃ t : State, exec .nmtResetCommunication s = .next t ∧ t.get GL_MG_STAT.nmt = 1 ∧ t.mgmt.inhibit = 1000
      ∧ t.mgmt.hbTime = 1000 ∧ t.mgmt.timers = [100, 1000, 1000, 1000] ∧ t.mgmt.session = none) :=
  ⟨⟨_, rfl, s.nmtGo_onBus h 3⟩, ⟨_, rfl, s.nmtGo_onBus h 1⟩,
    ⟨_, if_pos h, State.nmt_busJoin _, s.canReceived.mgmt_nmtCommReset⟩⟩

/-- Off its bus the node hears none of the NMT commands (R476). -/
theorem nmtCommands_offBus {s : State} (h : s.onBus = false) : exec .nmtStart s = .next s ∧ exec .nmtStop s = .next s
    ∧ exec .nmtPreoperational s = .next s ∧ exec .nmtResetNode s = .next s ∧ exec .nmtResetCommunication s = .next s := by
  have hgo (n : Nat) : (.next (s.nmtGo n) : Res) = .next s := congrArg Host.Outcome.next (s.nmtGo_offBus h n)
  exact ⟨(if_neg (by simp [h])).trans (hgo 2), hgo 3, hgo 1, if_pos (by simp [h]), if_neg (by simp [h])⟩

/-! ### Heartbeats, TPDOs and errors (R472, R476, R481) -/

section
variable {s : State}

/-- A heartbeat that is due is sent while the sequencer serves (R476). -/
theorem heartbeat_sent (h : s.onBus = true) (ht : s.mgmt.hbTime ≠ 0) (hdue : s.mgmt.hbAt + 156250 * s.mgmt.hbTime ≤ s.now)
    (hserving : s.serving = true) :
    ∃ t : State, exec .heartbeat s = .next t ∧ t.mgmt.hbAt = s.now
      ∧ t.out = s.out ++ [.can 0 (0x700 + s.get GL_MG_CFG.node)
          [if s.get GL_MG_STAT.nmt = 1 then 0x7F#8 else if s.get GL_MG_STAT.nmt = 2 then 0x05#8 else 0x04#8]] := by
  have hkept : (s.setMgmt { s.mgmt with hbAt := s.now, hbDue := !s.serving }).mgmt.hbDue ≠ true := by
    rw [State.setMgmt_mgmt, hserving]
    exact Bool.false_ne_true
  refine ⟨_, (if_pos ⟨h, ht, hdue⟩).trans (congrArg Host.Outcome.next (if_neg hkept)), ?_, ?_⟩
  · exact congrArg MgmtS.hbAt (State.mgmt_canSend0 _ _ _)
  · exact State.out_canSend0 ((s.onBus_setMgmt _).trans h) _ _

/-- A TPDO that is due is sent while the node is operational (R476, R481). -/
theorem tpdo_sent {k : Fin 4} (h : s.onBus = true) (hserving : s.serving = true) (hnmt : s.get GL_MG_STAT.nmt = 2)
    (ht : s.mgmt.timers.getD k 0 ≠ 0)
    (hdue : s.mgmt.tpdoAt.getD k 0 + 156250 * s.mgmt.timers.getD k 0 ≤ s.now) :
    ∃ t : State, exec (.tpdo k) s = .next t
      ∧ t.out = s.out ++ [.can 0 (0x180 + 0x100 * k.val + s.get GL_MG_CFG.node) (s.view.tpdoData k)] := by
  refine ⟨_, if_pos ⟨h, hserving, hnmt, ht, hdue⟩, ?_⟩
  rw [State.view_setMgmt, State.tpdoData_setMgmt]
  exact State.out_canSend0 ((s.onBus_setMgmt _).trans h) _ _

/-- A receive error counts one, up to the counter's largest value (R472). -/
theorem busError_receive (h : s.onBus = true) :
    ∃ t : State, exec (.busError .receive) s = .next t
      ∧ t.get GL_MG_STAT.recv_err = min (2 ^ GL_MG_STAT.recv_err.w - 1) (s.get GL_MG_STAT.recv_err + 1)
      ∧ t = { s with regs := t.regs } := by
  refine ⟨_, if_neg (not_not_intro h), ?_, rfl⟩
  rw [State.get_syncPassive _ _ (by decide), State.get_satInc_same]

/-- The state in which a transmit error has been counted (R472, notes/assumptions/31.md). -/
def State.transmitError (s : State) : State :=
  let t := (s.satInc GL_MG_STAT.tec 8).syncPassive
  if 255 < s.get GL_MG_STAT.tec + 8 then t.set GL_MG_STAT.bus_off 1 else t

/-- A transmit error counts eight, and above 255 the node is bus-off (R472). -/
theorem busError_transmit (h : s.onBus = true) :
    ∃ t : State, exec (.busError .transmit) s = .next t
      ∧ t.get GL_MG_STAT.tec = min (2 ^ GL_MG_STAT.tec.w - 1) (s.get GL_MG_STAT.tec + 8)
      ∧ (255 < s.get GL_MG_STAT.tec + 8 → t.is GL_MG_STAT.bus_off = true) ∧ t = { s with regs := t.regs } := by
  have hrun : exec (.busError .transmit) s = .next s.transmitError := if_neg (not_not_intro h)
  have hcounted : (s.satInc GL_MG_STAT.tec 8).syncPassive.get GL_MG_STAT.tec
      = min (2 ^ GL_MG_STAT.tec.w - 1) (s.get GL_MG_STAT.tec + 8) := by
    rw [State.get_syncPassive _ _ (by decide), State.get_satInc_same]
  refine ⟨_, hrun, ?_⟩
  unfold State.transmitError
  dsimp only
  split
  next hlarge =>
    exact ⟨(State.get_set_ne _ _ _ _ (by decide)).trans hcounted, fun _ => State.is_set_one _ _ rfl, rfl⟩
  next hsmall => exact ⟨hcounted, fun hlarge => absurd hlarge hsmall, rfl⟩

/-- A bus-off node recovers with its counters at 0 and its NMT state as it was (R472). -/
theorem busOffRecovery_recovers (h : s.is GL_MG_STAT.bus_off = true) :
    ∃ t : State, exec .busOffRecovery s = .next t ∧ t.is GL_MG_STAT.bus_off = false ∧ t.get GL_MG_STAT.tec = 0
      ∧ t.get GL_MG_STAT.recv_err = 0 ∧ t.get GL_MG_STAT.nmt = s.get GL_MG_STAT.nmt ∧ t = { s with regs := t.regs } := by
  refine ⟨_, if_pos h, State.is_false_of_get ?_, ?_, ?_, ?_, rfl⟩ <;>
    simp (disch := decide) only [State.get_syncPassive, State.get_set_ne, State.get_set_same, Nat.zero_mod]

end

/-- Settles O54: each command's branch on the bus, and off it, in a lemma of its own. -/
theorem managementNodeJoinsObeysNmtAndCountsErrors : Obligations.ManagementNodeJoinsObeysNmtAndCountsErrors := by
  refine ⟨?stores, ?joins, ?nodeless, fun v s hon h1 hnode => exec_mgCfgWrite_changed hon h1 hnode, ?leaves, ?commands,
    fun s h => nmtCommands_offBus h, fun s h ht hdue hserving => heartbeat_sent h ht hdue hserving,
    fun k s h hserving hnmt ht hdue => tpdo_sent h hserving hnmt ht hdue,
    fun s h => ⟨busError_receive h, busError_transmit h⟩, fun s h => busOffRecovery_recovers h⟩
  case stores =>
    intro v s hoff h0
    obtain ⟨hnode, hnrate, hdrate, hon, -⟩ := s.get_mgStored v
    exact ⟨_, exec_mgCfgWrite_stores hoff h0, hnode, hnrate, hdrate, hon.trans hoff, rfl⟩
  case joins =>
    intro v s hoff h1 hnode hrun hbus
    obtain ⟨hstored, -, -, -, hkept⟩ := s.get_mgStored v
    have hon : ((s.mgStored v).set GL_MG_CFG.bus_on 1).is GL_MG_CFG.bus_on = true := State.is_set_one _ _ rfl
    refine ⟨_, exec_mgCfgWrite_joins hoff h1 hnode hrun, ?_, State.nmt_busJoin _, ?_⟩
    · rw [State.is, State.get_busJoin _ _ (by decide)]
      exact hon
    · rw [State.out_busJoin hon, State.get_set_ne _ _ _ _ (by decide), hstored]
      · rfl
      · rw [State.is, State.get_set_ne _ _ _ _ (by decide)]
        exact hkept.trans hbus
  case nodeless =>
    intro v s hoff h1 hnode
    obtain ⟨-, -, -, hon, -⟩ := s.get_mgStored v
    refine ⟨_, exec_mgCfgWrite_nodeless hoff h1 hnode, ?_, State.is_set_one _ _ rfl⟩
    rw [State.is, State.get_set_ne _ _ _ _ (by decide)]
    exact hon.trans hoff
  case leaves =>
    intro v s hon h0
    refine ⟨_, exec_mgCfgWrite_leaves hon h0, ?_, State.nmt_busLeave _, rfl, ?_, ?_⟩
    · rw [State.is, State.get_busLeave _ _ (by decide)]
      exact State.is_set_zero _ _
    · exact congrArg (· ++ [.canOff 0]) (s.get_mgJudged v GL_MG_CFG.node (by decide)).2
    · rw [State.get_busLeave _ _ (by decide), State.get_set_ne _ _ _ _ (by decide)]
      exact (s.get_mgJudged v _ (by decide)).1
  case commands =>
    intro s h
    obtain ⟨hstop, hpre, hcomm⟩ := nmtCommands_onBus h
    refine ⟨nmtStart_starts h, hstop, hpre, hcomm, fun ha => exec_nmtResetNode_communication h ha,
      fun ha hs => ⟨_, exec_nmtResetNode_waits h ha hs, rfl⟩, fun ha hs hcoll => ⟨_, exec_nmtResetNode_block h ha hs, ?_⟩⟩
    have hnone : s.canReceived.rec_.coll = none := by
      rw [s.canReceived_frame]
      exact hcoll
    rw [State.startColl_none _ _ _ hnone, State.now_canReceived]

end Sys2Proof.Machine

namespace Sys2Proof.Machine

/-! ## Statements of chapter 15: the dictionary over the bus and the mailbox (R478, R479, R482 to R486) -/

/-! ### Requests over the bus (R478, R479) -/

/-- The node is on its bus, in pre-operational or operational, and the sequencer serves (R475, R476, R479). -/
structure State.UsdoServes (s : State) : Prop where
  bus : s.onBus = true
  nmt : s.canReceived.emcySent = true
  sequencer : s.canReceived.serving = true

section
variable {s : State} (h : s.UsdoServes)
include h

/-- A node that serves is not held back by its NMT state or the sequencer. -/
theorem State.UsdoServes.goes : ¬ (¬ s.canReceived.emcySent ∨ ¬ s.canReceived.serving) := by
  simp [h.nmt, h.sequencer]

/-- A read is opened unless a session is (R478). -/
theorem exec_usdoRequest_read (i : W16) (b : Byte) : exec (.usdoRequest (.read i b)) s
    = .next (s.canReceived.usdoInit i.toNat b.toNat (s.canReceived.usdoRead i.toNat b.toNat)) :=
  (if_neg (not_not_intro h.bus)).trans (if_neg h.goes)

/-- A write is done unless a session is open (R478). -/
theorem exec_usdoRequest_write (i : W16) (b : Byte) (d : List Byte) : exec (.usdoRequest (.write i b d)) s
    = .next (s.canReceived.usdoInit i.toNat b.toNat (s.canReceived.usdoWrite i.toNat b.toNat d)) :=
  (if_neg (not_not_intro h.bus)).trans (if_neg h.goes)

/-- A segment asked for is handed out of the session that reads (R478). -/
theorem exec_usdoRequest_segmentOut {x : Session} (hx : s.mgmt.session = some x) (hread : x.write = false) :
    exec (.usdoRequest .segmentOut) s = .next (s.canReceived.usdoSegOut x) := by
  refine ((if_neg (not_not_intro h.bus)).trans (if_neg h.goes)).trans ?_
  rw [State.mgmt_canReceived, hx]
  exact congrArg Host.Outcome.next (if_neg (by simp [hread]))

/-- A segment received goes into the session that writes (R478). -/
theorem exec_usdoRequest_segmentIn {x : Session} (hx : s.mgmt.session = some x) (hwrite : x.write = true) (d : List Byte)
    (last : Bool) : exec (.usdoRequest (.segmentIn d last)) s = .next (s.canReceived.usdoSegIn x d last) := by
  refine ((if_neg (not_not_intro h.bus)).trans (if_neg h.goes)).trans ?_
  rw [State.mgmt_canReceived, hx]
  exact congrArg Host.Outcome.next (if_pos hwrite)

end

section
variable {s : State}

/-- With no session open a transfer begins (R478). -/
theorem State.usdoInit_open (h : s.mgmt.session = none) (index sub : Nat) (go : State) :
    s.canReceived.usdoInit index sub go = go := by
  refine if_neg ?_
  rw [State.mgmt_canReceived, h]
  exact Bool.false_ne_true

/-- While a session is open no other begins (R478). -/
theorem State.usdoInit_busy (h : s.mgmt.session.isSome = true) (index sub : Nat) (go : State) :
    s.canReceived.usdoInit index sub go = s.canReceived.usdoReply index sub 0x08000020 [] := by
  refine if_pos ?_
  rw [State.mgmt_canReceived]
  exact h

/-- An answer goes out after what was driven before. -/
theorem State.out_usdoReply_canReceived (index sub abort : Nat) (data : List Byte) :
    (s.canReceived.usdoReply index sub abort data).out = s.out ++ [.usdo 0 index sub abort data] :=
  congrArg (· ++ [Out.usdo 0 index sub abort data]) s.out_canReceived

/-- An answer leaves management's hidden state. -/
theorem State.mgmt_usdoReply_canReceived (index sub abort : Nat) (data : List Byte) :
    (s.canReceived.usdoReply index sub abort data).mgmt = s.mgmt := s.mgmt_canReceived

/-- An object of at most 56 bytes is answered at once (R478). -/
theorem State.usdoRead_short {index sub : Nat} {d : List Byte} (h : s.dictRead index sub = .inr d) (hd : d.length ≤ 56) :
    s.usdoRead index sub = s.usdoReply index sub 0 d := by
  unfold State.usdoRead
  rw [h]
  exact if_pos hd

/-- A longer one opens a session and is answered with its length (R478). -/
theorem State.usdoRead_long {index sub : Nat} {d : List Byte} (h : s.dictRead index sub = .inr d) (hd : 56 < d.length) :
    s.usdoRead index sub = (s.setMgmt { s.mgmt with session := some ⟨index, sub, false, d.length, d, s.now⟩ }).usdoReply
      index sub 0 (leBytes 4 d.length) := by
  unfold State.usdoRead
  rw [h]
  exact if_neg (by omega)

/-- What cannot be read is answered with its abort code (R479). -/
theorem State.usdoRead_abort {index sub a : Nat} (h : s.dictRead index sub = .inl a) :
    s.usdoRead index sub = s.usdoReply index sub a [] := by
  unfold State.usdoRead
  rw [h]

/-- A write that its guard refuses changes no object (R479, R483). -/
theorem State.usdoWrite_refused {index sub : Nat} {d : List Byte} (h : s.dictGuard index sub d.length false ≠ 0) :
    s.usdoWrite index sub d = s.usdoReply index sub (s.dictGuard index sub d.length false) [] := by
  have hwrite : s.dictWrite index sub d false = (s.dictGuard index sub d.length false, s) := if_pos h
  rw [State.usdoWrite, hwrite]

/-- A session whose time is over is ended with its abort code (R478, R479). -/
theorem exec_usdoSessionTimeout_ends {x : Session} (hx : s.mgmt.session = some x) (ht : x.at_ + 156250000 ≤ s.now)
    (hserving : s.serving = true) : exec .usdoSessionTimeout s
      = .next ((s.setMgmt { s.mgmt with session := none }).usdoReply x.index x.sub 0x05040000 []) := by
  show execUsdoSessionTimeout s = _
  unfold execUsdoSessionTimeout
  rw [hx]
  exact if_pos ⟨ht, hserving⟩

end

/-! ### Requests of the mailbox (R484, R485) -/

/-- The fields of GL_MBX_REQ stored from a word (R484). -/
def State.mbxStored (s : State) (v : W64) : State :=
  [GL_MBX_REQ.index, GL_MBX_REQ.sub, GL_MBX_REQ.op, GL_MBX_REQ.length, GL_MBX_REQ.offset].foldl
    (fun (s : State) l => s.set l (fget v l.lo l.w)) s

section
variable {s : State} {v : W64}

/-- A request while no image runs is aborted at once (R484). -/
theorem exec_mailboxRequest_imageless (hbusy : s.is GL_MBX_STAT.busy = false) (hgo : fget v 63 1 = 1)
    (hrun : s.fwRuns = false) : exec (.mailboxRequest v) s = .next ((s.mbxStored v).mbxEnd 0x08000022 0) := by
  have hidle : ¬ (s.mbxStored v).fwRuns = true := by
    show ¬ s.fwRuns = true
    simp [hrun]
  exact (if_neg (by simp [hbusy])).trans ((if_neg (by omega)).trans (if_pos hidle))

/-- A request while an image runs keeps the mailbox busy (R484). -/
theorem exec_mailboxRequest_goes (hbusy : s.is GL_MBX_STAT.busy = false) (hgo : fget v 63 1 = 1)
    (hrun : s.fwRuns = true) :
    exec (.mailboxRequest v) s = .next (((s.mbxStored v).set GL_MBX_REQ.go 1).set GL_MBX_STAT.busy 1) :=
  (if_neg (by simp [hbusy])).trans ((if_neg (by omega)).trans (if_neg (not_not_intro hrun)))

/-- What GL_MBX_REQ holds once a request goes (R484). -/
theorem mailboxRequest_fields (s : State) (v : W64) :
    ((((s.mbxStored v).set GL_MBX_REQ.go 1).set GL_MBX_STAT.busy 1).get GL_MBX_REQ.index
      = fget v GL_MBX_REQ.index.lo GL_MBX_REQ.index.w)
    ∧ (((s.mbxStored v).set GL_MBX_REQ.go 1).set GL_MBX_STAT.busy 1).get GL_MBX_REQ.sub
      = fget v GL_MBX_REQ.sub.lo GL_MBX_REQ.sub.w := by
  simp (disch := decide) only [State.mbxStored, List.foldl_cons, List.foldl_nil, State.get_set_ne, State.get_set_fget,
    and_self]

/-- An access ended: not busy, done, its abort code and the mailbox's interrupt cause (R484, R525). -/
theorem State.mbxEnd_ends (s : State) {abort : Nat} (len : Nat) (ha : abort < 2 ^ 32) :
    (s.mbxEnd abort len).is GL_MBX_STAT.busy = false ∧ (s.mbxEnd abort len).is GL_MBX_STAT.done = true
      ∧ (s.mbxEnd abort len).get GL_MBX_STAT.abort = abort
      ∧ nbits ((s.mbxEnd abort len).get GL_IRQ_STAT.cause) 23 1 = 1 := by
  have hcut : abort % 2 ^ GL_MBX_STAT.abort.w = abort := Nat.mod_eq_of_lt ha
  refine ⟨State.is_false_of_get ?_, beq_iff_eq.mpr ?_, ?_, nbits_one_of_testBit (State.testBit_irq _ (by omega))⟩
  all_goals
    rw [State.mbxEnd, State.get_irq_ne _ _ _ (by decide)]
    simp (disch := decide) only [State.get_set_ne, State.get_set_same, Nat.zero_mod, hcut]
  rfl

end

/-! ### A mailbox read (R484, R485, R486) -/

/-- Bytes read as a number and written out again are the bytes (R3). -/
theorem leBytes_leNat (bs : List Byte) : leBytes bs.length (leNat bs) = bs := by
  induction bs with
  | nil => rfl
  | cons b bs ih =>
    have hb : b.toNat < 256 := b.isLt
    have hdiv : (b.toNat + 256 * leNat bs) / 256 = leNat bs := by omega
    rw [List.length_cons, leBytes, leNat, hdiv, ih]
    congr 1
    exact BitVec.eq_of_toNat_eq (by rw [BitVec.toNat_ofNat]; omega)

/-- The words of n times eight bytes put one after another are the bytes. -/
theorem flatMap_words (n : Nat) (bs : List Byte) (h : 8 * n ≤ bs.length) :
    ((List.range n).flatMap fun i => leBytes 8 (leAt bs (8 * i) 8)) = bs.take (8 * n) := by
  induction n with
  | zero => simp
  | succ n ih =>
    have hword : leBytes 8 (leAt bs (8 * n) 8) = (bs.drop (8 * n)).take 8 := by
      have hlen : ((bs.drop (8 * n)).take 8).length = 8 := by rw [List.length_take, List.length_drop]; omega
      have hback := leBytes_leNat ((bs.drop (8 * n)).take 8)
      rwa [hlen] at hback
    rw [List.range_succ, List.flatMap_append, ih (by omega), List.flatMap_singleton, hword, Nat.mul_succ, List.take_add]

/-- The bytes that a mailbox read leaves in the data registers: the object's, then those that stood there (R484). -/
def State.mbxAfter (s : State) (d : List Byte) : List Byte := d ++ s.mbxData.drop d.length

/-- There are 64 bytes in the data registers. -/
theorem State.mbxData_length (s : State) : s.mbxData.length = 64 := by
  simp [State.mbxData, List.length_flatMap]

/-- A data register once bytes are placed there (R484). -/
theorem State.get_mbxPut (s : State) (d : List Byte) {i : Nat} (hi : i < 8) :
    (s.mbxPut d).get (GL_MBX_DATA.data i) = leAt (s.mbxAfter d) (8 * i) 8 := by
  have hother (u : State) (x : Nat) (hx : x ≠ i) :
      (u.set (GL_MBX_DATA.data x) (leAt (s.mbxAfter d) (8 * x) 8)).get (GL_MBX_DATA.data i) = u.get (GL_MBX_DATA.data i) :=
    State.get_set_ne _ _ _ _ (by simp only [Loc.key, GL_MBX_DATA.data]; omega)
  obtain ⟨t, -, ht⟩ := State.foldl_at (State.get · (GL_MBX_DATA.data i))
    (fun u i => u.set (GL_MBX_DATA.data i) (leAt (s.mbxAfter d) (8 * i) 8)) List.nodup_range (List.mem_range.mpr hi)
    hother s
  refine ht.trans ((State.get_set_same _ _ _).trans (Nat.mod_eq_of_lt ?_))
  exact leAt_lt _ _ 8

/-- Bytes placed in the data registers are read back there (R484). -/
theorem State.mbxData_mbxPut (s : State) (d : List Byte) (hd : d.length ≤ 64) : (s.mbxPut d).mbxData = s.mbxAfter d := by
  have hlen : (s.mbxAfter d).length = 64 := by
    rw [State.mbxAfter, List.length_append, List.length_drop, s.mbxData_length]; omega
  have hwords : (s.mbxPut d).mbxData = (List.range 8).flatMap fun i => leBytes 8 (leAt (s.mbxAfter d) (8 * i) 8) :=
    List.flatMap_congr fun i hi => congrArg (leBytes 8) (s.get_mbxPut d (List.mem_range.mp hi))
  rw [hwords, flatMap_words 8 _ hlen.ge]
  exact List.take_of_length_le hlen.le

/-- The end of an access leaves the data registers (R484). -/
theorem State.mbxData_mbxEnd (s : State) (abort len : Nat) : (s.mbxEnd abort len).mbxData = s.mbxData := by
  have hkey (i : Nat) (hi : i < 8) (l : Loc) (hl : l.key < 64 * 0x140 ∨ 64 * 0x180 ≤ l.key) :
      (GL_MBX_DATA.data i).key ≠ l.key := by
    simp only [Loc.key, GL_MBX_DATA.data] at hl ⊢; omega
  refine List.flatMap_congr fun i hi => congrArg (leBytes 8) ?_
  have hne := hkey i (List.mem_range.mp hi)
  rw [State.mbxEnd, State.get_irq_ne _ _ _ (hne _ (by decide)), State.get_set_ne _ _ _ _ (hne _ (by decide)),
    State.get_set_ne _ _ _ _ (hne _ (by decide)), State.get_set_ne _ _ _ _ (hne _ (by decide)),
    State.get_set_ne _ _ _ _ (hne _ (by decide)), State.get_set_ne _ _ _ _ (hne _ (by decide))]

/-- A mailbox read of an object of the length asked for returns its bytes (R484). -/
theorem State.mbxRead_whole {s : State} {index sub off : Nat} {d : List Byte} (h : s.dictRead index sub = .inr d)
    (hstring : dictString index = false) (hd : d.length ≤ 64) :
    s.mbxRead index sub d.length off = (s.mbxPut d).mbxEnd 0 d.length := by
  unfold State.mbxRead
  rw [h]
  exact (if_neg (by simp [hstring])).trans ((if_neg (by omega)).trans (if_pos rfl))

/-- A mailbox read is served while no session is open (R484, R486). -/
theorem exec_mailboxComplete_read {s : State} {d : List Byte} (hbusy : s.is GL_MBX_STAT.busy = true)
    (hserving : s.serving = true) (hsession : s.mgmt.session = none) (hop : s.get GL_MBX_REQ.op = 1)
    (hread : s.dictRead (s.get GL_MBX_REQ.index) (s.get GL_MBX_REQ.sub) = .inr d)
    (hstring : dictString (s.get GL_MBX_REQ.index) = false) (hlen : d.length = s.get GL_MBX_REQ.length)
    (hpos : 0 < d.length) (hd : d.length ≤ 64) :
    exec .mailboxComplete s = .next ((s.mbxPut d).mbxEnd 0 d.length).after := by
  refine (if_neg (by simp [hbusy, hserving])).trans ?_
  dsimp only
  rw [hsession]
  refine (if_neg Bool.false_ne_true).trans ((if_neg (by omega)).trans ((if_pos hop).trans ?_))
  rw [← hlen, State.mbxRead_whole hread hstring hd]
  rfl

/-- Settles O55: each request of the bus and of the mailbox in its own lemma, and the data registers word by word. -/
theorem dictionaryIsServedOverTheBusAndTheMailbox : Obligations.DictionaryIsServedOverTheBusAndTheMailbox := by
  refine ⟨?short, ?long, ?abort, ?busy, ?refused, ?segmentOut, ?segmentIn, ?timeout, fun v s h => if_pos h, ?imageless,
    ?goes, ?complete⟩
  case short =>
    intro i b s d hbus hnmt hserving hsession hread hd
    have hrun := exec_usdoRequest_read ⟨hbus, hnmt, hserving⟩ i b
    rw [State.usdoInit_open hsession, State.usdoRead_short hread hd] at hrun
    exact ⟨_, hrun, State.out_usdoReply_canReceived _ _ _ _, State.mgmt_usdoReply_canReceived _ _ _ _⟩
  case long =>
    intro i b s d hbus hnmt hserving hsession hread hd
    have hrun := exec_usdoRequest_read ⟨hbus, hnmt, hserving⟩ i b
    rw [State.usdoInit_open hsession, State.usdoRead_long hread hd, State.now_canReceived] at hrun
    exact ⟨_, hrun, rfl, State.out_usdoReply_canReceived _ _ _ _⟩
  case abort =>
    intro i b s a hbus hnmt hserving hsession hread
    have hrun := exec_usdoRequest_read ⟨hbus, hnmt, hserving⟩ i b
    rw [State.usdoInit_open hsession, State.usdoRead_abort hread] at hrun
    exact ⟨_, hrun, State.out_usdoReply_canReceived _ _ _ _, State.mgmt_usdoReply_canReceived _ _ _ _⟩
  case busy =>
    intro i b d s hbus hnmt hserving hsession
    have hrun := exec_usdoRequest_write ⟨hbus, hnmt, hserving⟩ i b d
    rw [State.usdoInit_busy hsession] at hrun
    exact ⟨_, hrun, State.out_usdoReply_canReceived _ _ _ _, State.mgmt_usdoReply_canReceived _ _ _ _⟩
  case refused =>
    intro i b d s hbus hnmt hserving hsession hguard
    have hrun := exec_usdoRequest_write ⟨hbus, hnmt, hserving⟩ i b d
    rw [State.usdoInit_open hsession, State.usdoWrite_refused hguard] at hrun
    exact ⟨_, hrun, State.mgmt_usdoReply_canReceived _ _ _ _, State.out_usdoReply_canReceived _ _ _ _⟩
  case segmentOut =>
    intro s x hbus hnmt hserving hx hread
    refine ⟨_, exec_usdoRequest_segmentOut ⟨hbus, hnmt, hserving⟩ hx hread, State.out_usdoReply_canReceived _ _ _ _, ?_, ?_⟩
    · exact fun hshort => if_pos (List.drop_eq_nil_of_le hshort)
    · intro hlong
      refine (if_neg ?_).trans ?_
      · rw [List.drop_eq_nil_iff]; omega
      · rw [State.now_canReceived]
  case segmentIn =>
    intro s x d hbus hnmt hserving hx hwrite
    refine ⟨_, exec_usdoRequest_segmentIn ⟨hbus, hnmt, hserving⟩ hx hwrite d false, ?_⟩
    rw [State.usdoSegIn, State.now_canReceived]
    rfl
  case timeout => exact fun s x hx ht hserving => ⟨_, exec_usdoSessionTimeout_ends hx ht hserving, rfl, rfl, rfl⟩
  case imageless =>
    exact fun v s hbusy hgo hrun => ⟨_, exec_mailboxRequest_imageless hbusy hgo hrun, State.mbxEnd_ends _ 0 (by decide)⟩
  case goes =>
    intro v s hbusy hgo hrun
    obtain ⟨hindex, hsub⟩ := mailboxRequest_fields s v
    refine ⟨_, exec_mailboxRequest_goes hbusy hgo hrun, State.is_set_one _ _ rfl, ?_, hindex, hsub, rfl⟩
    rw [State.is, State.get_set_ne _ _ _ _ (by decide)]
    exact State.is_set_one _ _ rfl
  case complete =>
    intro s d hbusy hserving hsession hop hread hstring hlen hpos hd
    refine ⟨_, exec_mailboxComplete_read hbusy hserving hsession hop hread hstring hlen hpos hd, ?_,
      State.mbxEnd_ends _ _ (by decide)⟩
    rw [State.mbxData_mbxEnd, State.mbxData_mbxPut _ _ hd, State.mbxAfter]
    exact List.take_left' rfl

end Sys2Proof.Machine

namespace Sys2Proof.Machine

/-! ## Statements of chapter 15: the sequencer's firmware (R493 to R497, R499, R525) -/

/-! ### Staging and the check (R493, R494) -/

/-- A check ends with OK, BAD_FIELD or VERSION (R494). -/
theorem State.imgStatus_lt (s : State) (at_ : Nat × Nat) (image : List Byte) : s.imgStatus at_ image < 2 ^ 8 := by
  unfold State.imgStatus
  split
  · decide
  · split <;> decide

/-- A check's status is stored and its interrupt raised (R494, R525). -/
def State.fwChecked (s : State) (image : List Byte) : State :=
  ((s.set GL_FW_CTL.stage 0).set GL_FW_STAT.status (s.imgStatus s.mgmt.fwChk image)).irq 24

/-- The state with a sound image staged: its version and range (R494). -/
def State.fwStaged (s : State) (image : List Byte) : State :=
  let t := ((s.fwChecked image).set GL_FW_STAT.state 3).set GL_FW_VER.staged (leAt image 4 4)
  let t := (t.set GL_FW_LVL.stg_lo (leAt image 8 1)).set GL_FW_LVL.stg_hi (leAt image 9 1)
  t.setMgmt { s.mgmt with fwStg := some s.mgmt.fwChk }

section
variable {s : State}

/-- A check ends only where one was begun (R494). -/
theorem exec_firmwareCheckDone_ok {image : List Byte} (h : s.get GL_FW_STAT.state = 2)
    (hok : s.imgStatus s.mgmt.fwChk image = stOK) :
    exec (.firmwareCheckDone image) s = .next (s.fwStaged image) :=
  (if_neg (not_not_intro h)).trans (if_neg (not_not_intro hok))

/-- A failed check brings the state before it back (R494). -/
theorem exec_firmwareCheckDone_failed {image : List Byte} (h : s.get GL_FW_STAT.state = 2)
    (hbad : s.imgStatus s.mgmt.fwChk image ≠ stOK) :
    exec (.firmwareCheckDone image) s = .next ((s.fwChecked image).set GL_FW_STAT.state s.mgmt.fwPrev) :=
  (if_neg (not_not_intro h)).trans (if_pos hbad)

/-- A staged image has its state, version and range, and the check's interrupt is raised (R494, R525). -/
theorem State.get_fwStaged (s : State) (image : List Byte) : (s.fwStaged image).get GL_FW_STAT.state = 3
    ∧ (s.fwStaged image).get GL_FW_VER.staged = leAt image 4 4 ∧ (s.fwStaged image).get GL_FW_LVL.stg_lo = leAt image 8 1
    ∧ (s.fwStaged image).get GL_FW_LVL.stg_hi = leAt image 9 1
    ∧ nbits ((s.fwStaged image).get GL_IRQ_STAT.cause) 24 1 = 1 := by
  have hversion : leAt image 4 4 % 2 ^ GL_FW_VER.staged.w = leAt image 4 4 := Nat.mod_eq_of_lt (leAt_lt image 4 4)
  have hlo : leAt image 8 1 % 2 ^ GL_FW_LVL.stg_lo.w = leAt image 8 1 := Nat.mod_eq_of_lt (leAt_lt image 8 1)
  have hhi : leAt image 9 1 % 2 ^ GL_FW_LVL.stg_hi.w = leAt image 9 1 := Nat.mod_eq_of_lt (leAt_lt image 9 1)
  refine ⟨?_, ?_, ?_, ?_, nbits_one_of_testBit ?_⟩
  all_goals simp (disch := decide) only [State.fwStaged, State.get_setMgmt, State.get_set_ne, State.get_set_same, hversion,
    hlo, hhi]
  · rfl
  · exact State.testBit_irq _ (by omega)

/-! ### Activation (R495, R496) -/

/-- Nothing staged any more changes of the registers what was staged alone (R495). -/
theorem State.get_fwUnstage (s : State) (l : Loc) (hv : l.key ≠ GL_FW_VER.staged.key) (hlo : l.key ≠ GL_FW_LVL.stg_lo.key)
    (hhi : l.key ≠ GL_FW_LVL.stg_hi.key) : s.fwUnstage.get l = s.get l := by
  rw [State.fwUnstage, State.get_setMgmt, State.get_set_ne _ _ _ _ hhi, State.get_set_ne _ _ _ _ hlo,
    State.get_set_ne _ _ _ _ hv]

/-- A released activation changes of the registers its request alone (R495). -/
theorem State.get_fwRelease (s : State) (l : Loc) (h : l.key ≠ GL_FW_CTL.activate.key) : s.fwRelease.get l = s.get l := by
  rw [State.fwRelease, State.get_setMgmt, State.get_set_ne _ _ _ _ h]

/-- RUNNING while an image runs, else NONE (GL_FW_STAT). -/
theorem State.fwRest_eq (s : State) : s.fwRest % 2 ^ GL_FW_STAT.state.w = if s.fwRuns then 1 else 0 := by
  unfold State.fwRest
  split <;> rfl

/-- An emergency message leaves the firmware's part of management's hidden state (R480). -/
theorem State.mgmt_emcy (s : State) (code : Nat) (payload : List Byte) :
    (s.emcy code payload).mgmt.holdStep = s.mgmt.holdStep ∧ (s.emcy code payload).mgmt.fwImg = s.mgmt.fwImg := by
  unfold State.emcy State.emcyFrame
  split
  · dsimp only
    rw [State.setMgmt_mgmt, State.mgmt_canSend0]
    exact ⟨rfl, rfl⟩
  · exact ⟨rfl, rfl⟩

/-- The point at which an activation may happen (R495). -/
theorem State.fwPoint_open {s : State} (h4 : s.get GL_FW_STAT.state = 4) (hdown : s.rec_.seqDown = false)
    (hcoll : s.rec_.coll = none) (hpoint : s.fwRuns = false ∨ s.fwPoint = true) :
    ¬ (s.get GL_FW_STAT.state ≠ 4 ∨ s.rec_.seqDown ∨ s.rec_.coll.isSome ∨ ¬ (¬ s.fwRuns ∨ s.fwPoint)) := by
  simp [h4, hdown, hcoll, hpoint]

/-- The state from which an activation restarts the sequencer (R495). -/
def State.fwActivating (s : State) (a : Nat × Nat) : State :=
  (s.set GL_FW_STAT.state 5).setMgmt { s.mgmt with fwImg := some a, fwFirst := !s.fwRuns }

/-- The state in which a failed recheck has left the running image (R495, R525). -/
def State.fwRefused (s : State) : State :=
  (((s.set GL_FW_STAT.state s.fwRest).set GL_FW_STAT.status stBADFIELD).irq 24).fwUnstage.fwRelease

section
variable {image : List Byte} {a : Nat × Nat}
  (hopen : ¬ (s.get GL_FW_STAT.state ≠ 4 ∨ s.rec_.seqDown ∨ s.rec_.coll.isSome ∨ ¬ (¬ s.fwRuns ∨ s.fwPoint)))
  (ha : s.mgmt.fwStg = some a)
include hopen ha

/-- At its point a sound image restarts the sequencer (R495). -/
theorem exec_firmwareActivation_restarts (hplace : s.imgPlace a image = true) (hsound : imgSound image = true) :
    exec (.firmwareActivation image) s = .next ((s.fwActivating a).seqRestart false).after := by
  refine (if_neg hopen).trans ?_
  dsimp only
  rw [ha]
  exact if_pos ⟨hplace, hsound⟩

/-- At its point an image that no longer reads sound is dropped (R495, R480). -/
theorem exec_firmwareActivation_refused (hbad : ¬ (s.imgPlace a image = true ∧ imgSound image = true)) :
    exec (.firmwareActivation image) s
      = .next (s.fwRefused.emcy 0xFF19 (leBytes 1 0xFF ++ leBytes 1 stBADFIELD)).after := by
  refine (if_neg hopen).trans ?_
  dsimp only
  rw [ha]
  exact if_neg hbad

end

/-- What a failed recheck leaves: the state of the running image, the status and the interrupt (R495, R525). -/
theorem State.get_fwRefused (s : State) : s.fwRefused.get GL_FW_STAT.state = (if s.fwRuns then 1 else 0)
    ∧ s.fwRefused.get GL_FW_STAT.status = stBADFIELD ∧ s.fwRefused.get GL_FW_VER.running = s.get GL_FW_VER.running
    ∧ nbits (s.fwRefused.get GL_IRQ_STAT.cause) 24 1 = 1 := by
  refine ⟨?_, ?_, ?_, nbits_one_of_testBit ?_⟩
  all_goals
    rw [State.fwRefused, State.get_fwRelease _ _ (by decide), State.get_fwUnstage _ _ (by decide) (by decide) (by decide)]
  · rw [State.get_irq_ne _ _ _ (by decide), State.get_set_ne _ _ _ _ (by decide), State.get_set_same, State.fwRest_eq]
  · rw [State.get_irq_ne _ _ _ (by decide), State.get_set_same]
    rfl
  · rw [State.get_irq_ne _ _ _ (by decide), State.get_set_ne _ _ _ _ (by decide), State.get_set_ne _ _ _ _ (by decide)]
  · exact State.testBit_irq _ (by omega)

/-! ### The end of an activation (R495, R499) -/

/-- What leaves the firmware's registers from GL_FW_STAT to GL_FW_LVL, and whether STEP_ENDs are held. -/
structure KeepsFirmware (s t : State) : Prop where
  fields : ∀ l : Loc, 0x210 ≤ l.key / 64 → l.key / 64 < 0x228 → t.get l = s.get l
  hold : t.fwHold = s.fwHold

/-- Nothing done is such a change. -/
theorem KeepsFirmware.refl (s : State) : KeepsFirmware s s := ⟨fun _ _ _ => rfl, rfl⟩

/-- Two such changes are one. -/
theorem KeepsFirmware.trans {s t u : State} (h : KeepsFirmware s t) (k : KeepsFirmware t u) : KeepsFirmware s u :=
  ⟨fun l hlo hhi => (k.fields l hlo hhi).trans (h.fields l hlo hhi), k.hold.trans h.hold⟩

/-- A write of another register is one. -/
theorem KeepsFirmware.set (s : State) (m : Loc) (v : Nat) (h : m.key / 64 < 0x210 ∨ 0x228 ≤ m.key / 64) :
    KeepsFirmware s (s.set m v) :=
  ⟨fun l hlo hhi => State.get_set_ne _ _ _ _ (by rintro e; rw [e] at hlo hhi; omega), rfl⟩

/-- A frame of the management node is one (R472). -/
theorem KeepsFirmware.canSend0 (s : State) (base : Nat) (data : List Byte) : KeepsFirmware s (s.canSend0 base data) := by
  refine ⟨fun l hlo hhi => s.get_canSend0 base data l ?_ ?_, congrArg MgmtS.holdStep (s.mgmt_canSend0 base data)⟩
  · simp only [Loc.key, GL_MG_STAT.tec] at hlo ⊢; omega
  · simp only [Loc.key, GL_MG_STAT.passive] at hlo ⊢; omega

/-- The node joining its bus is one (R477). -/
theorem KeepsFirmware.busJoin (s : State) : KeepsFirmware s s.busJoin :=
  ⟨fun l hlo _ => s.get_busJoin l (by omega), (congrArg MgmtS.holdStep s.mgmt_busJoin :)⟩

/-- A write of a register of the report tables or behind them follows as one. -/
theorem KeepsFirmware.thenSet {s t : State} (h : KeepsFirmware s t) (m : Loc) (v : Nat) (hm : 0x17000 ≤ m.off) :
    KeepsFirmware s (t.set m v) :=
  h.trans (.set t m v (.inr (by simp only [Loc.key]; omega)))

/-- A REPORT merged into the inbound table is one (R368). -/
theorem KeepsFirmware.mergeReport (s : State) (m : Msg) : KeepsFirmware s (s.mergeReport m) := by
  have htable {b k : Nat} (hb : 0x17000 ≤ b) : 0x17000 ≤ b + k := by omega
  unfold State.mergeReport
  dsimp only
  split
  · exact .refl s
  split
  next i _ =>
    exact (((KeepsFirmware.refl s).thenSet (DG_RIN_ID.msgs i) _ (htable (by decide))).thenSet (DG_RIN_CNT.count i) _
      (htable (by decide))).thenSet (DG_RIN_T.first i) _ (htable (by decide))
  split
  next i _ =>
    have hid := (((KeepsFirmware.refl s).thenSet (DG_RIN_ID.subject i) (m.at_ 0 2) (htable (by decide))).thenSet
      (DG_RIN_ID.kind i) (m.at_ 2 1) (htable (by decide))).thenSet (DG_RIN_ID.msgs i) 1 (htable (by decide))
    have hput := ((hid.thenSet (DG_RIN_ID.valid i) 1 (htable (by decide))).thenSet (DG_RIN_CNT.count i) (m.at_ 4 4)
      (htable (by decide))).thenSet (DG_RIN_T.first i) (m.at_ 8 8) (htable (by decide))
    exact (hput.thenSet DG_RIN_STAT.entries _ (by decide)).trans (.set _ GL_IRQ_STAT.cause _ (by decide))
  · exact (KeepsFirmware.refl s).thenSet DG_RIN_STAT.overflow _ (by decide)

/-- Reports merged are one. -/
theorem KeepsFirmware.takeWaiting (s : State) (ws : List Msg) : KeepsFirmware s (s.takeWaiting ws) := by
  unfold State.takeWaiting
  induction ws generalizing s with
  | nil => exact .refl s
  | cons m ws ih =>
    have hdone : KeepsFirmware (s.mergeReport m) ((s.mergeReport m).done m) := ⟨fun _ _ _ => rfl, rfl⟩
    exact ((KeepsFirmware.mergeReport s m).trans hdone).trans (ih _)

/-- A late heartbeat is one. -/
theorem KeepsFirmware.lateHeartbeat (s : State) : KeepsFirmware s s.lateHeartbeat := by
  unfold State.lateHeartbeat
  split
  · exact .trans (t := s.setMgmt { s.mgmt with hbDue := false }) ⟨fun _ _ _ => rfl, rfl⟩ (.canSend0 _ _ _)
  · exact .refl s

/-- The running image's version and range after an activation (R495). -/
def State.fwVersioned (s : State) : State :=
  let s := s.set GL_FW_VER.running (s.get GL_FW_VER.staged)
  (s.set GL_FW_LVL.run_lo (s.get GL_FW_LVL.stg_lo)).set GL_FW_LVL.run_hi (s.get GL_FW_LVL.stg_hi)

/-- With them its level, which the first image after a reset sets (R495, R497). -/
def State.fwInstalled (s : State) : State :=
  if s.mgmt.fwFirst then s.fwVersioned.set GL_FW_LVL.level (s.fwVersioned.get GL_FW_LVL.run_hi) else s.fwVersioned

/-- The state in which an activation has ended, before the node joins its bus (R495). -/
def State.fwEnded (s : State) : State :=
  (((s.fwInstalled.set GL_FW_STAT.state 1).set GL_FW_STAT.status stOK).irq 24).fwUnstage.fwRelease

/-- The end of an activation, and the node's joining where it was off the bus, which the firmware does not see (R477). -/
theorem State.fwBegin_keeps (s : State) : KeepsFirmware s.fwEnded s.fwBegin := by
  have hbegin : s.fwBegin = if s.fwEnded.is GL_MG_CFG.bus_on ∧ s.fwEnded.get GL_MG_STAT.nmt = 0 then s.fwEnded.busJoin
      else s.fwEnded := rfl
  rw [hbegin]
  split
  · exact .busJoin _
  · exact .refl _

/-- The running image is the staged one (R495). -/
theorem State.get_fwVersioned (s : State) :
    s.fwVersioned.get GL_FW_VER.running = s.get GL_FW_VER.staged % 2 ^ GL_FW_VER.running.w
    ∧ s.fwVersioned.get GL_FW_LVL.level = s.get GL_FW_LVL.level ∧ s.fwVersioned.get GL_FW_LVL.run_hi < 2 ^ 8 := by
  refine ⟨?_, ?_, ?_⟩
  all_goals simp (disch := decide) only [State.fwVersioned, State.get_set_ne, State.get_set_same]
  exact Nat.mod_lt _ (by decide)

/-- The first image after a reset sets the level (R495, R497). -/
theorem State.get_fwInstalled (s : State) :
    s.fwInstalled.get GL_FW_VER.running = s.get GL_FW_VER.staged % 2 ^ GL_FW_VER.running.w
    ∧ (s.mgmt.fwFirst = true → s.fwInstalled.get GL_FW_LVL.level = s.fwInstalled.get GL_FW_LVL.run_hi)
    ∧ (s.mgmt.fwFirst = false → s.fwInstalled.get GL_FW_LVL.level = s.get GL_FW_LVL.level) := by
  obtain ⟨hrunning, hlevel, hhi⟩ := s.get_fwVersioned
  unfold State.fwInstalled
  split
  next h =>
    refine ⟨(State.get_set_ne _ _ _ _ (by decide)).trans hrunning, fun _ => ?_, fun hno => absurd h (by simp [hno])⟩
    rw [State.get_set_same, State.get_set_ne _ _ _ _ (by decide)]
    exact Nat.mod_eq_of_lt hhi
  next h => exact ⟨hrunning, fun hyes => absurd hyes h, fun _ => hlevel⟩

/-- An activation that ended runs, with status OK and STEP_ENDs let go (R495). -/
theorem State.get_fwEnded (s : State) : s.fwEnded.get GL_FW_STAT.state = 1 ∧ s.fwEnded.get GL_FW_STAT.status = stOK
    ∧ s.fwEnded.get GL_FW_VER.running = s.fwInstalled.get GL_FW_VER.running
    ∧ s.fwEnded.get GL_FW_LVL.level = s.fwInstalled.get GL_FW_LVL.level
    ∧ s.fwEnded.get GL_FW_LVL.run_hi = s.fwInstalled.get GL_FW_LVL.run_hi := by
  refine ⟨?_, ?_, ?_, ?_, ?_⟩
  all_goals
    rw [State.fwEnded, State.get_fwRelease _ _ (by decide), State.get_fwUnstage _ _ (by decide) (by decide) (by decide),
      State.get_irq_ne _ _ _ (by decide)]
    simp (disch := decide) only [State.get_set_ne, State.get_set_same]
  all_goals rfl

/-- The sequencer restarted in an activation runs the staged image (R495, R499). -/
theorem sequencerRestartDone_activates (image : List Byte) (hdown : s.rec_.seqDown = true)
    (hrestart : s.mgmt.restart = false) (h5 : s.get GL_FW_STAT.state = 5) :
    ∃ t : State, exec (.sequencerRestartDone image) s = .next t.after ∧ KeepsFirmware s.seqUp.fwEnded t := by
  have hseq : s.seqUp.get GL_FW_STAT.state = 5 := (State.get_set_ne _ _ _ _ (by decide)).trans h5
  have hresume : s.seqUp.fwResume image = s.seqUp.fwBegin := if_pos hseq
  have hnone := (((KeepsRestart.fwResume s.seqUp image).trans (.takeWaiting _ s.rec_.waiting)).trans
    (.lateHeartbeat _)).restart.trans hrestart
  refine ⟨_, (exec_sequencerRestartDone_down image s hdown).trans (if_neg (by simp [hnone])), ?_⟩
  rw [hresume]
  exact (s.seqUp.fwBegin_keeps.trans (.takeWaiting _ _)).trans (.lateHeartbeat _)

/-! ### Levels (R497) -/

/-- The state in which a write of GL_FW_LVL has stored its level (R497). -/
def State.levelStaged (s : State) (v : W64) : State := s.set GL_FW_LVL.staged (fget v 8 8)

/-- A stored level is the word's, and nothing else of the firmware's registers changes (R497). -/
theorem State.get_levelStaged (s : State) (v : W64) : (s.levelStaged v).get GL_FW_LVL.staged = fget v 8 8
    ∧ ∀ l : Loc, l.key ≠ GL_FW_LVL.staged.key → (s.levelStaged v).get l = s.get l :=
  ⟨s.get_set_fget GL_FW_LVL.staged v, fun _ h => State.get_set_ne _ _ _ _ h⟩

section
variable {v : W64} (hgo : fget v 63 1 = 1) (hidle : s.is GL_FW_LVL.apply = false)
include hgo hidle

/-- A write that asks for an apply is looked at while none waits (R497). -/
theorem levelApply_goes : ¬ (fget v 63 1 = 0 ∨ (s.levelStaged v).is GL_FW_LVL.apply = true) := by
  have happly : (s.levelStaged v).is GL_FW_LVL.apply = s.is GL_FW_LVL.apply :=
    congrArg (· == 1) ((s.get_levelStaged v).2 GL_FW_LVL.apply (by decide))
  simp [hgo, happly, hidle]

/-- A level in the running image's range waits for its point (R497). -/
theorem levelApply_waits (hrun : s.fwRuns = true) (hlo : s.get GL_FW_LVL.run_lo ≤ fget v 8 8)
    (hhi : fget v 8 8 ≤ s.get GL_FW_LVL.run_hi) :
    ∃ t : State, exec (.levelApply v) s = .next t ∧ t.mgmt.levelPend = some (fget v 8 8) ∧ t.is GL_FW_LVL.apply = true
      ∧ t.get GL_FW_LVL.level = s.get GL_FW_LVL.level := by
  obtain ⟨hstaged, hkept⟩ := s.get_levelStaged v
  have hrange : (s.levelStaged v).fwRuns ∧ (s.levelStaged v).get GL_FW_LVL.run_lo ≤ (s.levelStaged v).get GL_FW_LVL.staged
      ∧ (s.levelStaged v).get GL_FW_LVL.staged ≤ (s.levelStaged v).get GL_FW_LVL.run_hi := by
    rw [hstaged, hkept _ (by decide), hkept _ (by decide)]
    exact ⟨hrun, hlo, hhi⟩
  refine ⟨_, (if_neg (levelApply_goes hgo hidle)).trans (if_pos hrange), congrArg some hstaged,
    State.is_set_one _ GL_FW_LVL.apply rfl, ?_⟩
  rw [State.get_setMgmt, State.get_set_ne _ _ _ _ (by decide)]
  exact hkept _ (by decide)

/-- A level above the running image's range is refused (R497). -/
theorem levelApply_refused (hhi : s.get GL_FW_LVL.run_hi < fget v 8 8) :
    ∃ t : State, exec (.levelApply v) s = .next t ∧ t.get GL_FW_STAT.status = stVERSION ∧ t.mgmt = s.mgmt
      ∧ t.get GL_FW_LVL.level = s.get GL_FW_LVL.level := by
  obtain ⟨hstaged, hkept⟩ := s.get_levelStaged v
  have hrange : ¬ ((s.levelStaged v).fwRuns ∧ (s.levelStaged v).get GL_FW_LVL.run_lo ≤ (s.levelStaged v).get
      GL_FW_LVL.staged ∧ (s.levelStaged v).get GL_FW_LVL.staged ≤ (s.levelStaged v).get GL_FW_LVL.run_hi) := by
    rw [hstaged, hkept GL_FW_LVL.run_hi (by decide)]
    rintro ⟨-, -, hle⟩
    omega
  refine ⟨_, (if_neg (levelApply_goes hgo hidle)).trans (if_neg hrange), State.get_set_same _ _ _, rfl, ?_⟩
  exact (State.get_set_ne _ _ _ _ (by decide)).trans (hkept _ (by decide))

end

/-- At its point a level comes into force (R497, R499). -/
theorem levelApplyEffect_applies {l : Nat} (h : s.mgmt.levelPend = some l) (hpoint : s.fwPoint = true) :
    ∃ t : State, exec .levelApplyEffect s = .next t ∧ t.get GL_FW_LVL.level = l % 2 ^ GL_FW_LVL.level.w
      ∧ t.is GL_FW_LVL.apply = false ∧ t.mgmt.levelPend = none := by
  have hrun : exec .levelApplyEffect s = .next ((((s.set GL_FW_LVL.level l).set GL_FW_LVL.apply 0).set GL_FW_STAT.status
      stOK).setMgmt { s.mgmt with levelPend := none }) := by
    show execLevelApplyEffect s = _
    unfold execLevelApplyEffect
    rw [h]
    exact if_pos hpoint
  refine ⟨_, hrun, ?_, State.is_false_of_get ?_, rfl⟩ <;>
    simp (disch := decide) only [State.get_setMgmt, State.get_set_ne, State.get_set_same, Nat.zero_mod]

/-- Before it the level waits (R497). -/
theorem exec_levelApplyEffect_early {l : Nat} (h : s.mgmt.levelPend = some l) (hpoint : s.fwPoint = false) :
    exec .levelApplyEffect s = .next s := by
  show execLevelApplyEffect s = _
  unfold execLevelApplyEffect
  rw [h]
  exact if_neg (by simp [hpoint])

end

/-- Settles O56: each branch of the firmware's life in its own lemma; what follows an activation's end is seen to keep
what it installed. -/
theorem firmwareIsStagedCheckedAndActivated : Obligations.FirmwareIsStagedCheckedAndActivated := by
  refine ⟨?stage, ?checked, ?failed, ?activate, ?restarts, ?refused, ?early, ?runs, ?cancel,
    fun v s hgo hidle hrun hlo hhi => levelApply_waits hgo hidle hrun hlo hhi,
    fun v s hgo hidle _ hhi => levelApply_refused hgo hidle hhi,
    fun s l h hpoint => levelApplyEffect_applies h hpoint, fun s l h hpoint => exec_levelApplyEffect_early h hpoint⟩
  case stage =>
    intro s h2 h4
    refine ⟨_, if_neg (by omega), ?_, ?_, rfl, ?_⟩
    · rw [State.get_setMgmt, State.get_set_ne _ _ _ _ (by decide), State.get_set_same]
      rfl
    · rw [State.get_setMgmt, State.get_set_same]
      rfl
    · simp (disch := decide) only [State.setMgmt_mgmt, State.get_set_ne]
  case checked =>
    intro image s h2 hok
    obtain ⟨hstate, hversion, hlo, hhi, hirq⟩ := s.get_fwStaged image
    exact ⟨_, exec_firmwareCheckDone_ok h2 hok, hstate, hversion, hlo, hhi, rfl, hirq⟩
  case failed =>
    intro image s h2 hbad
    refine ⟨_, exec_firmwareCheckDone_failed h2 hbad, State.get_set_same _ _ _, ?_, rfl⟩
    rw [State.get_set_ne _ _ _ _ (by decide), State.fwChecked, State.get_irq_ne _ _ _ (by decide), State.get_set_same]
    exact Nat.mod_eq_of_lt (s.imgStatus_lt _ _)
  case activate =>
    intro s h3
    have hrun : s.fwActivate = ((s.set GL_FW_STAT.state 4).set GL_FW_CTL.activate 1).setMgmt
        { s.mgmt with holdStep := true } := if_pos h3
    refine ⟨_, congrArg Host.Outcome.next hrun, ?_, rfl⟩
    rw [State.get_setMgmt, State.get_set_ne _ _ _ _ (by decide), State.get_set_same]
    rfl
  case restarts =>
    intro image s a h4 hdown hcoll hpoint ha hplace hsound
    have hopen := State.fwPoint_open h4 hdown hcoll hpoint
    exact ⟨_, exec_firmwareActivation_restarts hopen ha hplace hsound,
      State.get_set_same s GL_FW_STAT.state 5, rfl, rfl, rfl⟩
  case refused =>
    intro image s a h4 hdown hcoll hpoint ha hbad
    have hopen := State.fwPoint_open h4 hdown hcoll hpoint
    obtain ⟨hstate, hstatus, hrunning, hirq⟩ := s.get_fwRefused
    obtain ⟨hhold, himg⟩ := s.fwRefused.mgmt_emcy 0xFF19 (leBytes 1 0xFF ++ leBytes 1 stBADFIELD)
    refine ⟨_, exec_firmwareActivation_refused hopen ha hbad, ?_, ?_, hhold, himg, ?_, ?_⟩
    all_goals rw [State.get_emcy _ _ _ _ (by decide)]
    exacts [hstate, hstatus, hrunning, hirq]
  case early => exact fun s _ hrun hpoint image => if_pos (by simp [hrun, hpoint])
  case runs =>
    intro image s hdown hrestart h5
    obtain ⟨t, hrun, hfields, hhold⟩ := sequencerRestartDone_activates image hdown hrestart h5
    obtain ⟨hstate, hstatus, hrunning, hlevel, hhi⟩ := s.seqUp.get_fwEnded
    obtain ⟨hversion, hfirst, hlater⟩ := s.seqUp.get_fwInstalled
    have hup (l : Loc) (hl : l.key ≠ DG_RST_CTL.seq.key) : s.seqUp.get l = s.get l := State.get_set_ne _ _ _ _ hl
    rw [hup _ (by decide)] at hversion hlater
    refine ⟨t, hrun, (hfields _ (by decide) (by decide)).trans hstate, (hfields _ (by decide) (by decide)).trans hstatus,
      hhold, ?_, fun hf => ?_, fun hf => ?_⟩ <;> rw [hfields _ (by decide) (by decide)]
    · exact hrunning.trans hversion
    · rw [hfields _ (by decide) (by decide), hlevel, hhi]
      exact hfirst hf
    · exact hlevel.trans (hlater hf)
  case cancel =>
    intro s hstate
    refine ⟨_, if_pos hstate, ?_, rfl, rfl, rfl⟩
    rw [State.get_fwRelease _ _ (by decide), State.get_fwUnstage _ _ (by decide) (by decide) (by decide),
      State.get_set_same, State.fwRest_eq]

end Sys2Proof.Machine

namespace Sys2Proof.Machine

/-! ## Statements over every step: the register table's one form, and what a seal keeps -/

/-- A table is in order when its keys rise along the list. -/
theorem Tbl.rising_iff_pairwise {α : Type} (t : Tbl α) : Tbl.rising t = true ↔ t.Pairwise fun p q => p.1 < q.1 := by
  rw [← List.isChain_iff_pairwise]
  induction t with
  | nil => simp [Tbl.rising]
  | cons p t ih =>
    cases t with
    | nil => simp [Tbl.rising]
    | cons q t => rw [List.isChain_cons_cons, ← ih]; simp [Tbl.rising]

/-- What is left of a table in order is in order. -/
theorem Tbl.rising_filter {α : Type} (f : Nat × α → Bool) (t : Tbl α) (h : t.rising = true) :
    Tbl.rising (t.filter f) = true :=
  (Tbl.rising_iff_pairwise _).2 (((Tbl.rising_iff_pairwise t).1 h).filter f)

/-- What a step leaves of a sealed meter (R444, R453, R457, R460): the seal, its dates, the calibration banks and the
node-id stand, and no fuse row's value falls. -/
def MeterS.keepsSeal (m n : MeterS) : Prop :=
  m.sealed = true → n.sealed = true ∧ n.sealId = m.sealId ∧ n.sealDate = m.sealDate ∧ n.banks = m.banks
    ∧ n.node = m.node ∧ m.odo.value ≤ n.odo.value ∧ m.seg.value ≤ n.seg.value

/-- What every operation keeps of a state `b` that it began with: a register table in order stays in order, and the
meter keeps its seal. One lemma below for each operation, in the order of the model: a chain of operations is kept by
the chain of their lemmas, a branch by `Kept.ite` or a case split, a fold by `Kept.foldl`. -/
structure Kept (b s : State) : Prop where
  regs : regsSorted b = true → regsSorted s = true
  meter : b.meter.keepsSeal s.meter

/-- What an outcome keeps: its next state, where it has one. -/
def KeptBy (b : State) (r : Res) : Prop := ∀ t, r = .next t → Kept b t

/-- Nothing done keeps the seal. -/
theorem MeterS.keepsSeal_refl (m : MeterS) : m.keepsSeal m := fun h => ⟨h, rfl, rfl, rfl, rfl, le_rfl, le_rfl⟩

/-- What keeps the seal may follow what keeps it. -/
theorem MeterS.keepsSeal.trans {m n o : MeterS} (h : m.keepsSeal n) (h' : n.keepsSeal o) : m.keepsSeal o := by
  intro hs
  obtain ⟨hn, hid, hdate, hbanks, hnode, hodo, hseg⟩ := h hs
  obtain ⟨ho, hid', hdate', hbanks', hnode', hodo', hseg'⟩ := h' hn
  exact ⟨ho, hid'.trans hid, hdate'.trans hdate, hbanks'.trans hbanks, hnode'.trans hnode, hodo.trans hodo',
    hseg.trans hseg'⟩

section
variable {b s t : State}

/-- Nothing done keeps everything. -/
theorem Kept.refl : Kept s s := ⟨id, s.meter.keepsSeal_refl⟩

/-- A change of neither a register nor the meter. -/
theorem Kept.upd (h : Kept b s) (hr : t.regs = s.regs) (hm : t.meter = s.meter) : Kept b t :=
  ⟨fun hb => by rw [regsSorted, hr]; exact h.regs hb, hm ▸ h.meter⟩

/-- A register field written. -/
theorem Kept.set {l : Loc} {v : Nat} (h : Kept b s) : Kept b (s.set l v) :=
  ⟨fun hb => Tbl.rising_put _ _ _ _ (h.regs hb), h.meter⟩

/-- One of two. -/
theorem Kept.ite {p : Prop} {_ : Decidable p} (h : Kept b s) (h' : Kept b t) : Kept b (if p then s else t) := by
  split
  · exact h
  · exact h'

/-- What is done under a condition only. -/
theorem Kept.when {p : Prop} {_ : Decidable p} (h : Kept b s) (h' : Kept b s → Kept b t) :
    Kept b (if p then t else s) := .ite (h' h) h

/-- What is done unless a condition holds. -/
theorem Kept.unless {p : Prop} {_ : Decidable p} (h : Kept b s) (h' : Kept b s → Kept b t) :
    Kept b (if p then s else t) := .ite h (h' h)

/-- One of two, each with a further result. -/
theorem Kept.iteFst {α : Type} {x y : State × α} {p : Prop} {_ : Decidable p} (h : Kept b x.1) (h' : Kept b y.1) :
    Kept b (if p then x else y).1 := by
  split
  · exact h
  · exact h'

/-- One of two, each after a further result. -/
theorem Kept.iteSnd {α : Type} {x y : α × State} {p : Prop} {_ : Decidable p} (h : Kept b x.2) (h' : Kept b y.2) :
    Kept b (if p then x else y).2 := by
  split
  · exact h
  · exact h'

/-- The state of a result taken apart. -/
theorem Kept.ofFst {α : Type} {p : State × α} {x : α} (e : p = (t, x)) (h : Kept b p.1) : Kept b t := by
  rw [e] at h; exact h

theorem KeptBy.next (h : Kept b s) : KeptBy b (.next s) := fun _ e => Host.Outcome.next.inj e ▸ h

theorem KeptBy.fault {r : Fault} : KeptBy b (.fault r) := fun _ e => nomatch e

theorem KeptBy.ite {x y : Res} {p : Prop} {_ : Decidable p} (h : KeptBy b x) (h' : KeptBy b y) :
    KeptBy b (if p then x else y) := by
  split
  · exact h
  · exact h'

/-- A fold each of whose steps keeps it. -/
theorem Kept.foldl {α : Type} {f : State → α → State} {l : List α} (hf : ∀ t a, Kept b t → Kept b (f t a))
    (h : Kept b s) : Kept b (l.foldl f s) := by
  induction l generalizing s with
  | nil => exact h
  | cons a l ih => exact ih (hf s a h)

/-- A fold with a further result each of whose steps keeps it. -/
theorem Kept.foldlFst {α β : Type} {f : State × β → α → State × β} {l : List α} {x : State × β}
    (hf : ∀ y a, Kept b y.1 → Kept b (f y a).1) (h : Kept b x.1) : Kept b (l.foldl f x).1 := by
  induction l generalizing x with
  | nil => exact h
  | cons a l ih => exact ih (hf x a h)

/-! ### The named operations -/

theorem Kept.setB {l : Loc} {b' : Bool} (h : Kept b s) : Kept b (s.setB l b') := .set h
theorem Kept.satInc {l : Loc} {n : Nat} (h : Kept b s) : Kept b (s.satInc l n) := .set h
theorem Kept.wrapInc {l : Loc} {n : Nat} (h : Kept b s) : Kept b (s.wrapInc l n) := .set h
theorem Kept.dec {l : Loc} {n : Nat} (h : Kept b s) : Kept b (s.dec l n) := .set h
theorem Kept.emit {o : Out} (h : Kept b s) : Kept b (s.emit o) := .upd h rfl rfl
theorem Kept.irq {v : Nat} (h : Kept b s) : Kept b (s.irq v) := .set h
theorem Kept.fresh {n : Nat} (h : Kept b s) : Kept b (s.fresh n).1 := ⟨h.regs, h.meter⟩
theorem Kept.setCx {c : Nat} {x : CtxS} (h : Kept b s) : Kept b (s.setCx c x) := .upd h rfl rfl
theorem Kept.setTk {c : Nat} {x : TickS} (h : Kept b s) : Kept b (s.setTk c x) := .upd h rfl rfl
theorem Kept.setCm {c : Nat} {x : CmS} (h : Kept b s) : Kept b (s.setCm c x) := .upd h rfl rfl
theorem Kept.setTm {c : Nat} {x : TeamS} (h : Kept b s) : Kept b (s.setTm c x) := .upd h rfl rfl
theorem Kept.setStb {n : Nat} {x : StbS} (h : Kept b s) : Kept b (s.setStb n x) := .upd h rfl rfl
theorem Kept.setFab {x : FabS} (h : Kept b s) : Kept b (s.setFab x) := .upd h rfl rfl
theorem Kept.setMem {x : MemS} (h : Kept b s) : Kept b (s.setMem x) := .upd h rfl rfl
theorem Kept.setRec {x : RecS} (h : Kept b s) : Kept b (s.setRec x) := .upd h rfl rfl
theorem Kept.setInteg {x : IntS} (h : Kept b s) : Kept b (s.setInteg x) := .upd h rfl rfl
theorem Kept.setMgmt {x : MgmtS} (h : Kept b s) : Kept b (s.setMgmt x) := .upd h rfl rfl
theorem Kept.setYoke {x : YokeS} (h : Kept b s) : Kept b (s.setYoke x) := .upd h rfl rfl

theorem Kept.setMeter {m : MeterS} (hm : s.meter.keepsSeal m) (h : Kept b s) : Kept b (s.setMeter m) :=
  ⟨h.regs, h.meter.trans hm⟩

theorem Kept.countPort {steps bytes : Nat} (h : Kept b s) : Kept b (s.countPort steps bytes) :=
  .ite (.setMeter (fun hs => s.meter.keepsSeal_refl hs) h) h

theorem Kept.setEnt {k : Nat} {x : Entry} (h : Kept b s) : Kept b (s.setEnt k x) := .upd h rfl rfl
theorem Kept.setJob {j : Job} (h : Kept b s) : Kept b (s.setJob j) := .upd h rfl rfl
theorem Kept.delJob {id : Nat} (h : Kept b s) : Kept b (s.delJob id) := .upd h rfl rfl
theorem Kept.addJob {j : Job} (h : Kept b s) : Kept b (s.addJob j) := .upd h rfl rfl

/-! ### Emergencies -/

theorem Kept.syncPassive (h : Kept b s) : Kept b s.syncPassive := .setB h

theorem Kept.canSend0 {base : Nat} {data : List Byte} (h : Kept b s) : Kept b (s.canSend0 base data) :=
  .ite (.syncPassive (.dec (.emit h))) h

theorem Kept.canReceived (h : Kept b s) : Kept b s.canReceived := by
  unfold State.canReceived
  with_reducible exact .ite (.dec h) (.syncPassive (.set (.fresh h)))

theorem Kept.emcyFrame {code : Nat} {payload : List Byte} (h : Kept b s) : Kept b (s.emcyFrame code payload) := by
  unfold State.emcyFrame
  with_reducible exact .ite (.setMgmt (.canSend0 h)) h

theorem Kept.emcy {code : Nat} {payload : List Byte} (h : Kept b s) : Kept b (s.emcy code payload) :=
  .emcyFrame (.setMgmt h)

theorem Kept.emcyEnd (h : Kept b s) : Kept b s.emcyEnd := .ite (.emcyFrame (.setMgmt h)) h

/-! ### Messages sent -/

theorem Kept.send {m : Msg} (h : Kept b s) : Kept b (s.send m) := .setFab h
theorem Kept.done {m : Msg} (h : Kept b s) : Kept b (s.done m) := .emit h

theorem Kept.drop {m : Msg} {status : Nat} (h : Kept b s) : Kept b (s.drop m status) := by
  unfold State.drop
  with_reducible exact .ite (.send (.ite (.satInc h) (.ite (.satInc h) (.ite (.satInc h) h)))) (.send (.ite
    (.satInc h) (.ite (.satInc h) (.ite (.satInc h) h))))

theorem Kept.reportTo {subject kind count first : Nat} (h : Kept b s) :
    Kept b (s.reportTo subject kind count first) :=
  .foldl (fun _ _ h => .satInc (.send h)) h

theorem Kept.setReps {l : List RepEnt} (h : Kept b s) : Kept b (s.setReps l) := .set (.setRec h)

theorem Kept.closeRep {e : RepEnt} (h : Kept b s) : Kept b (s.closeRep e) := by
  unfold State.closeRep
  with_reducible exact .unless (.setReps h) .reportTo

theorem Kept.observe {subject kind : Nat} (h : Kept b s) : Kept b (s.observe subject kind) := by
  unfold State.observe
  split
  · with_reducible exact .satInc (.setReps h)
  · with_reducible refine .reportTo (.setReps (.ite h ?_))
    split
    · with_reducible exact .satInc (.closeRep h)
    · exact h

theorem Kept.suspect {device : Nat} (h : Kept b s) : Kept b (s.suspect device) := .satInc (.observe h)

/-! ### Regions -/

theorem Kept.rtu {n : Nat} (h : Kept b s) : Kept b (s.rtu n) := by
  unfold State.rtu
  with_reducible exact .emit h

theorem Kept.setPoison {l : List PoisonEnt} (h : Kept b s) : Kept b (s.setPoison l) := .set (.setInteg h)
theorem Kept.releaseRgnPoison {r : Nat} (h : Kept b s) : Kept b (s.releaseRgnPoison r) := .setPoison h

theorem Kept.freeRgn {n : Nat} (h : Kept b s) : Kept b (s.freeRgn n) := by
  unfold State.freeRgn
  with_reducible exact .rtu (.set (.set (.set (.releaseRgnPoison h))))

theorem Kept.hold {n : Nat} (h : Kept b s) : Kept b (s.hold n) := .wrapInc h

theorem Kept.unhold {n : Nat} (h : Kept b s) : Kept b (s.unhold n) := by
  unfold State.unhold
  with_reducible exact .when (.dec h) .freeRgn

theorem Kept.lose {n : Nat} (h : Kept b s) : Kept b (s.lose n) := .irq (.set h)

/-! ### Memory and deltas -/

theorem Kept.setChan {n j v : Nat} (h : Kept b s) : Kept b (s.setChan n j v) := by
  unfold State.setChan
  with_reducible exact .ite h (.irq (.set h))

theorem Kept.charge {c : Nat} (h : Kept b s) : Kept b (s.charge c) := .ite (.dec (.setTk h)) h
theorem Kept.chargeFor {cls c : Nat} (h : Kept b s) : Kept b (s.chargeFor cls c) := .ite (.charge h) h

theorem Kept.issueRead {j : Job} {p : Span} {key : Nat} (h : Kept b s) : Kept b (s.issueRead j p key) := by
  unfold State.issueRead
  with_reducible exact .emit (.setMem (.chargeFor h))

theorem Kept.issueWrite {jid cls x gr r k : Nat} {bytes : List (Option Byte)} (h : Kept b s) :
    Kept b (s.issueWrite jid cls x gr r k bytes) := by
  unfold State.issueWrite
  with_reducible exact .emit (.setMem h)

theorem Kept.listMend {x j r row : Nat} (h : Kept b s) : Kept b (s.listMend x j r row) := by
  unfold State.listMend
  with_reducible exact .ite h (.ite (.set (.setMem h)) (.set (.setMem h)))

theorem Kept.putMask {j : Job} {p : Span} {x gr : Nat} {mask : List (Option Byte)} (h : Kept b s) :
    Kept b (s.putMask j p x gr mask).1 :=
  .issueWrite (.chargeFor h)

theorem Kept.putSub {j : Job} {p : Span} {u : Sub} {bs : List Byte} (h : Kept b s) : Kept b (s.putSub j p u bs).1 :=
  .putMask h

theorem Kept.writeSub {j : Job} {p : Span} {u : Sub} {bs : List Byte} (h : Kept b s) :
    Kept b (s.writeSub j p u bs).1 := by
  unfold State.writeSub
  dsimp only
  split
  · with_reducible exact .ite (.listMend h) h
  · exact h
  · with_reducible exact .iteFst h (.putSub h)
  · with_reducible exact .putSub h

theorem Kept.writeSubs {j : Job} {p : Span} {us : List Sub} {bs : List Byte} (h : Kept b s) :
    Kept b (writeSubs s j p us bs).1 := by
  induction us generalizing s j bs with
  | nil => exact h
  | cons u us ih => exact ih (.writeSub h)

theorem Kept.writeAt {j : Job} {p : Span} {row x addr : Nat} {bs : List Byte} (h : Kept b s) :
    Kept b (s.writeAt j p row x addr bs).1 :=
  .writeSubs h

theorem Kept.writeFullRow {j : Job} {p : Span} {row : Nat} {ps : List (Piece × List Byte)} (h : Kept b s) :
    Kept b (s.writeFullRow j p row ps).1 := by
  unfold State.writeFullRow
  with_reducible exact .writeAt (.writeAt (.foldlFst (fun _ _ => .writeAt) h))

theorem Kept.writePartRow {j : Job} {p : Span} {row : Nat} {ps : List (Piece × List Byte)} (h : Kept b s) :
    Kept b (s.writePartRow j p row ps).1 := by
  unfold State.writePartRow
  with_reducible exact .foldlFst (fun _ _ => .writeSubs) (.foldlFst (fun _ _ => .writeSubs)
    (.foldlFst (fun _ _ => .writeSubs) h))

theorem Kept.noteWrite {p : Span} {track : Option Writer} (h : Kept b s) : Kept b (s.noteWrite p track) := by
  unfold State.noteWrite
  with_reducible refine .ite ?_ h
  split
  · with_reducible exact .setCm (.set h)
  · with_reducible exact .set h

theorem Kept.setWin {i : Nat} {w : WinS} (h : Kept b s) : Kept b (s.setWin i w) := .setInteg h

theorem Kept.seeWrite {p : Span} {bytes : List Byte} (h : Kept b s) : Kept b (s.seeWrite p bytes) := by
  unfold State.seeWrite
  with_reducible exact .ite h (.foldl (fun _ _ h => .ite (.setWin h) h) h)

theorem Kept.markDegraded {r : Nat} (h : Kept b s) : Kept b (s.markDegraded r) := .set h

theorem Kept.sendDelta {j : Job} {image f : Nat} {payload : List Byte} (h : Kept b s) :
    Kept b (s.sendDelta j image f payload) := by
  unfold State.sendDelta
  with_reducible exact .foldl (fun _ _ h => .wrapInc (.setFab (.send (.chargeFor h)))) h

theorem Kept.flushDelta {j : Job} {f : Nat} {d : List Byte} (h : Kept b s) : Kept b (s.flushDelta j f d).1 := by
  unfold State.flushDelta
  with_reducible exact .iteFst (.wrapInc h) (.iteFst (.sendDelta h) (.iteFst h (.iteFst (.sendDelta h) h)))

theorem Kept.layDelta {j : Job} {n pos : Nat} {d bs : List Byte} (h : Kept b s) :
    Kept b (layDelta s j n pos d bs).1 := by
  induction n generalizing s j pos d bs with
  | zero => exact h
  | succ n ih =>
    unfold Machine.layDelta
    with_reducible exact .iteFst h (ih (.iteFst (.flushDelta h) h))

theorem Kept.formDelta {j : Job} {p : Span} {old bytes : List Byte} (h : Kept b s) :
    Kept b (s.formDelta j p old bytes).1 :=
  .layDelta h

theorem Kept.writeSpan {j : Job} {p : Span} {bytes : List Byte} {w : WriteKind} (h : Kept b s) :
    Kept b (s.writeSpan j p bytes w).1 := by
  unfold State.writeSpan
  with_reducible exact .when (.noteWrite (.iteFst (.formDelta (.iteFst (.foldlFst (fun _ _ h =>
    .iteFst (.writeFullRow h) (.writePartRow h)) h) (.foldlFst (fun _ _ => .writeSubs) h))) (.iteFst (.foldlFst
    (fun _ _ h => .iteFst (.writeFullRow h) (.writePartRow h)) h) (.foldlFst (fun _ _ => .writeSubs) h)))) .seeWrite

/-! ### Queues, completions and holds -/

theorem Kept.stampHead {c q : Nat} (h : Kept b s) : Kept b (s.stampHead c q) := .upd h rfl rfl

theorem Kept.advance {c q : Nat} (h : Kept b s) : Kept b (s.advance c q) := by
  unfold State.advance
  with_reducible exact .stampHead (.set h)

theorem Kept.signal {c sig status : Nat} (h : Kept b s) : Kept b (s.signal c sig status) := by
  unfold State.signal
  with_reducible exact .ite h (.ite (.wrapInc h) (.set h))

theorem Kept.post {c k status flags value : Nat} (h : Kept b s) : Kept b (s.post c k status flags value) := by
  unfold State.post
  with_reducible exact .when (.signal (.when (.setEnt h) .satInc)) .irq

theorem Kept.refuse {j : Job} {status : Nat} (h : Kept b s) : Kept b (s.refuse j status) := .advance (.post h)

theorem Kept.startOr {j : Job} {checks : List (Bool × Nat)} {go : State} (hg : Kept b go) (h : Kept b s) :
    Kept b (s.startOr j checks go) := by
  unfold State.startOr
  split
  · exact .refuse h
  · exact hg

theorem Kept.showDebt {c : Nat} {ds : List DebtEnt} (h : Kept b s) : Kept b (s.showDebt c ds) := by
  unfold State.showDebt
  with_reducible exact .set (.set h)

theorem Kept.tickDone {j : Job} (h : Kept b s) : Kept b (s.tickDone j) := by
  unfold State.tickDone
  split
  · exact h
  · with_reducible exact .ite h (.showDebt (.set (.setTk h)))

theorem Kept.instant {j : Job} {value : Nat} (h : Kept b s) : Kept b (s.instant j value) :=
  .advance (.tickDone (.post h))

theorem Kept.holdSlot {n : Nat} (h : Kept b s) : Kept b (s.holdSlot n) := .wrapInc h

theorem Kept.launch {j : Job} (h : Kept b s) : Kept b (s.launch j) := by
  unfold State.launch
  with_reducible exact .advance (.addJob (.foldl (fun _ _ => .holdSlot) (.foldl (fun _ _ => .hold) (.wrapInc
    (.setEnt h)))))

theorem Kept.emptySlot {n : Nat} {err : Bool} (h : Kept b s) : Kept b (s.emptySlot n err) := by
  unfold State.emptySlot
  with_reducible exact .when (.setStb (.set (.set (.set (.set (.set h)))))) .set

theorem Kept.unholdSlot {n : Nat} (h : Kept b s) : Kept b (s.unholdSlot n) := by
  unfold State.unholdSlot
  with_reducible exact .when (.dec h) (fun h => .foldl (fun _ _ => .freeRgn) (.emptySlot h))

theorem Kept.failInterval {c reason : Nat} (h : Kept b s) : Kept b (s.failInterval c reason) :=
  .ite h (.ite h (.setCm (.set h)))

theorem Kept.uncover {j : Job} (h : Kept b s) : Kept b (s.uncover j) := by
  unfold State.uncover
  with_reducible exact .ite h (.ite (.setCm h) (.ite (.setCm h) h))

theorem Kept.gsSend {j : Job} {typ tr rank tile : Nat} {rest : List Byte} (h : Kept b s) :
    Kept b (s.gsSend j typ tr rank tile rest) := by
  unfold State.gsSend
  with_reducible exact .send (.chargeFor h)

theorem Kept.gsAck {j : Job} {m : Msg} {tr rank tile : Nat} (h : Kept b s) : Kept b (s.gsAck j m tr rank tile) := by
  unfold State.gsAck
  with_reducible exact .send (.chargeFor h)

theorem Kept.syncSlots {c : Nat} (h : Kept b s) : Kept b (s.syncSlots c) := by
  unfold State.syncSlots
  with_reducible exact .set (.set h)

theorem Kept.countLate {t0 : Option Nat} (h : Kept b s) : Kept b (s.countLate t0) := by
  unfold State.countLate
  split
  · with_reducible exact .satInc (.upd h rfl rfl)
  · exact h

theorem Kept.gsEnded {j : Job} {status : Nat} (h : Kept b s) : Kept b (s.gsEnded j status) := by
  unfold State.gsEnded
  with_reducible exact .ite h (.unless (.syncSlots (.countLate (.foldl (fun _ _ => .done) (.dec h))))
    (fun h => .foldl (fun _ _ h1 => .foldl (fun _ _ => .gsSend) h1) h))

theorem Kept.complete {j : Job} {status value flags : Nat} (h : Kept b s) :
    Kept b (s.complete j status value flags) := by
  unfold State.complete
  with_reducible refine (.when (.when (.when (.when (.when (.gsEnded (.uncover (.when (.tickDone (.when (.foldl
    (fun _ _ => .unholdSlot) (.foldl (fun _ _ => .unhold) (.dec (.post
    (.delJob h))))) .dec)) .failInterval))) .satInc) ?_) .observe) .set) .emptySlot)
  intro h
  split
  · with_reducible exact .observe h
  · exact h

theorem Kept.endCmd {j : Job} {status : Nat} (h : Kept b s) : Kept b (s.endCmd j status) :=
  .ite (.complete h) (.setJob h)

theorem Kept.finishCmd {j : Job} (h : Kept b s) : Kept b (s.finishCmd j) := .complete h
theorem Kept.enterHeld {c : Nat} (h : Kept b s) : Kept b (s.enterHeld c) := .setCx (.set h)

theorem Kept.leaveHeld {c : Nat} (h : Kept b s) : Kept b (s.leaveHeld c) := by
  unfold State.leaveHeld
  with_reducible exact .setCx (.set h)

theorem Kept.syncBlocked {c q : Nat} (h : Kept b s) : Kept b (s.syncBlocked c q) := by
  unfold State.syncBlocked
  with_reducible exact .setB h

/-! ### Digest windows -/

theorem Kept.captureWin {c w : Nat} (h : Kept b s) : Kept b (s.captureWin c w) := by
  unfold State.captureWin
  with_reducible exact .ite h (.ite (.setWin (.foldl (fun _ _ => .set) (.set (.set (.set h))))) (.setWin h))

theorem Kept.captureWins {c : Nat} (h : Kept b s) : Kept b (s.captureWins c) := .foldl (fun _ _ => .captureWin) h

theorem Kept.restoreWins {c : Nat} (h : Kept b s) : Kept b (s.restoreWins c) := by
  unfold State.restoreWins
  with_reducible exact .foldl (fun _ _ h => .ite (.setWin h) h) h

theorem Kept.releasePoison {c : Nat} (h : Kept b s) : Kept b (s.releasePoison c) := .setPoison h

theorem Kept.decayScores (h : Kept b s) : Kept b s.decayScores := by
  unfold State.decayScores
  with_reducible exact .ite (.setInteg (.dec h)) (.setInteg h)

/-! ### The commit engine -/

theorem Kept.cmSend {c typ tr dst : Nat} {body : List Byte} (h : Kept b s) : Kept b (s.cmSend c typ tr dst body) :=
  .send h

theorem Kept.keepNotice {c : Nat} {n : Notice} (h : Kept b s) : Kept b (s.keepNotice c n) := by
  unfold State.keepNotice
  with_reducible exact .setCm h

theorem Kept.sendNotice {c tr i : Nat} {n : Notice} (h : Kept b s) : Kept b (s.sendNotice c tr i n) := .cmSend h

theorem Kept.forward {c tr : Nat} {n : Notice} (h : Kept b s) : Kept b (s.forward c tr n) :=
  .foldl (fun _ _ => .sendNotice) h

theorem Kept.cutDeltas {c status : Nat} (h : Kept b s) : Kept b (s.cutDeltas c status) := .upd h rfl rfl

theorem Kept.clearInterval {c : Nat} (h : Kept b s) : Kept b (s.clearInterval c) := by
  unfold State.clearInterval
  with_reducible exact .set (.setTm (.setCm h))

theorem Kept.openStep {c : Nat} (h : Kept b s) : Kept b (s.openStep c) := by
  unfold State.openStep
  with_reducible exact .set (.set h)

theorem Kept.doAbort {c reason rank : Nat} (h : Kept b s) : Kept b (s.doAbort c reason rank) := by
  unfold State.doAbort
  with_reducible refine .restoreWins (.set (.satInc (.set (.set (.set (.wrapInc (.openStep (.set (.setCm
    (.clearInterval (.set ?_)))))))))))
  split
  · with_reducible exact .ite (.complete (.foldl (fun _ _ => .endCmd) h)) (.setJob (.foldl (fun _ _ => .endCmd) h))
  · with_reducible exact .foldl (fun _ _ => .endCmd) h

theorem Kept.abort {c reason rank : Nat} (h : Kept b s) : Kept b (s.abort c reason rank) := by
  unfold State.abort
  with_reducible exact .ite (.setCm (.cutDeltas h)) (.doAbort (.cutDeltas h))

theorem Kept.arm {c h' : Nat} {late : Option Int} (h : Kept b s) : Kept b (s.arm c h' late) := .setCm (.set (.set h))

theorem Kept.armHalt {c h' : Nat} (h : Kept b s) : Kept b (s.armHalt c h') := by
  unfold State.armHalt
  with_reducible exact .ite (.arm h) (.arm h)

theorem Kept.markPre {c : Nat} (h : Kept b s) : Kept b (s.markPre c) := by
  unfold State.markPre
  with_reducible exact .setMem h

theorem Kept.moveServed {c : Nat} (h : Kept b s) : Kept b (s.moveServed c) := .upd h rfl rfl

theorem Kept.driveSel {c : Nat} (h : Kept b s) : Kept b (s.driveSel c) := by
  unfold State.driveSel
  with_reducible exact .foldl (fun _ _ h => .ite (.emit h) h) h

theorem Kept.flip {c : Nat} (h : Kept b s) : Kept b (s.flip c) := by
  unfold State.flip
  dsimp only
  split
  · with_reducible exact .complete (.countPort (.decayScores (.releasePoison (.captureWins (.driveSel (.irq (.when
      (.setB (.when (.set (.set (.wrapInc (.set (.setCm (.set (.clearInterval (.cutDeltas (.wrapInc (.openStep (.set
      (.moveServed (.set (.set (.markPre h))))))))))))))) .satInc)) .set)))))))
  · with_reducible exact .countPort (.decayScores (.releasePoison (.captureWins (.driveSel (.irq (.when (.setB (.when
      (.set (.set (.wrapInc (.set (.setCm (.set (.clearInterval (.cutDeltas (.wrapInc (.openStep (.set (.moveServed
      (.set (.set (.markPre h))))))))))))))) .satInc)) .set))))))

theorem Kept.conclude {c : Nat} {n : Notice} (h : Kept b s) : Kept b (s.conclude c n) := by
  unfold State.conclude
  with_reducible exact .ite (.when (.unless (.forward (.keepNotice h)) .sendNotice) .armHalt) (.abort (.unless
    (.forward (.keepNotice h)) .sendNotice))

theorem Kept.pushUp {c tr : Nat} (h : Kept b s) : Kept b (s.pushUp c tr) := by
  unfold State.pushUp
  dsimp only
  split
  · exact h
  · with_reducible exact .ite (.cmSend (.setCm h)) h

theorem Kept.pushVotes {c : Nat} (h : Kept b s) : Kept b (s.pushVotes c) := by
  unfold State.pushVotes
  with_reducible refine .when (.pushUp (.pushUp h)) ?_
  intro h
  split
  · with_reducible exact .conclude h
  · exact h

theorem Kept.castVote {c : Nat} (h : Kept b s) : Kept b (s.castVote c) := by
  unfold State.castVote
  with_reducible refine .pushVotes ?_
  split
  · with_reducible exact .setJob (.setCm (.set h))
  · with_reducible exact .setCm (.set h)

theorem Kept.settleVote {c : Nat} (h : Kept b s) : Kept b (s.settleVote c) := .ite (.castVote h) h

theorem Kept.settleAbort {c : Nat} (h : Kept b s) : Kept b (s.settleAbort c) := by
  unfold State.settleAbort
  split
  · with_reducible exact .ite h (.doAbort h)
  · exact h

theorem Kept.settle (h : Kept b s) : Kept b s.settle := .foldl (fun _ _ h => .settleVote (.settleAbort h)) h

theorem Kept.fence {c epoch : Nat} (h : Kept b s) : Kept b (s.fence c epoch) := by
  unfold State.fence
  with_reducible refine .ite (.setCm (.set h)) ?_
  dsimp only
  split
  · exact .endCmd (.set (.set h))
  · exact .set (.set h)

theorem Kept.cmStale {c : Nat} (h : Kept b s) : Kept b (s.cmStale c) := .satInc h

/-! ### The yoke -/

theorem Kept.setTable {t' epoch k r : Nat} (h : Kept b s) : Kept b (s.setTable t' epoch k r) := by
  unfold State.setTable
  with_reducible exact .set (.set (.set (.set (.set (.set h)))))

theorem Kept.announce {c epoch k r : Nat} (h : Kept b s) : Kept b (s.announce c epoch k r) := by
  unfold State.announce
  with_reducible exact .setYoke (.setTable h)

theorem Kept.tableDone (h : Kept b s) : Kept b s.tableDone := by
  unfold State.tableDone
  split
  · with_reducible exact .ite h (.setYoke (.setTable (.set (.set (.set h)))))
  · exact h

theorem Kept.fieldBusy (h : Kept b s) : Kept b s.fieldBusy := by
  unfold State.fieldBusy
  with_reducible exact .ite h (.set (.fresh h))

/-! ### Teams -/

theorem Kept.syncTeam {c : Nat} (h : Kept b s) : Kept b (s.syncTeam c) := by
  unfold State.syncTeam
  with_reducible exact .set (.set (.set (.set (.set (.set (.set h))))))

theorem Kept.announceTeam {c : Nat} (h : Kept b s) : Kept b (s.announceTeam c) := by
  unfold State.announceTeam
  with_reducible exact .announce h

theorem Kept.cutTeamWork {c : Nat} (h : Kept b s) : Kept b (s.cutTeamWork c) := by
  unfold State.cutTeamWork
  with_reducible exact .setFab (.upd h rfl rfl)

theorem Kept.dissolve {c : Nat} (h : Kept b s) : Kept b (s.dissolve c) := by
  unfold State.dissolve
  with_reducible exact .set (.set (.set (.set (.set (.set (.set (.set (.set (.setTm (.upd (.cutTeamWork (.foldl
    (fun _ _ => .set) h)) rfl rfl))))))))))

/-! ### Lanes, collections and resets -/

theorem Kept.syncLanes (h : Kept b s) : Kept b s.syncLanes := by
  unfold State.syncLanes
  with_reducible exact .when (.when (.setB (.set h)) .irq) .emcy

theorem Kept.creditWords {link : Nat} (h : Kept b s) : Kept b (s.creditWords link) := by
  unfold State.creditWords
  with_reducible exact .foldl (fun _ _ h => .emit (.fresh (.fresh h))) h

theorem Kept.reset {n : Nat} {keep : Nat → Bool} {o : List Out} {p : List Instr} {m : MemS} {x : FabS}
    (h : Kept b s) :
    Kept b { State.reset with
      regs := s.regs.filter fun p => keep (p.1 / 64), meter := s.meter, out := o, pending := p, free := n, mem := m,
      fab := x } :=
  ⟨fun hb => Tbl.rising_filter _ _ (h.regs hb), h.meter⟩

theorem Kept.resetTo {keep : Nat → Bool} {cause : Nat} (h : Kept b s) : Kept b (s.resetTo keep cause) := by
  unfold State.resetTo
  with_reducible exact .emit (.emit (.foldl (fun _ _ => .emit) (.syncLanes (.foldl (fun _ _ => .set)
    (.foldl (fun _ _ => .set) (.foldl (fun _ _ h => .set (.set h)) (.when (.setB (.set (.reset h))) .set)))))))

theorem Kept.creditAll (h : Kept b s) : Kept b s.creditAll := .foldl (fun _ _ => .creditWords) h
theorem Kept.blockReset {cause : Nat} (h : Kept b s) : Kept b (s.blockReset cause) := .creditAll (.resetTo h)
theorem Kept.fwRelease (h : Kept b s) : Kept b s.fwRelease := .setMgmt (.set h)

theorem Kept.seqRestart {watchdog : Bool} (h : Kept b s) : Kept b (s.seqRestart watchdog) := by
  unfold State.seqRestart
  with_reducible exact .setRec (.foldl (fun _ _ => .setCm) (.set (.foldl (fun _ _ h => .set (.set (.set (.set (.set
    (.set h)))))) (.setReps (.foldl (fun _ _ => .endCmd) (.ite (.fwRelease (.set h)) h))))))

theorem Kept.afterColl {k : CollS} (h : Kept b s) : Kept b (s.afterColl k) := by
  unfold State.afterColl
  split
  · with_reducible exact .seqRestart h
  · with_reducible exact .blockReset h

theorem Kept.collect {k : CollS} (h : Kept b s) : Kept b (s.collect k) := by
  unfold State.collect
  with_reducible exact (.ite (.foldl (fun _ _ => .issueWrite) (.setRec (.emcy (.foldl (fun _ _ => .set) (.set (.set
    (.set (.set (.set (.set (.set h))))))))))) (.afterColl (.emcy (.foldl (fun _ _ => .set) (.set (.set (.set (.set
    (.set (.set (.set h)))))))))))

theorem Kept.settleColl (h : Kept b s) : Kept b s.settleColl := by
  unfold State.settleColl
  split
  · with_reducible exact .ite (.collect h) h
  · exact h

theorem Kept.startColl {reason : Nat} {after : Reset} (h : Kept b s) : Kept b (s.startColl reason after) := by
  unfold State.startColl
  split
  · with_reducible exact .ite (.setRec h) h
  · with_reducible exact .setRec (.observe h)

/-! ### Units of work -/

theorem Kept.sendFetch {c jid stripe i : Nat} {rcv : Bool} (h : Kept b s) :
    Kept b (s.sendFetch c jid stripe i rcv) := by
  unfold State.sendFetch
  with_reducible exact .setFab (.send h)

theorem Kept.freeReq {id : Nat} (h : Kept b s) : Kept b (s.freeReq id) := by
  unfold State.freeReq
  split
  · exact h
  · with_reducible exact .emit (.dec (.setFab h))

theorem Kept.dropReq {j : Job} {m : Msg} {status : Nat} (h : Kept b s) : Kept b (s.dropReq j m status) :=
  .delJob (.foldl (fun _ _ => .freeReq) (.drop h))

theorem Kept.updateGranule {j : Job} {p : Plan} {runs : List (Nat × List Byte)} (h : Kept b s) :
    Kept b (s.updateGranule j p runs).1 := by
  unfold State.updateGranule
  dsimp only
  split
  · exact h
  · with_reducible refine .iteFst (.foldlFst (fun _ _ => .writeSpan) h) ?_
    split
    · with_reducible exact .foldl (fun _ _ => .seeWrite) (.iteFst h (.putMask h))
    · exact h

theorem Kept.exe {j : Job} {g : Seg} {u : Nat} (h : Kept b s) : Kept b (s.exe j g u).1 := by
  unfold State.exe
  dsimp only
  split
  · split
    · with_reducible exact .writeSpan h
    · exact h
  · split
    · with_reducible exact .writeSpan h
    · exact h
  · split
    · with_reducible exact .writeSpan h
    · exact h
  · split
    · with_reducible exact .writeSpan h
    · exact h
  · with_reducible exact .updateGranule h
  · split
    · with_reducible exact .writeSpan h
    · exact h
  · split
    · with_reducible exact .writeSpan (.setTm h)
    · exact h
  · with_reducible exact .iteFst h (.iteFst (.wrapInc h) (.sendDelta h))
  · with_reducible exact .sendDelta h
  · split
    · with_reducible exact .writeSpan (.ite (.setTm h) h)
    · exact h
  · split
    · with_reducible exact .send h
    · exact h
  · split
    · with_reducible exact .send h
    · exact h
  · exact h
  · with_reducible exact .foldlFst (fun _ _ h => .putSub (.noteWrite h)) h
  · with_reducible exact .iteFst (.wrapInc h) (.sendDelta h)
  · with_reducible exact .iteFst h (.iteFst h (.foldl (fun _ _ => .sendFetch) h))
  · exact h

/-! ### Scrubs and suspicion -/

theorem Kept.scrubLog {j : Job} {row stack finding bank : Nat} (h : Kept b s) :
    Kept b (s.scrubLog j row stack finding bank) := by
  unfold State.scrubLog
  with_reducible exact .setInteg (.set (.set (.set (.set (.set (.set (.set h)))))))

theorem Kept.postPoison {j : Job} {e : PoisonEnt} (h : Kept b s) : Kept b (s.postPoison j e) :=
  .ite (.satInc h) (.satInc (.wrapInc (.setPoison h)))

theorem Kept.repairBlock {j : Job} {k : Nat} {p : RowPart} {x : Nat} {out : List Nat} (h : Kept b s) :
    Kept b (s.repairBlock j k p x out).1 := by
  unfold State.repairBlock
  with_reducible refine .iteFst (.postPoison h) ?_
  split
  · exact h
  · with_reducible exact .writeAt (.satInc h)

theorem Kept.scrubPart {j : Job} {k : Nat} {p : RowPart} (h : Kept b s) : Kept b (s.scrubPart j k p).1 := by
  unfold State.scrubPart
  with_reducible refine .iteFst ?_ (.iteFst h ?_)
  · have hl := h.foldl (f := fun (s : State) x => (s.scrubLog j p.row x 4 k).satInc (DG_SCRUB_FIX.readfail j.ctx) 1)
      (l := (s.erasedIn j j.scrubRgn k p).filter fun x => j.readFailed p x) fun _ _ h => .satInc (.scrubLog h)
    with_reducible exact .iteFst (.foldlFst (fun _ _ => .repairBlock) hl) hl
  · dsimp only
    split
    · exact h
    · with_reducible exact .scrubLog (.fresh h)
    · with_reducible exact .iteFst (.repairBlock (.scrubLog h)) (.scrubLog h)

theorem Kept.exeScrub {j : Job} {u : Nat} (h : Kept b s) : Kept b (s.exeScrub j u).1 := by
  unfold State.exeScrub
  with_reducible exact .satInc (.satInc (.satInc (.wrapInc (.foldlFst (fun _ _ => .scrubPart) h))))

theorem Kept.scoreSelf (h : Kept b s) : Kept b s.scoreSelf := by
  unfold State.scoreSelf
  with_reducible exact .ite (.set (.suspect h)) (.set h)

theorem Kept.setPeers {l : List (Nat × Nat)} (h : Kept b s) : Kept b (s.setPeers l) := .set (.setInteg h)

theorem Kept.scorePeer {device : Nat} (h : Kept b s) : Kept b (s.scorePeer device) := by
  unfold State.scorePeer
  with_reducible exact .when (.setPeers h) .suspect

theorem Kept.divEntry {c w tsCap tsMax tag step : Nat} {minor noMaj : Bool} (h : Kept b s) :
    Kept b (s.divEntry c w tsCap tsMax tag step minor noMaj) := by
  unfold State.divEntry
  with_reducible exact .emcy (.irq (.set (.set (.setB (.setB (.set (.set (.set (.set (.set (.set h)))))))))))

theorem Kept.digestFound {c g me : Nat} {x : Compared} {samp : List Nat} (h : Kept b s) :
    Kept b (s.digestFound c g me x samp) := by
  unfold State.digestFound
  with_reducible exact .when (.when (.ite h (.divEntry h)) .scoreSelf) (fun h => .foldl (fun _ _ => .scorePeer) h)

/-! ### Updates -/

theorem Kept.seePair {r a : Nat} {new : List NewElem} (h : Kept b s) : Kept b (s.seePair r a new) := by
  unfold State.seePair
  with_reducible exact .foldl (fun _ _ h => .ite (.setWin h) h) h

theorem Kept.writeAll {j : Job} {l : List (Span × List Byte)} (h : Kept b s) : Kept b (writeAll s j l).1 := by
  induction l generalizing s j with
  | nil => exact h
  | cons p l ih =>
    unfold Machine.writeAll
    with_reducible exact ih (.writeSpan h)

theorem Kept.yokeBusy {j : Job} {n : Nat} (h : Kept b s) : Kept b (s.yokeBusy j n) := by
  unfold State.yokeBusy
  with_reducible exact .when (.wrapInc h) .dec

theorem Kept.freshNum (h : Kept b s) : Kept b s.freshNum.1 := by
  unfold State.freshNum
  with_reducible exact .fresh h

theorem Kept.cleanElems {l : List NewElem} (h : Kept b s) : Kept b (cleanElems s l).1 := by
  induction l generalizing s with
  | nil => exact h
  | cons e l ih =>
    unfold Machine.cleanElems
    with_reducible exact .iteFst (ih (.freshNum h)) (ih h)

theorem Kept.cleanNums {l : List Num} (h : Kept b s) : Kept b (cleanNums s l).1 := by
  induction l generalizing s with
  | nil => exact h
  | cons e l ih =>
    unfold Machine.cleanNums
    with_reducible exact .iteFst (ih (.freshNum h)) (ih h)

theorem Kept.cleanMat {x : Mat} (h : Kept b s) : Kept b (cleanMat s x).1 := by
  unfold Machine.cleanMat
  with_reducible exact .iteFst h (.cleanNums h)

theorem Kept.updExe {j : Job} {u : Nat} (h : Kept b s) : Kept b (s.updExe j u).1 := by
  unfold State.updExe
  dsimp only
  split
  · with_reducible exact .satInc h
  · with_reducible exact .seePair (.writeAll (.cleanMat (.cleanMat (.cleanElems (.when (.satInc h) .yokeBusy)))))

theorem Kept.refExe {j : Job} {u : Nat} (h : Kept b s) : Kept b (s.refExe j u).1 := by
  unfold State.refExe
  with_reducible exact .iteFst (.yokeBusy h) (.writeAll h)

theorem Kept.refreshEnd {j : Job} (h : Kept b s) : Kept b (s.refreshEnd j) := by
  unfold State.refreshEnd
  with_reducible exact .finishCmd (.satInc (.satInc h))

theorem Kept.exeUpd {j : Job} {g : Seg} {u : Nat} (h : Kept b s) : Kept b (s.exeUpd j g u).1 := by
  unfold State.exeUpd
  split
  · with_reducible exact .updExe h
  · with_reducible exact .refExe h
  · exact h

/-! ### Collectives -/

theorem Kept.gsSendAll {j : Job} {typ tr tile : Nat} {rest : List Byte} {ranks : List Nat} (h : Kept b s) :
    Kept b (s.gsSendAll j typ tr tile rest ranks) :=
  .foldl (fun _ _ => .gsSend) h

theorem Kept.pumpDesc {j : Job} (h : Kept b s) : Kept b (s.pumpDesc j).1 := by
  unfold State.pumpDesc
  with_reducible refine .iteFst h ?_
  split
  · with_reducible exact .gsSend h
  · with_reducible exact .gsSendAll h

theorem Kept.fixOne {j : Job} {n : Nat} (h : Kept b s) : Kept b (fixSplits.fixOne s j n).1 :=
  .iteFst h (.unless (.gsSendAll h) .gsSend)

theorem Kept.fixSplits {j : Job} {n : Nat} (h : Kept b s) : Kept b (fixSplits s j n).1 := by
  induction n with
  | zero => exact .fixOne h
  | succ n ih => exact .fixOne ih

theorem Kept.resultSent {j : Job} {x : GsTile} (h : Kept b s) : Kept b (s.resultSent j x).1 := by
  unfold State.resultSent
  with_reducible exact .iteFst h (.iteFst h (.ite (.gsSend h) h))

theorem Kept.pumpRec {j : Job} {x : GsTile} (h : Kept b s) : Kept b (s.pumpRec j x).1 := by
  unfold State.pumpRec
  with_reducible refine .iteFst h ?_
  split
  · with_reducible exact .gsSend h
  · with_reducible exact .gsSendAll h

theorem Kept.pumpPart {j : Job} {x : GsTile} (h : Kept b s) : Kept b (s.pumpPart j x).1 := by
  unfold State.pumpPart
  with_reducible refine .iteFst h ?_
  split
  · with_reducible exact .gsSend h
  · split
    · exact h
    · exact h

theorem Kept.pumpRes {j : Job} {x : GsTile} (h : Kept b s) : Kept b (s.pumpRes j x).1 := by
  unfold State.pumpRes
  split
  · with_reducible exact .iteFst h (.iteFst (.resultSent (.gsSendAll (.iteFst (.fixSplits h) h))) (.gsSendAll
      (.iteFst (.fixSplits h) h)))
  · exact h

theorem Kept.pumpTile {j : Job} {t' : Nat} (h : Kept b s) : Kept b (s.pumpTile j t').1 := by
  unfold State.pumpTile
  split
  · exact h
  · with_reducible exact .iteFst (.pumpRes (.pumpPart (.pumpRec h))) (.pumpRes (.pumpPart (.pumpRec h)))

theorem Kept.endMismatch {j : Job} (h : Kept b s) : Kept b (s.endMismatch j).1 := .satInc h

theorem Kept.pump {j : Job} (h : Kept b s) : Kept b (s.pump j).1 := by
  unfold State.pump
  with_reducible refine .iteFst h ?_
  split
  next e =>
    have h := Kept.ofFst e (.pumpDesc h)
    split
    · exact .endMismatch h
    · exact .foldlFst (fun _ _ => .pumpTile) h

theorem Kept.digestEnd {j : Job} (h : Kept b s) : Kept b (s.digestEnd j) := by
  unfold State.digestEnd
  with_reducible exact .finishCmd (.digestFound h)

theorem Kept.gsStage {j : Job} (h : Kept b s) : Kept b (s.gsStage j).1 := by
  unfold State.gsStage
  dsimp only
  split
  · with_reducible exact (.iteFst (.iteFst (.digestEnd (.pump h)) (.iteFst (.finishCmd (.when (.pump h)
      (fun h => .set (.set (.set h))))) (.finishCmd (.pump h)))) (.pump h))
  · with_reducible exact .pump h

theorem Kept.exeGs {j : Job} {g : Seg} {u : Nat} (h : Kept b s) : Kept b (s.exeGs j g u).1 := by
  unfold State.exeGs
  split
  · split
    · exact h
    · exact h
  · split
    · exact h
    · exact h
  · split
    · exact h
    · exact h
  · split
    · with_reducible exact .iteFst (.writeSpan h) h
    · exact h
  · exact h

theorem Kept.setMarks {c st : Nat} {l : List Nat} (h : Kept b s) : Kept b (s.setMarks c st l) := .set (.upd h rfl rfl)

theorem Kept.judgeDoorbell {c st u : Nat} (e : s.judgeDoorbell c st u = some t) (h : Kept b s) : Kept b t := by
  unfold State.judgeDoorbell at e
  dsimp only at e
  split_ifs at e <;> cases e
  · exact .setMarks (.set h)
  · exact .satInc h
  · exact h

theorem Kept.drainDoorbells {n : Nat} (h : Kept b s) : Kept b (drainDoorbells n s) := by
  induction n generalizing s with
  | zero => exact h
  | succ n ih =>
    unfold Machine.drainDoorbells
    split
    · exact h
    · split
      next e => exact ih (.ite (.emit (.set (.upd (.judgeDoorbell e h) rfl rfl))) (.set (.upd
        (.judgeDoorbell e h) rfl rfl)))
      next => exact .set h

theorem Kept.redoDoorbells (h : Kept b s) : Kept b s.redoDoorbells := .drainDoorbells h

theorem Kept.pumpAll (h : Kept b s) : Kept b s.pumpAll := by
  unfold State.pumpAll
  with_reducible exact .foldl (fun _ _ h => .setJob (.pump h)) h

theorem Kept.syncGs (h : Kept b s) : Kept b s.syncGs := by
  unfold State.syncGs
  with_reducible exact .foldl (fun _ _ h => .ite h (.set (.syncSlots h))) h

/-! ### Messages transmitted -/

theorem Kept.transmit (h : Kept b s) : Kept b s.transmit := by
  unfold State.transmit
  split
  · exact h
  · split
    · exact h
    · with_reducible exact .countPort (.emit (.setFab h))

/-! ### Bulk copies -/

theorem Kept.sendReq {j : Job} {q : Nat × Nat} {typ : Nat} {body : List Byte} (h : Kept b s) :
    Kept b (s.sendReq j q typ body).1 := by
  unfold State.sendReq
  with_reducible exact .iteFst h (.wrapInc (.setFab (.send (.chargeFor h))))

theorem Kept.exeFab {j : Job} {u : Nat} (h : Kept b s) : Kept b (s.exeFab j u).1 := by
  unfold State.exeFab
  with_reducible refine .iteFst ?_ (.iteFst (.sendReq h) (.sendReq h))
  split
  · with_reducible exact .set (.wrapInc h)
  · exact h

/-! ### Rebuilds, drains and imports -/

theorem Kept.drnSend {j : Job} {write : Bool} {off n : Nat} {data : List Byte} (h : Kept b s) :
    Kept b (s.drnSend j write off n data).1 := by
  unfold State.drnSend
  with_reducible exact .setRec (.emit h)

theorem Kept.rebuildFail {c status : Nat} (h : Kept b s) : Kept b (s.rebuildFail c status) := by
  unfold State.rebuildFail
  with_reducible exact .when (.setFab (.upd h rfl rfl)) (fun h => .set (.set (.set h)))

theorem Kept.decodeGo {j : Job} {m : Msg} (h : Kept b s) : Kept b (s.decodeGo j m).1 := by
  unfold State.decodeGo
  with_reducible refine .iteFst h (.iteFst ?_ (.foldl (fun _ _ => .sendFetch) h))
  split
  · with_reducible exact .send (.fieldBusy h)
  · exact h

theorem Kept.exeRec {j : Job} {g : Seg} {u : Nat} (h : Kept b s) : Kept b (s.exeRec j g u).1 := by
  unfold State.exeRec
  dsimp only
  split
  · with_reducible exact .sendFetch h
  · split
    · with_reducible exact .decodeGo h
    · exact h
  · exact h
  · with_reducible exact .iteFst (.drnSend h) h
  · with_reducible refine .iteFst (.drnSend h) ?_
    split
    · with_reducible exact .writeSpan h
    · exact h
  · with_reducible exact .drnSend h
  · with_reducible exact .drnSend h
  · exact h

theorem Kept.setLog {c : Nat} {l : List LogEnt} (h : Kept b s) : Kept b (s.setLog c l) := .set (.setRec h)

theorem Kept.drnCount {c n : Nat} {elsewhere : Bool} (h : Kept b s) : Kept b (s.drnCount c n elsewhere) := by
  unfold State.drnCount
  with_reducible exact .set (.setRec h)

theorem Kept.logShard {j : Job} (h : Kept b s) : Kept b (s.logShard j) := by
  unfold State.logShard
  with_reducible exact .unless (.ite h (.drnCount h)) .setLog

theorem Kept.drainStage {j : Job} (h : Kept b s) : Kept b (s.drainStage j).1 := by
  unfold State.drainStage
  with_reducible exact .iteFst (.iteFst h (.finishCmd h)) (.iteFst h (.finishCmd (.logShard h)))

theorem Kept.bindTo {c : Nat} {r : List Byte} (h : Kept b s) : Kept b (s.bindTo c r) := by
  unfold State.bindTo
  with_reducible exact .openStep (.set (.set (.set (.set (.set h)))))

theorem Kept.importStage {j : Job} (h : Kept b s) : Kept b (s.importStage j).1 := by
  unfold State.importStage
  with_reducible refine .iteFst (.iteFst (.iteFst (.endCmd h) h) (.iteFst (.finishCmd h) (.endCmd h))) ?_
  split
  · with_reducible exact .iteFst (.endCmd h) h
  · with_reducible exact .iteFst (.endCmd h) (.iteFst (.endCmd h) h)
  · with_reducible exact .finishCmd (.bindTo h)

theorem Kept.sendDesc {c g : Nat} {d : List Byte} {jobId : Nat} (h : Kept b s) : Kept b (s.sendDesc c g d jobId) := by
  unfold State.sendDesc
  with_reducible exact .foldl (fun _ _ h => .unless (.foldl (fun _ _ => .send) h) .send) h

theorem Kept.keepDesc {j : Job} {d : List Byte} {value : Nat} (h : Kept b s) : Kept b (s.keepDesc j d value).1 := by
  unfold State.keepDesc
  with_reducible exact .iteFst (.endCmd h) h

theorem Kept.jobStage {j : Job} (h : Kept b s) : Kept b (s.jobStage j).1 := by
  unfold State.jobStage
  dsimp only
  split
  · split
    · with_reducible exact .iteFst (.keepDesc h) h
    · exact h
  · with_reducible exact .iteFst (.endCmd h) h
  · with_reducible exact .iteFst (.endCmd h) (.iteFst (.sendDesc h) (.keepDesc h))
  · with_reducible exact .iteFst h (.finishCmd h)
  · with_reducible exact .finishCmd h

theorem Kept.bindEnd {c status : Nat} (h : Kept b s) : Kept b (s.bindEnd c status) := .set (.set h)

theorem Kept.bindStage {j : Job} {c : Nat} (h : Kept b s) : Kept b (s.bindStage j c).1 := by
  unfold State.bindStage
  with_reducible refine .iteFst ?_ (.delJob (.bindEnd (.set (.bindTo h))))
  split
  · with_reducible exact .delJob (.bindEnd h)
  · exact h

theorem Kept.rebuildStage {j : Job} {c : Nat} (h : Kept b s) : Kept b (s.rebuildStage j c).1 :=
  .iteFst (.delJob (.wrapInc h)) (.iteFst (.delJob (.set (.set h))) h)

/-! ### Running work -/

theorem Kept.exeAll {j : Job} {g : Seg} {u : Nat} (h : Kept b s) : Kept b (s.exeAll j g u).1 := by
  unfold State.exeAll
  split
  · with_reducible exact .exeFab h
  · with_reducible exact .exeFab h
  · with_reducible exact .exeRec h
  · with_reducible exact .exeRec h
  · with_reducible exact .exeRec h
  · with_reducible exact .exeRec h
  · with_reducible exact .exeRec h
  · with_reducible exact .exeRec h
  · with_reducible exact .exeRec h
  · with_reducible exact .exeUpd h
  · with_reducible exact .exeUpd h
  · with_reducible exact .exeGs h
  · with_reducible exact .exeGs h
  · with_reducible exact .exeGs h
  · with_reducible exact .exeGs h
  · with_reducible exact .exeScrub h
  · with_reducible exact .exe h

theorem Kept.losePlan {j : Job} {p : Plan} (h : Kept b s) : Kept b (s.losePlan j p) := by
  unfold State.losePlan
  with_reducible exact .foldl (fun _ _ h => .ite (.lose h) h) (.foldl (fun _ _ h => .ite (.lose h) h) (.foldl
    (fun _ _ h => .ite (.lose h) h) (.ite (.lose h) h)))

theorem Kept.markPlan {j : Job} {p : Plan} (h : Kept b s) : Kept b (s.markPlan j p) := by
  unfold State.markPlan
  with_reducible exact .foldl (fun _ _ h => .when h .markDegraded) (.foldl (fun _ _ h => .when h .markDegraded)
    (.foldl (fun _ _ h => .when h .markDegraded) h))

theorem Kept.failJob {j : Job} {status : Nat} (h : Kept b s) : Kept b (s.failJob j status) := by
  unfold State.failJob
  split
  · with_reducible exact .ite (.failInterval (.setJob h)) (.endCmd h)
  · with_reducible exact .failInterval (.dropReq h)
  · with_reducible exact .dropReq h
  · with_reducible exact .dropReq h
  · with_reducible refine .delJob (.foldl ?_ h)
    intro _ _ h
    split
    · with_reducible exact .freeReq (.drop h)
    · exact h
  · with_reducible exact .delJob (.bindEnd h)
  · with_reducible exact .delJob (.rebuildFail h)
  · with_reducible exact .delJob h

theorem Kept.stbNotice {j : Job} {slot typ : Nat} (h : Kept b s) : Kept b (s.stbNotice j slot typ) := by
  unfold State.stbNotice
  with_reducible exact .foldl (fun _ _ h => .send (.chargeFor h)) h

theorem Kept.codeStage {j : Job} {slot : Nat} (h : Kept b s) : Kept b (s.codeStage j slot).1 := by
  unfold State.codeStage
  dsimp only
  split
  · exact h
  · with_reducible exact .stbNotice h
  · with_reducible exact .iteFst h (.stbNotice h)
  · exact h

theorem Kept.slotResident {slot : Nat} (h : Kept b s) : Kept b (s.slotResident slot) := .set (.set h)

theorem Kept.loadStage {j : Job} (h : Kept b s) : Kept b (s.loadStage j).1 := by
  unfold State.loadStage
  with_reducible exact .iteFst (.iteFst (.set h) (.finishCmd (.slotResident (.set h)))) (.iteFst (.finishCmd (.setStb
    (.set (.slotResident (.codeStage h))))) (.codeStage h))

theorem Kept.auditEnd {j : Job} (h : Kept b s) : Kept b (s.auditEnd j) := by
  unfold State.auditEnd
  with_reducible exact .ite (.complete h) (.complete (.when (.set h) .observe))

theorem Kept.copyEnd {j : Job} (h : Kept b s) : Kept b (s.copyEnd j).1 := .iteFst h (.finishCmd h)

theorem Kept.mended {n j r row : Nat} (h : Kept b s) : Kept b (s.mended n j r row) := by
  unfold State.mended
  with_reducible exact .when (.set (.setMem h)) (fun h => .emit (.setChan h))

theorem Kept.partDone {id : Nat} (h : Kept b s) : Kept b (s.partDone id) := by
  unfold State.partDone
  split
  · with_reducible exact .ite (.freeReq (.send h)) (.setFab h)
  · exact h

theorem Kept.serveDelta {q : InReq} (h : Kept b s) : Kept b (s.serveDelta q) := by
  unfold State.serveDelta
  with_reducible exact .ite h (.ite (.freeReq (.drop h)) (.ite (.satInc (.freeReq (.drop h))) (.addJob (.setFab h))))

theorem Kept.serveReq {q : InReq} (h : Kept b s) : Kept b (s.serveReq q) := by
  unfold State.serveReq
  with_reducible exact .ite h (.ite (.addJob (.setFab h)) (.ite (.freeReq (.send h)) (.ite (.serveDelta h) h)))

theorem Kept.settleDissolve {c : Nat} (h : Kept b s) : Kept b (s.settleDissolve c) := .ite (.dissolve h) h
theorem Kept.serveReqs (h : Kept b s) : Kept b s.serveReqs := .foldl (fun _ _ => .serveReq) h

theorem Kept.finish {j : Job} (h : Kept b s) : Kept b (s.finish j).1 := by
  unfold State.finish
  split
  · with_reducible exact .iteFst (.loadStage h) (.iteFst h (.iteFst (.finishCmd h) (.iteFst (.refreshEnd h) (.iteFst
      (.auditEnd h) (.iteFst (.gsStage h) (.iteFst (.finishCmd h) (.iteFst (.copyEnd h) (.iteFst (.drainStage h)
      (.iteFst (.importStage h) (.iteFst (.jobStage h) (.iteFst (.iteFst (.finishCmd h) h) (.iteFst
      (.finishCmd h) h))))))))))))
  · with_reducible exact .delJob (.wrapInc (.send (.foldl (fun _ _ => .freeReq) h)))
  · with_reducible exact .delJob (.foldl (fun _ _ => .freeReq) h)
  · with_reducible exact .delJob (.foldl (fun _ _ => .freeReq) h)
  · with_reducible exact .delJob (.foldl (fun _ _ => .partDone) h)
  · with_reducible exact .delJob h
  · with_reducible exact .delJob (.mended h)
  · with_reducible exact .iteFst (.delJob (.setStb (.set (.codeStage h)))) (.codeStage h)
  · with_reducible exact .bindStage h
  · with_reducible exact .rebuildStage h

theorem Kept.ended {j : Job} {st : Nat × Option Nat} (h : Kept b s) : Kept b (s.ended j st) := by
  unfold State.ended
  split
  · with_reducible refine .ite (.setJob h) ?_
    split
    · with_reducible exact .complete h
    · with_reducible exact .complete h
  · with_reducible exact .satInc (.dropReq h)
  · with_reducible exact .dropReq h
  · with_reducible exact .dropReq h
  · with_reducible exact .delJob h

theorem Kept.runJob {n : Nat} {turn : Bool} {j : Job} (h : Kept b s) : Kept b (runJob n turn s j) := by
  induction n generalizing turn s j with
  | zero => exact .setJob h
  | succ n ih =>
    unfold Machine.runJob
    with_reducible refine .ite (.setJob h) ?_
    split
    · exact .ended h
    · split
      · split
        · with_reducible exact .ite (.setJob h) (ih (.flushDelta h))
        · with_reducible refine .ite (.setJob h) ?_
          split
          next e => exact .ofFst e (.finish h)
          next e =>
            have h := Kept.ofFst e (.finish h)
            with_reducible exact .ite (.setJob h) (ih h)
      · with_reducible exact .ite (.setJob h) (.ite (.setJob h) (.ite (ih h) (.ite (ih h)
          (.ite (.ite (ih (.losePlan h)) (.ite (ih (.losePlan h)) (.failJob (.losePlan h))))
            (.ite (.setJob h) (.ite (.setJob (.when (.foldl (fun _ _ => .issueRead) h) .markPlan))
              (.ite (.setJob h) (ih (.exeAll (.when h .chargeFor))))))))))

theorem Kept.kickIds {l : List Nat} (h : Kept b s) : Kept b (kickIds l s) := by
  induction l generalizing s with
  | nil => exact h
  | cons i l ih =>
    unfold Machine.kickIds
    split
    · exact ih (.runJob h)
    · exact ih h

theorem Kept.engineTurn {e : Nat} (h : Kept b s) : Kept b (s.engineTurn e) := by
  unfold State.engineTurn
  dsimp only
  split
  · with_reducible exact .runJob (.setFab h)
  · exact h

theorem Kept.engineRounds {n : Nat} (h : Kept b s) : Kept b (engineRounds n s) := by
  induction n generalizing s with
  | zero => exact h
  | succ n ih =>
    unfold Machine.engineRounds
    with_reducible exact .ite (ih (.foldl (fun _ _ => .engineTurn) h)) h

theorem Kept.kick (h : Kept b s) : Kept b s.kick := .engineRounds (.kickIds h)

theorem Kept.syncPre {c : Nat} (h : Kept b s) : Kept b (s.syncPre c) := by
  unfold State.syncPre
  with_reducible exact .ite h (.ite (.setCx h) (.ite (.setCx h) h))

theorem Kept.syncDegraded (h : Kept b s) : Kept b s.syncDegraded := .foldl (fun _ _ h => .ite (.set h) h) h

theorem Kept.after (h : Kept b s) : Kept b s.after := by
  unfold State.after
  with_reducible exact .emcyEnd (.syncDegraded (.settleColl (.syncGs (.foldl (fun _ _ => .syncPre) (.settle (.kick
    (.serveReqs (.kick (.serveReqs (.kick (.pumpAll (.redoDoorbells (.foldl (fun _ _ => .settleDissolve)
    (.settle h))))))))))))))

/-! ### Starts -/

theorem Kept.noteCopied {r : Nat} (h : Kept b s) : Kept b (s.noteCopied r) := by
  unfold State.noteCopied
  with_reducible exact .setCm h

theorem Kept.begin {c q : Nat} {go : State → Job → State} (hg : ∀ j, Kept b (go s j)) (h : Kept b s) :
    Kept b (s.begin c q go) :=
  .ite (.refuse h) (.ite (.startOr (hg _) h) (.syncBlocked h))

theorem Kept.beginOp {c q op : Nat} {go : State → Job → State} (hg : ∀ j, Kept b (go s j)) (h : Kept b s) :
    Kept b (s.beginOp c q op go) :=
  .ite (.begin hg h) h

/-! ### Queue and slot commands -/

theorem Kept.runNop {j : Job} (h : Kept b s) : Kept b (s.runNop j) := .instant h
theorem Kept.startNop {j : Job} (h : Kept b s) : Kept b (s.startNop j) := .startOr (.runNop h) h
theorem Kept.runWaitHall {j : Job} (h : Kept b s) : Kept b (s.runWaitHall j) := .ite (.instant h) (.launch h)
theorem Kept.startWaitHall {j : Job} (h : Kept b s) : Kept b (s.startWaitHall j) := .startOr (.runWaitHall h) h

theorem Kept.runRegionCopy {j : Job} (h : Kept b s) : Kept b (s.runRegionCopy j) := by
  unfold State.runRegionCopy
  with_reducible exact .launch (.ite h (.noteCopied h))

theorem Kept.startRegionCopy {j : Job} (h : Kept b s) : Kept b (s.startRegionCopy j) := .startOr (.runRegionCopy h) h

theorem Kept.runStableLoad {j : Job} (h : Kept b s) : Kept b (s.runStableLoad j) := by
  unfold State.runStableLoad
  with_reducible exact .launch (.when (.set (.set h)) (fun h => .set (.set h)))

theorem Kept.startStableLoad {j : Job} (h : Kept b s) : Kept b (s.startStableLoad j) := .startOr (.runStableLoad h) h

theorem Kept.runStableEvict {j : Job} (h : Kept b s) : Kept b (s.runStableEvict j) := by
  unfold State.runStableEvict
  with_reducible exact .ite (.instant h) (.ite (.instant (.foldl (fun _ _ => .freeRgn) (.emptySlot (.set h))))
    (.launch (.set h)))

theorem Kept.startStableEvict {j : Job} (h : Kept b s) :
    Kept b (s.startStableEvict j) := .startOr (.runStableEvict h) h

theorem Kept.doorbellOvf {c q : Nat} (h : Kept b s) : Kept b (s.doorbellOvf c q) := .set (.set h)

theorem Kept.doorbell {c q t' : Nat} (h : Kept b s) : Kept b (s.doorbell c q t') := by
  unfold State.doorbell
  with_reducible exact .ite h (.ite (.doorbellOvf h) (.syncBlocked (.when (.dec (.set (.foldl
    (fun _ _ => .setEnt) h))) .stampHead)))

theorem Kept.release {c q e : Nat} (h : Kept b s) : Kept b (s.release c q e) := by
  unfold State.release
  with_reducible exact .ite (.wrapInc (.setEnt h)) h

theorem Kept.slotRead {req k b' n : Nat} (h : Kept b s) : Kept b (s.slotRead req k b' n).1 := by
  unfold State.slotRead
  with_reducible exact .upd h rfl rfl

theorem Kept.timeoutJob {j : Job} (h : Kept b s) : Kept b (s.timeoutJob j) := by
  unfold State.timeoutJob
  with_reducible exact .ite (.endCmd (.failInterval (.setCm h))) (.endCmd h)

/-! ### Contexts -/

theorem Kept.clearQueue {c q : Nat} (h : Kept b s) : Kept b (s.clearQueue c q) := by
  unfold State.clearQueue
  with_reducible exact .foldl (fun _ _ => .setEnt) (.upd (.set (.set (.set (.set h)))) rfl rfl)

theorem Kept.enterRun {c : Nat} (h : Kept b s) : Kept b (s.enterRun c) := by
  unfold State.enterRun
  with_reducible exact .set (.set (.set (.setCx (.foldl (fun _ _ h => .set (.set h)) (.foldl
    (fun _ _ => .clearQueue) h)))))

theorem Kept.ctxStart {c : Nat} (h : Kept b s) : Kept b (s.ctxStart c) := .ite h (.ite (.enterRun h) (.set h))

theorem Kept.ctxHold {c : Nat} (h : Kept b s) : Kept b (s.ctxHold c) := by
  unfold State.ctxHold
  with_reducible exact .ite (.ite (.setCx h) (.setCx (.enterHeld h))) (.ite (.setCx h) h)

theorem Kept.ctxResume {c : Nat} (h : Kept b s) : Kept b (s.ctxResume c) := by
  unfold State.ctxResume
  with_reducible exact .ite (.ite (.setCx h) (.leaveHeld h)) (.ite (.setCx h) h)

theorem Kept.preHold {d : Nat} (h : Kept b s) : Kept b (s.preHold d) := by
  unfold State.preHold
  with_reducible exact .ite (.setCx h) (.setCx (.enterHeld h))

theorem Kept.endQueue {n c q : Nat} (h : Kept b s) : Kept b (endQueue n s c q) := by
  induction n generalizing s with
  | zero => exact h
  | succ n ih => exact .ite (ih (.refuse h)) h

theorem Kept.stopEngine {j : Job} {c : Nat} (h : Kept b s) : Kept b (s.stopEngine j c) := by
  unfold State.stopEngine
  split
  · with_reducible exact .ite (.endCmd h) h
  · exact h
  · with_reducible exact .rebuildFail h
  · with_reducible exact .setJob (.bindEnd h)
  · exact h
  · exact h
  · with_reducible exact .setJob h

theorem Kept.dropQueued {c : Nat} (h : Kept b s) : Kept b (s.dropQueued c) :=
  .foldl (fun _ _ h => .freeReq (.drop h)) h

theorem Kept.teardown {c : Nat} (h : Kept b s) : Kept b (s.teardown c) := by
  unfold State.teardown
  with_reducible exact .ite h (.dropQueued (.foldl (fun _ _ => .stopEngine) (.foldl (fun _ _ => .endQueue) (.setCx
    (.set (.set (.ite (.settleVote (.failInterval (.setCm h))) h)))))))

theorem Kept.sendNotices {c : Nat} (h : Kept b s) : Kept b (s.sendNotices c) := by
  unfold State.sendNotices
  with_reducible exact .setCx (.setFab (.foldl (fun _ _ => .send) h))

theorem Kept.wedge {c : Nat} {js : List Job} (h : Kept b s) : Kept b (s.wedge c js) := by
  unfold State.wedge
  with_reducible exact .emcy (.irq (.observe (.set (.set h))))

theorem Kept.forgetOuts {c : Nat} (h : Kept b s) : Kept b (s.forgetOuts c) := by
  unfold State.forgetOuts
  with_reducible exact .foldl (fun _ _ h => .ite (.dec h) h) (.setFab h)

theorem Kept.dropServed {j : Job} (h : Kept b s) : Kept b (s.dropServed j) := by
  unfold State.dropServed
  split
  · with_reducible exact .dropReq h
  · with_reducible exact .dropReq h
  · with_reducible exact .dropReq h
  · with_reducible refine .foldl ?_ h
    intro _ _ h
    split
    · with_reducible exact .freeReq (.drop h)
    · exact h
  · with_reducible exact .foldl (fun _ _ => .done) h

theorem Kept.settleDown {c : Nat} (h : Kept b s) : Kept b (s.settleDown c) := by
  unfold State.settleDown
  with_reducible exact .set (.setCm (.clearInterval (.when (.dissolve h) (fun h => .satInc (.set (.set
    (.restoreWins h)))))))

theorem Kept.turnOff {c : Nat} (h : Kept b s) : Kept b (s.turnOff c) := by
  unfold State.turnOff
  with_reducible exact .set (.set (.setCx (.forgetOuts (.upd (.settleDown (.foldl
    (fun _ _ => .dropServed) h)) rfl rfl))))

theorem Kept.dropRefs {c : Nat} (h : Kept b s) : Kept b (s.dropRefs c) := by
  unfold State.dropRefs
  with_reducible exact (.foldl (fun _ _ h => .when (.foldl (fun _ _ => .unholdSlot) (.foldl
    (fun _ _ => .unhold) h)) .dec) h)

theorem Kept.purge {c : Nat} (h : Kept b s) : Kept b (s.purge c) := by
  unfold State.purge
  with_reducible exact .ite (.turnOff (.setMem (.dropRefs h))) h

/-! ### Messages received -/

theorem Kept.leave {bytes : List Byte} (h : Kept b s) : Kept b (s.leave bytes) := .emit h

theorem Kept.receive {bytes : List Byte} {go : State → Msg → State} (hg : ∀ m, Kept b (go s m)) (h : Kept b s) :
    Kept b (s.receive bytes go) := by
  unfold State.receive
  split
  · exact .leave (.satInc h)
  · split
    · exact hg _
    · exact .leave (.satInc h)
    · exact .leave h
    · exact .leave (.drop h)

theorem Kept.keepReq {m : Msg} {busy : Bool} (h : Kept b s) : Kept b (s.keepReq m busy).1 := by
  unfold State.keepReq
  with_reducible exact .set (.wrapInc (.setFab h))

theorem Kept.endOut {o : FabOut} (h : Kept b s) : Kept b (s.endOut o) := by
  unfold State.endOut
  with_reducible exact .when (.setFab h) .dec

/-! ### Commit rows -/

theorem Kept.stopRefreshes {c : Nat} (h : Kept b s) : Kept b (s.stopRefreshes c) := .upd h rfl rfl

theorem Kept.prepare {j : Job} (h : Kept b s) : Kept b (s.prepare j) := by
  unfold State.prepare
  with_reducible exact .stopRefreshes (.launch (.setCm (.set h)))

theorem Kept.runStepEnd {j : Job} (h : Kept b s) : Kept b (s.runStepEnd j) := by
  unfold State.runStepEnd
  with_reducible exact .ite (.instant (.wrapInc h)) (.prepare h)

theorem Kept.startStepEnd {j : Job} (h : Kept b s) : Kept b (s.startStepEnd j) := .startOr (.runStepEnd h) h

theorem Kept.writersDone {c : Nat} (h : Kept b s) : Kept b (s.writersDone c) := by
  unfold State.writersDone
  split
  · with_reducible exact .ite (.setJob (.ite (.setTm h) h)) h
  · exact h

theorem Kept.voteNow {c : Nat} (h : Kept b s) : Kept b (s.voteNow c) := by
  unfold State.voteNow
  split
  · with_reducible exact .ite (.castVote h) h
  · exact h

theorem Kept.takeVote {m : Msg} (h : Kept b s) : Kept b (s.takeVote m) := by
  unfold State.takeVote
  with_reducible refine .ite (.cmStale (.done h)) ?_
  split
  · with_reducible exact .cmStale (.done h)
  · with_reducible exact .pushVotes (.setCm (.done h))

theorem Kept.conflict {c : Nat} (h : Kept b s) : Kept b (s.conflict c) := .satInc h

theorem Kept.takeHalt {m : Msg} (h : Kept b s) : Kept b (s.takeHalt m) := by
  unfold State.takeHalt
  with_reducible refine .unless (.done h) ?_
  intro h
  with_reducible refine .ite (.cmStale h) (.ite (.conflict h) ?_)
  split
  · with_reducible exact .ite (.conflict h) (.ite (.forward h) (.satInc h))
  · with_reducible exact .when (.forward (.keepNotice h)) .armHalt

theorem Kept.takeAbort {m : Msg} (h : Kept b s) : Kept b (s.takeAbort m) := by
  unfold State.takeAbort
  with_reducible exact .unless (.done h) (fun h => .ite (.cmStale h) (.ite (.conflict h) (.ite h (.abort (.forward
    (.keepNotice h))))))

theorem Kept.takeQuery {m : Msg} (h : Kept b s) : Kept b (s.takeQuery m) := by
  unfold State.takeQuery
  dsimp only
  split
  · with_reducible exact .when (.done h) .cmSend
  · with_reducible exact .done h

theorem Kept.sendQuery {c tr i : Nat} (h : Kept b s) : Kept b (s.sendQuery c tr i) := .ite h (.cmSend h)

theorem Kept.resolve {c : Nat} (h : Kept b s) : Kept b (s.resolve c) := by
  unfold State.resolve
  with_reducible exact .ite h (.ite (.set h) (.ite (.arm (.ite (.setCm h) h)) (.abort h)))

theorem Kept.applyEpoch {c : Nat} (h : Kept b s) : Kept b (s.applyEpoch c) := .ite h (.ite (.setCm h) (.set h))

theorem Kept.fenceAck {m : Msg} (h : Kept b s) : Kept b (s.fenceAck m) := by
  unfold State.fenceAck
  with_reducible exact .send h

theorem Kept.takeFence {m : Msg} (h : Kept b s) : Kept b (s.takeFence m) := by
  unfold State.takeFence
  with_reducible exact .fenceAck (.when (.done h) .fence)

theorem Kept.unfence {c : Nat} (h : Kept b s) : Kept b (s.unfence c) := by
  unfold State.unfence
  with_reducible exact .ite (.setCm (.set (.set h))) (.set h)

/-! ### Fabric rows -/

theorem Kept.runCopy {j : Job} (h : Kept b s) : Kept b (s.runCopy j) := by
  unfold State.runCopy
  with_reducible exact .launch h

theorem Kept.startCopy {j : Job} (h : Kept b s) : Kept b (s.startCopy j) := .startOr (.runCopy h) h

theorem Kept.takePut {m : Msg} (h : Kept b s) : Kept b (s.takePut m) := by
  unfold State.takePut
  with_reducible exact .ite (.freeReq (.send (.keepReq h))) (.setFab (.keepReq h))

theorem Kept.granuleUpdate {key : Nat} (h : Kept b s) : Kept b (s.granuleUpdate key) := by
  unfold State.granuleUpdate
  dsimp only
  split
  · with_reducible exact .foldl (fun _ _ h => .freeReq (.drop h)) h
  · with_reducible exact .addJob (.set (.setFab (.foldl (fun _ _ h => .freeReq (.drop h)) h)))

theorem Kept.engDone {e n : Nat} (h : Kept b s) : Kept b (s.engDone e n) := by
  unfold State.engDone
  with_reducible exact .ite (.set (.setFab h)) h

theorem Kept.takePutAck {m : Msg} (h : Kept b s) : Kept b (s.takePutAck m) := by
  unfold State.takePutAck
  dsimp only
  split
  · with_reducible exact .engDone (.endOut (.done h))
  · with_reducible exact .done h

theorem Kept.takeGet {m : Msg} (h : Kept b s) : Kept b (s.takeGet m) := .keepReq h

theorem Kept.takeGetData {m : Msg} (h : Kept b s) : Kept b (s.takeGetData m) := by
  unfold State.takeGetData
  dsimp only
  split
  · split
    · with_reducible exact .unless (.engDone (.endOut (.done h))) .setJob
    · exact .engDone (.endOut (.done h))
  · exact .done h

theorem Kept.takeGenAck {m : Msg} (h : Kept b s) : Kept b (s.takeGenAck m) := by
  unfold State.takeGenAck
  dsimp only
  split
  · with_reducible exact .endOut (.setCx (.done h))
  · with_reducible exact .setCx (.done h)

theorem Kept.takeDrop {m : Msg} (h : Kept b s) : Kept b (s.takeDrop m) := by
  unfold State.takeDrop
  dsimp only
  split
  · with_reducible refine .endOut ?_
    split
    · with_reducible exact .unless (.done h) .endCmd
    · with_reducible exact .done h
  · with_reducible exact .done h

theorem Kept.lanesOut (h : Kept b s) : Kept b s.lanesOut := by
  unfold State.lanesOut
  with_reducible exact .foldl (fun _ _ h => .ite (.ite (.set h) h) (.ite (.set (.set (.set h))) h)) h

theorem Kept.laneRebuild (h : Kept b s) : Kept b s.laneRebuild := by
  unfold State.laneRebuild
  with_reducible exact .syncLanes (.setFab (.set (.foldl (fun _ _ h => .set (.set (.set h))) (.lanesOut h))))

/-! ### Update rows -/

theorem Kept.normEnd {j : Job} {gn : Num} (h : Kept b s) : Kept b (s.normEnd j gn) := by
  unfold State.normEnd
  with_reducible exact .advance (.tickDone (.post (.ite (.satInc h) (.satInc h))))

theorem Kept.updRun {j : Job} (h : Kept b s) : Kept b (s.updRun j) := by
  unfold State.updRun
  with_reducible exact .launch (.setCm h)

theorem Kept.runUpdate {j : Job} (h : Kept b s) : Kept b (s.runUpdate j) := by
  unfold State.runUpdate
  with_reducible exact .ite (.normEnd h) (.updRun h)

theorem Kept.startUpdate {j : Job} (h : Kept b s) : Kept b (s.startUpdate j) := .startOr (.runUpdate h) h

theorem Kept.refreshRun {j : Job} (h : Kept b s) : Kept b (s.refreshRun j) := by
  unfold State.refreshRun
  with_reducible exact .launch (.setCm h)

theorem Kept.runPrecond {j : Job} (h : Kept b s) : Kept b (s.runPrecond j) := .refreshRun h
theorem Kept.startPrecond {j : Job} (h : Kept b s) : Kept b (s.startPrecond j) := .startOr (.runPrecond h) h

/-! ### Team rows -/

theorem Kept.formFail {c : Nat} (h : Kept b s) : Kept b (s.formFail c) := .set (.dissolve h)

theorem Kept.judge {c : Nat} (h : Kept b s) : Kept b (s.judge c) := by
  unfold State.judge
  with_reducible exact .ite (.formFail h) (.ite (.announceTeam (.setTm (.set h))) h)

theorem Kept.sendForms {c : Nat} (h : Kept b s) : Kept b (s.sendForms c) := by
  unfold State.sendForms
  with_reducible exact .foldl (fun _ _ h => .ite h (.send h)) h

theorem Kept.form {c : Nat} (h : Kept b s) : Kept b (s.form c) := by
  unfold State.form
  with_reducible exact .ite h (.ite (.set h) (.judge (.sendForms (.syncTeam (.set (.setTm h))))))

theorem Kept.takeForm {m : Msg} (h : Kept b s) : Kept b (s.takeForm m) := by
  unfold State.takeForm
  with_reducible exact .unless (.done h) (fun h => .ite (.setTm h) (.ite (.judge (.setTm h)) h))

theorem Kept.teamApply {c : Nat} (h : Kept b s) : Kept b (s.teamApply c) := .ite h (.ite (.set h) (.set (.setTm h)))

theorem Kept.takeApply {c : Nat} {v : TeamVals} (h : Kept b s) : Kept b (s.takeApply c v) := by
  unfold State.takeApply
  with_reducible exact .foldl (fun _ _ => .setStb) (.when (.announceTeam (.syncTeam (.set (.set (.setTm (.upd
    (.rebuildFail (.cutTeamWork (.foldl (fun _ _ => .endCmd) (.failInterval h)))) rfl rfl)))))) (fun h => .foldl
    (fun _ _ => .set) h))

theorem Kept.teamDissolve {c : Nat} (h : Kept b s) : Kept b (s.teamDissolve c) :=
  .ite h (.ite (.setTm h) (.dissolve h))

theorem Kept.takeDelta {m : Msg} (h : Kept b s) : Kept b (s.takeDelta m) := by
  unfold State.takeDelta
  with_reducible exact .when (.keepReq h) .satInc

theorem Kept.takeFragAck {m : Msg} (h : Kept b s) : Kept b (s.takeFragAck m) := by
  unfold State.takeFragAck
  dsimp only
  split
  · with_reducible exact .endOut (.done h)
  · with_reducible exact .done h

theorem Kept.dropWork {o : FabOut} {status : Nat} (h : Kept b s) : Kept b (s.dropWork o status) := by
  unfold State.dropWork
  with_reducible refine .ite (.ite (.failInterval h) h) ?_
  split
  · with_reducible refine .ite h (.ite ?_ (.ite (.setJob h) ?_))
    · split
      · with_reducible exact .endCmd h
      · with_reducible exact .setJob h
    · split
      · with_reducible exact .setJob h
      · with_reducible exact .ite (.rebuildFail (.satInc h)) (.rebuildFail h)
      · exact h
  · exact h

theorem Kept.forgetFetches {j stripe : Nat} (h : Kept b s) : Kept b (s.forgetFetches j stripe) := .setFab h

theorem Kept.takeFragDrop {m : Msg} (h : Kept b s) : Kept b (s.takeFragDrop m) := by
  unfold State.takeFragDrop
  dsimp only
  split
  · split
    · with_reducible exact .when (.dropWork (.endOut (.when (.done h) .observe))) .forgetFetches
    · with_reducible exact .dropWork (.endOut (.when (.done h) .observe))
  · exact .done h

theorem Kept.takeFetch {m : Msg} (h : Kept b s) : Kept b (s.takeFetch m) := by
  unfold State.takeFetch
  with_reducible exact .ite (.done (.drop h)) (.ite (.done (.drop h)) (.addJob (.keepReq h)))

theorem Kept.auditStripe {j : Job} {stripe : Nat} (h : Kept b s) : Kept b (s.auditStripe j stripe).1 := by
  unfold State.auditStripe
  with_reducible exact .iteFst (.wrapInc h) (.satInc (.wrapInc h))

theorem Kept.auditData {j : Job} {m : Msg} {i stripe : Nat} (h : Kept b s) : Kept b (s.auditData j m i stripe) := by
  unfold State.auditData
  with_reducible exact .ite (.setJob h) (.ite (.ite (.setJob h) (.setJob h)) (.setJob (.auditStripe h)))

theorem Kept.fetchedAudit {o : FabOut} {m : Msg} (h : Kept b s) : Kept b (s.fetchedAudit o m) := by
  unfold State.fetchedAudit
  split
  · with_reducible exact .ite (.auditData h) h
  · exact h

theorem Kept.runAudit {j : Job} (h : Kept b s) : Kept b (s.runAudit j) := by
  unfold State.runAudit
  with_reducible exact .launch h

theorem Kept.startAudit {j : Job} (h : Kept b s) : Kept b (s.startAudit j) := .startOr (.runAudit h) h

theorem Kept.takeNotice {m : Msg} (h : Kept b s) : Kept b (s.takeNotice m) := by
  unfold State.takeNotice
  with_reducible exact .unless (.done h) (fun h => .ite (.setStb h) (.setStb h))

/-! ### Recovery rows -/

theorem Kept.runDrain {j : Job} (h : Kept b s) : Kept b (s.runDrain j) := by
  unfold State.runDrain
  with_reducible exact .ite (.launch h) (.launch (.ite (.set (.setLog h)) h))

theorem Kept.startDrain {j : Job} (h : Kept b s) : Kept b (s.startDrain j) := .startOr (.runDrain h) h

theorem Kept.runImport {j : Job} (h : Kept b s) : Kept b (s.runImport j) := by
  unfold State.runImport
  with_reducible exact .launch h

theorem Kept.startImport {j : Job} (h : Kept b s) : Kept b (s.startImport j) := .startOr (.runImport h) h

theorem Kept.carry {d c : Nat} (h : Kept b s) : Kept b (s.carry d c) := by
  unfold State.carry
  with_reducible exact .foldl (fun _ _ => .set) (.foldl (fun _ _ h => .set (.set (.set h)))
    (.foldl (fun _ _ h => .set (.set (.set (.set (.set (.set (.set (.set (.set (.set (.set (.set h)))))))))))) h))

theorem Kept.runJobLoad {j : Job} (h : Kept b s) : Kept b (s.runJobLoad j) := by
  unfold State.runJobLoad
  with_reducible exact .ite (.instant (.carry h)) (.ite (.launch h) (.launch h))

theorem Kept.startJobLoad {j : Job} (h : Kept b s) : Kept b (s.startJobLoad j) := .startOr (.runJobLoad h) h

/-- A change of the running work only. -/
theorem Kept.withJobs {l : List Job} (h : Kept b s) : Kept b { s with jobs := l } := ⟨h.regs, h.meter⟩

theorem Kept.takeBcast {m : Msg} (h : Kept b s) : Kept b (s.takeBcast m) := by
  unfold State.takeBcast
  with_reducible refine .withJobs ?_
  split
  · exact .foldl (fun _ _ => .send) (.done h)
  · exact .done h

theorem Kept.mergeReport {m : Msg} (h : Kept b s) : Kept b (s.mergeReport m) := by
  unfold State.mergeReport
  with_reducible refine .ite h ?_
  split
  · with_reducible exact .set (.satInc (.satInc h))
  · split
    · with_reducible exact .irq (.wrapInc (.set (.set (.set (.set (.set (.set h)))))))
    · with_reducible exact .satInc h

theorem Kept.takeReport {m : Msg} (h : Kept b s) : Kept b (s.takeReport m) :=
  .ite (.setRec h) (.done (.mergeReport h))

theorem Kept.staleChan {n j : Nat} (h : Kept b s) : Kept b (s.staleChan n j) := by
  unfold State.staleChan
  with_reducible exact .emit (.setChan (.set (.setMem h)))

theorem Kept.healChans (h : Kept b s) : Kept b s.healChans := .setMem (.foldl (fun _ _ => .setChan) h)

theorem Kept.rebuildJoin {c : Nat} (h : Kept b s) : Kept b (s.rebuildJoin c) := by
  unfold State.rebuildJoin
  with_reducible exact .ite h (.ite (.announceTeam (.syncTeam (.set (.setTm h)))) (.set h))

theorem Kept.rebuildStart {c : Nat} (h : Kept b s) : Kept b (s.rebuildStart c) := by
  unfold State.rebuildStart
  with_reducible exact .ite h (.ite (.rebuildFail (.setRec (.set (.set (.set (.set (.set (.set h)))))))) (.addJob
    (.setRec (.set (.set (.set (.set (.set (.set h)))))))))

theorem Kept.rebuildWrite {c : Nat} {m : Msg} (h : Kept b s) : Kept b (s.rebuildWrite c m) := by
  unfold State.rebuildWrite
  with_reducible exact .addJob h

theorem Kept.rebuildData {c : Nat} {m : Msg} (h : Kept b s) : Kept b (s.rebuildData c m) := by
  unfold State.rebuildData
  split
  · with_reducible exact .ite (.rebuildWrite h) (.rebuildFail h)
  · with_reducible exact .rebuildWrite (.set (.setRec h))

theorem Kept.decodeData {j : Job} {m : Msg} {i : Nat} (h : Kept b s) : Kept b (s.decodeData j m i) := by
  unfold State.decodeData
  with_reducible exact .setJob h

theorem Kept.takeFetchData {m : Msg} (h : Kept b s) : Kept b (s.takeFetchData m) := by
  unfold State.takeFetchData
  dsimp only
  split
  · split
    · with_reducible refine .ite (.endOut (.done h)) ?_
      split
      · exact .rebuildData (.endOut (.done h))
      · exact .decodeData (.endOut (.done h))
      · exact .fetchedAudit (.endOut (.done h))
    · exact .endOut (.done h)
  · exact .done h

theorem Kept.bind {c : Nat} {v : W64} (h : Kept b s) : Kept b (s.bind c v) := by
  unfold State.bind
  with_reducible exact .unless (.set h) (fun h => .ite (.set h) (.addJob (.set h)))

/-! ### Reset pin, temperature and test wrapper -/

theorem Kept.codeWins {code : Nat} (h : Kept b s) : Kept b (s.codeWins code) :=
  .foldl (fun _ _ h => .ite (.setWin h) h) h

theorem Kept.driveWrapper (h : Kept b s) : Kept b s.driveWrapper := .emit h

theorem Kept.leaveTest (h : Kept b s) : Kept b s.leaveTest :=
  .ite h (.ite (.driveWrapper (.upd h rfl rfl)) (.driveWrapper (.blockReset (.upd h rfl rfl))))

/-! ### The meter -/

theorem Kept.meterFrame {base : Nat} {data : List Byte} (h : Kept b s) : Kept b (s.meterFrame base data) :=
  .ite (.emit h) h

theorem Kept.meterEmcy {code : Nat} (h : Kept b s) : Kept b (s.meterEmcy code) := by
  unfold State.meterEmcy
  with_reducible exact .ite h (.emit h)

theorem Kept.meterFault {n : Nat} (h : Kept b s) : Kept b (s.meterFault n) :=
  .ite h (.meterEmcy (.setMeter s.meter.keepsSeal_refl h))

theorem Kept.meterClear {n : Nat} (h : Kept b s) : Kept b (s.meterClear n) := by
  have hc : Kept b (s.setMeter { s.meter with faults := s.meter.faults - 2 ^ n }) :=
    .setMeter s.meter.keepsSeal_refl h
  exact .ite (.ite (.meterEmcy hc) hc) h

theorem Kept.mirror (h : Kept b s) : Kept b s.mirror := by
  unfold State.mirror
  with_reducible exact .ite h (.set (.set (.foldl (fun _ _ => .set) (.set (.set (.set (.set (.set (.set (.set (.set
    (.set (.set (.set (.ite h (.irq h))))))))))))))))

theorem Kept.meterSend {k : Nat} (h : Kept b s) : Kept b (s.meterSend k) := .ite (.meterFrame h) h

theorem Kept.startBurn {seg : Bool} {fuse : Nat} (h : Kept b s) : Kept b (s.startBurn seg fuse) :=
  .emit (.setMeter s.meter.keepsSeal_refl h)

theorem Kept.meterBoot (h : Kept b s) : Kept b s.meterBoot :=
  .mirror (.meterFrame (.setMeter s.meter.keepsSeal_refl h))

theorem Kept.segFull (h : Kept b s) : Kept b s.segFull := .meterBoot (.meterFault h)

theorem Kept.odoCheck (h : Kept b s) : Kept b s.odoCheck := by
  unfold State.odoCheck
  with_reducible refine .ite h ?_
  split
  · with_reducible exact .startBurn h
  · with_reducible exact .meterFault h

/-- A start-up keeps the fuses: the seal, the banks, the node-id and each row's value. -/
theorem Kept.meterStart {crc : Nat} (h : Kept b s) : Kept b (s.meterStart crc) := by
  unfold State.meterStart
  extract_lets m odo seg u
  have hu : Kept b u := .setMeter m.keepsSeal_refl h
  refine .ite (.mirror (.meterFault (.setMeter u.meter.keepsSeal_refl hu))) (.ite (.meterBoot hu) ?_)
  split
  · exact .startBurn hu
  · exact .segFull hu

/-- A fuse blown raises its row's value; one given up leaves it (R455, R456, R460). -/
theorem FuseRow.value_le_blow (r : FuseRow) (x : Nat) : r.value ≤ (r.blow x).value := by
  unfold FuseRow.blow FuseRow.value
  split
  · dsimp only; omega
  · have := List.length_filter_le (fun y => decide (y ≠ x)) r.bad
    dsimp only; omega

theorem FuseRow.value_le_skip (r : FuseRow) (x : Nat) : r.value ≤ (r.skip x).value := by
  unfold FuseRow.skip FuseRow.value
  split
  · simp only [List.length_append, List.length_cons, List.length_nil]; omega
  · exact le_rfl

theorem Kept.cutBurn (h : Kept b s) : Kept b s.cutBurn := by
  unfold State.cutBurn
  split
  next seg f n e =>
    have hf : Kept b (s.fresh 1).1 := .fresh h
    refine .ite (.ite (.setMeter ?_ hf) (.setMeter ?_ hf)) hf
    · exact fun hs => ⟨hs, rfl, rfl, rfl, rfl, le_rfl, FuseRow.value_le_blow _ _⟩
    · exact fun hs => ⟨hs, rfl, rfl, rfl, rfl, FuseRow.value_le_blow _ _, le_rfl⟩
  · exact h

theorem Kept.meterReply {index sub abort : Nat} (h : Kept b s) : Kept b (s.meterReply index sub abort) :=
  .ite (.emit h) h

/-- A write that a sealed meter refuses needs to keep nothing but the registers' order on an unsealed one. -/
theorem Kept.meterWrite {index sub : Nat} {go : State} (hg : s.meter.sealed = false → Kept b go) (h : Kept b s) :
    Kept b (s.meterWrite index sub go) := by
  unfold State.meterWrite
  split
  · exact h
  · split
    · exact .meterReply h
    next hs => exact hg (by simpa using hs)

/-! ### The dictionary -/

theorem Kept.fwActivate (h : Kept b s) : Kept b s.fwActivate := .ite (.setMgmt (.set (.set h))) h

theorem Kept.dictWrite {index sub : Nat} {data : List Byte} {mailbox : Bool} (h : Kept b s) :
    Kept b (s.dictWrite index sub data mailbox).2 := by
  unfold State.dictWrite
  dsimp only
  repeat' apply iteSnd
  all_goals first | exact h | exact .setMgmt h | exact .when h .fwActivate

theorem Kept.fwUnstage (h : Kept b s) : Kept b s.fwUnstage := by
  unfold State.fwUnstage
  with_reducible exact .setMgmt (.set (.set (.set h)))

/-! ### Management rows -/

theorem Kept.busJoin (h : Kept b s) : Kept b s.busJoin := by
  unfold State.busJoin
  with_reducible exact .canSend0 (.setMgmt (.set h))

theorem Kept.busLeave (h : Kept b s) : Kept b s.busLeave := .emit (.setMgmt (.set h))

theorem Kept.nmtCommReset (h : Kept b s) : Kept b s.nmtCommReset := by
  unfold State.nmtCommReset
  with_reducible exact .busJoin (.setMgmt h)

theorem Kept.nmtGo {n : Nat} (h : Kept b s) : Kept b (s.nmtGo n) := .ite (.set (.canReceived h)) h

theorem Kept.usdoReply {index sub abort : Nat} {data : List Byte} (h : Kept b s) :
    Kept b (s.usdoReply index sub abort data) :=
  .emit h

theorem Kept.usdoRead {index sub : Nat} (h : Kept b s) : Kept b (s.usdoRead index sub) := by
  unfold State.usdoRead
  split
  · with_reducible exact .usdoReply h
  · with_reducible exact .ite (.usdoReply h) (.usdoReply (.setMgmt h))

theorem Kept.usdoWrite {index sub : Nat} {data : List Byte} (h : Kept b s) : Kept b (s.usdoWrite index sub data) := by
  unfold State.usdoWrite
  with_reducible exact .usdoReply (.dictWrite h)

theorem Kept.usdoBegin {index sub n : Nat} (h : Kept b s) : Kept b (s.usdoBegin index sub n) := by
  unfold State.usdoBegin
  with_reducible exact .ite (.usdoReply h) (.usdoReply (.setMgmt h))

theorem Kept.usdoSegIn {x : Session} {data : List Byte} {last : Bool} (h : Kept b s) :
    Kept b (s.usdoSegIn x data last) := by
  unfold State.usdoSegIn
  with_reducible exact .ite (.usdoReply (.setMgmt h)) (.ite (.usdoReply (.setMgmt h)) (.usdoWrite (.setMgmt h)))

theorem Kept.usdoSegOut {x : Session} (h : Kept b s) : Kept b (s.usdoSegOut x) := by
  unfold State.usdoSegOut
  with_reducible exact .usdoReply (.setMgmt h)

theorem Kept.usdoInit {index sub : Nat} {go : State} (hg : Kept b go) (h : Kept b s) :
    Kept b (s.usdoInit index sub go) :=
  .ite (.usdoReply h) hg

theorem Kept.heartbeatFrame (h : Kept b s) : Kept b s.heartbeatFrame := by
  unfold State.heartbeatFrame
  with_reducible exact .canSend0 h

theorem Kept.mbxEnd {abort len : Nat} (h : Kept b s) : Kept b (s.mbxEnd abort len) := by
  unfold State.mbxEnd
  with_reducible exact .irq (.set (.set (.set (.set (.set h)))))

theorem Kept.mbxPut {d : List Byte} (h : Kept b s) : Kept b (s.mbxPut d) := by
  unfold State.mbxPut
  with_reducible exact .foldl (fun _ _ => .set) h

theorem Kept.mbxRead {index sub len off : Nat} (h : Kept b s) : Kept b (s.mbxRead index sub len off) := by
  unfold State.mbxRead
  split
  · with_reducible exact .mbxEnd h
  · with_reducible exact .ite (.mbxEnd (.mbxPut h)) (.ite (.ite (.mbxEnd (.mbxPut h)) (.mbxEnd h)) (.ite (.mbxEnd
      (.mbxPut h)) (.mbxEnd h)))

theorem Kept.fwBegin (h : Kept b s) : Kept b s.fwBegin := by
  unfold State.fwBegin
  with_reducible exact (.when (.fwRelease (.fwUnstage (.irq (.set (.set (.when (.set (.set
    (.set h))) .set)))))) .busJoin)

theorem Kept.fwGone (h : Kept b s) : Kept b s.fwGone := by
  unfold State.fwGone
  with_reducible exact .unless (.setMgmt (.when (.set (.set (.set (.set h)))) .set)) .busLeave

theorem Kept.fwReload {image : List Byte} (h : Kept b s) : Kept b (s.fwReload image) := by
  unfold State.fwReload
  split
  · with_reducible exact .ite (.set h) (.fwGone h)
  · exact h

/-! ### Collective rows -/

theorem Kept.gsLaunch {j : Job} {refs : List Nat} (h : Kept b s) : Kept b (s.gsLaunch j refs) := by
  unfold State.gsLaunch
  with_reducible exact .launch (.wrapInc (.set (.setCx h)))

theorem Kept.runCollective {j : Job} (h : Kept b s) : Kept b (s.runCollective j) := by
  unfold State.runCollective
  with_reducible exact .gsLaunch h

theorem Kept.startCollective {j : Job} (h : Kept b s) : Kept b (s.startCollective j) := .startOr (.runCollective h) h

theorem Kept.runNorm {j : Job} (h : Kept b s) : Kept b (s.runNorm j) := by
  unfold State.runNorm
  with_reducible exact .gsLaunch (.ite (.set h) h)

theorem Kept.startNorm {j : Job} (h : Kept b s) : Kept b (s.startNorm j) := .startOr (.runNorm h) h

theorem Kept.admitTile {j : Job} {n : Nat} (h : Kept b s) : Kept b (s.admitTile j n) := by
  unfold State.admitTile
  with_reducible exact .when (.gsSendAll (.setJob (.set (.countLate h)))) (fun h => .setJob (.fixSplits h))

theorem Kept.overclaim {j : Job} {t' : Nat} (h : Kept b s) : Kept b (s.overclaim j t') := .endCmd (.satInc h)
theorem Kept.gsAbort {j : Job} {status : Nat} (h : Kept b s) : Kept b (s.gsAbort j status) := .endCmd h

theorem Kept.gsTake {go : State → Job → Msg → State} {m : Msg} (hg : ∀ t j, Kept b t → Kept b (go t j m))
    (h : Kept b s) : Kept b (State.gsTake go s m) := by
  unfold State.gsTake
  dsimp only
  split
  · exact hg _ _ (.done h)
  · exact .done h

theorem Kept.putRes {j : Job} {x : GsTile} {m : Msg} (h : Kept b s) : Kept b (s.putRes j x m) := by
  unfold State.putRes
  with_reducible exact .setJob h

theorem Kept.takeEarly {j : Job} {t' : Nat} (h : Kept b s) : Kept b (s.takeEarly j t') := by
  unfold State.takeEarly
  split
  · with_reducible exact .putRes (.done h)
  · exact h

theorem Kept.takeDesc {j : Job} {m : Msg} (h : Kept b s) : Kept b (s.takeDesc j m) := by
  unfold State.takeDesc
  with_reducible refine .ite (.ite (.setJob (.gsSendAll h)) h) ?_
  split
  · with_reducible exact .ite (.overclaim h) (.setJob h)
  · with_reducible exact .overclaim h

theorem Kept.takeRec {j : Job} {m : Msg} (h : Kept b s) : Kept b (s.takeRec j m) := by
  unfold State.takeRec
  dsimp only
  split
  · with_reducible exact .ite (.overclaim h) (.ite (.gsAbort h) (.setJob h))
  · with_reducible exact .overclaim h

theorem Kept.takeHdr {j : Job} {m : Msg} (h : Kept b s) : Kept b (s.takeHdr j m) := by
  unfold State.takeHdr
  dsimp only
  split
  · with_reducible exact .ite (.ite (.gsAbort h) (.setJob (.gsSendAll h))) h
  · exact h

theorem Kept.takePart {j : Job} {m : Msg} (h : Kept b s) : Kept b (s.takePart j m) := by
  unfold State.takePart
  dsimp only
  split
  · with_reducible exact .ite (.overclaim h) (.ite (.gsAbort h) (.setJob (.gsAck h)))
  · with_reducible exact .overclaim h

theorem Kept.takeRes {m : Msg} (h : Kept b s) : Kept b (s.takeRes m) := by
  unfold State.takeRes
  split
  · split
    · with_reducible exact .ite (.ite (.gsAbort (.done h)) (.putRes (.done h))) (.done h)
    · with_reducible exact .ite (.ite (.gsAbort (.done h)) (.setJob h)) (.done h)
  · with_reducible exact .done h

theorem Kept.takeCredit {j : Job} {m : Msg} (h : Kept b s) : Kept b (s.takeCredit j m) := .ite (.setJob h) h
theorem Kept.takeAck {j : Job} {m : Msg} (h : Kept b s) : Kept b (s.takeAck j m) := .ite (.setJob h) h

theorem Kept.takeSplit {j : Job} {m : Msg} (h : Kept b s) : Kept b (s.takeSplit j m) := by
  unfold State.takeSplit
  with_reducible exact .ite h (.setJob (.countLate (.foldl (fun _ _ => .gsSendAll) h)))

theorem Kept.takeSplitrep {j : Job} {m : Msg} (h : Kept b s) : Kept b (s.takeSplitrep j m) := .ite (.setJob h) h
theorem Kept.takeGsAbort {j : Job} {m : Msg} (h : Kept b s) : Kept b (s.takeGsAbort j m) := .gsAbort h

theorem Kept.writeGroup {c g v : Nat} (h : Kept b s) : Kept b (s.writeGroup c g v) := by
  unfold State.writeGroup
  with_reducible exact .ite h (.ite (.set h) (.set (.set (.set (.set h)))))

theorem Kept.fillGroup {c g : Nat} (h : Kept b s) : Kept b (s.fillGroup c g) := by
  unfold State.fillGroup
  with_reducible exact .set (.set (.set (.set h)))

theorem Kept.validateGroup {c g valid : Nat} (h : Kept b s) : Kept b (s.validateGroup c g valid) :=
  .ite h (.ite (.ite (.set h) (.set h)) (.ite (.fillGroup (.set h)) (.set h)))

theorem Kept.substWrite {c : Nat} (h : Kept b s) : Kept b (s.substWrite c) :=
  .foldl (fun _ _ h => .ite (.fillGroup h) h) h

/-! ### Integrity rows -/

theorem Kept.runScrub {j : Job} (h : Kept b s) : Kept b (s.runScrub j) := by
  unfold State.runScrub
  with_reducible exact .launch h

theorem Kept.startScrub {j : Job} (h : Kept b s) : Kept b (s.startScrub j) := .startOr (.runScrub h) h

theorem Kept.runDigest {j : Job} (h : Kept b s) : Kept b (s.runDigest j) := by
  unfold State.runDigest
  with_reducible exact .gsLaunch h

theorem Kept.startDigest {j : Job} (h : Kept b s) : Kept b (s.startDigest j) := .startOr (.runDigest h) h

theorem Kept.putWinFields {c w v : Nat} (h : Kept b s) : Kept b (s.putWinFields c w v) := by
  unfold State.putWinFields
  with_reducible exact .set (.set (.set (.set (.set (.set h)))))

theorem Kept.windowWrite {c w v : Nat} (h : Kept b s) : Kept b (s.windowWrite c w v) := by
  unfold State.windowWrite
  with_reducible exact .ite (.set (.unless (.ite (.set h) h) (fun h => .ite (.set h) (.putWinFields h)))) (.unless
    (.unless (.ite (.set h) h) (fun h => .ite (.set h) (.putWinFields h))) (fun h => .ite (.setWin (.set h))
    (.set h)))

theorem Kept.parityCommand {c q e : Nat} (h : Kept b s) : Kept b (s.parityCommand c q e) := by
  unfold State.parityCommand
  split
  · with_reducible exact .ite (.setJob h) (.endCmd h)
  · exact h

theorem Kept.freeInbound {i : Nat} (h : Kept b s) : Kept b (s.freeInbound i) := by
  unfold State.freeInbound
  with_reducible exact .ite (.dec (.set (.set (.set (.set (.set (.set h))))))) h

theorem Kept.parityAct {site : ParitySite} (h : Kept b s) : Kept b (s.parityAct site) := by
  unfold State.parityAct
  split
  · with_reducible exact .parityCommand h
  · with_reducible exact .leave (.satInc h)
  · with_reducible exact .fieldBusy h
  · with_reducible exact .foldl (fun _ _ h => .ite h (.failInterval h)) h
  · with_reducible exact .set (.setMem h)
  · with_reducible exact .setRec h
  · split
    · with_reducible exact .setReps h
    · exact h
  · with_reducible exact .freeInbound h
  · exact h

/-! ### Starts by opcode -/

theorem Kept.startAny {j : Job} (h : Kept b s) : Kept b (s.startAny j) := by
  unfold State.startAny
  with_reducible exact .ite (.startNop h) (.ite (.startWaitHall h) (.ite (.startRegionCopy h) (.ite
    (.startStableLoad h) (.ite (.startStableEvict h) (.ite (.startUpdate h) (.ite (.startPrecond h) (.ite
    (.startCopy h) (.ite (.startCopy h) (.ite (.startCollective h) (.ite (.startNorm h) (.ite (.startStepEnd h) (.ite
    (.startAudit h) (.ite (.startScrub h) (.ite (.startDigest h) (.ite (.startJobLoad h) (.ite (.startImport h)
    (.startDrain h)))))))))))))))))

/-! ### Memory rows -/

theorem Kept.collAcked (h : Kept b s) : Kept b s.collAcked := by
  unfold State.collAcked
  split
  · with_reducible exact .ite (.set h) h
  · exact h

theorem Kept.answered {id : Nat} {f : Job → Job} (h : Kept b s) : Kept b (s.answered id f) := by
  unfold State.answered
  split
  · with_reducible exact .setJob h
  · exact h

theorem Kept.setReq {n j : Nat} {b' : Bool} (h : Kept b s) : Kept b (s.setReq n j b') := by
  unfold State.setReq
  with_reducible exact .set h

theorem Kept.endGrant {n j : Nat} (h : Kept b s) : Kept b (s.endGrant n j) := by
  unfold State.endGrant
  with_reducible exact .ite (.emit (.setReq (.set (.setMem h)))) h

theorem Kept.mendDone {n j : Nat} (h : Kept b s) : Kept b (s.mendDone n j) := by
  unfold State.mendDone
  with_reducible exact .ite (.emit (.setChan h)) h

theorem Kept.openMend {n j : Nat} (h : Kept b s) : Kept b (s.openMend n j) := by
  unfold State.openMend
  with_reducible exact .ite (.set (.setMem h)) h

theorem Kept.clearRgn {n : Nat} (h : Kept b s) : Kept b (s.clearRgn n) := .ite (.set h) (.ite (.freeRgn h) (.set h))

theorem Kept.putRgn {n : Nat} {v : W64} (h : Kept b s) : Kept b (s.putRgn n v) := by
  unfold State.putRgn
  with_reducible exact .when (.set (.set (.set (.set (.set (.set (.set (.set h)))))))) .rtu

theorem Kept.rgnWrite {n : Nat} {v : W64} (h : Kept b s) : Kept b (s.rgnWrite n v) := by
  unfold State.rgnWrite
  with_reducible exact .ite (.unless (.ite h (.set h)) .clearRgn) (.unless (.putRgn h) (fun h => .ite (.unless (.rtu
    (.set (.set (.set (.set h))))) .syncTeam) (.set h)))

/-! ### Tick rows -/

theorem Kept.syncSkew (h : Kept b s) : Kept b s.syncSkew := .set h

theorem Kept.tickOff {c : Nat} (h : Kept b s) : Kept b (s.tickOff c) := by
  unfold State.tickOff
  with_reducible exact .showDebt (.setTk (.set (.upd h rfl rfl)))

theorem Kept.tickOn {c : Nat} (h : Kept b s) : Kept b (s.tickOn c) := by
  unfold State.tickOn
  with_reducible exact .setTk (.set (.set h))

theorem Kept.tickCfg {c : Nat} {v : W64} (h : Kept b s) : Kept b (s.tickCfg c v) := by
  unfold State.tickCfg
  with_reducible exact .ite (.when (.set h) .setTk) (.ite (.set (.tickOff (.set h))) (.ite (.setTk (.set h)) (.tickOn
    (.set h))))

theorem Kept.tickStart {c : Nat} (h : Kept b s) : Kept b (s.tickStart c) := by
  unfold State.tickStart
  with_reducible exact .when (.upd (.showDebt (.set (.set (.setTk h)))) rfl rfl) (fun h => .emcy (.irq (.set h)))

theorem Kept.boundary {c : Nat} (h : Kept b s) : Kept b (s.boundary c) := by
  unfold State.boundary
  with_reducible exact .setYoke (.setFab (.ite (.tickOff h) (.tickStart h)))

/-! ### Yoke rows -/

theorem Kept.yokeResult {mismatch : Option (Fin 130 × Fin 130)} (h : Kept b s) : Kept b (s.yokeResult mismatch) := by
  unfold State.yokeResult
  with_reducible refine .irq ?_
  split
  · with_reducible exact .set (.set (.set (.set h)))
  · with_reducible exact .suspect (.set (.set (.set (.set h))))

theorem Kept.yokeMap (h : Kept b s) : Kept b s.yokeMap := by
  unfold State.yokeMap
  with_reducible exact .when (.unless (.set (.satInc (.setB (.setB (.set (.set h)))))) .irq) .emcy

/-! ### Register accesses -/

theorem Kept.ringWrite {req off : Nat} {wide : Bool} {v : Nat} (h : Kept b s) :
    Kept b (s.ringWrite req off wide v) := by
  unfold State.ringWrite
  with_reducible exact .ite h (.unless (.upd h rfl rfl) .setEnt)

theorem Kept.setErr {e : Option Loc} (h : Kept b s) : Kept b (s.setErr e) := by
  cases e with
  | none => exact h
  | some e => exact .set h

theorem Kept.writeFields {d : RegDef} {is : List Nat} {off v : Nat} (h : Kept b s) :
    Kept b (s.writeFields d is off v) := by
  unfold State.writeFields
  with_reducible exact .foldl (fun _ _ h => .ite h (.ite (.setErr h) (.ite (.setErr h) (.set h)))) (.foldl
    (fun _ _ h => .ite (.set h) h) h)

theorem Kept.validate {was : Bool} {valid err : Loc} {v : Nat} {ok : Bool} (h : Kept b s) :
    Kept b (s.validate was valid err v ok) :=
  .ite (.set h) (.ite (.set h) (.ite (.set h) (.set (.set h))))

theorem Kept.ruleWrite {d : RegDef} {is : List Nat} {off v c n : Nat} (h : Kept b s) :
    Kept b (s.ruleWrite d is off v c n) := by
  unfold State.ruleWrite
  with_reducible exact .validate (.writeFields h)

theorem Kept.segWrite {d : RegDef} {is : List Nat} {off v c n i : Nat} (h : Kept b s) :
    Kept b (s.segWrite d is off v c n i) := by
  unfold State.segWrite
  with_reducible exact .validate (.writeFields h)

theorem Kept.stepWrite {c : Nat} (h : Kept b t) : Kept b (s.stepWrite t c) := .unless h .openStep

theorem Kept.halfRead {req off : Nat} (h : Kept b s) : Kept b (s.halfRead req off) := by
  unfold State.halfRead
  dsimp only
  split
  · with_reducible refine .ite (.emit (.upd h rfl rfl)) (.ite (.emit (.upd (.upd h rfl rfl) rfl rfl)) ?_)
    split
    · with_reducible exact .emit (.upd (.upd h rfl rfl) rfl rfl)
    · with_reducible exact .emit (.upd h rfl rfl)
  · with_reducible exact .emit (.upd h rfl rfl)

theorem Kept.wholeRead {req off : Nat} (h : Kept b s) : Kept b (s.wholeRead req off) := by
  unfold State.wholeRead
  with_reducible exact .emit (.upd h rfl rfl)

/-! ### Meter rows -/

theorem MeterS.keepsSeal_publish (m : MeterS) (r : RecordS) : m.keepsSeal (m.publish r) := m.keepsSeal_refl

theorem Kept.recordWaited (h : Kept b s) : Kept b s.recordWaited := by
  unfold State.recordWaited
  split
  · exact .mirror (.setMeter (s.meter.keepsSeal_publish _) h)
  · exact h

theorem Kept.odoBlown {f : Nat} (h : Kept b s) : Kept b (s.odoBlown f) := by
  unfold State.odoBlown
  with_reducible refine .meterSend (.setMeter ?_ h)
  exact fun hs => ⟨hs, rfl, rfl, rfl, rfl, s.meter.odo.value_le_blow f, le_rfl⟩

theorem Kept.burnFailed {seg : Bool} {f : Nat} (h : Kept b s) : Kept b (s.burnFailed seg f) := by
  unfold State.burnFailed
  extract_lets m n u v
  have hn : s.meter.keepsSeal n := by
    intro hs
    cases seg
    · exact ⟨hs, rfl, rfl, rfl, rfl, s.meter.odo.value_le_skip f, le_rfl⟩
    · exact ⟨hs, rfl, rfl, rfl, rfl, le_rfl, s.meter.seg.value_le_skip f⟩
  have hu : Kept b u := .setMeter (hn.trans n.keepsSeal_refl) h
  have hv : Kept b v := .ite (.meterEmcy hu) (.meterFault hu)
  refine .ite ?_ hv
  split
  · exact .startBurn hv
  · exact .segFull hv

/-! ### Queue and slot commands: the commands -/

theorem KeptBy.fin (h : Kept b s) : KeptBy b (fin s) := .next (.after h)

theorem KeptBy.receiveAs {typ : Nat} {bytes : List Byte} {go : State → Msg → State} (hg : ∀ m, Kept b (go s m))
    (h : Kept b s) : KeptBy b (receiveAs typ bytes s go) := .ite (.fin (.receive hg h)) .fault

theorem KeptBy.nop {c : Ctx} {q : Que} (h : Kept b s) : KeptBy b (execNop c q s) :=
  .fin (.beginOp (fun _ => .startNop h) h)

theorem KeptBy.hallWaitDone {c : Ctx} {q : Que} {e : Ent} (h : Kept b s) : KeptBy b (execHallWaitDone c q e s) := by
  unfold Machine.execHallWaitDone
  split
  · split
    · with_reducible exact .ite (.fin (.finishCmd h)) (.next h)
    · with_reducible exact .next h
  · with_reducible exact .next h

theorem KeptBy.doorbell {c : Ctx} {q : Que} {tail : Fin 64} (h : Kept b s) : KeptBy b (execDoorbell c q tail s) :=
  .fin (.doorbell h)

theorem KeptBy.slotReadLatch {req : Nat} {c : Ctx} {q : Que} {e : Ent} {byte : Fin 16} {wide : Bool} (h : Kept b s) :
    KeptBy b (execSlotReadLatch req c q e byte wide s) := by
  unfold Machine.execSlotReadLatch
  with_reducible exact .ite (.next (.emit h)) (.next (.emit (.slotRead h)))

theorem KeptBy.fastIncrement {c : Ctx} {evt : Fin 32} {add : W32} (h : Kept b s) :
    KeptBy b (execFastIncrement c evt add s) :=
  .fin (.wrapInc h)

theorem KeptBy.commandTimeout {c : Ctx} {q : Que} {e : Ent} (h : Kept b s) :
    KeptBy b (execCommandTimeout c q e s) := by
  unfold Machine.execCommandTimeout
  split
  · with_reducible exact .ite (.fin (.timeoutJob h)) (.next h)
  · with_reducible exact .ite (.fin (.advance (.post h))) (.next h)

/-! ### Contexts: the commands -/

theorem KeptBy.contextStart {c : Ctx} (h : Kept b s) : KeptBy b (execContextStart c s) := .fin (.ctxStart h)
theorem KeptBy.contextHold {c : Ctx} (h : Kept b s) : KeptBy b (execContextHold c s) := .fin (.ctxHold h)
theorem KeptBy.contextResume {c : Ctx} (h : Kept b s) : KeptBy b (execContextResume c s) := .fin (.ctxResume h)

theorem KeptBy.preemptRelease {c : Ctx} (h : Kept b s) : KeptBy b (execPreemptRelease c s) := by
  unfold Machine.execPreemptRelease
  with_reducible exact .ite (.next h) (.ite (.fin (.ite (.setCx h) (.leaveHeld h))) (.ite (.fin (.setCx h))
    (.next h)))

theorem KeptBy.deferredHold {c : Ctx} (h : Kept b s) : KeptBy b (execDeferredHold c s) := by
  unfold Machine.execDeferredHold
  with_reducible exact .ite (.next h) (.ite (.fin (.setCx (.enterHeld h))) (.fin (.setCx h)))

theorem KeptBy.teardown {c : Ctx} (h : Kept b s) : KeptBy b (execTeardown c s) := .fin (.teardown h)

theorem KeptBy.teardownTimeout {c : Ctx} (h : Kept b s) : KeptBy b (execTeardownTimeout c s) := by
  unfold Machine.execTeardownTimeout
  with_reducible exact .ite (.next h) (.ite (.fin (.wedge h)) (.ite (.fin (.sendNotices h)) (.next h)))

theorem KeptBy.teardownNoticeTimeout {c : Ctx} (h : Kept b s) : KeptBy b (execTeardownNoticeTimeout c s) := by
  unfold Machine.execTeardownNoticeTimeout
  with_reducible exact .ite (.next h) (.fin (.setCx (.foldl (fun _ _ => .observe) h)))

theorem KeptBy.contextPurge {c : Ctx} (h : Kept b s) : KeptBy b (execContextPurge c s) := .fin (.purge h)

/-! ### Commit rows: the commands -/

theorem KeptBy.voteTimeout {c : Ctx} (h : Kept b s) : KeptBy b (execVoteTimeout c s) := by
  unfold Machine.execVoteTimeout
  with_reducible exact .ite (.fin (.conclude h)) (.next h)

theorem KeptBy.decisionQueryTimeout {c : Ctx} (h : Kept b s) : KeptBy b (execDecisionQueryTimeout c s) := by
  unfold Machine.execDecisionQueryTimeout
  with_reducible exact .ite (.fin (.satInc (.unless (.sendQuery (.setCm h)) .sendQuery))) (.next h)

theorem KeptBy.inDoubtTimeout {c : Ctx} (h : Kept b s) : KeptBy b (execInDoubtTimeout c s) := by
  unfold Machine.execInDoubtTimeout
  split
  · with_reducible exact .ite (.fin (.emcy (.irq (.satInc (.set h))))) (.next h)
  · with_reducible exact .next h

theorem KeptBy.novoteTimeout {c : Ctx} {off : Bool} {child : Nat} (h : Kept b s) :
    KeptBy b (execNovoteTimeout c off child s) := by
  unfold Machine.execNovoteTimeout
  with_reducible exact .ite (.fin (.observe (.setCm h))) (.next h)

theorem KeptBy.resolve {c : Ctx} (h : Kept b s) : KeptBy b (execResolve c s) := .fin (.resolve h)
theorem KeptBy.applyEpoch {c : Ctx} (h : Kept b s) : KeptBy b (execApplyEpoch c s) := .fin (.applyEpoch h)

theorem KeptBy.commitEpochEffect {c : Ctx} (h : Kept b s) : KeptBy b (execCommitEpochEffect c s) := by
  unfold Machine.execCommitEpochEffect
  split
  · with_reducible exact .ite (.next h) (.fin (.failInterval (.fresh (.setCm (.set h)))))
  · with_reducible exact .next h

theorem KeptBy.unfence {c : Ctx} (h : Kept b s) : KeptBy b (execUnfence c s) := .fin (.unfence h)

/-! ### Fabric rows: the commands -/

theorem KeptBy.inboundGranuleUpdate {n : Slice} {granule : Nat} (h : Kept b s) :
    KeptBy b (execInboundGranuleUpdate n granule s) := by
  unfold Machine.execInboundGranuleUpdate
  with_reducible exact .ite (.next h) (.fin (.granuleUpdate h))

theorem KeptBy.creditWord {link : Fin 19} {bytes : List Byte} (h : Kept b s) :
    KeptBy b (execCreditWord link bytes s) := by
  unfold Machine.execCreditWord
  with_reducible exact .ite .fault (.next (.setFab h))

theorem KeptBy.laneDown {p : Fin 18} (h : Kept b s) : KeptBy b (execLaneDown p s) := by
  unfold Machine.execLaneDown
  with_reducible exact (.ite (.fin (.syncLanes (.when (.setFab (.irq (.satInc (.set (.setFab h))))) .suspect))) (.fin
    (.setFab h)))

theorem KeptBy.laneUp {p : Fin 18} (h : Kept b s) : KeptBy b (execLaneUp p s) := by
  unfold Machine.execLaneUp
  with_reducible exact .fin (.creditWords (.when (.setFab h) (fun h => .set (.set (.set h)))))

theorem KeptBy.laneMapApply {v : W64} (h : Kept b s) : KeptBy b (execLaneMapApply v s) := by
  unfold Machine.execLaneMapApply
  with_reducible exact .fin (.when (.set h) (fun h => .setFab (.set h)))

theorem KeptBy.inqPeakClear (h : Kept b s) : KeptBy b (execInqPeakClear s) := .next (.set h)

/-! ### Team rows: the commands -/

theorem KeptBy.teamForm {c : Ctx} (h : Kept b s) : KeptBy b (execTeamForm c s) := .fin (.form h)

theorem KeptBy.form {bytes : List Byte} (h : Kept b s) : KeptBy b (execForm bytes s) :=
  .receiveAs (fun _ => .takeForm h) h

theorem KeptBy.teamApply {c : Ctx} (h : Kept b s) : KeptBy b (execTeamApply c s) := .fin (.teamApply h)

theorem KeptBy.teamApplyEffect {c : Ctx} (h : Kept b s) : KeptBy b (execTeamApplyEffect c s) := by
  unfold Machine.execTeamApplyEffect
  split
  · with_reducible exact .ite (.next h) (.fin (.takeApply h))
  · with_reducible exact .next h

theorem KeptBy.teamDissolve {c : Ctx} (h : Kept b s) : KeptBy b (execTeamDissolve c s) := .fin (.teamDissolve h)

theorem KeptBy.stableRecode {slot : Fin 16} (h : Kept b s) : KeptBy b (execStableRecode slot s) := by
  unfold Machine.execStableRecode
  with_reducible exact .ite (.fin (.addJob (.set h))) (.next h)

/-! ### Recovery rows: the commands -/

theorem KeptBy.broadcastWaitExpiry {c : Ctx} {q : Que} {e : Ent} (h : Kept b s) :
    KeptBy b (execBroadcastWaitExpiry c q e s) := by
  unfold Machine.execBroadcastWaitExpiry
  split
  · with_reducible exact .ite (.fin (.setJob h)) (.next h)
  · with_reducible exact .next h

theorem KeptBy.reportWindowEnd {subject : W16} {kind : Byte} (h : Kept b s) :
    KeptBy b (execReportWindowEnd subject kind s) := by
  unfold Machine.execReportWindowEnd
  split
  · with_reducible exact .ite (.fin (.closeRep h)) (.next h)
  · with_reducible exact .next h

theorem KeptBy.reportRelease {i : Fin 256} (h : Kept b s) : KeptBy b (execReportRelease i s) := by
  unfold Machine.execReportRelease
  with_reducible exact .ite (.next (.dec (.set (.set (.set (.set (.set (.set h)))))))) (.next h)

theorem KeptBy.watchdogKick (h : Kept b s) : KeptBy b (execWatchdogKick s) := .next (.setRec h)

theorem KeptBy.watchdogExpiry (h : Kept b s) : KeptBy b (execWatchdogExpiry s) := by
  unfold Machine.execWatchdogExpiry
  with_reducible refine .ite (.next h) ?_
  split
  · with_reducible exact .ite (.fin (.startColl h)) (.fin (.startColl h))
  · with_reducible exact .fin (.startColl h)

theorem KeptBy.sequencerRestart (h : Kept b s) : KeptBy b (execSequencerRestart s) :=
  .ite (.next h) (.fin (.startColl (.set h)))

theorem KeptBy.blockReset (h : Kept b s) : KeptBy b (execBlockReset s) := .ite (.next h) (.fin (.startColl (.set h)))

theorem KeptBy.collectionEnd (h : Kept b s) : KeptBy b (execCollectionEnd s) := by
  unfold Machine.execCollectionEnd
  split
  · with_reducible exact .ite (.fin (.afterColl h)) (.next h)
  · with_reducible exact .next h

theorem KeptBy.fillDone {bad : Option W16} {stale failed : List (Slice × Chan)} (h : Kept b s) :
    KeptBy b (execFillDone bad stale failed s) := by
  unfold Machine.execFillDone
  with_reducible refine .ite (.next h) (.fin (.setRec (.foldl (fun _ _ => .rtu) (.foldl (fun _ _ => .staleChan)
    (.foldl (fun _ _ => .setChan) (.emit (.setMem (.ite (.healChans ?_) ?_))))))))
  · split
    · with_reducible exact .emcy (.irq (.set (.set (.set h))))
    · with_reducible exact .set h
  · split
    · with_reducible exact .emcy (.irq (.set (.set (.set h))))
    · with_reducible exact .set h

theorem KeptBy.rebuildJoin {c : Ctx} (h : Kept b s) : KeptBy b (execRebuildJoin c s) := .fin (.rebuildJoin h)
theorem KeptBy.rebuildStart {c : Ctx} (h : Kept b s) : KeptBy b (execRebuildStart c s) := .fin (.rebuildStart h)

theorem KeptBy.rebuildAbandon {c : Ctx} (h : Kept b s) : KeptBy b (execRebuildAbandon c s) :=
  .ite (.fin (.rebuildFail h)) (.next h)

theorem KeptBy.bind {c : Ctx} {v : W64} (h : Kept b s) : KeptBy b (execBind c v s) := .fin (.bind h)
theorem KeptBy.clearLog {c : Ctx} (h : Kept b s) : KeptBy b (execClearLog c s) := .next (.setLog h)

theorem KeptBy.drnResponse {header data : List Byte} (h : Kept b s) : KeptBy b (execDrnResponse header data s) := by
  unfold Machine.execDrnResponse
  split
  · with_reducible exact .next h
  · dsimp only
    split
    · with_reducible exact .fin (.setRec h)
    · with_reducible exact .ite (.fin (.setRec h)) (.ite (.fin (.endCmd (.setRec h))) (.fin (.setJob (.when
        (.setRec h) .drnCount))))

/-! ### Reset pin, temperature and test wrapper: the commands -/

theorem KeptBy.pgRstAssert (h : Kept b s) : KeptBy b (execPgRstAssert s) := by
  unfold Machine.execPgRstAssert
  with_reducible exact .ite (.next h) (.next (.upd (.set (.resetTo h)) rfl rfl))

theorem KeptBy.tsCode {code : W16} (h : Kept b s) : KeptBy b (execTsCode code s) := by
  unfold Machine.execTsCode
  with_reducible exact .next (.codeWins (.upd (.set (.set (.set h))) rfl rfl))

theorem KeptBy.tsMaxClear (h : Kept b s) : KeptBy b (execTsMaxClear s) := .next (.set h)

theorem KeptBy.wirUpdate {code : Byte} (h : Kept b s) : KeptBy b (execWirUpdate code s) := by
  unfold Machine.execWirUpdate
  with_reducible exact .ite (.next h) (.ite (.next (.leaveTest h)) (.next (.driveWrapper (.upd
    (.leaveTest h) rfl rfl))))

/-! ### Management rows: the commands -/

theorem KeptBy.mgCfgWrite {v : W64} (h : Kept b s) : KeptBy b (execMgCfgWrite v s) := by
  unfold Machine.execMgCfgWrite
  extract_lets f on fields s1
  have h1 : Kept b s1 := .ite (.ite (.set h) h) (.foldl (fun _ _ => .set) h)
  with_reducible exact .ite (.next (.when h1 fun h => .busLeave (.set h))) (.ite (.next h1) (.ite (.next (.set h1))
    (.next (.when (.set h1) .busJoin))))

theorem KeptBy.nmtResetNode (h : Kept b s) : KeptBy b (execNmtResetNode s) :=
  .ite (.next h) (.ite (.next (.nmtCommReset (.canReceived h))) (.ite (.next (.setMgmt (.canReceived h))) (.fin
    (.startColl (.canReceived h)))))

theorem KeptBy.usdoRequest {r : UsdoRequest} (h : Kept b s) : KeptBy b (execUsdoRequest r s) := by
  have hc : Kept b s.canReceived := .canReceived h
  unfold execUsdoRequest
  with_reducible refine .ite (.next h) (.ite (.next hc) ?_)
  split
  · exact .next (.usdoInit (.usdoRead hc) hc)
  · exact .next (.usdoInit (.usdoRead hc) hc)
  · exact .next (.usdoInit (.usdoWrite hc) hc)
  · exact .next (.usdoInit (.usdoBegin hc) hc)
  · exact .next (.ite (.usdoSegIn hc) hc)
  · exact .next (.ite hc (.usdoSegOut hc))
  · exact .next hc
  · exact .next hc

theorem KeptBy.usdoSessionTimeout (h : Kept b s) : KeptBy b (execUsdoSessionTimeout s) := by
  unfold Machine.execUsdoSessionTimeout
  split
  · with_reducible exact .ite (.next (.usdoReply (.setMgmt h))) (.next h)
  · with_reducible exact .next h

theorem KeptBy.heartbeat (h : Kept b s) : KeptBy b (execHeartbeat s) := by
  unfold Machine.execHeartbeat
  with_reducible exact .ite (.next (.unless (.setMgmt h) .heartbeatFrame)) (.next h)

theorem KeptBy.tpdo {k : Fin 4} (h : Kept b s) : KeptBy b (execTpdo k s) := by
  unfold Machine.execTpdo
  with_reducible exact .ite (.next (.canSend0 (.setMgmt h))) (.next h)

theorem KeptBy.busError {kind : CanError} (h : Kept b s) : KeptBy b (execBusError kind s) := by
  unfold Machine.execBusError
  with_reducible refine .ite (.next h) ?_
  split
  · with_reducible exact .next (.syncPassive (.satInc h))
  · with_reducible exact .next (.when (.syncPassive (.satInc h)) .set)

theorem KeptBy.mailboxRequest {v : W64} (h : Kept b s) : KeptBy b (execMailboxRequest v s) := by
  unfold Machine.execMailboxRequest
  with_reducible exact .ite (.next (.set h)) (.ite (.next (.foldl (fun _ _ => .set) h)) (.ite (.next (.mbxEnd (.foldl
    (fun _ _ => .set) h))) (.next (.set (.set (.foldl (fun _ _ => .set) h))))))

theorem KeptBy.mailboxComplete (h : Kept b s) : KeptBy b (execMailboxComplete s) := by
  unfold execMailboxComplete
  with_reducible exact .ite (.next (.ite (.mbxEnd h) h)) (.ite (.fin (.mbxEnd h)) (.ite (.fin (.mbxEnd h))
    (.ite (.fin (.mbxRead h)) (.ite (.fin (.mbxEnd (.dictWrite h))) (.fin (.mbxEnd h))))))

theorem KeptBy.firmwareStage (h : Kept b s) : KeptBy b (execFirmwareStage s) := by
  unfold Machine.execFirmwareStage
  with_reducible exact .ite (.next h) (.next (.setMgmt (.set (.set h))))

theorem KeptBy.firmwareCheckDone {image : List Byte} (h : Kept b s) : KeptBy b (execFirmwareCheckDone image s) := by
  unfold Machine.execFirmwareCheckDone
  with_reducible exact .ite (.next h) (.ite (.next (.set (.irq (.set (.set h))))) (.next (.setMgmt (.set (.set (.set
    (.set (.irq (.set (.set h))))))))))

theorem KeptBy.firmwareActivate (h : Kept b s) : KeptBy b (execFirmwareActivate s) := .next (.fwActivate h)

theorem KeptBy.firmwareActivation {image : List Byte} (h : Kept b s) : KeptBy b (execFirmwareActivation image s) := by
  unfold Machine.execFirmwareActivation
  with_reducible exact .ite (.next h) (.ite (.fin (.seqRestart (.setMgmt (.set h)))) (.fin (.emcy (.fwRelease
    (.fwUnstage (.irq (.set (.set h))))))))

theorem KeptBy.firmwareCancel (h : Kept b s) : KeptBy b (execFirmwareCancel s) :=
  .ite (.fin (.fwRelease (.fwUnstage (.set h)))) (.next h)

theorem KeptBy.levelApply {v : W64} (h : Kept b s) : KeptBy b (execLevelApply v s) := by
  unfold Machine.execLevelApply
  with_reducible exact .ite (.next (.set h)) (.ite (.next (.setMgmt (.set (.set h)))) (.next (.set (.set h))))

theorem KeptBy.levelApplyEffect (h : Kept b s) : KeptBy b (execLevelApplyEffect s) := by
  unfold Machine.execLevelApplyEffect
  split
  · with_reducible exact .ite (.next (.setMgmt (.set (.set (.set h))))) (.next h)
  · with_reducible exact .next h

theorem KeptBy.sequencerRestartDone {image : List Byte} (h : Kept b s) :
    KeptBy b (execSequencerRestartDone image s) := by
  unfold Machine.execSequencerRestartDone
  with_reducible refine .ite (.next h) ?_
  extract_lets ws r s1 s2 s3 m s4
  have h1 : Kept b s1 := .set (.setRec h)
  have h3 : Kept b s3 := .foldl (fun _ _ h => .done (.mergeReport h)) (.ite (.fwBegin h1) (.fwReload h1))
  have h4 : Kept b s4 := .when h3 fun h => .heartbeatFrame (.setMgmt h)
  with_reducible exact .ite (.fin (.startColl (.setMgmt h4))) (.fin h4)

/-! ### Collective rows: the commands -/

theorem KeptBy.slotAdmit {c : Ctx} {gcn : W32} {tile : Nat} (h : Kept b s) :
    KeptBy b (execSlotAdmit c gcn tile s) := by
  unfold Machine.execSlotAdmit
  split
  · with_reducible refine .ite ?_ (.next h)
    split
    · with_reducible refine .ite (.fin ?_) (.next h)
      split
      · with_reducible exact .takeEarly (.admitTile h)
      · with_reducible exact .admitTile h
    · with_reducible exact .next (.ite (.setJob h) h)
  · with_reducible exact .next h

theorem KeptBy.trdDoorbell {c : Ctx} {stream : Fin 64} {unit : W32} (h : Kept b s) :
    KeptBy b (execTrdDoorbell c stream unit s) := by
  unfold execTrdDoorbell
  with_reducible refine .ite (.next (.upd h rfl rfl)) ?_
  split
  next e => exact .fin (.judgeDoorbell e h)
  next => exact .next (.emit (.set (.upd h rfl rfl)))

theorem KeptBy.trdWatermarkWrite {c : Ctx} {stream : Fin 64} {wmark : W32} (h : Kept b s) :
    KeptBy b (execTrdWatermarkWrite c stream wmark s) :=
  .ite (.next (.ite h (.set h))) (.fin (.redoDoorbells (.setMarks (.set h))))

theorem KeptBy.groupValidate {c : Ctx} {g : Fin 16} {v : W64} (h : Kept b s) : KeptBy b (execGroupValidate c g v s) :=
  .fin (.validateGroup (.writeGroup h))

/-! ### Integrity rows: the commands -/

theorem KeptBy.digestWindowEnable {c : Ctx} {w : Fin 16} {v : W64} (h : Kept b s) :
    KeptBy b (execDigestWindowEnable c w v s) :=
  .fin (.windowWrite h)

theorem KeptBy.parityError {k : Fin 8} {macroId : W16} {site : ParitySite} (h : Kept b s) :
    KeptBy b (execParityError k macroId site s) := by
  unfold Machine.execParityError
  with_reducible exact .fin (.parityAct (.when (.emcy (.irq (.set (.satInc h)))) .suspect))

theorem KeptBy.coreMapApply {n : Slice} {v : W64} (h : Kept b s) : KeptBy b (execCoreMapApply n v s) := by
  unfold Machine.execCoreMapApply
  with_reducible exact .ite (.fin (.setYoke (.set (.set h)))) (.next (.set h))

theorem KeptBy.coreRemap {n : Slice} (h : Kept b s) : KeptBy b (execCoreRemap n s) := by
  unfold Machine.execCoreRemap
  with_reducible exact .ite (.fin (.set (.set (.setYoke h)))) (.next h)

/-! ### Memory rows: the commands -/

theorem KeptBy.memoryWriteAccept {n : Slice} {tag : Fin 4096} (h : Kept b s) :
    KeptBy b (execMemoryWriteAccept n tag s) := by
  unfold Machine.execMemoryWriteAccept
  with_reducible refine .ite (.next h) ?_
  split
  · with_reducible exact .ite (.ite (.fin (.collAcked (.setMem h))) (.fin (.answered (.setMem h)))) .fault
  · with_reducible exact .fault

theorem KeptBy.memoryReadResponse {n : Slice} {tag : Fin 4096} {err : Bool} {data : BitVec 2048} (h : Kept b s) :
    KeptBy b (execMemoryReadResponse n tag err data s) := by
  unfold Machine.execMemoryReadResponse
  with_reducible refine .ite (.next h) ?_
  split
  · with_reducible exact .ite .fault (.fin (.answered (.setMem h)))
  · with_reducible exact .fault

theorem KeptBy.retrainGrant {n : Slice} {j : Chan} (h : Kept b s) : KeptBy b (execRetrainGrant n j s) := by
  unfold Machine.execRetrainGrant
  with_reducible exact .ite (.fin (.emit (.emit (.satInc (.set (.set (.setChan (.setMem h)))))))) (.next h)

theorem KeptBy.channelFail {n : Slice} {j : Chan} (h : Kept b s) : KeptBy b (execChannelFail n j s) := by
  unfold Machine.execChannelFail
  with_reducible exact .fin (.setChan (.endGrant (.setMem h)))

theorem KeptBy.mendRow {n : Slice} {j : Chan} (h : Kept b s) : KeptBy b (execMendRow n j s) := by
  unfold execMendRow
  with_reducible refine .ite (.next h) ?_
  dsimp only
  split
  · exact .fin (.mendDone (.openMend h))
  · with_reducible exact .ite (.fin (.addJob (.openMend h))) (.fin (.mended (.openMend h)))

theorem KeptBy.regionCfgWrite {n : Fin 64} {v : W64} (h : Kept b s) : KeptBy b (execRegionCfgWrite n v s) :=
  .fin (.rgnWrite h)

/-! ### Tick rows: the commands -/

theorem KeptBy.htStrobe {count : W64} (h : Kept b s) : KeptBy b (execHtStrobe count s) := by
  unfold Machine.execHtStrobe
  with_reducible exact .fin (.syncSkew (.when (.set (.set h)) (fun h => .irq (.set h))))

theorem KeptBy.htFallbackChange {flag : Bool} (h : Kept b s) : KeptBy b (execHtFallbackChange flag s) := by
  unfold Machine.execHtFallbackChange
  with_reducible exact .fin (.syncSkew (.when (.setB h) (fun h => .irq (.set h))))

theorem KeptBy.tickEnable {c : Ctx} {v : W64} (h : Kept b s) : KeptBy b (execTickEnable c v s) := .fin (.tickCfg h)

theorem KeptBy.saturationWindowEnd {mem lane fab drn yoke : Fin 1025} (h : Kept b s) :
    KeptBy b (execSaturationWindowEnd mem lane fab drn yoke s) := by
  unfold Machine.execSaturationWindowEnd
  with_reducible exact .fin (.set h)

/-! ### Yoke rows: the commands -/

theorem KeptBy.yokeMapApply (h : Kept b s) : KeptBy b (execYokeMapApply s) := .fin (.setYoke (.set h))
theorem KeptBy.yokeTestStart (h : Kept b s) : KeptBy b (execYokeTestStart s) := .fin (.setYoke (.set h))

theorem KeptBy.bulkDecode {c : Ctx} {epoch : W16} {erased : List Nat} {shards : List (List Byte)} (h : Kept b s) :
    KeptBy b (execBulkDecode c epoch erased shards s) := by
  unfold Machine.execBulkDecode
  split
  · with_reducible exact .fin (.setYoke h)
  · with_reducible refine .ite .fault ?_
    split
    · with_reducible exact .fin (.setYoke (.fieldBusy h))
    · with_reducible exact .fault

/-! ### Register accesses: the commands -/

theorem KeptBy.halfReadLatch {req : Nat} {read : CtlAccess} (h : Kept b s) :
    KeptBy b (execHalfReadLatch req read s) := by
  unfold Machine.execHalfReadLatch
  with_reducible exact .ite (.next (.emit h)) (.ite (.next (.emit h)) (.ite (.next (.emit (.slotRead h))) (.ite
    (.next (.emit h)) (.ite (.next (.wholeRead h)) (.next (.halfRead h))))))

/-! ### Meter rows: the commands -/

theorem KeptBy.meterSample {volt curr : Int} (h : Kept b s) : KeptBy b (execMeterSample volt curr s) := by
  unfold execMeterSample
  have hs := Kept.setMeter (m := s.meter.sample (!s.countValid) volt curr) s.meter.keepsSeal_refl h
  with_reducible exact .ite (.next (.mirror (.odoCheck (.ite (.meterFault hs) (.meterClear hs))))) (.next h)

theorem KeptBy.recordPeriodEnd (h : Kept b s) : KeptBy b (execRecordPeriodEnd s) := by
  unfold execRecordPeriodEnd
  exact .ite (.ite (.next (.setMeter s.meter.keepsSeal_refl h)) (.next (.mirror
    (.setMeter s.meter.keepsSeal_refl h)))) (.next h)

theorem KeptBy.burnReadback {blown : Bool} (h : Kept b s) : KeptBy b (execBurnReadback blown s) := by
  unfold execBurnReadback
  split
  · exact .next h
  next seg f n e =>
    refine .ite (.ite (.next (.meterBoot (.setMeter ?_ h))) (.next (.mirror (.odoCheck (.recordWaited
      (.odoBlown h))))))
      (.ite (.next (.emit (.setMeter s.meter.keepsSeal_refl h))) ?_)
    · exact fun hs => ⟨hs, rfl, rfl, rfl, rfl, le_rfl, FuseRow.value_le_blow _ _⟩
    · have ho := Kept.odoCheck (Kept.burnFailed (seg := seg) (f := f) h)
      exact .ite (.next (.burnFailed h)) (.next (.ite ho (.mirror (.recordWaited ho))))

theorem KeptBy.timebaseFault (h : Kept b s) : KeptBy b (execTimebaseFault s) :=
  .ite (.next (.mirror (.setMeter (s.meterFault 3).meter.keepsSeal_refl (.meterFault h)))) (.next h)

theorem KeptBy.meterStagingWrite {sub : Fin 9} {v : W64} (h : Kept b s) : KeptBy b (execMeterStagingWrite sub v s) :=
  .next (.meterWrite (fun _ => .ite (.meterReply h) (.ite (.meterReply (.setMeter s.meter.keepsSeal_refl h))
    (.meterReply (.setMeter s.meter.keepsSeal_refl h)))) h)

theorem KeptBy.calibrationProgram {v : Byte} (h : Kept b s) : KeptBy b (execCalibrationProgram v s) :=
  .next (.meterWrite (fun hn => .ite (.meterReply h) (.ite (.meterReply h)
    (.mirror (.meterReply (.setMeter (fun hs => absurd (hn.symm.trans hs) Bool.false_ne_true) h))))) h)

theorem KeptBy.sealMeter {id : W32} (h : Kept b s) : KeptBy b (execSealMeter id s) := by
  refine .next (.meterWrite (fun hn => ?_) h)
  split
  · exact .ite (.meterReply h)
      (.emit (.mirror (.meterReply (.setMeter (fun hs => absurd (hn.symm.trans hs) Bool.false_ne_true) h))))
  · exact .meterReply h

theorem KeptBy.meterTpdo {k : Fin 4} (h : Kept b s) : KeptBy b (execMeterTpdo k s) :=
  .ite (.next h) (.next (.setMeter (s.meterSend k).meter.keepsSeal_refl (.meterSend h)))

theorem KeptBy.meterHeartbeat (h : Kept b s) : KeptBy b (execMeterHeartbeat s) := by
  unfold Machine.execMeterHeartbeat
  with_reducible exact .ite (.next h) (.next (.meterFrame h))

/-! ### Register accesses: the commands -/

/-- A meaning carried on from an outcome. -/
theorem KeptBy.chain {r : Res} {f : State → Res} (hf : ∀ t, Kept b t → KeptBy b (f t)) (h : KeptBy b r) :
    KeptBy b (chain r f) := by
  cases r with
  | next t => exact hf t (h t rfl)
  | fault r => exact .fault
  | refused r => exact fun _ e => nomatch e

theorem KeptBy.onBit {v bit : Nat} {r : Res} {f : State → Res} (hf : ∀ t, Kept b t → KeptBy b (f t))
    (h : KeptBy b r) : KeptBy b (onBit v bit f r) := .ite (.chain hf h) h

theorem KeptBy.foldl {α : Type} {f : Res → α → Res} {l : List α} {r : Res}
    (hf : ∀ r a, KeptBy b r → KeptBy b (f r a)) (h : KeptBy b r) : KeptBy b (l.foldl f r) := by
  induction l generalizing r with
  | nil => exact h
  | cons a l ih => exact ih (hf r a h)

/-- What a register's action keeps, where the register has one. -/
def ActionKept (b : State) (o : Option Res) : Prop := ∀ r ∈ o, KeptBy b r

theorem ActionKept.act {r : Res} (h : KeptBy b r) : ActionKept b (some r) := fun _ e => Option.some.inj e ▸ h
theorem ActionKept.absent : ActionKept b none := fun _ e => nomatch e

theorem ActionKept.ite {x y : Option Res} {p : Prop} {_ : Decidable p} (h : ActionKept b x) (h' : ActionKept b y) :
    ActionKept b (if p then x else y) := by
  split
  · exact h
  · exact h'

theorem ActionKept.writeAction {d : RegDef} {is : List Nat} {off v : Nat} (h : Kept b s) :
    ActionKept b (s.writeAction d is off v) := by
  have hn : KeptBy b (.next s) := .next h
  have ht : Kept b (s.writeFields d is off v) := .writeFields h
  unfold State.writeAction
  with_reducible exact (.ite (.act (.regionCfgWrite h)) <| .ite (.act (.fin (.ite ht (.rtu ht)))) <|
    .ite (.act (.onBit (fun _ => .teardown) (.onBit (fun _ => .contextResume) (.onBit (fun _ => .contextHold)
      (.onBit (fun _ => .contextStart) hn))))) <|
    .ite (.act (.doorbell h)) <| .ite (.act (.fastIncrement h)) <| .ite (.act (.fin (.ruleWrite h))) <|
    .ite (.act (.fin (.segWrite h))) <| .ite (.act (.fin (.syncSkew ht))) <| .ite (.act (.tickEnable h)) <|
    .ite (.act (.onBit (fun _ => .yokeMapApply) hn)) <| .ite (.act (.onBit (fun _ => .yokeTestStart) (.next ht))) <|
    .ite (.act (.groupValidate h)) <| .ite (.act (.fin (.substWrite ht))) <| .ite (.act (.trdWatermarkWrite h)) <|
    .ite (.act (.onBit (fun _ => .teamDissolve) (.onBit (fun _ => .teamApply) (.onBit (fun _ => .teamForm) hn)))) <|
    .ite (.act (.onBit (fun _ => .unfence) (.onBit (fun _ => .applyEpoch) (.onBit (fun _ => .resolve) hn)))) <|
    .ite (.act (.next (.stepWrite ht))) <| .ite (.act (.laneMapApply h)) <|
    .ite (.act (.onBit (fun _ => .inqPeakClear) hn)) <| .ite (.act (.bind h)) <|
    .ite (.act (.onBit (fun _ => .clearLog) hn)) <|
    .ite (.act (.onBit (fun _ => .rebuildAbandon) (.onBit (fun _ => .rebuildStart) (.onBit
      (fun _ => .rebuildJoin) hn)))) <|
    .ite (.act (.reportRelease h)) <| .ite (.act (.onBit (fun _ => .watchdogKick) (.next ht))) <|
    .ite (.act (.foldl (fun _ _ h => .onBit (fun _ => .contextPurge) h)
      (.onBit (fun _ => .blockReset) (.onBit (fun _ => .sequencerRestart) hn)))) <|
    .ite (.act (.digestWindowEnable h)) <| .ite (.act (.coreMapApply h)) <| .ite (.act (.mgCfgWrite h)) <|
    .ite (.act (.mailboxRequest h)) <| .ite (.act (.next (.ite h (.set h)))) <|
    .ite (.act (.onBit (fun _ => .firmwareCancel) (.onBit (fun _ => .firmwareActivate)
      (.onBit (fun _ => .firmwareStage) hn)))) <|
    .ite (.act (.levelApply h)) <| .ite (.act (.onBit (fun _ => .tsMaxClear) hn)) .absent)

theorem KeptBy.regWrite {off v : Nat} {high wide : Bool} (h : Kept b s) : KeptBy b (s.regWrite off high wide v) := by
  unfold State.regWrite
  split
  · with_reducible refine .ite (.next h) ?_
    dsimp only
    split
    next e => exact ActionKept.writeAction h _ e
    next => exact .fin (.writeFields h)
  · exact .next h

theorem KeptBy.registerWrite {req off : Nat} {size : AccessSize} {v : W64} (h : Kept b s) :
    KeptBy b (execRegisterWrite req off size v s) := by
  unfold Machine.execRegisterWrite
  with_reducible exact .ite (.next h) (.ite (.next (.ringWrite h)) (.ite (.ite (.fin (.release h)) (.next h)) (.ite
    (.regWrite h) (.regWrite h))))

/-! ### Every command and every step -/

/-- Every command keeps the registers' order and what a seal keeps: each arm of the dispatch by the lemma about its
meaning. -/
theorem KeptBy.exec (h : Kept b s) : ∀ i, KeptBy b (exec i s)
  | .nop .. => .nop h
  | .waitHall .. => .fin (.beginOp (fun _ => .startWaitHall h) h)
  | .hallWaitDone .. => .hallWaitDone h
  | .regionCopy .. => .fin (.beginOp (fun _ => .startRegionCopy h) h)
  | .stableLoad .. => .fin (.beginOp (fun _ => .startStableLoad h) h)
  | .stableEvict .. => .fin (.beginOp (fun _ => .startStableEvict h) h)
  | .update .. => .fin (.beginOp (fun _ => .startUpdate h) h)
  | .precondRefresh .. => .fin (.beginOp (fun _ => .startPrecond h) h)
  | .put .. => .fin (.beginOp (fun _ => .startCopy h) h)
  | .get .. => .fin (.beginOp (fun _ => .startCopy h) h)
  | .collective .. => .fin (.beginOp (fun _ => .startCollective h) h)
  | .norm .. => .fin (.beginOp (fun _ => .startNorm h) h)
  | .stepEnd .. => .fin (.beginOp (fun _ => .startStepEnd h) h)
  | .prepareWritersDone .. => .fin (.writersDone h)
  | .voteCast .. => .fin (.voteNow h)
  | .parityAudit .. => .fin (.beginOp (fun _ => .startAudit h) h)
  | .scrub .. => .fin (.beginOp (fun _ => .startScrub h) h)
  | .digestCompare .. => .fin (.beginOp (fun _ => .startDigest h) h)
  | .drain .. => .fin (.beginOp (fun _ => .startDrain h) h)
  | .exportCmd .. => .fin (.beginOp (fun _ => .startDrain h) h)
  | .jobLoad .. => .fin (.beginOp (fun _ => .startJobLoad h) h)
  | .broadcastWaitExpiry .. => .broadcastWaitExpiry h
  | .importCmd .. => .fin (.beginOp (fun _ => .startImport h) h)
  | .doorbell .. => .doorbell h
  | .commandStart .. => .fin (.ite (.begin (fun _ => .startAny h) h) h)
  | .commandTimeout .. => .commandTimeout h
  | .resultSlotRelease .. => .next (.release h)
  | .slotReadLatch .. => .slotReadLatch h
  | .halfReadLatch .. => .halfReadLatch h
  | .fastIncrement .. => .fastIncrement h
  | .contextStart .. => .contextStart h
  | .contextHold .. => .contextHold h
  | .contextResume .. => .contextResume h
  | .preemptHold .. => .ite (.fin (.foldl (fun _ _ h => .ite (.preHold h) h) h)) (.next h)
  | .preemptRelease .. => .preemptRelease h
  | .deferredHold .. => .deferredHold h
  | .teardown .. => .teardown h
  | .teardownTimeout .. => .teardownTimeout h
  | .teardownNoticeTimeout .. => .teardownNoticeTimeout h
  | .teardownComplete .. => .ite (.fin (.irq (.turnOff h))) (.next h)
  | .contextPurge .. => .contextPurge h
  | .regionCfgWrite .. => .regionCfgWrite h
  | .memoryWriteAccept .. => .memoryWriteAccept h
  | .memoryReadResponse .. => .memoryReadResponse h
  | .retrainRequest .. => .next (.setReq h)
  | .retrainGrant .. => .retrainGrant h
  | .retrainDone .. => .ite (.fin (.mendDone (.setChan (.endGrant h)))) (.next h)
  | .retrainFail .. => .ite (.fin (.setChan (.endGrant h))) (.next h)
  | .channelFail .. => .channelFail h
  | .memoryPortState .. => .fin (.setB h)
  | .mendRow .. => .mendRow h
  | .htStrobe .. => .htStrobe h
  | .htStrobeLost .. => .fin (.syncSkew (.irq (.set (.set h))))
  | .htFreerunAdvance .. => .ite (.fin (.set h)) (.next h)
  | .htFallbackChange .. => .htFallbackChange h
  | .tickEnable .. => .tickEnable h
  | .tickBoundary .. => .ite (.fin (.boundary h)) (.next h)
  | .allowanceExhausted .. => .ite (.next (.upd h rfl rfl)) (.next h)
  | .saturationWindowEnd .. => .saturationWindowEnd h
  | .vote .. => .receiveAs (fun _ => .takeVote h) h
  | .halt .. => .receiveAs (fun _ => .takeHalt h) h
  | .flip .. => .ite (.fin (.flip h)) (.next h)
  | .cmAbort .. => .receiveAs (fun _ => .takeAbort h) h
  | .query .. => .receiveAs (fun _ => .takeQuery h) h
  | .voteTimeout .. => .voteTimeout h
  | .decisionQueryTimeout .. => .decisionQueryTimeout h
  | .inDoubtTimeout .. => .inDoubtTimeout h
  | .novoteTimeout .. => .novoteTimeout h
  | .resolve .. => .resolve h
  | .applyEpoch .. => .applyEpoch h
  | .commitEpochEffect .. => .commitEpochEffect h
  | .fence .. => .receiveAs (fun _ => .takeFence h) h
  | .unfence .. => .unfence h
  | .yokeMapApply .. => .yokeMapApply h
  | .yokeRemap .. => .ite (.fin (.yokeResult (.yokeMap (.setYoke h)))) (.next h)
  | .yokeTestStart .. => .yokeTestStart h
  | .yokeCheckPattern .. => .ite (.fin (.yokeResult (.set (.setYoke h)))) (.next h)
  | .decodeTableComplete .. => .fin (.tableDone h)
  | .bulkDecode c .. => .bulkDecode (c := c) h
  | .trdDoorbell .. => .trdDoorbell h
  | .groupValidate .. => .groupValidate h
  | .trdWatermarkWrite .. => .trdWatermarkWrite h
  | .slotAdmit .. => .slotAdmit h
  | .cDesc .. => .receiveAs (fun _ => .gsTake (fun _ _ => .takeDesc) h) h
  | .cRec .. => .receiveAs (fun _ => .gsTake (fun _ _ => .takeRec) h) h
  | .cHdr .. => .receiveAs (fun _ => .gsTake (fun _ _ => .takeHdr) h) h
  | .cPart .. => .receiveAs (fun _ => .gsTake (fun _ _ => .takePart) h) h
  | .cRes .. => .receiveAs (fun _ => .takeRes h) h
  | .cCredit .. => .receiveAs (fun _ => .gsTake (fun _ _ => .takeCredit) h) h
  | .cAck .. => .receiveAs (fun _ => .gsTake (fun _ _ => .takeAck) h) h
  | .cSplit .. => .receiveAs (fun _ => .gsTake (fun _ _ => .takeSplit) h) h
  | .cSplitrep .. => .receiveAs (fun _ => .gsTake (fun _ _ => .takeSplitrep) h) h
  | .cAbort .. => .receiveAs (fun _ => .gsTake (fun _ _ => .takeGsAbort) h) h
  | .teamForm .. => .teamForm h
  | .formationTimeout .. => .ite (.fin (.formFail h)) (.next h)
  | .form .. => .form h
  | .teamApply .. => .teamApply h
  | .teamApplyEffect .. => .teamApplyEffect h
  | .teamDissolve .. => .teamDissolve h
  | .delta .. => .receiveAs (fun _ => .takeDelta h) h
  | .fragAck .. => .receiveAs (fun _ => .takeFragAck h) h
  | .fragDrop .. => .receiveAs (fun _ => .takeFragDrop h) h
  | .fetch .. => .receiveAs (fun _ => .takeFetch h) h
  | .fetchData .. => .receiveAs (fun _ => .takeFetchData h) h
  | .stbReady .. => .receiveAs (fun _ => .takeNotice h) h
  | .stbDone .. => .receiveAs (fun _ => .takeNotice h) h
  | .stableRecode .. => .stableRecode h
  | .putData .. => .receiveAs (fun _ => .takePut h) h
  | .inboundGranuleUpdate .. => .inboundGranuleUpdate h
  | .putAck .. => .receiveAs (fun _ => .takePutAck h) h
  | .getReq .. => .receiveAs (fun _ => .takeGet h) h
  | .getData .. => .receiveAs (fun _ => .takeGetData h) h
  | .genNotice .. => .receiveAs (fun _ => .keepReq h) h
  | .genAck .. => .receiveAs (fun _ => .takeGenAck h) h
  | .drop .. => .receiveAs (fun _ => .takeDrop h) h
  | .jobBcast .. => .receiveAs (fun _ => .takeBcast h) h
  | .report .. => .receiveAs (fun _ => .takeReport h) h
  | .creditWord .. => .creditWord h
  | .laneDown .. => .laneDown h
  | .laneUp .. => .laneUp h
  | .laneMapApply .. => .laneMapApply h
  | .laneMapRebuild .. => .ite (.fin (.laneRebuild h)) (.next h)
  | .inqPeakClear .. => .inqPeakClear h
  | .drnResponse .. => .drnResponse h
  | .reportWindowEnd .. => .reportWindowEnd h
  | .reportRelease .. => .reportRelease h
  | .watchdogKick .. => .watchdogKick h
  | .watchdogExpiry .. => .watchdogExpiry h
  | .sequencerRestart .. => .sequencerRestart h
  | .blockReset .. => .blockReset h
  | .collectionEnd .. => .collectionEnd h
  | .fillDone .. => .fillDone h
  | .rebuildJoin .. => .rebuildJoin h
  | .rebuildStart .. => .rebuildStart h
  | .rebuildAbandon .. => .rebuildAbandon h
  | .bind .. => .bind h
  | .clearLog .. => .clearLog h
  | .parityError .. => .parityError h
  | .digestWindowEnable .. => .digestWindowEnable h
  | .coreMapApply .. => .coreMapApply h
  | .coreRemap .. => .coreRemap h
  | .meterPowerGood .. => .next (.meterStart h)
  | .meterSample .. => .meterSample h
  | .burnReadback .. => .burnReadback h
  | .recordPeriodEnd .. => .recordPeriodEnd h
  | .timebaseFault .. => .timebaseFault h
  | .timebaseRecovery .. => .ite (.next (.mirror (.meterClear h))) (.next h)
  | .meterNmtReset .. => .ite (.next (.meterStart (.cutBurn h))) (.next h)
  | .meterStagingWrite .. => .meterStagingWrite h
  | .calibrationProgram .. => .calibrationProgram h
  | .sealDateStage .. => .next (.meterWrite (fun _ => .meterReply (.setMeter s.meter.keepsSeal_refl h)) h)
  | .sealMeter .. => .sealMeter h
  | .meterTpdo .. => .meterTpdo h
  | .meterHeartbeat .. => .meterHeartbeat h
  | .mgCfgWrite .. => .mgCfgWrite h
  | .nmtStart .. => .ite (.next (.nmtGo (.setMgmt h))) (.next (.nmtGo h))
  | .nmtStop .. => .next (.nmtGo h)
  | .nmtPreoperational .. => .next (.nmtGo h)
  | .nmtResetNode .. => .nmtResetNode h
  | .nmtResetCommunication .. => .ite (.next (.nmtCommReset (.canReceived h))) (.next h)
  | .usdoRequest .. => .usdoRequest h
  | .usdoSessionTimeout .. => .usdoSessionTimeout h
  | .heartbeat .. => .heartbeat h
  | .tpdo .. => .tpdo h
  | .busOffRecovery .. => .ite (.next (.syncPassive (.set (.set (.set h))))) (.next h)
  | .mailboxRequest .. => .mailboxRequest h
  | .mailboxComplete .. => .mailboxComplete h
  | .firmwareStage .. => .firmwareStage h
  | .firmwareCheckDone .. => .firmwareCheckDone h
  | .firmwareActivate .. => .firmwareActivate h
  | .firmwareActivation .. => .firmwareActivation h
  | .firmwareCancel .. => .firmwareCancel h
  | .levelApply .. => .levelApply h
  | .levelApplyEffect .. => .levelApplyEffect h
  | .pgRstAssert .. => .pgRstAssert h
  | .pgRstRelease .. => .ite (.next (.creditAll (.upd h rfl rfl))) (.next h)
  | .tsCode .. => .tsCode h
  | .tsStale .. => .ite (.next (.set h)) (.next h)
  | .tsMaxClear .. => .tsMaxClear h
  | .wirUpdate .. => .wirUpdate h
  | .mbist .. => .ite (.next (.emit h)) (.next h)
  | .fuseRead .. => .ite (.next (.emit h)) (.next h)
  | .testExit .. => .next (.leaveTest h)
  | .registerWrite .. => .registerWrite h
  | .fenceAck .. => .receiveAs (fun _ => .done h) h
  | .unknownMessageType .. => .ite (.fin (.receive (fun _ => .satInc (.done h)) h)) .fault
  | .sequencerRestartDone .. => .sequencerRestartDone h
  | .meterPowerGoodFall .. => .next (.setMeter s.cutBurn.meter.keepsSeal_refl (.cutBurn h))
  | .busError .. => .busError h
  | .meterNmtCommand .. => .ite (.next h) (.next (.setMeter s.meter.keepsSeal_refl h))
  | .meterHeartbeatTimeWrite .. => .ite (.next (.meterReply (.setMeter s.meter.keepsSeal_refl h))) (.next h)

/-- A step keeps them: it runs the front command, or transmits (R14). -/
theorem KeptBy.step : KeptBy s (step s) := by
  unfold Machine.step
  split
  next i rest e =>
    have h : Kept s { s with pending := rest } := .upd .refl rfl rfl
    exact KeptBy.exec h i
  · exact .next (.after (.transmit .refl))

end

/-- Settles O59: what every step keeps, seen in the registers. -/
theorem everyStepKeepsTheRegisterTablesOneForm : Obligations.EveryStepKeepsTheRegisterTablesOneForm :=
  fun _ _ hs e => (KeptBy.step _ e).regs hs

/-- Settles O60: what every step keeps, seen in the meter. -/
theorem noCommandUndoesASealOrTurnsTheOdometerBack : Obligations.NoCommandUndoesASealOrTurnsTheOdometerBack :=
  fun _ _ hs e => (KeptBy.step _ e).meter hs

end Sys2Proof.Machine
